-- ==== Sys2Proof/Word.lean ====
section
/-! DEFINITION. The port word, the line byte and the saturating 32-bit counter arithmetic of the manual. -/

namespace Sys2Proof

/-- A port word: 16 bits, bit 15 the most significant (Numbers and words; R175). -/
abbrev Word := BitVec 16

/-- A byte of the head link line or of a text (R176, R178). -/
abbrev Byte := BitVec 8

/-- The value at which a 32-bit counter saturates (R1). -/
abbrev max32 : Nat := 4294967295

/-- Addition of a counter that saturates at `max32` instead of wrapping (R1). -/
def satAdd (a b : Nat) : Nat := min (a + b) max32

end Sys2Proof
end

