-- ==== Sys2Proof/Syntax.lean ====
section
/-! DEFINITION. The commands of the block: one constructor of `Instr` for each row of spec/opcode_table.json, with the
types of their operands. A port request carries the words that the master clocked in, so that the whole take order of
R168 is in its meaning. -/

namespace Sys2Proof

/-- The three command ports; the port number fixes the role (R170). -/
inductive Port where
  | lectern | facility | service
  deriving DecidableEq, Repr

/-- The operating mode, as the MODE strap selects it (R141, R179). -/
inductive OperatingMode where
  | normal | commission
  deriving DecidableEq, Repr

/-- A request frame after its header's command code: the count field of the header, and every whole word received
after the header, the qualifier first (R167). -/
structure Frame where
  count : BitVec 8
  words : List Word
  deriving DecidableEq, Repr

/-- A select period that opens with the read word: its whole words, and whether it ended in the middle of a word
(R166). -/
structure Span where
  whole : Nat
  midWord : Bool
  deriving DecidableEq, Repr

/-- The lamp field of a REPORT (R52). -/
inductive HeadLamp where
  | dark | striking | lit
  deriving DecidableEq, Repr

/-- The temperature field of a REPORT (R52). -/
inductive Temperature where
  | ok | warm | over
  deriving DecidableEq, Repr

/-- The fields of a REPORT (R52, R178). -/
structure Report where
  lamp : HeadLamp
  hot : Bool
  shutterClosed : Bool
  restarted : Bool
  temperature : Temperature
  committed : Option (BitVec 8)
  deriving DecidableEq, Repr

/-- The commands of the command index (section 9.6), named as there. -/
inductive Command where
  | identify | readNotices | setPortMode | setDayBase
  | readLampAccount | readLampHistory | readPowerState | readHeadLink | readRoute | readSourceMap
  | readGeometry | readPreset | readGeometryTable | readRoom | readBooking | readExceptions | readOccurrences
  | readLockout | readStore | digest | countFree
  | powerOn | powerOff | blank | setLampMode | selectSource
  | loadPreset | setKeystone | nudgeKeystone | setCorner | setAspect | savePreset | reapplyGeometry
  | setClock | addBooking | changeBooking | removeBooking | cancelOccurrence | restoreOccurrence
  | extendBooking | releaseRoom
  | setSourceEntry | setProfile | setInstallRecord | setRoomTimes | setInstallLock
  | protectRegions | unprotectRegions | closeWindow | storeWipe
  | setOverride | enableService | disableService | clearInstallLock
  | lampReplace | lampSet | clearFault | leaveCommission | restart
  deriving DecidableEq, Repr

/-- The commands of the block, one constructor for each row of the opcode table. -/
inductive Instr where
  /-- Power-on or the RESET line, with the level of the MODE strap at that moment (R151, R179). -/
  | hardReset (strap : OperatingMode)
  /-- The end of the store's load pass (R151). -/
  | loadCompletion
  /-- Presence line `n` (0 for IN1) takes the raw level `present` (R69). -/
  | presenceLineChange (n : Fin 6) (present : Bool)
  | stabilityTimerExpiry (n : Fin 6)
  | firstPresenceSample
  /-- A valid ACK with its tag, OK or REJECT (R54). -/
  | ack (tag : BitVec 3) (ok : Bool)
  /-- A valid REPORT (R64). -/
  | report (r : Report)
  /-- A valid STRIKE RESULT, OK or FAIL (R65). -/
  | strikeResult (ok : Bool)
  /-- A valid FORMAT; a width or a height of 0 carries NONE (R65, R178). -/
  | format (width height : Word) (refresh : Byte)
  /-- A head message that fails a test of R50. -/
  | invalidHeadMessage
  /-- The last byte of the message being sent leaves the line (R53). -/
  | headMessageSent
  | answerTimerExpiry
  | silenceTimerExpiry
  | reportWaitExpiry
  | strikeResultTimeout
  | restrikePauseExpiry
  | warmingEnd
  | coolingEnd
  | blankDimExpiry
  | noSignalTimerExpiry
  /-- The burn timer reaches 1,000 ms (R3). -/
  | burnSecond
  | hotWindowExpiry
  | settleTimerExpiry
  /-- The oscillator's second of the room clock (R109). -/
  | clockSecond
  /-- The write engine completes the record write in progress (R158). -/
  | writeCompletion
  | wipeCompletion
  | windowTimerExpiry
  /-- A select period whose first word is the read word and in which `whole` whole words were clocked, the read word
  included (R165, R166). -/
  | readWordPeriod (p : Port) (span : Span)
  /-- A select period opened by a request header and ended in the middle of a word, after `whole` whole words (R166). -/
  | frameDiscarded (p : Port) (whole : Nat)
  /-- A select period of `whole` words that begins while the port is TAKING (R165). -/
  | selectWhileTaking (p : Port) (whole : Nat)
  /-- The response time of the request being taken has run (R166). -/
  | responseReady (p : Port)
  /-- A frame that has ended whole and whose command code is not in the command index (R168, step 1). -/
  | unknownCommandFrame (p : Port) (code : Byte) (f : Frame)
  | identify (p : Port) (f : Frame)
  | readNotices (p : Port) (f : Frame)
  | setPortMode (p : Port) (f : Frame)
  | setDayBase (p : Port) (f : Frame)
  | readLampAccount (p : Port) (f : Frame)
  | readLampHistory (p : Port) (f : Frame)
  | readPowerState (p : Port) (f : Frame)
  | readHeadLink (p : Port) (f : Frame)
  | readRoute (p : Port) (f : Frame)
  | readSourceMap (p : Port) (f : Frame)
  | readGeometry (p : Port) (f : Frame)
  | readPreset (p : Port) (f : Frame)
  | readGeometryTable (p : Port) (f : Frame)
  | readRoom (p : Port) (f : Frame)
  | readBooking (p : Port) (f : Frame)
  | readExceptions (p : Port) (f : Frame)
  | readOccurrences (p : Port) (f : Frame)
  | readLockout (p : Port) (f : Frame)
  | readStore (p : Port) (f : Frame)
  | digest (p : Port) (f : Frame)
  | countFree (p : Port) (f : Frame)
  | powerOn (p : Port) (f : Frame)
  | powerOff (p : Port) (f : Frame)
  | blank (p : Port) (f : Frame)
  | setLampMode (p : Port) (f : Frame)
  | selectSource (p : Port) (f : Frame)
  | loadPreset (p : Port) (f : Frame)
  | setKeystone (p : Port) (f : Frame)
  | nudgeKeystone (p : Port) (f : Frame)
  | setCorner (p : Port) (f : Frame)
  | setAspect (p : Port) (f : Frame)
  | savePreset (p : Port) (f : Frame)
  | reapplyGeometry (p : Port) (f : Frame)
  | setClock (p : Port) (f : Frame)
  | addBooking (p : Port) (f : Frame)
  | changeBooking (p : Port) (f : Frame)
  | removeBooking (p : Port) (f : Frame)
  | cancelOccurrence (p : Port) (f : Frame)
  | restoreOccurrence (p : Port) (f : Frame)
  | extendBooking (p : Port) (f : Frame)
  | releaseRoom (p : Port) (f : Frame)
  | setSourceEntry (p : Port) (f : Frame)
  | setProfile (p : Port) (f : Frame)
  | setInstallRecord (p : Port) (f : Frame)
  | setRoomTimes (p : Port) (f : Frame)
  | setInstallLock (p : Port) (f : Frame)
  | protectRegions (p : Port) (f : Frame)
  | unprotectRegions (p : Port) (f : Frame)
  | closeWindow (p : Port) (f : Frame)
  | storeWipe (p : Port) (f : Frame)
  | setOverride (p : Port) (f : Frame)
  | enableService (p : Port) (f : Frame)
  | disableService (p : Port) (f : Frame)
  | clearInstallLock (p : Port) (f : Frame)
  | lampReplace (p : Port) (f : Frame)
  | lampSet (p : Port) (f : Frame)
  | clearFault (p : Port) (f : Frame)
  | leaveCommission (p : Port) (f : Frame)
  | restart (p : Port) (f : Frame)
  deriving DecidableEq, Repr

end Sys2Proof
end

