-- ==== Sys2Proof/Machine/Types.lean ====
section
/-! DEFINITION. The data of the blocks: the value lists of the manual as inductive types, in the order in which the manual
lists them (R176 encodes a value by its position there), and the records of the blocks as structures. -/

namespace Sys2Proof.Machine

/-- The party behind a request (Introduction, Roles and origins; numbered as in R177). -/
inductive Origin where
  | lectern | facility | service | schedule | auto
  deriving DecidableEq, Repr

/-- The scope of a change (Introduction). -/
inductive Scope where
  | momentary | standing
  deriving DecidableEq, Repr

/-- The two time forms (R112). -/
inductive TimeForm where
  | short | long
  deriving DecidableEq, Repr

/-- The outcomes, numbered as in R175. -/
inductive Verdict where
  | done | started | skipped | refused | malformed
  deriving DecidableEq, Repr

/-- The reasons, in the order of the Introduction's list (R175). -/
inductive Reason where
  | unknownCommand | badLength | badQualifier | noDayBase | notPermitted | serviceDisabled | installLocked
  | regionProtected | windowClosed | storeBusy | tableFull | noSuchEntry | conflict | outOfRange | clockUnset
  | wrongState | lampExpired | lampFault | thermalHold | headLost | outranked | lampChangeInProgress
  deriving DecidableEq, Repr

/-- The command classes (R134). -/
inductive CommandClass where
  | openClass | power | lamp | source | geometry | schedule | settings | lockout | serviceOnly
  deriving DecidableEq, Repr

/-- The guards, numbered as in R175. -/
inductive Guard where
  | none | lampLit | lampDark | vacant | occupied | signal | noSignal | headPresent
  deriving DecidableEq, Repr

/-- The notice groups, numbered as in R177. -/
inductive Group where
  | power | lamp | route | geometry | room | store | lockout | head
  deriving DecidableEq, Repr

/-- The notice kinds (R171). -/
inductive NoticeKind where
  | powerStateChanged | strikeFailed | igniteRefusedByHead | lampOut | thermalHold | fault
  | lampThreshold | lampAccountUnverified | lampReplaced
  | routeChanged | requestDisplaced | signalFound | signalLost
  | geometryApplied | geometryHeld
  | roomStateChanged | occurrenceMissed | clockNeeded | powerRequestRefused
  | writeDone | writeDropped | recordDefaulted | lockPairMismatch | windowClosed
  | profileChanged | overrideChanged | serviceEnableChanged
  | headLost | headReturned | headRestarted
  deriving DecidableEq, Repr

/-- A clock time as a notice or an answer carries it (R171, R177). -/
structure Stamp where
  day : Nat
  minute : Nat
  second : Nat
  deriving DecidableEq, Repr

/-- A notice (R171, R177); `stamp` is none for the unset marker. -/
structure Notice where
  kind : NoticeKind
  origin : Origin
  stamp : Option Stamp
  first : Word
  second : Word
  lostBefore : Bool
  deriving DecidableEq, Repr

/-- What a request is answered (R168, R175), without the echoed command code. -/
structure Answer where
  verdict : Verdict
  reason : Option Reason
  clamped : Bool
  queued : Bool
  data : List Word
  deriving DecidableEq, Repr

/-- A response as the response buffer holds it (R175). -/
structure Response where
  code : Byte
  answer : Answer
  deriving DecidableEq, Repr

/-- The transfer state of a port (R165). -/
inductive Transfer where
  | idle | receiving | taking | responseReady | reading
  deriving DecidableEq, Repr

/-- The levels of the wear (R2). -/
inductive Level where
  | below | warn | atEnd | hardStop
  deriving DecidableEq, Repr

/-- A lamp summary (R16); `removedDay` is none for the unset marker. -/
structure Summary where
  serial : Nat
  burnSeconds : Nat
  strikes : Nat
  finalWear : Nat
  removedDay : Option Nat
  deriving DecidableEq, Repr

/-- The live lamp account (R1); `installedDay` is none for the unset marker. -/
structure Account where
  serial : Nat
  installedDay : Option Nat
  wear : Nat
  secNormal : Nat
  secEco : Nat
  coldStrikes : Nat
  hotStrikes : Nat
  failedStrikes : Nat
  totalSeconds : Nat
  totalStrikes : Nat
  verified : Bool
  previous : Option Summary
  deriving DecidableEq, Repr

/-- The pre-load tally (R15). -/
structure Tally where
  wear : Nat
  secNormal : Nat
  secEco : Nat
  coldStrikes : Nat
  hotStrikes : Nat
  failedStrikes : Nat
  requestWaiting : Bool
  deriving DecidableEq, Repr

/-- The two lamp modes (R44). -/
inductive LampMode where
  | normal | eco
  deriving DecidableEq, Repr

/-- What decided the effective lamp mode (R49). -/
inductive ModeCause where
  | level | blankDim | momentary | booking | roomDefault
  deriving DecidableEq, Repr

/-- The power states (R24). -/
inductive PowerState where
  | unknown | standby | igniting | warming | on | cooling | fault
  deriving DecidableEq, Repr

/-- The steps of a strike attempt (R25, R30); it means something in IGNITING only. -/
inductive StrikeStep where
  | sending | awaitingResult | pause
  deriving DecidableEq, Repr

/-- The shutter held: OPEN, or CLOSED with its reason (R25). -/
inductive Shutter where
  | opened | closedManual | closedAuto
  deriving DecidableEq, Repr

/-- The link states (section 3.4). -/
inductive LinkState where
  | awaiting | present | lost
  deriving DecidableEq, Repr

/-- The types of head link messages, with the codes of R178 given by `HeadType.code`. -/
inductive HeadType where
  | ignite | extinguish | lampMode | shutter | statusRequest | geometryRow | geometryColumn | geometryCommit
  | ack | report | strikeResult | format
  deriving DecidableEq, Repr

/-- A message of the control lane (R51). -/
inductive ControlMsg where
  | ignite
  | extinguish
  | lampMode (m : LampMode)
  | shutter (closed : Bool)
  | statusRequest
  deriving DecidableEq, Repr

/-- One entry of a geometry table: a value pair and a step (R95, R96). -/
structure TableEntry where
  first : Nat
  second : Nat
  step : Nat
  deriving DecidableEq, Repr

/-- A message of the controller (R51). -/
inductive HeadMsg where
  | control (m : ControlMsg)
  | row (set : BitVec 8) (index : Nat) (e : TableEntry)
  | column (set : BitVec 8) (index : Nat) (e : TableEntry)
  | commit (set : BitVec 8)
  deriving DecidableEq, Repr

/-- The outstanding message (section 3.2). `ofLane` says that it was sent from the set now in the geometry lane. -/
structure Outstanding where
  msg : HeadMsg
  tag : BitVec 3
  sends : Nat
  ofLane : Bool
  deriving DecidableEq, Repr

/-- A signal format (R52). -/
structure SignalFormat where
  width : Word
  height : Word
  refresh : Byte
  deriving DecidableEq, Repr

/-- The format image (R72): UNKNOWN, NONE or a format. -/
inductive FormatImage where
  | unknown
  | noSignal
  | signal (f : SignalFormat)
  deriving DecidableEq, Repr

/-- The aspects (Terms; R67). -/
inductive Aspect where
  | auto | fill | wide | standard
  deriving DecidableEq, Repr

/-- A source entry (R67); `input` 0 stands for IN1 and none for NONE, which marks the entry unused. -/
structure SourceEntry where
  name : List Byte
  input : Option (Fin 6)
  fallback : Option (Fin 8)
  preset : Option (Fin 16)
  autoFollow : Bool
  aspect : Aspect
  deriving DecidableEq, Repr

/-- The route states (R72). -/
inductive RouteState where
  | settling | stable | noSignal
  deriving DecidableEq, Repr

/-- A request held in the pending slot (R81); its port is that of a port origin. -/
structure RouteRequest where
  source : Fin 8
  origin : Origin
  scope : Scope
  deriving DecidableEq, Repr

/-- A trim of one corner (R88). -/
structure Trim where
  tx : Int
  ty : Int
  deriving DecidableEq, Repr

/-- A geometry preset (R88). -/
structure Preset where
  name : List Byte
  kv : Int
  kh : Int
  tl : Trim
  tr : Trim
  bl : Trim
  br : Trim
  aspect : Option Aspect
  deriving DecidableEq, Repr

/-- The two trim fields of one corner of the overlay, each set or unset (R89). -/
structure TrimOverlay where
  tx : Option Int
  ty : Option Int
  deriving DecidableEq, Repr

/-- The momentary overlay: eleven fields, each set or unset (R89). -/
structure Overlay where
  kv : Option Int
  kh : Option Int
  tl : TrimOverlay
  tr : TrimOverlay
  bl : TrimOverlay
  br : TrimOverlay
  aspect : Option Aspect
  deriving DecidableEq, Repr

/-- The preset causes (R90). -/
inductive PresetCause where
  | momentary | booking | source | roomDefault
  deriving DecidableEq, Repr

/-- The content aspects (R91). -/
inductive ContentAspect where
  | fill | wide | standard
  deriving DecidableEq, Repr

/-- The inputs of a set: the eleven effective parameters, the content aspect, Ws and Hs (section 5.3). -/
structure GeomInputs where
  kv : Int
  kh : Int
  tl : Trim
  tr : Trim
  bl : Trim
  br : Trim
  aspect : Aspect
  content : ContentAspect
  ws : Nat
  hs : Nat
  deriving DecidableEq, Repr

/-- A point of the panel (section 5.2). -/
structure Point where
  x : Int
  y : Int
  deriving DecidableEq, Repr

/-- The four corners (section 5.2). -/
structure Corners where
  tl : Point
  tr : Point
  bl : Point
  br : Point
  deriving DecidableEq, Repr

/-- A set: number, inputs, corners, LIMITED flag and the two tables (section 5.3). -/
structure GeomSet where
  number : BitVec 8
  inputs : GeomInputs
  corners : Corners
  limited : Bool
  rows : List TableEntry
  columns : List TableEntry
  deriving DecidableEq, Repr

/-- The geometry statuses (section 5.3). -/
inductive GeomStatus where
  | applied | pending | held
  deriving DecidableEq, Repr

/-- The set in the geometry lane with its progress index (R57). -/
structure LaneSet where
  set : GeomSet
  progress : Nat
  deriving DecidableEq, Repr

/-- The kind of a booking (R113). Bit n of a weekday mask stands for weekday n. -/
inductive BookingKind where
  | oneOff (day : Nat)
  | weekly (mask : BitVec 7) (first : Nat) (last : Option Nat)
  deriving DecidableEq, Repr

/-- The lamp mode of a booking (R113). -/
inductive BookingLampMode where
  | normal | eco | roomDefault
  deriving DecidableEq, Repr

/-- The end actions (R113). -/
inductive EndAction where
  | off | blank | stay
  deriving DecidableEq, Repr

/-- A booking (R113). -/
structure Booking where
  kind : BookingKind
  startMinute : Nat
  endMinute : Nat
  lead : Nat
  source : Option (Fin 8)
  preset : Option (Fin 16)
  lampMode : BookingLampMode
  profile : Fin 8
  endAction : EndAction
  grace : Nat
  owner : Port
  title : List Byte
  deriving DecidableEq, Repr

/-- A dated instance of a booking: its id and day (R114). -/
structure Occurrence where
  id : Fin 64
  day : Nat
  deriving DecidableEq, Repr

/-- The room states (R120). -/
inductive RoomState where
  | vacant | preparing | occupied
  deriving DecidableEq, Repr

/-- The causes of a room state change (R122). -/
inductive RoomCause where
  | time | jump | edit | release | backToBack | unset
  deriving DecidableEq, Repr

/-- The room clock (R109); `isSet` is the set flag. -/
structure Clock where
  day : Nat
  minute : Nat
  second : Nat
  isSet : Bool
  deriving DecidableEq, Repr

/-- A lockout profile: a permit set for each of the six classes, bit 0 LECTERN and bit 1 FACILITY (R135, R176). -/
structure Profile where
  power : BitVec 2
  lamp : BitVec 2
  source : BitVec 2
  geometry : BitVec 2
  schedule : BitVec 2
  settings : BitVec 2
  deriving DecidableEq, Repr

/-- The profile causes (R137). -/
inductive ProfileCause where
  | vacant | booking
  deriving DecidableEq, Repr

/-- The active profile as last set: number, cause, and the permit sets it had then (R137). -/
structure ActiveProfile where
  number : Fin 8
  cause : ProfileCause
  sets : Profile
  deriving DecidableEq, Repr

/-- The override hold (R138): FOLLOW STANDING, or HELD with a profile number or NONE. -/
inductive OverrideHold where
  | followStanding
  | held (profile : Option (Fin 8))
  deriving DecidableEq, Repr

/-- The effective override, when present: profile, scope, and the permit sets it had then (R138). -/
structure EffectiveOverride where
  profile : Fin 8
  scope : Scope
  sets : Profile
  deriving DecidableEq, Repr

/-- The regions of the store (R149). -/
inductive Region where
  | a | b | c | d
  deriving DecidableEq, Repr

/-- The record keys, in key order (R149). -/
inductive Key where
  | lampCheckpoint
  | lampHistory
  | install
  | profile (n : Fin 8)
  | source (n : Fin 8)
  | lockPair
  | preset (n : Fin 16)
  | roomDefaults
  | booking (n : Fin 64)
  | exceptions
  deriving DecidableEq, Repr

/-- The INSTALL RECORD (R149): hours, seconds, seconds, profile, ENABLED or not, retries. -/
structure InstallRecord where
  ratedLife : Nat
  coolingTime : Nat
  warmingTime : Nat
  vacantProfile : Fin 8
  serviceDefault : Bool
  retryCount : Nat
  deriving DecidableEq, Repr

/-- The ROOM DEFAULTS record (R149): settle time in ms, the other times in minutes. -/
structure RoomDefaults where
  source : Fin 8
  preset : Fin 16
  lampMode : LampMode
  settleTime : Nat
  noSignal : Nat
  blankDim : Nat
  bridgeGap : Nat
  override : Option (Fin 8)
  deriving DecidableEq, Repr

/-- A stored record: its image and its CRC (R150). -/
structure StoredRecord where
  image : List Word
  crc : Word
  deriving DecidableEq, Repr

/-- The two commands whose checkpoint content makes a switch when it is written (R20, R21). -/
inductive SwitchKind where
  | replace | set
  deriving DecidableEq, Repr

/-- An entry of the persist queue (R156). `switch` marks a LAMP REPLACE or LAMP SET content (R158). -/
structure Entry where
  key : Key
  image : List Word
  origin : Origin
  switch : Option SwitchKind
  deriving DecidableEq, Repr

/-- The write engine (R158); WRITING holds the entry taken, the slot chosen for a checkpoint, and the time left in ms;
WIPING holds the time left in ms. -/
inductive Engine where
  | idle
  | writing (e : Entry) (slot : Fin 4) (left : Nat)
  | wiping (left : Nat)
  deriving DecidableEq, Repr

end Sys2Proof.Machine
end

