-- ==== Sys2Proof/Machine/Codes.lean ====
section
/-! DEFINITION. The positions of values in the manual's lists, counted from 0 (R176), the command index (section 9.6), and
the numbering of keys, ports and origins. -/

namespace Sys2Proof.Machine

/-- The word of a number that fits 16 bits (R176). -/
def word (n : Nat) : Word := BitVec.ofNat 16 n

/-- The word of a signed number, in two's complement (R176). -/
def intWord (i : Int) : Word := BitVec.ofInt 16 i

/-- The two words of a number beyond 16 bits, high half first (R176). -/
def words32 (n : Nat) : List Word := [word (n / 65536), word n]

/-- The number of two words, high half first (R176). -/
def nat32 (hi lo : Word) : Nat := hi.toNat * 65536 + lo.toNat

/-- None, absent or NONE in a word (R176). -/
def noneWord : Word := 0xFFFF#16

/-- A number held at 65535 where it must fit a word (R7, R61, R66). -/
def heldWord (n : Nat) : Word := word (min n 65535)

/-- A mark that is either clear or set, in the order "clear, set" (R25, R120). -/
def markWord (b : Bool) : Word := if b then 1 else 0

/-- Two items of one data word, the first named in bits 15..8 (R176). -/
def pairWord (a b : Nat) : Word := BitVec.ofNat 8 a ++ BitVec.ofNat 8 b

/-- Three items of one data word (R176). -/
def tripleWord (a b c : Nat) : Word := word ((a % 16) * 256 + (b % 16) * 16 + c % 16)

/-- None in a byte (R176). -/
def noneByte : Nat := 255

/-- The position of `a` in the list that defines its values (R176). -/
def position {α : Type} [DecidableEq α] (all : List α) (a : α) : Nat := all.idxOf a

def portList : List Port := [.lectern, .facility, .service]
def modeList : List OperatingMode := [.normal, .commission]
def originList : List Origin := [.lectern, .facility, .service, .schedule, .auto]
def scopeList : List Scope := [.momentary, .standing]
def timeFormList : List TimeForm := [.short, .long]
def reasonList : List Reason :=
  [.unknownCommand, .badLength, .badQualifier, .noDayBase, .notPermitted, .serviceDisabled, .installLocked,
   .regionProtected, .windowClosed, .storeBusy, .tableFull, .noSuchEntry, .conflict, .outOfRange, .clockUnset,
   .wrongState, .lampExpired, .lampFault, .thermalHold, .headLost, .outranked, .lampChangeInProgress]
def guardList : List Guard := [.none, .lampLit, .lampDark, .vacant, .occupied, .signal, .noSignal, .headPresent]
def classList : List CommandClass :=
  [.openClass, .power, .lamp, .source, .geometry, .schedule, .settings, .lockout, .serviceOnly]
def levelList : List Level := [.below, .warn, .atEnd, .hardStop]
def lampModeList : List LampMode := [.normal, .eco]
def modeCauseList : List ModeCause := [.level, .blankDim, .momentary, .booking, .roomDefault]
def powerStateList : List PowerState := [.unknown, .standby, .igniting, .warming, .on, .cooling, .fault]
def strikeStepList : List StrikeStep := [.sending, .awaitingResult, .pause]
def linkStateList : List LinkState := [.awaiting, .present, .lost]
def headLampList : List HeadLamp := [.dark, .striking, .lit]
def temperatureList : List Temperature := [.ok, .warm, .over]
def routeStateList : List RouteState := [.settling, .stable, .noSignal]
def aspectList : List Aspect := [.auto, .fill, .wide, .standard]

/-- DESIGN CHOICE: the content aspects are numbered in the order of R92's table (R176; log entry 27). -/
def contentList : List ContentAspect := [.fill, .wide, .standard]

def presetCauseList : List PresetCause := [.momentary, .booking, .source, .roomDefault]
def geomStatusList : List GeomStatus := [.applied, .pending, .held]
def bookingLampModeList : List BookingLampMode := [.normal, .eco, .roomDefault]
def endActionList : List EndAction := [.off, .blank, .stay]
def roomStateList : List RoomState := [.vacant, .preparing, .occupied]
def roomCauseList : List RoomCause := [.time, .jump, .edit, .release, .backToBack, .unset]
def profileCauseList : List ProfileCause := [.vacant, .booking]
def regionList : List Region := [.a, .b, .c, .d]

/-- The group of a notice kind (R171). -/
def kindGroup : NoticeKind → Group
  | .powerStateChanged | .strikeFailed | .igniteRefusedByHead | .lampOut | .thermalHold | .fault => .power
  | .lampThreshold | .lampAccountUnverified | .lampReplaced => .lamp
  | .routeChanged | .requestDisplaced | .signalFound | .signalLost => .route
  | .geometryApplied | .geometryHeld => .geometry
  | .roomStateChanged | .occurrenceMissed | .clockNeeded | .powerRequestRefused => .room
  | .writeDone | .writeDropped | .recordDefaulted | .lockPairMismatch | .windowClosed => .store
  | .profileChanged | .overrideChanged | .serviceEnableChanged => .lockout
  | .headLost | .headReturned | .headRestarted => .head

/-- The kinds of a group, in the order of the Introduction's list (R177). -/
def groupKinds : Group → List NoticeKind
  | .power => [.powerStateChanged, .strikeFailed, .igniteRefusedByHead, .lampOut, .thermalHold, .fault]
  | .lamp => [.lampThreshold, .lampAccountUnverified, .lampReplaced]
  | .route => [.routeChanged, .requestDisplaced, .signalFound, .signalLost]
  | .geometry => [.geometryApplied, .geometryHeld]
  | .room => [.roomStateChanged, .occurrenceMissed, .clockNeeded, .powerRequestRefused]
  | .store => [.writeDone, .writeDropped, .recordDefaulted, .lockPairMismatch, .windowClosed]
  | .lockout => [.profileChanged, .overrideChanged, .serviceEnableChanged]
  | .head => [.headLost, .headReturned, .headRestarted]

def groupList : List Group := [.power, .lamp, .route, .geometry, .room, .store, .lockout, .head]

/-- The origin of a port's requests (Introduction, Roles and origins). -/
def portOrigin : Port → Origin
  | .lectern => .lectern
  | .facility => .facility
  | .service => .service

/-- The port of an origin, when the origin is a port (R171). -/
def originPort : Origin → Option Port
  | .lectern => some .lectern
  | .facility => some .facility
  | .service => some .service
  | .schedule | .auto => none

/-- The type code of a head link message (R178). -/
def headTypeCode : HeadType → Nat
  | .ignite => 0x01
  | .extinguish => 0x02
  | .lampMode => 0x03
  | .shutter => 0x04
  | .statusRequest => 0x05
  | .geometryRow => 0x08
  | .geometryColumn => 0x09
  | .geometryCommit => 0x0A
  | .ack => 0x10
  | .report => 0x11
  | .strikeResult => 0x12
  | .format => 0x13

/-- The type of a control message (R51). -/
def controlType : ControlMsg → HeadType
  | .ignite => .ignite
  | .extinguish => .extinguish
  | .lampMode _ => .lampMode
  | .shutter _ => .shutter
  | .statusRequest => .statusRequest

/-- The type of a controller message (R51). -/
def headMsgType : HeadMsg → HeadType
  | .control m => controlType m
  | .row _ _ _ => .geometryRow
  | .column _ _ _ => .geometryColumn
  | .commit _ => .geometryCommit

/-- The position of a key in the key order (R149): 102 keys, LAMP CHECKPOINT the first. -/
def keyPosition : Key → Nat
  | .lampCheckpoint => 0
  | .lampHistory => 1
  | .install => 2
  | .profile n => 3 + n.val
  | .source n => 11 + n.val
  | .lockPair => 19
  | .preset n => 20 + n.val
  | .roomDefaults => 36
  | .booking n => 37 + n.val
  | .exceptions => 101

/-- The region of a key (R149). -/
def keyRegion : Key → Region
  | .lampCheckpoint | .lampHistory => .a
  | .install | .profile _ | .source _ | .lockPair => .b
  | .preset _ | .roomDefaults => .c
  | .booking _ | .exceptions => .d

/-- The keys of region A other than LAMP CHECKPOINT, then those of B, C and D, in key order (R149). -/
def nonLampKeys : List Key :=
  [Key.lampHistory, Key.install] ++ (List.finRange 8).map Key.profile ++ (List.finRange 8).map Key.source ++ [Key.lockPair]
    ++ (List.finRange 16).map Key.preset ++ [Key.roomDefaults] ++ (List.finRange 64).map Key.booking ++ [Key.exceptions]

/-- The keys of a region in key order (R149, R164). -/
def regionKeys : Region → List Key
  | .a => [.lampCheckpoint, .lampHistory]
  | .b => [Key.install] ++ (List.finRange 8).map Key.profile ++ (List.finRange 8).map Key.source ++ [Key.lockPair]
  | .c => (List.finRange 16).map Key.preset ++ [Key.roomDefaults]
  | .d => (List.finRange 64).map Key.booking ++ [Key.exceptions]

/-- Command code (section 9.6). -/
def commandCode : Command → Byte
  | .identify => 0x01
  | .readNotices => 0x02
  | .setPortMode => 0x03
  | .setDayBase => 0x04
  | .readLampAccount => 0x08
  | .readLampHistory => 0x09
  | .readPowerState => 0x0A
  | .readHeadLink => 0x0B
  | .readRoute => 0x0C
  | .readSourceMap => 0x0D
  | .readGeometry => 0x0E
  | .readPreset => 0x0F
  | .readGeometryTable => 0x10
  | .readRoom => 0x11
  | .readBooking => 0x12
  | .readExceptions => 0x13
  | .readOccurrences => 0x14
  | .readLockout => 0x15
  | .readStore => 0x16
  | .digest => 0x17
  | .countFree => 0x18
  | .powerOn => 0x20
  | .powerOff => 0x21
  | .blank => 0x22
  | .setLampMode => 0x28
  | .selectSource => 0x30
  | .loadPreset => 0x38
  | .setKeystone => 0x39
  | .nudgeKeystone => 0x3A
  | .setCorner => 0x3B
  | .setAspect => 0x3C
  | .savePreset => 0x3D
  | .reapplyGeometry => 0x3E
  | .setClock => 0x40
  | .addBooking => 0x41
  | .changeBooking => 0x42
  | .removeBooking => 0x43
  | .cancelOccurrence => 0x44
  | .restoreOccurrence => 0x45
  | .extendBooking => 0x46
  | .releaseRoom => 0x47
  | .setSourceEntry => 0x50
  | .setProfile => 0x51
  | .setInstallRecord => 0x52
  | .setRoomTimes => 0x53
  | .setInstallLock => 0x54
  | .protectRegions => 0x55
  | .unprotectRegions => 0x56
  | .closeWindow => 0x57
  | .storeWipe => 0x58
  | .setOverride => 0x60
  | .enableService => 0x61
  | .disableService => 0x62
  | .clearInstallLock => 0x63
  | .lampReplace => 0x70
  | .lampSet => 0x71
  | .clearFault => 0x72
  | .leaveCommission => 0x73
  | .restart => 0x74

/-- The commands of the index, in its order (section 9.6). -/
def commandList : List Command :=
  [.identify, .readNotices, .setPortMode, .setDayBase, .readLampAccount, .readLampHistory, .readPowerState,
   .readHeadLink, .readRoute, .readSourceMap, .readGeometry, .readPreset, .readGeometryTable, .readRoom,
   .readBooking, .readExceptions, .readOccurrences, .readLockout, .readStore, .digest, .countFree,
   .powerOn, .powerOff, .blank, .setLampMode, .selectSource, .loadPreset, .setKeystone, .nudgeKeystone,
   .setCorner, .setAspect, .savePreset, .reapplyGeometry, .setClock, .addBooking, .changeBooking, .removeBooking,
   .cancelOccurrence, .restoreOccurrence, .extendBooking, .releaseRoom, .setSourceEntry, .setProfile,
   .setInstallRecord, .setRoomTimes, .setInstallLock, .protectRegions, .unprotectRegions, .closeWindow, .storeWipe,
   .setOverride, .enableService, .disableService, .clearInstallLock, .lampReplace, .lampSet, .clearFault,
   .leaveCommission, .restart]

/-- The command of a code, none when the code is not in the index (R168, step 1). -/
def commandOfCode (c : Byte) : Option Command := commandList.find? (fun k => commandCode k == c)

/-- Class of a command (section 9.6). -/
def commandClass : Command → CommandClass
  | .powerOn | .powerOff | .blank => .power
  | .setLampMode => .lamp
  | .selectSource => .source
  | .loadPreset | .setKeystone | .nudgeKeystone | .setCorner | .setAspect | .savePreset | .reapplyGeometry => .geometry
  | .setClock | .addBooking | .changeBooking | .removeBooking | .cancelOccurrence | .restoreOccurrence
  | .extendBooking | .releaseRoom => .schedule
  | .setSourceEntry | .setProfile | .setInstallRecord | .setRoomTimes | .setInstallLock | .protectRegions
  | .unprotectRegions | .closeWindow | .storeWipe => .settings
  | .setOverride | .enableService | .disableService | .clearInstallLock => .lockout
  | .lampReplace | .lampSet | .clearFault | .leaveCommission | .restart => .serviceOnly
  | .identify | .readNotices | .setPortMode | .setDayBase | .readLampAccount | .readLampHistory | .readPowerState
  | .readHeadLink | .readRoute | .readSourceMap | .readGeometry | .readPreset | .readGeometryTable | .readRoom
  | .readBooking | .readExceptions | .readOccurrences | .readLockout | .readStore | .digest | .countFree => .openClass

/-- The command takes a scope (section 9.6, column Scope). -/
def takesScope : Command → Bool
  | .setLampMode | .selectSource | .loadPreset | .setKeystone | .nudgeKeystone | .setCorner | .setAspect
  | .savePreset | .setSourceEntry | .setProfile | .setInstallRecord | .setRoomTimes | .setOverride => true
  | _ => false

/-- The command takes STANDING scope only (section 9.6; R169, check 3). -/
def standingOnly : Command → Bool
  | .savePreset | .setSourceEntry | .setProfile | .setInstallRecord | .setRoomTimes => true
  | _ => false

/-- The command takes times (section 9.6, column Times). -/
def takesTimes : Command → Bool
  | .setDayBase | .setClock | .addBooking | .changeBooking | .cancelOccurrence | .restoreOccurrence => true
  | _ => false

/-- The command takes LONG times only (section 9.6; R169, check 6). -/
def longOnly : Command → Bool
  | .setDayBase | .setClock => true
  | _ => false

end Sys2Proof.Machine
end

