-- ==== Sys2Proof/Decode.lean ====
section
/-! DEFINITION. What arrives from outside, read as commands: the words of a select period (R165, R166, R175) and the bytes of
the head link (R50, R178). No row of the opcode table gives bits, so a table word spells no command. -/

namespace Sys2Proof

/-- The command that a table word spells: none, since no row of spec/opcode_table.json gives bits. -/
def decodeTableWord (_nbits _w : Nat) : Option Instr := none

namespace Machine

/-- The row of a command of the index. -/
def instrOf (c : Command) (p : Port) (f : Frame) : Instr :=
  match c with
  | .identify => .identify p f
  | .readNotices => .readNotices p f
  | .setPortMode => .setPortMode p f
  | .setDayBase => .setDayBase p f
  | .readLampAccount => .readLampAccount p f
  | .readLampHistory => .readLampHistory p f
  | .readPowerState => .readPowerState p f
  | .readHeadLink => .readHeadLink p f
  | .readRoute => .readRoute p f
  | .readSourceMap => .readSourceMap p f
  | .readGeometry => .readGeometry p f
  | .readPreset => .readPreset p f
  | .readGeometryTable => .readGeometryTable p f
  | .readRoom => .readRoom p f
  | .readBooking => .readBooking p f
  | .readExceptions => .readExceptions p f
  | .readOccurrences => .readOccurrences p f
  | .readLockout => .readLockout p f
  | .readStore => .readStore p f
  | .digest => .digest p f
  | .countFree => .countFree p f
  | .powerOn => .powerOn p f
  | .powerOff => .powerOff p f
  | .blank => .blank p f
  | .setLampMode => .setLampMode p f
  | .selectSource => .selectSource p f
  | .loadPreset => .loadPreset p f
  | .setKeystone => .setKeystone p f
  | .nudgeKeystone => .nudgeKeystone p f
  | .setCorner => .setCorner p f
  | .setAspect => .setAspect p f
  | .savePreset => .savePreset p f
  | .reapplyGeometry => .reapplyGeometry p f
  | .setClock => .setClock p f
  | .addBooking => .addBooking p f
  | .changeBooking => .changeBooking p f
  | .removeBooking => .removeBooking p f
  | .cancelOccurrence => .cancelOccurrence p f
  | .restoreOccurrence => .restoreOccurrence p f
  | .extendBooking => .extendBooking p f
  | .releaseRoom => .releaseRoom p f
  | .setSourceEntry => .setSourceEntry p f
  | .setProfile => .setProfile p f
  | .setInstallRecord => .setInstallRecord p f
  | .setRoomTimes => .setRoomTimes p f
  | .setInstallLock => .setInstallLock p f
  | .protectRegions => .protectRegions p f
  | .unprotectRegions => .unprotectRegions p f
  | .closeWindow => .closeWindow p f
  | .storeWipe => .storeWipe p f
  | .setOverride => .setOverride p f
  | .enableService => .enableService p f
  | .disableService => .disableService p f
  | .clearInstallLock => .clearInstallLock p f
  | .lampReplace => .lampReplace p f
  | .lampSet => .lampSet p f
  | .clearFault => .clearFault p f
  | .leaveCommission => .leaveCommission p f
  | .restart => .restart p f

/-- The row of a request frame: its header's code and count, then the words after it (R168, R175). -/
def frameEvent (p : Port) (header : Word) (words : List Word) : Instr :=
  let code := header.extractLsb' 8 8
  let f : Frame := { count := header.extractLsb' 0 8, words := words }
  match commandOfCode code with
  | some c => instrOf c p f
  | none => .unknownCommandFrame p code f

/-- The row of a select period on a port that is not TAKING, from the whole words clocked in and whether select was
deasserted in the middle of a word; a period without a whole word is no event (R165, R166). -/
def periodEvent (p : Port) (words : List Word) (midWord : Bool) : Option Instr :=
  match words with
  | [] => none
  | header :: rest =>
    if header = 0 then some (.readWordPeriod p { whole := rest.length + 1, midWord := midWord })
    else if midWord then some (.frameDiscarded p (rest.length + 1))
    else some (frameEvent p header rest)

/-! ## The head link's bytes (R50, R178) -/

/-- The result byte of an ACK or a STRIKE RESULT: 0 or 1 (R178). -/
def resultOf (b : Byte) : Option Bool := if b = 0 then some true else if b = 1 then some false else none

/-- A REPORT from its four payload bytes; none for a code with no meaning or a set bit among bits 7..4 of the flags
(R178). -/
def reportOf (lamp flags temperature committed : Byte) : Option Report :=
  match headLampList[lamp.toNat]?, temperatureList[temperature.toNat]? with
  | some l, some t =>
    if flags.extractLsb' 4 4 = 0 then
      some
        { lamp := l, hot := flags.getLsbD 0, shutterClosed := flags.getLsbD 1, restarted := flags.getLsbD 2
          temperature := t, committed := if flags.getLsbD 3 then some committed else none }
    else none
  | _, _ => none

/-- The row of a message by its tag, type and payload; none for a type that the head does not send, a length that the
type does not call for, or a code with no meaning (R50, R52, R178). -/
def headMessage (tag : BitVec 3) (type : Nat) (body : List Byte) : Option Instr :=
  match type, body with
  | 0x10, [r] => (resultOf r).map fun ok => .ack tag ok
  | 0x11, [a, b, c, d] => (reportOf a b c d).map .report
  | 0x12, [r] => (resultOf r).map .strikeResult
  | 0x13, [w1, w0, h1, h0, f] => some (.format (w1 ++ w0) (h1 ++ h0) f)
  | _, _ => none

/-- The 8-bit sum of the bytes after the start byte is zero (R50). -/
def sumIsZero (bs : List Byte) : Bool := bs.foldl (· + ·) 0 == 0

/-- The row of the bytes after a start byte, the length byte first: the message, or INVALID_HEAD_MESSAGE (R50). -/
def messageEvent (length : Byte) (inner : List Byte) : Instr :=
  match inner with
  | [] => .invalidHeadMessage
  | b :: rest =>
    if sumIsZero (length :: inner) then
      (headMessage (b.extractLsb' 5 3) (b.extractLsb' 0 5).toNat rest.dropLast).getD .invalidHeadMessage
    else .invalidHeadMessage

/-- The rows that a run of bytes makes: the receiver hunts for a start byte, takes the length and collects that many
bytes; after an ignored message it hunts again from the byte after the start byte (R50). `fuel` bounds the bytes. -/
def receive : Nat → List Byte → List Instr
  | 0, _ => []
  | _ + 1, [] => []
  | fuel + 1, b :: rest =>
    if b = 0xA6 then
      match rest with
      | [] => []
      | n :: more =>
        if more.length < n.toNat then []
        else
          match messageEvent n (more.take n.toNat) with
          | .invalidHeadMessage => .invalidHeadMessage :: receive fuel rest
          | i => i :: receive fuel (more.drop n.toNat)
    else receive fuel rest

end Machine

end Sys2Proof
end

