-- ==== Sys2Proof/Config.lean ====
section
/-! DEFINITION. What the manual leaves without a value: free values, opaque so that no proof can lean on one.
Each is applied to the counter `State.free`, which every use advances, so that two uses are unrelated. -/

namespace Sys2Proof.Config

/-- A word whose content the manual does not state: a data word that a notice's rule does not give, the word on data
out while the read word itself is clocked in, the value word of an overlay field that is unset (log entry 6). -/
opaque freeWord : Nat → Word

/-- How many of the 100 records of regions B, C and D a wipe had written when a reset cut it short: R163 names the
point reached and gives no rate, so the number is free below 100 (log entry 7). -/
opaque freeWipePoint : Nat → Nat

end Sys2Proof.Config
end

