-- ==== Sys2Proof/Machine/Records.lean ====
section
/-! DEFINITION. Stored records: the CRC of R150, the image of every record (R149, R176), the reading of an image back into
its record, and the defaults of R149. -/

namespace Sys2Proof.Machine

/-! ## The CRC (R150) -/

/-- One bit of the CRC: polynomial 0x1021, most significant bit first (R150). -/
def crcBit (c : Word) : Word := if c.msb then (c <<< 1) ^^^ 0x1021#16 else c <<< 1

/-- One byte of the CRC (R150). -/
def crcByte (c : Word) (b : Byte) : Word :=
  crcBit (crcBit (crcBit (crcBit (crcBit (crcBit (crcBit (crcBit (c ^^^ (b ++ 0#8)))))))))

/-- The CRC of a run of bytes, from the initial value 0xFFFF (R150). -/
def crcBytes (bs : List Byte) : Word := bs.foldl crcByte 0xFFFF#16

/-- The high byte of a word, then its low byte (R150, R176). -/
def wordBytes (w : Word) : List Byte := [w.extractLsb' 8 8, w.extractLsb' 0 8]

/-- The CRC of an image, most significant byte of each word first (R150). -/
def crcImage (ws : List Word) : Word := crcBytes (ws.flatMap wordBytes)

/-- A record is valid when the CRC over its image is its stored CRC (R150). -/
def validRecord (r : StoredRecord) : Bool := crcImage r.image == r.crc

/-- The record that holds an image with its CRC (R158). -/
def sealed (image : List Word) : StoredRecord := { image := image, crc := crcImage image }

/-- A record whose image and CRC no longer agree (R159). -/
def torn (image : List Word) : StoredRecord := { image := image, crc := crcImage image ^^^ 1#16 }

/-- A record that nothing has written. -/
def blankRecord : StoredRecord := { image := [], crc := 0 }

/-! ## Items of an image (R176) -/

/-- Two characters to a word, the first in the high byte, a zero byte last when the count is odd (R176). -/
def packText : List Byte → List Word
  | [] => []
  | [a] => [a ++ 0#8]
  | a :: b :: r => (a ++ b) :: packText r

/-- A text: its count word, then its characters (R176). -/
def textWords (t : List Byte) : List Word := word t.length :: packText t

/-- A text padded with zero words to `n` character words (R176). -/
def textImage (n : Nat) (t : List Byte) : List Word :=
  word t.length :: (packText t ++ List.replicate (n - (packText t).length) 0)

/-- The first `n` characters of a run of words (R176). -/
def unpackText (n : Nat) (ws : List Word) : List Byte := (ws.flatMap wordBytes).take n

/-- An optional item of an image: a presence word, then the value word (R176). -/
def optImage (o : Option Nat) : List Word :=
  match o with
  | none => [0, 0]
  | some n => [1, word n]

/-- Word `i` of an image. -/
def itemAt (ws : List Word) (i : Nat) : Word := ws.getD i 0

/-- The number in word `i` of an image. -/
def numAt (ws : List Word) (i : Nat) : Nat := (itemAt ws i).toNat

/-- The two-word number at word `i` of an image. -/
def num32At (ws : List Word) (i : Nat) : Nat := nat32 (itemAt ws i) (itemAt ws (i + 1))

/-- The optional item at word `i` of an image. -/
def optAt (ws : List Word) (i : Nat) : Option Nat := if itemAt ws i = 0 then none else some (numAt ws (i + 1))

/-- The value at a position of a list, its first value where the position is beyond the list. -/
def valueAt {α : Type} (all : List α) (d : α) (n : Nat) : α := all.getD n d

/-! ## The images -/

/-- The image of a summary: serial, burn seconds, strikes, final wear, removed day (R16). -/
def summaryImage (s : Summary) : List Word :=
  words32 s.serial ++ words32 s.burnSeconds ++ words32 s.strikes ++ words32 s.finalWear ++ optImage s.removedDay

def summaryAt (ws : List Word) (i : Nat) : Summary :=
  { serial := num32At ws i, burnSeconds := num32At ws (i + 2), strikes := num32At ws (i + 4)
    finalWear := num32At ws (i + 6), removedDay := optAt ws (i + 8) }

/-- A summary of zeros, which fills the place of an absent one. -/
def zeroSummary : Summary := { serial := 0, burnSeconds := 0, strikes := 0, finalWear := 0, removedDay := none }

/-- The image of the live account: the fields of R1 in order (R176). -/
def accountImage (a : Account) : List Word :=
  words32 a.serial ++ optImage a.installedDay ++ words32 a.wear ++ words32 a.secNormal ++ words32 a.secEco
    ++ words32 a.coldStrikes ++ words32 a.hotStrikes ++ words32 a.failedStrikes ++ words32 a.totalSeconds
    ++ words32 a.totalStrikes ++ [if a.verified then 0 else 1]
    ++ (match a.previous with
        | none => 0 :: summaryImage zeroSummary
        | some p => 1 :: summaryImage p)

def accountOf (ws : List Word) : Account :=
  { serial := num32At ws 0, installedDay := optAt ws 2, wear := num32At ws 4, secNormal := num32At ws 6
    secEco := num32At ws 8, coldStrikes := num32At ws 10, hotStrikes := num32At ws 12, failedStrikes := num32At ws 14
    totalSeconds := num32At ws 16, totalStrikes := num32At ws 18, verified := itemAt ws 20 == 0
    previous := if itemAt ws 21 = 0 then none else some (summaryAt ws 22) }

/-- The image of a checkpoint slot: the sequence number, then the account (R176). -/
def slotImage (seq : Nat) (account : List Word) : List Word := words32 seq ++ account

/-- The sequence number of a checkpoint slot. -/
def slotSequence (ws : List Word) : Nat := num32At ws 0

/-- The account image of a checkpoint slot. -/
def slotAccount (ws : List Word) : List Word := ws.drop 2

/-- The image of the lamp history: the number of summaries, then four places (R16). -/
def historyImage (h : List Summary) : List Word :=
  word h.length :: ((h ++ List.replicate (4 - h.length) zeroSummary).flatMap summaryImage)

def historyOf (ws : List Word) : List Summary :=
  ((List.range 4).map fun k => summaryAt ws (1 + 10 * k)).take (numAt ws 0)

/-- The image of the INSTALL RECORD (R149). -/
def installImage (r : InstallRecord) : List Word :=
  [word r.ratedLife, word r.coolingTime, word r.warmingTime, word r.vacantProfile.val,
   (if r.serviceDefault then 0 else 1), word r.retryCount]

def installOf (ws : List Word) : InstallRecord :=
  { ratedLife := numAt ws 0, coolingTime := numAt ws 1, warmingTime := numAt ws 2
    vacantProfile := Fin.ofNat 8 (numAt ws 3), serviceDefault := itemAt ws 4 == 0, retryCount := numAt ws 5 }

/-- The image of a PROFILE record: the six permit sets (R135). -/
def profileImage (p : Profile) : List Word :=
  [p.power.setWidth 16, p.lamp.setWidth 16, p.source.setWidth 16, p.geometry.setWidth 16, p.schedule.setWidth 16,
   p.settings.setWidth 16]

def profileOf (ws : List Word) : Profile :=
  { power := (itemAt ws 0).setWidth 2, lamp := (itemAt ws 1).setWidth 2, source := (itemAt ws 2).setWidth 2
    geometry := (itemAt ws 3).setWidth 2, schedule := (itemAt ws 4).setWidth 2, settings := (itemAt ws 5).setWidth 2 }

/-- The image of a SOURCE record: the fields of R67; IN1 is 1 and auto-follow stands in the order "set, clear". -/
def sourceImage (e : SourceEntry) : List Word :=
  textImage 6 e.name ++ optImage (e.input.map (·.val + 1)) ++ optImage (e.fallback.map (·.val))
    ++ optImage (e.preset.map (·.val)) ++ [if e.autoFollow then 0 else 1] ++ [word (position aspectList e.aspect)]

def sourceOf (ws : List Word) : SourceEntry :=
  { name := unpackText (numAt ws 0) ((ws.drop 1).take 6), input := (optAt ws 7).map fun n => Fin.ofNat 6 (n - 1)
    fallback := (optAt ws 9).map (Fin.ofNat 8), preset := (optAt ws 11).map (Fin.ofNat 16)
    autoFollow := itemAt ws 13 == 0, aspect := valueAt aspectList .auto (numAt ws 14) }

/-- The lock words, LOCKED and UNLOCKED in the manual's order (R145, R176). -/
def lockWord (locked : Bool) : Word := if locked then 0 else 1

/-- The image of the LOCK PAIR: the lock word and its complement (R145). -/
def lockImage (locked : Bool) : List Word := [lockWord locked, ~~~ lockWord locked]

/-- The image of a PRESET record: the fields of R88. -/
def presetImage (p : Preset) : List Word :=
  textImage 6 p.name ++ [intWord p.kv, intWord p.kh, intWord p.tl.tx, intWord p.tl.ty, intWord p.tr.tx, intWord p.tr.ty,
    intWord p.bl.tx, intWord p.bl.ty, intWord p.br.tx, intWord p.br.ty]
    ++ optImage (p.aspect.map (position aspectList))

/-- The signed number in word `i` of an image. -/
def intAt (ws : List Word) (i : Nat) : Int := (itemAt ws i).toInt

def presetOf (ws : List Word) : Preset :=
  { name := unpackText (numAt ws 0) ((ws.drop 1).take 6), kv := intAt ws 7, kh := intAt ws 8
    tl := { tx := intAt ws 9, ty := intAt ws 10 }, tr := { tx := intAt ws 11, ty := intAt ws 12 }
    bl := { tx := intAt ws 13, ty := intAt ws 14 }, br := { tx := intAt ws 15, ty := intAt ws 16 }
    aspect := (optAt ws 17).map (valueAt aspectList .auto) }

/-- The image of the ROOM DEFAULTS record (R149). -/
def roomImage (r : RoomDefaults) : List Word :=
  [word r.source.val, word r.preset.val, word (position lampModeList r.lampMode), word r.settleTime, word r.noSignal,
   word r.blankDim, word r.bridgeGap] ++ optImage (r.override.map (·.val))

def roomOf (ws : List Word) : RoomDefaults :=
  { source := Fin.ofNat 8 (numAt ws 0), preset := Fin.ofNat 16 (numAt ws 1)
    lampMode := valueAt lampModeList .normal (numAt ws 2), settleTime := numAt ws 3, noSignal := numAt ws 4
    blankDim := numAt ws 5, bridgeGap := numAt ws 6, override := (optAt ws 7).map (Fin.ofNat 8) }

/-- The kind words of a booking: kind, mask, day or first day, last day (R113). -/
def kindImage : BookingKind → List Word
  | .oneOff d => [0, 0, word d, 0, 0]
  | .weekly m f l => [1, m.setWidth 16, word f] ++ optImage l

/-- The image of a BOOKING record, 26 words: the fields of R113; a free slot is the empty record (R113, R176). -/
def bookingImage : Option Booking → List Word
  | none => noneWord :: List.replicate 25 0
  | some b => kindImage b.kind ++ [word b.startMinute, word b.endMinute, word b.lead] ++ optImage (b.source.map (·.val))
      ++ optImage (b.preset.map (·.val))
      ++ [word (position bookingLampModeList b.lampMode), word b.profile.val, word (position endActionList b.endAction),
          word b.grace, word (position portList b.owner)] ++ textImage 8 b.title

def bookingOf (ws : List Word) : Option Booking :=
  if itemAt ws 0 = noneWord then none
  else some
    { kind := if itemAt ws 0 = 0 then .oneOff (numAt ws 2)
              else .weekly ((itemAt ws 1).setWidth 7) (numAt ws 2) (optAt ws 3)
      startMinute := numAt ws 5, endMinute := numAt ws 6, lead := numAt ws 7
      source := (optAt ws 8).map (Fin.ofNat 8), preset := (optAt ws 10).map (Fin.ofNat 16)
      lampMode := valueAt bookingLampModeList .normal (numAt ws 12), profile := Fin.ofNat 8 (numAt ws 13)
      endAction := valueAt endActionList .off (numAt ws 14), grace := numAt ws 15
      owner := valueAt portList .lectern (numAt ws 16), title := unpackText (numAt ws 17) ((ws.drop 18).take 8) }

/-- The image of the EXCEPTIONS record: the number of pairs, then 32 places (R114). -/
def exceptionsImage (l : List Occurrence) : List Word :=
  word l.length :: (l.flatMap (fun o => [word o.id.val, word o.day]) ++ List.replicate (2 * (32 - l.length)) 0)

def exceptionsOf (ws : List Word) : List Occurrence :=
  ((List.range 32).map fun k => { id := Fin.ofNat 64 (numAt ws (1 + 2 * k)), day := numAt ws (2 + 2 * k) }).take (numAt ws 0)

/-! ## Defaults (R149) -/

def defaultInstall : InstallRecord :=
  { ratedLife := 3000, coolingTime := 120, warmingTime := 60, vacantProfile := 0, serviceDefault := false, retryCount := 2 }

def defaultProfile : Profile := { power := 3, lamp := 3, source := 3, geometry := 3, schedule := 3, settings := 3 }

/-- An unused entry. DESIGN CHOICE: R149 gives the input NONE alone; the name is empty, the fallback and the bound preset
NONE, auto-follow clear and the aspect AUTO (log entry 31). -/
def defaultSource : SourceEntry :=
  { name := [], input := none, fallback := none, preset := none, autoFollow := false, aspect := .auto }

def zeroTrim : Trim := { tx := 0, ty := 0 }

def defaultPreset : Preset :=
  { name := [], kv := 0, kh := 0, tl := zeroTrim, tr := zeroTrim, bl := zeroTrim, br := zeroTrim, aspect := none }

def defaultRoom : RoomDefaults :=
  { source := 0, preset := 0, lampMode := .normal, settleTime := 1500, noSignal := 20, blankDim := 5, bridgeGap := 15
    override := none }

/-- The default image of a record other than a checkpoint (R149). -/
def defaultImage : Key → List Word
  | .lampCheckpoint => []
  | .lampHistory => historyImage []
  | .install => installImage defaultInstall
  | .profile _ => profileImage defaultProfile
  | .source _ => sourceImage defaultSource
  | .lockPair => lockImage false
  | .preset _ => presetImage defaultPreset
  | .roomDefaults => roomImage defaultRoom
  | .booking _ => bookingImage none
  | .exceptions => exceptionsImage []

/-- The key of record `i` of the 101 non-lamp records, in key order (R149). -/
def recordKey (i : Fin 101) : Key := nonLampKeys.getD i.val .exceptions

end Sys2Proof.Machine
end

