-- ==== Sys2Proof/Machine/State.lean ====
section
/-! DEFINITION. The state of the block: one structure for each of the nine blocks of the manual, the live copies and the
stored records among them, the queue of commands that wait, and the state after reset. Times are in milliseconds: a
timer that counts down is `some` the time left and `none` when stopped; a timer that counts up is `some` the time it
has run. -/

namespace Sys2Proof.Machine

/-- What stops the block. The manual gives every command an effect, so no meaning raises a fault (log entry 2). -/
inductive Fault where
  deriving DecidableEq, Repr

/-- Why a command has no meaning. -/
inductive Refusal where
  /-- Raised by `exec` alone, for a row without a meaning; safe, since the machine stops. -/
  | notModelled (mnemonic : String)
  deriving DecidableEq, Repr

/-- One command port (R165 to R172): transfer state, response buffer, the answer being taken, the words on data out in
the last select period, the port context, and the notice queue, oldest first. -/
structure PortState where
  transfer : Transfer
  response : Option Response
  deciding : Option Response
  dataOut : List Word
  defaultScope : Scope
  defaultForm : TimeForm
  dayBase : Option Nat
  subscription : BitVec 8
  notices : List Notice
  deriving DecidableEq, Repr

/-- The three port contexts and queues of the Port Controller. -/
structure Ports where
  lectern : PortState
  facility : PortState
  service : PortState
  deriving DecidableEq, Repr

/-- The Lamp Account Unit (R1 to R23). `account` and `level` are none until the load completes. `normalSeen` says that
a condition of R4 has held during the burn second in progress. -/
structure LampUnit where
  account : Option Account
  level : Option Level
  newest : Option (Fin 4 × Nat)
  tally : Tally
  burn : Option Nat
  normalSeen : Bool
  hotWindow : Option Nat
  cadence : Nat
  replaceInFlight : Bool
  history : List Summary
  deriving DecidableEq, Repr

/-- The Power Sequencer (R24 to R49). `step` means something in IGNITING only. `offOrigin` is the origin of the off
pending. `shutter` is none until one is adopted or asked for. `dimmed` says that the closed shutter's time exceeds the
blank-dim delay, and `modeEvaluated` that the first evaluation of the lamp mode has been made. -/
structure PowerUnit where
  state : PowerState
  step : StrikeStep
  attempt : Nat
  restartPending : Bool
  offPending : Bool
  ignitionOrigin : Option Origin
  offOrigin : Option Origin
  thermalHold : Bool
  shutter : Option Shutter
  momentaryMode : Option LampMode
  effectiveMode : LampMode
  modeEvaluated : Bool
  strikeTimer : Option Nat
  pauseTimer : Option Nat
  warmingTimer : Option Nat
  coolingTimer : Option Nat
  blankDim : Option Nat
  dimmed : Bool
  reportWait : Option Nat
  deriving DecidableEq, Repr

/-- The Head Link Controller (R50 to R66). `lastSet` is the number of the last set the geometry lane took; `lastFormat`
is none until a FORMAT has come, and `some none` when it carried NONE; `lostFor` and `sinceMessage` count up; `receiver`
holds the bytes gathered since a start byte; `transmit` the bytes of the message that is going out, none when the line is
free (R53). -/
structure LinkUnit where
  state : LinkState
  silence : Option Nat
  outstanding : Option Outstanding
  answer : Option Nat
  nextTag : BitVec 3
  control : List ControlMsg
  lane : Option LaneSet
  reportImage : Option Report
  lastFormat : Option (Option SignalFormat)
  lastRejection : Option (HeadType × BitVec 3)
  lostFor : Option Nat
  sinceMessage : Option Nat
  lastSet : Option (BitVec 8)
  receiver : List Byte
  transmit : List Byte
  deriving DecidableEq, Repr

/-- The Source Router (R67 to R87). `routedInput` is none for MUTE and is what the switch select lines show. `debounced`
is none until the first presence sample; `raw` holds the levels of the presence inputs. -/
structure RouterUnit where
  sources : Vector SourceEntry 8
  raw : Vector Bool 6
  debounced : Option (Vector Bool 6)
  stability : Vector (Option Nat) 6
  sample : Option Nat
  requested : Option (Fin 8)
  routedInput : Option (Fin 6)
  routedSource : Option (Fin 8)
  state : RouteState
  format : FormatImage
  chain : List (Fin 8 × Option (Fin 6))
  pendingSlot : Option RouteRequest
  deferred : Bool
  settle : Option Nat
  settleOrigin : Origin
  noSignal : Option Nat
  resolved : Bool
  deriving DecidableEq, Repr

/-- The Geometry Engine (R88 to R108). `routed` and `format` are what the Source Router last handed over; `started` says
that the first settle end has come; `active` is the active preset with its cause. -/
structure GeometryUnit where
  presets : Vector Preset 16
  overlay : Overlay
  momentary : Option (Fin 16)
  routed : Option (Fin 8)
  format : FormatImage
  started : Bool
  active : Option (Fin 16 × PresetCause)
  current : Option GeomSet
  setNumber : BitVec 8
  status : GeomStatus
  commitAcked : Bool
  keptResend : Bool
  deriving DecidableEq, Repr

/-- The Room Clock and Schedule Runner (R109 to R133). `phase` is the part of the clock's second that has run. -/
structure RoomUnit where
  clock : Clock
  phase : Nat
  bookings : Vector (Option Booking) 64
  exceptions : List Occurrence
  state : RoomState
  current : Option Occurrence
  extension : Nat
  taken : Vector (Option Nat) 64
  scheduleBlank : Bool
  deriving DecidableEq, Repr

/-- The Lockout Unit (R134 to R148). `active` and `effective` are what was last set, none before that. -/
structure LockoutUnit where
  profiles : Vector Profile 8
  hold : OverrideHold
  serviceEnabled : Bool
  locked : Bool
  mismatch : Bool
  mode : OperatingMode
  active : Option ActiveProfile
  effective : Option EffectiveOverride
  deriving DecidableEq, Repr

/-- The Settings Store (R149 to R164): the four checkpoint slots, the 101 other stored records in key order, the live
INSTALL RECORD and ROOM DEFAULTS, the protect mask (bit n for region n), the start-up window (none when CLOSED), the
persist queue, oldest first, the write engine, and the requester of a wipe in progress. -/
structure StoreUnit where
  slots : Vector StoredRecord 4
  records : Vector StoredRecord 101
  loaded : Bool
  install : InstallRecord
  room : RoomDefaults
  protect : BitVec 4
  window : Option Nat
  queue : List Entry
  engine : Engine
  wipe : Option Port
  deriving DecidableEq, Repr

/-- The block, with the counter of free values (the model's own) and the queue of commands that wait, first in first
out (the model's own). -/
structure State where
  ports : Ports
  lamp : LampUnit
  power : PowerUnit
  link : LinkUnit
  router : RouterUnit
  geometry : GeometryUnit
  room : RoomUnit
  lockout : LockoutUnit
  store : StoreUnit
  free : Nat
  pending : List Instr
  deriving DecidableEq, Repr

/-! ## The state after reset, block by block -/

/-- A port after reset (R166, R170, R172). -/
def PortState.reset (p : Port) : PortState :=
  { transfer := .idle, response := none, deciding := none, dataOut := []
    defaultScope := match p with | .facility => .standing | _ => .momentary
    defaultForm := match p with | .lectern => .short | _ => .long
    dayBase := none, subscription := 0xFF, notices := [] }

def Ports.reset : Ports :=
  { lectern := PortState.reset .lectern, facility := PortState.reset .facility, service := PortState.reset .service }

/-- The empty tally (R15). -/
def Tally.empty : Tally :=
  { wear := 0, secNormal := 0, secEco := 0, coldStrikes := 0, hotStrikes := 0, failedStrikes := 0, requestWaiting := false }

/-- The Lamp Account Unit after reset (R23). DESIGN CHOICE: the history is empty until it is loaded, where R23 gives no
value for that time (log entry 28). -/
def LampUnit.reset : LampUnit :=
  { account := none, level := none, newest := none, tally := Tally.empty, burn := none, normalSeen := false
    hotWindow := none, cadence := 0, replaceInFlight := false, history := [] }

/-- The Power Sequencer after reset (R24, R25, R42, R44). -/
def PowerUnit.reset : PowerUnit :=
  { state := .unknown, step := .sending, attempt := 0, restartPending := false, offPending := false
    ignitionOrigin := none, offOrigin := none, thermalHold := false, shutter := none, momentaryMode := none
    effectiveMode := .normal, modeEvaluated := false, strikeTimer := none, pauseTimer := none, warmingTimer := none
    coolingTimer := none, blankDim := none, dimmed := false, reportWait := some 3000 }

/-- The Head Link Controller after reset (R59). -/
def LinkUnit.reset : LinkUnit :=
  { state := .awaiting, silence := none, outstanding := none, answer := none, nextTag := 0, control := [], lane := none
    reportImage := none, lastFormat := none, lastRejection := none, lostFor := none, sinceMessage := none
    lastSet := none, receiver := [], transmit := [] }

/-- The Source Router after reset (R69, R77), with the raw levels of the presence inputs. DESIGN CHOICE: the source map
holds eight default entries until it is loaded (log entry 28). -/
def RouterUnit.reset (raw : Vector Bool 6) : RouterUnit :=
  { sources := Vector.replicate 8 defaultSource, raw := raw, debounced := none, stability := Vector.replicate 6 none
    sample := some 500, requested := none, routedInput := none, routedSource := none, state := .noSignal
    format := .unknown, chain := [], pendingSlot := none, deferred := false, settle := none, settleOrigin := .auto
    noSignal := none, resolved := false }

/-- The overlay with every field unset (R89). -/
def Overlay.empty : Overlay :=
  { kv := none, kh := none, tl := ⟨none, none⟩, tr := ⟨none, none⟩, bl := ⟨none, none⟩, br := ⟨none, none⟩
    aspect := none }

/-- The Geometry Engine after reset (R108). -/
def GeometryUnit.reset : GeometryUnit :=
  { presets := Vector.replicate 16 defaultPreset, overlay := Overlay.empty, momentary := none, routed := none
    format := .unknown, started := false, active := none, current := none, setNumber := 0, status := .pending
    commitAcked := false, keptResend := false }

/-- The unset clock (R109). -/
def Clock.unset : Clock := { day := 0, minute := 0, second := 0, isSet := false }

/-- The Schedule Runner after reset (R120), with the clock that the reset leaves (R109). -/
def RoomUnit.reset (clock : Clock) (phase : Nat) : RoomUnit :=
  { clock := clock, phase := phase, bookings := Vector.replicate 64 none, exceptions := [], state := .vacant
    current := none, extension := 0, taken := Vector.replicate 64 none, scheduleBlank := false }

/-- The Lockout Unit after reset (R138, R142, R145), with the mode that the reset leaves (R141). DESIGN CHOICE: the profile
table holds eight default profiles until it is loaded, and no profile is active (log entry 28). -/
def LockoutUnit.reset (mode : OperatingMode) : LockoutUnit :=
  { profiles := Vector.replicate 8 defaultProfile, hold := .followStanding, serviceEnabled := false, locked := true
    mismatch := false, mode := mode, active := none, effective := none }

/-- The Settings Store after reset (R153, R154, R156, R158, R162), with the records that the reset leaves. DESIGN CHOICE:
INSTALL RECORD and ROOM DEFAULTS hold their defaults until they are loaded, the fields too of which the manual says nothing
for that time (log entry 28). -/
def StoreUnit.reset (slots : Vector StoredRecord 4) (records : Vector StoredRecord 101) : StoreUnit :=
  { slots := slots, records := records, loaded := false, install := defaultInstall, room := defaultRoom
    protect := 0b0111, window := none, queue := [], engine := .idle, wipe := none }

/-- The records of a board on which nothing but the factory state has been stored: each default with its CRC. -/
def factoryRecords : Vector StoredRecord 101 := Vector.ofFn fun i => sealed (defaultImage (recordKey i))

/-- The block right after a hard reset, the MODE strap at NORMAL, on a board in its factory state (log entries 3, 4). -/
def State.reset : State :=
  { ports := Ports.reset
    lamp := LampUnit.reset
    power := PowerUnit.reset
    link := LinkUnit.reset
    router := RouterUnit.reset (Vector.replicate 6 false)
    geometry := GeometryUnit.reset
    room := RoomUnit.reset Clock.unset 0
    lockout := LockoutUnit.reset .normal
    store := StoreUnit.reset (Vector.replicate 4 blankRecord) factoryRecords
    free := 0
    pending := [] }

end Sys2Proof.Machine
end

