-- ==== Sys2Proof/Machine/Ops.lean ====
section
/-! DEFINITION. The operations that several blocks share: the ports and their notices, the live copies' images, the persist
queue, and the handing of messages to the head link's lanes. -/

namespace Sys2Proof.Machine

/-! ## Ports -/

/-- The state of port `p`. -/
def portOf (s : State) : Port → PortState
  | .lectern => s.ports.lectern
  | .facility => s.ports.facility
  | .service => s.ports.service

/-- The three ports with port `p` replaced. -/
def putPort (ps : Ports) (p : Port) (x : PortState) : Ports :=
  match p with
  | .lectern => { ps with lectern := x }
  | .facility => { ps with facility := x }
  | .service => { ps with service := x }

/-- The state with port `p` replaced. -/
def setPort (s : State) (p : Port) (x : PortState) : State := { s with ports := putPort s.ports p x }

/-- The ready line: low while TAKING, high in every other transfer state (R165). -/
def readyLine (s : State) (p : Port) : Bool := (portOf s p).transfer != .taking

/-- The attention line: asserted while the port's notice queue holds a notice (R172). -/
def attentionLine (s : State) (p : Port) : Bool := !(portOf s p).notices.isEmpty

/-! ## Notices (R171, R172) -/

/-- The stamp of the room clock, none for the unset marker (R171). -/
def clockStamp (s : State) : Option Stamp :=
  if s.room.clock.isSet then
    some { day := s.room.clock.day, minute := s.room.clock.minute, second := s.room.clock.second }
  else none

/-- A notice joins a queue: when it holds 16 the oldest goes first and the new one carries LOST-BEFORE (R172). -/
def joinQueue (q : List Notice) (n : Notice) : List Notice :=
  if 16 ≤ q.length then q.drop (q.length - 15) ++ [{ n with lostBefore := true }]
  else q ++ [{ n with lostBefore := false }]

/-- The port subscribes to the group (R170, R171). -/
def subscribes (x : PortState) (g : Group) : Bool := x.subscription.getLsbD (position groupList g)

/-- Delivery of a notice to one port: it receives it once when it subscribes or is the port named (R171). -/
def deliver (dest : Option Port) (n : Notice) (p : Port) (x : PortState) : PortState :=
  { x with notices := if subscribes x (kindGroup n.kind) || dest == some p then joinQueue x.notices n else x.notices }

/-- A data word of a notice: the word the rule gives, or a free word where the rule gives none (log entry 6). -/
def dataWord (o : Option Word) (n : Nat) : Word := o.getD (Config.freeWord n)

/-- Post a notice: stamped, and delivered to the subscribers of its group and to the port named (R171). -/
def postTo (dest : Option Port) (kind : NoticeKind) (origin : Origin) (first second : Option Word) (s : State) : State :=
  let n : Notice :=
    { kind := kind, origin := origin, stamp := clockStamp s, first := dataWord first s.free
      second := dataWord second (s.free + 1), lostBefore := false }
  { s with
    ports := { lectern := deliver dest n .lectern s.ports.lectern
               facility := deliver dest n .facility s.ports.facility
               service := deliver dest n .service s.ports.service }
    free := s.free + 2 }

/-- Post a notice to the subscribers of its group and to the origin's port, if it is one (R26, R156, R171). -/
def postFor (kind : NoticeKind) (origin : Origin) (first second : Option Word) (s : State) : State :=
  postTo (originPort origin) kind origin first second s

/-- Post a notice to the subscribers of its group alone (R171). -/
def post (kind : NoticeKind) (origin : Origin) (first second : Option Word) (s : State) : State :=
  postTo none kind origin first second s

/-! ## Live images (R156, R164) -/

/-- The image of the live copy of a key (R156); a live account not yet loaded has no image. -/
def liveImage (s : State) : Key → List Word
  | .lampCheckpoint => match s.lamp.account with
    | some a => accountImage a
    | none => []
  | .lampHistory => historyImage s.lamp.history
  | .install => installImage s.store.install
  | .profile n => profileImage s.lockout.profiles[n]
  | .source n => sourceImage s.router.sources[n]
  | .lockPair => lockImage s.lockout.locked
  | .preset n => presetImage s.geometry.presets[n]
  | .roomDefaults => roomImage s.store.room
  | .booking n => bookingImage s.room.bookings[n]
  | .exceptions => exceptionsImage s.room.exceptions

/-! ## The persist queue (R156, R157) -/

/-- The entry of a key in the queue. -/
def queuedEntry (q : List Entry) (k : Key) : Option Entry := q.find? (fun e => e.key == k)

/-- The queue after a request to write a key: in place when the key is queued, else at the end (R156). -/
def enqueue (q : List Entry) (e : Entry) : List Entry :=
  if q.any (fun x => x.key == e.key) then q.map (fun x => if x.key == e.key then e else x) else q ++ [e]

/-- WRITE DROPPED: the key named, the cause's position (REPLACED, PROTECTED, WIPE), to the origin (R156). -/
def postDropped (k : Key) (cause : Nat) (o : Origin) (s : State) : State :=
  postFor .writeDropped o (some (word (keyPosition k))) (some (word cause)) s

/-- Queue an entry; a replaced entry of another origin is told WRITE DROPPED with cause REPLACED (R156). -/
def queueEntry (e : Entry) (s : State) : State :=
  let t := { s with store := { s.store with queue := enqueue s.store.queue e } }
  match queuedEntry s.store.queue e.key with
  | none => t
  | some old => if old.origin = e.origin then t else postDropped e.key 0 old.origin t

/-- Queue the live copy of a key for an origin (R156). -/
def queueLive (k : Key) (o : Origin) (s : State) : State :=
  queueEntry { key := k, image := liveImage s k, origin := o, switch := none } s

/-- The non-lamp entries queued (R156). -/
def nonLampCount (q : List Entry) : Nat := (q.filter (fun e => e.key != .lampCheckpoint)).length

/-- The keys of a list that need a new place: non-lamp and not queued (R157). -/
def newPlaces (q : List Entry) (ks : List Key) : Nat :=
  (ks.filter (fun k => k != .lampCheckpoint && (queuedEntry q k).isNone)).length

/-- The place test (R157). -/
def placeTest (s : State) (ks : List Key) : Bool := nonLampCount s.store.queue + newPlaces s.store.queue ks ≤ 11

/-- A request that writes these keys meets a wipe in progress or fails the place test: STORE BUSY (R157, R162). -/
def storeBusy (s : State) (ks : List Key) : Bool := s.store.wipe.isSome || !placeTest s ks

/-- The region is in the protect mask (R153). -/
def isProtected (s : State) (r : Region) : Bool := s.store.protect.getLsbD (position regionList r)

/-- A write that a block makes of its own accord: not queued when it fails the place test or a wipe of its region is in
progress, and nothing is posted then (R157). -/
def queueOwn (k : Key) (o : Origin) (s : State) : State :=
  if !placeTest s [k] || (s.store.wipe.isSome && keyRegion k != .a) then s else queueLive k o s

/-! ## The write engine (R158, R162) -/

/-- Region A's keys and LOCK PAIR are exempt from the protection check of the take (R158). -/
def takeExempt : Key → Bool
  | .lampCheckpoint | .lampHistory | .lockPair => true
  | _ => false

/-- The slot of the next checkpoint write: the one after the newest, slot 0 when none is valid (R12). -/
def nextSlot (s : State) : Fin 4 :=
  match s.lamp.newest with
  | some (i, _) => i + 1
  | none => 0

/-- The sequence number of the next checkpoint write (R12). -/
def nextSequence (s : State) : Nat :=
  match s.lamp.newest with
  | some (_, n) => (n + 1) % 4294967296
  | none => 1

/-- The engine takes the oldest entries until one is written or none is left (R158). -/
def takeEntries : List Entry → State → State
  | [], s => { s with store := { s.store with queue := [] } }
  | e :: rest, s =>
    if isProtected s (keyRegion e.key) && !takeExempt e.key then takeEntries rest (postDropped e.key 1 e.origin s)
    else { s with store := { s.store with queue := rest, engine := .writing e (nextSlot s) 15 } }

/-- An IDLE engine begins a wipe that waits, or takes an entry, after load completion (R158, R162). -/
def runEngine (s : State) : State :=
  if s.store.engine = .idle && s.store.loaded then
    if s.store.wipe.isSome then { s with store := { s.store with engine := .wiping 600 } }
    else takeEntries s.store.queue s
  else s

/-! ## The head link's lanes and the line (R53, R56, R57, R58, R178) -/

/-- The control lane after a message is handed to it, the link not being LOST (R56). -/
def laneWith (lane : List ControlMsg) (m : ControlMsg) : List ControlMsg :=
  if lane.any (fun x => controlType x == controlType m) then
    lane.map (fun x => if controlType x == controlType m then m else x)
  else
    (lane.filter (fun x => !((m == .ignite && x == .extinguish) || (m == .extinguish && x == .ignite)))) ++ [m]

/-- Hand a message to the control lane; it is discarded while the link is LOST (R56). -/
def handControl (m : ControlMsg) (s : State) : State :=
  { s with link := { s.link with
      control := if s.link.state = .lost then s.link.control else laneWith s.link.control m } }

/-- A control message of a type is queued or outstanding (R39, R46). -/
def controlInHand (s : State) (t : HeadType) : Bool :=
  s.link.control.any (fun x => controlType x == t) ||
    (match s.link.outstanding with
     | some o => headMsgType o.msg == t
     | none => false)

/-- Hand a geometry set to the geometry lane: it replaces the one held, at progress index 0; while the link is LOST the
lane does not take it (R57). -/
def handSet (g : GeomSet) (s : State) : State :=
  if s.link.state = .lost then s
  else { s with link := { s.link with
      lane := some { set := g, progress := 0 }
      outstanding := s.link.outstanding.map (fun o => { o with ofLane := false })
      lastSet := some g.number } }

/-- The message that the progress index of a lane names (R57). -/
def laneMessage (l : LaneSet) : HeadMsg :=
  if l.progress < 26 then .row l.set.number l.progress (l.set.rows.getD l.progress ⟨0, 0, 0⟩)
  else if l.progress < 57 then .column l.set.number (l.progress - 26) (l.set.columns.getD (l.progress - 26) ⟨0, 0, 0⟩)
  else .commit l.set.number

/-- The high and low bytes of a 16-bit field (R178). -/
def fieldBytes (n : Nat) : List Byte := wordBytes (word n)

/-- The payload of a controller message (R178). -/
def payload : HeadMsg → List Byte
  | .control .ignite | .control .extinguish | .control .statusRequest => []
  | .control (.lampMode m) => [BitVec.ofNat 8 (position lampModeList m)]
  | .control (.shutter closed) => [if closed then 1 else 0]
  | .row n i e => [n, BitVec.ofNat 8 i] ++ fieldBytes e.first ++ fieldBytes e.second ++ fieldBytes e.step
  | .column n i e => [n, BitVec.ofNat 8 i] ++ fieldBytes e.first ++ fieldBytes e.second ++ fieldBytes e.step
  | .commit n => [n]

/-- The check byte: the 8-bit sum of the bytes after the start byte, this one included, is zero (R178). -/
def checkByte (bs : List Byte) : Byte := 0 - bs.foldl (· + ·) 0

/-- A head link message with its start byte, length, tag and type, payload and check byte (R178). -/
def frameBytes (tag : BitVec 3) (type : Nat) (body : List Byte) : List Byte :=
  let inner := BitVec.ofNat 8 (body.length + 2) :: (tag ++ BitVec.ofNat 5 type) :: body
  0xA6 :: inner ++ [checkByte inner]

/-- The bytes of a controller message (R178). -/
def messageBytes (tag : BitVec 3) (m : HeadMsg) : List Byte :=
  frameBytes tag (headTypeCode (headMsgType m)) (payload m)

/-- The message is sent with the next tag, which advances modulo 8, and one send is recorded (R53). -/
def sendMessage (m : HeadMsg) (ofLane : Bool) (s : State) : State :=
  { s with link := { s.link with
      outstanding := some { msg := m, tag := s.link.nextTag, sends := 1, ofLane := ofLane }
      answer := none
      nextTag := s.link.nextTag + 1
      transmit := messageBytes s.link.nextTag m } }

/-- With the link PRESENT, nothing outstanding and no bytes going out, the next message is chosen by the serving order
and sent (R53, R58). -/
def serveLink (s : State) : State :=
  if s.link.state = .present && s.link.outstanding.isNone && s.link.transmit.isEmpty then
    match s.link.control with
    | m :: rest => sendMessage (.control m) false { s with link := { s.link with control := rest } }
    | [] => match s.link.lane with
      | some l => sendMessage (laneMessage l) true s
      | none => s
  else s

/-- The end of a command: the link is served and the engine takes what it may (R58, R158; log entry 5). -/
def finish (s : State) : State := runEngine (serveLink s)

end Sys2Proof.Machine
end

