-- ==== Sys2Proof/Machine/Flags.lean ====
section
/-! DEFINITION. The conditions that commands test: the lamp held, the level of the wear, the current booking, the guards,
the refusal test and the permission decision. -/

namespace Sys2Proof.Machine

/-- The Power Sequencer holds the lamp to be lit (R24). -/
def isLit : PowerState → Bool
  | .warming | .on => true
  | .unknown | .standby | .igniting | .cooling | .fault => false

/-- The Power Sequencer holds the lamp to be dark (R24). -/
def isDark : PowerState → Bool
  | .standby | .igniting | .cooling | .fault => true
  | .unknown | .warming | .on => false

/-- The rated limit L in wear units (R2). -/
def ratedLimit (hours : Nat) : Nat := hours * 10800

/-- The level of a wear against L: the last of the four whose condition holds (R2). -/
def levelOf (wear l : Nat) : Level :=
  if 11 * l ≤ 10 * wear then .hardStop
  else if l ≤ wear then .atEnd
  else if 9 * l ≤ 10 * wear then .warn
  else .below

/-- The place of a level in the order BELOW, WARN, END, HARD STOP (R2). -/
def levelRank (v : Level) : Nat := position levelList v

/-- The level is WARN or above (R2, R44). -/
def atLeastWarn : Option Level → Bool
  | some .warn | some .atEnd | some .hardStop => true
  | some .below | none => false

/-- The booking of the current occurrence (R113, R120). -/
def currentBooking (s : State) : Option Booking := s.room.current.bind fun o => s.room.bookings[o.id]

/-- A guard on the state of the blocks (Introduction, Guards; R168). -/
def guardHolds (s : State) : Guard → Bool
  | .none => true
  | .lampLit => isLit s.power.state
  | .lampDark => isDark s.power.state
  | .vacant => s.room.state == .vacant
  | .occupied => s.room.state == .occupied
  | .signal => s.router.state == .stable
  | .noSignal => s.router.state != .stable
  | .headPresent => s.link.state == .present

/-- The refusal test for an origin: the first condition that holds (R27). -/
def refusalTest (s : State) (o : Origin) : Option Reason :=
  if s.lamp.replaceInFlight then some .lampChangeInProgress
  else if s.lamp.level = some .hardStop && o != .service then some .lampExpired
  else if s.power.state = .fault then some .lampFault
  else if s.power.thermalHold then some .thermalHold
  else if s.link.state = .lost then some .headLost
  else none

/-- The permit set of a profile for a class; the classes outside profiles have none (R135). -/
def permitSet (f : Profile) : CommandClass → BitVec 2
  | .power => f.power
  | .lamp => f.lamp
  | .source => f.source
  | .geometry => f.geometry
  | .schedule => f.schedule
  | .settings => f.settings
  | .openClass | .lockout | .serviceOnly => 0

/-- A profile permits a role for a class (R135). -/
def profilePermits (f : Profile) (c : CommandClass) (p : Port) : Bool := (permitSet f c).getLsbD (position portList p)

/-- The active profile, and the effective override when present, both permit the role (R143); before the load completes
no profile is set and the rows read as refusing. -/
def profilesPermit (s : State) (c : CommandClass) (p : Port) : Bool :=
  match s.lockout.active with
  | none => false
  | some a => profilePermits s.lockout.profiles[a.number] c p &&
      (match s.lockout.effective with
       | none => true
       | some e => profilePermits s.lockout.profiles[e.profile] c p)

/-- The rows of the permission decision, the first that applies deciding; none is permitted (R143). -/
def permissionRows (s : State) (p : Port) (c : CommandClass) : Option Reason :=
  match p, c with
  | _, .openClass => none
  | .service, _ =>
    if s.lockout.mode = .commission || s.lockout.serviceEnabled then none else some .serviceDisabled
  | .facility, .lockout => none
  | .lectern, .lockout => some .notPermitted
  | .lectern, .serviceOnly => some .notPermitted
  | .facility, .serviceOnly => some .notPermitted
  | .facility, c =>
    if s.lockout.mode = .commission then none
    else if profilesPermit s c .facility then none else some .notPermitted
  | .lectern, c => if profilesPermit s c .lectern then none else some .notPermitted

/-- The permission decision with the LECTERN bar on STANDING scope (R143). -/
def permission (s : State) (p : Port) (c : CommandClass) (scope : Scope) : Option Reason :=
  if p = .lectern && scope = .standing then some .notPermitted else permissionRows s p c

/-- The load check: the load has completed, or the class is OPEN (R152). -/
def loadCheck (s : State) (c : CommandClass) : Bool := s.store.loaded || c == .openClass

end Sys2Proof.Machine
end

