-- ==== Sys2Proof/Machine/Operands.lean ====
section
/-! DEFINITION. The operands of a request: the length its parameters occupy, its qualifier word, its parameter items, and
the take order of R168 up to the owning block. -/

namespace Sys2Proof.Machine

/-! ## Answers (R168, R175) -/

def doneWith (data : List Word) : Answer :=
  { verdict := .done, reason := none, clamped := false, queued := false, data := data }

def done : Answer := doneWith []

/-- DONE with QUEUED, and with CLAMPED when a value was brought into range. -/
def doneQueued (clamped : Bool) (data : List Word) : Answer :=
  { verdict := .done, reason := none, clamped := clamped, queued := true, data := data }

def started (data : List Word) : Answer :=
  { verdict := .started, reason := none, clamped := false, queued := false, data := data }

def skipped : Answer := { verdict := .skipped, reason := none, clamped := false, queued := false, data := [] }

def refused (r : Reason) : Answer :=
  { verdict := .refused, reason := some r, clamped := false, queued := false, data := [] }

def malformed (r : Reason) : Answer :=
  { verdict := .malformed, reason := some r, clamped := false, queued := false, data := [] }

/-- The words of a response (R175). -/
def responseWords (r : Response) : List Word :=
  [BitVec.ofNat 8 (match r.answer.verdict with
      | .done => 0 | .started => 1 | .skipped => 2 | .refused => 3 | .malformed => 4) ++ r.code,
   (match r.answer.reason with
      | none => 0
      | some x => word (position reasonList x + 1)),
   word ((if r.answer.clamped then 1 else 0) + (if r.answer.queued then 2 else 0)),
   word r.answer.data.length] ++ r.answer.data

/-! ## The length of a request (R167, R176) -/

/-- The words of a text's characters (R176). -/
def textLength (count : Word) : Nat := (count.toNat + 1) / 2

/-- How many words the parameters of a command occupy, given the words received (R167, R176; log entry 8). -/
def paramLength (c : Command) (ps : List Word) : Nat :=
  match c with
  | .identify | .readNotices | .readLampAccount | .readLampHistory | .readPowerState | .readHeadLink | .readRoute
  | .readGeometry | .readRoom | .readLockout | .readStore | .countFree | .powerOn | .powerOff | .reapplyGeometry
  | .releaseRoom | .setInstallLock | .closeWindow | .storeWipe | .enableService | .disableService | .clearInstallLock
  | .clearFault | .leaveCommission | .restart => 0
  | .setDayBase | .readSourceMap | .readPreset | .readBooking | .readExceptions | .readOccurrences | .digest | .blank
  | .selectSource | .removeBooking | .extendBooking | .protectRegions | .unprotectRegions => 1
  | .readGeometryTable | .setLampMode | .loadPreset | .nudgeKeystone | .setAspect | .setOverride
  | .cancelOccurrence | .restoreOccurrence => 2
  | .setClock => 3
  | .setKeystone | .lampReplace => 4
  | .setCorner => 5
  | .setPortMode => 6
  | .setProfile => 7
  | .setRoomTimes => 8
  | .setInstallRecord | .lampSet => 12
  | .savePreset => 3 + (if itemAt ps 1 = 0 then textLength (itemAt ps 2) else 0)
  | .setSourceEntry => 10 + textLength (itemAt ps 1)
  | .addBooking => 17 + textLength (itemAt ps 16)
  | .changeBooking => 18 + textLength (itemAt ps 17)

/-- The frame is of good length (R167). -/
def goodLength (c : Command) (f : Frame) : Bool :=
  1 ≤ f.words.length && f.count.toNat == f.words.length && f.words.length ≤ 31 &&
    (f.words.drop 1).length == paramLength c (f.words.drop 1)

/-! ## The qualifier word (R169, R175) -/

/-- A qualifier found legal: effective scope, effective time form and guard (R169). -/
structure Qualifier where
  scope : Scope
  form : TimeForm
  guard : Guard
  deriving DecidableEq, Repr

/-- The effective scope of a scope field: DEFAULT takes the port's default (R169). -/
def effectiveScope (x : PortState) (field : Nat) : Scope :=
  if field = 1 then .momentary else if field = 2 then .standing else x.defaultScope

/-- The effective time form of a time form field (R112, R169). -/
def effectiveForm (x : PortState) (field : Nat) : TimeForm :=
  if field = 1 then .short else if field = 2 then .long else x.defaultForm

/-- A parameter of CLEAR in one of the commands of check 4 (R169). -/
def carriesClear (c : Command) (ps : List Word) : Bool :=
  match c with
  | .setLampMode | .loadPreset => itemAt ps 0 == 2
  | .setKeystone => itemAt ps 0 == 2 || itemAt ps 2 == 2
  | .setCorner => itemAt ps 1 == 2 || itemAt ps 3 == 2
  | _ => false

/-- The checks of the qualifier word, in the order of R169. -/
def qualify (c : Command) (x : PortState) (q : Word) (ps : List Word) : Except Reason Qualifier :=
  let scopeField := (q.extractLsb' 0 2).toNat
  let formField := (q.extractLsb' 2 2).toNat
  let scope := effectiveScope x scopeField
  let form := effectiveForm x formField
  if scopeField = 3 || formField = 3 || q.extractLsb' 7 9 ≠ 0 then .error .badQualifier
  else if scopeField ≠ 0 && !takesScope c then .error .badQualifier
  else if standingOnly c && scope = .momentary then .error .badQualifier
  else if carriesClear c ps && scope = .standing then .error .badQualifier
  else if formField ≠ 0 && !takesTimes c then .error .badQualifier
  else if longOnly c && form = .short then .error .badQualifier
  else if takesTimes c && form = .short && x.dayBase.isNone then .error .noDayBase
  else .ok { scope := scope, form := form, guard := valueAt guardList .none (q.extractLsb' 4 3).toNat }

/-! ## Parameter items (R168, R176) -/

/-- A choice item of a request (R176). -/
inductive Choice where
  | value (w : Word)
  | keep
  | clear
  | absent
  deriving DecidableEq, Repr

/-- The choice item at word `i`, none when its selector is not among those allowed (R168, R176). -/
def choiceAt (ps : List Word) (i : Nat) (allowed : List Nat) : Option Choice :=
  let n := numAt ps i
  if !allowed.contains n then none
  else if n = 0 then some (.value (itemAt ps (i + 1)))
  else if n = 1 then some .keep
  else if n = 2 then some .clear
  else some .absent

/-- The enumerated item at word `i`, none beyond its list (R168). -/
def enumAt {α : Type} (all : List α) (ps : List Word) (i : Nat) : Option α := all[numAt ps i]?

/-- The value of an enumerated word, none beyond its list (R168). -/
def enumOf {α : Type} (all : List α) (w : Word) : Option α := all[w.toNat]?

/-- A set word of `n` members, none with a bit beyond them (R168). -/
def setOf (n : Nat) (w : Word) : Option (BitVec n) := if w.toNat < 2 ^ n then some (w.setWidth n) else none

/-- A number below `n`, none otherwise. -/
def finOf (n : Nat) (k : Nat) : Option (Fin n) := if h : k < n then some ⟨k, h⟩ else none

/-- The text whose count stands at word `i`. -/
def textAt (ps : List Word) (i : Nat) : List Byte := unpackText (numAt ps i) (ps.drop (i + 1))

/-- A number brought to the nearest limit (Introduction, CLAMPED). -/
def clampNat (lo hi n : Nat) : Nat := max lo (min hi n)

/-- A signed number brought to the nearest limit. -/
def clampInt (lo hi i : Int) : Int := max lo (min hi i)

/-! ## The take order (R165, R166, R168) -/

/-- A select period that begins while the port is TAKING: its words are not read and data out carries 0x0000 (R165). -/
def disregardPeriod (p : Port) (whole : Nat) (s : State) : State :=
  setPort s p { portOf s p with dataOut := List.replicate whole 0 }

/-- The request frame is clocked in and ends: a response held is discarded, data out carries 0x0000, and the port is
TAKING (R165, R166). DESIGN CHOICE: it carries 0x0000 while the header word goes in, too (log entry 35). -/
def beginFrame (p : Port) (whole : Nat) (s : State) : State :=
  setPort s p { portOf s p with
    transfer := .taking, response := none, deciding := none, dataOut := List.replicate whole 0 }

/-- The answer decided for the request being taken (R166, R168). -/
def decideAnswer (p : Port) (code : Byte) (a : Answer) (s : State) : State :=
  setPort s p { portOf s p with deciding := some { code := code, answer := a } }

/-- Steps 2 to 6 of the take order: the answer of the first that fails, or the qualifier (R168). -/
def admission (c : Command) (p : Port) (f : Frame) (s : State) : Except Answer Qualifier :=
  if !goodLength c f then .error (malformed .badLength)
  else match qualify c (portOf s p) (itemAt f.words 0) (f.words.drop 1) with
    | .error r => .error (malformed r)
    | .ok q => match permission s p (commandClass c) q.scope with
      | some r => .error (refused r)
      | none =>
        if !loadCheck s (commandClass c) then .error (refused .wrongState)
        else if !guardHolds s q.guard then .error skipped
        else .ok q

/-- A request: disregarded while the port is TAKING, else taken by the take order, its owning block's checks and effect
given by `own` (R165, R168). -/
def request (c : Command) (p : Port) (f : Frame) (own : Qualifier → List Word → State → Answer × State) (s : State) :
    State :=
  if (portOf s p).transfer = .taking then disregardPeriod p (f.words.length + 1) s
  else
    match admission c p f (beginFrame p (f.words.length + 1) s) with
    | .error a => decideAnswer p (commandCode c) a (beginFrame p (f.words.length + 1) s)
    | .ok q =>
      decideAnswer p (commandCode c) (own q (f.words.drop 1) (beginFrame p (f.words.length + 1) s)).1
        (own q (f.words.drop 1) (beginFrame p (f.words.length + 1) s)).2

/-- The answer of a block whose check fails: nothing changes (R168). -/
def refuse (r : Reason) (s : State) : Answer × State := (refused r, s)

end Sys2Proof.Machine
end

