-- ==== Sys2Proof/Machine/Mode.lean ====
section
/-! DEFINITION. The effective lamp mode and the shutter (sections 2.6 and 2.7). -/

namespace Sys2Proof.Machine

/-- The lamp mode that the current booking names, in PREPARING and OCCUPIED (R44). -/
def bookingMode (s : State) : Option LampMode :=
  if s.room.state = .vacant then none
  else match currentBooking s with
    | some b => match b.lampMode with
      | .normal => some .normal
      | .eco => some .eco
      | .roomDefault => none
    | none => none

/-- The effective lamp mode with the cause that decides it (R44, R49). -/
def decideMode (s : State) : LampMode × ModeCause :=
  if atLeastWarn s.lamp.level then (.eco, .level)
  else if s.power.dimmed then (.eco, .blankDim)
  else match s.power.momentaryMode with
    | some m => (m, .momentary)
    | none => match bookingMode s with
      | some m => (m, .booking)
      | none => (s.store.room.lampMode, .roomDefault)

/-- The mode becomes `m` and LAMP MODE is handed to the head link; NORMAL while the lamp is lit marks the burn second in
progress (R4, R44). -/
def applyMode (m : LampMode) (s : State) : State :=
  handControl (.lampMode m)
    { s with power := { s.power with effectiveMode := m }
             lamp := { s.lamp with normalSeen := s.lamp.normalSeen || (isLit s.power.state && m == .normal) } }

/-- The evaluation of the mode when one of its inputs changes; before the first evaluation the mode is held NORMAL
(R44). -/
def evalLampMode (s : State) : State :=
  if s.power.modeEvaluated && (decideMode s).1 != s.power.effectiveMode then applyMode (decideMode s).1 s else s

/-- The first evaluation after a reset, at adoption or load completion, whichever is later; its result is sent even if
it is NORMAL (R44). -/
def firstEvaluation (s : State) : State :=
  if s.power.modeEvaluated || !s.store.loaded || s.power.state = .unknown then s
  else applyMode (decideMode s).1 { s with power := { s.power with modeEvaluated := true } }

/-- The blank-dim delay in ms (R47). -/
def blankDimDelay (s : State) : Nat := s.store.room.blankDim * 60000

/-- The closed shutter's time exceeds the delay; with a delay of 0 from the moment of closing (R47). -/
def exceedsDelay (delay run : Nat) : Bool := delay = 0 || delay < run

/-- The time already run is compared with the delay now in force (R47). -/
def compareBlankDim (s : State) : State :=
  match s.power.blankDim with
  | none => s
  | some t => evalLampMode { s with power := { s.power with dimmed := exceedsDelay (blankDimDelay s) t } }

/-- The shutter held becomes CLOSED for a reason and the blank-dim timer starts (R47). -/
def holdClosed (reason : Shutter) (s : State) : State :=
  { s with power := { s.power with
      shutter := some reason, blankDim := some 0, dimmed := exceedsDelay (blankDimDelay s) 0 } }

/-- The shutter held becomes OPEN and the blank-dim timer stops (R47). -/
def holdOpen (s : State) : State :=
  { s with power := { s.power with shutter := some .opened, blankDim := none, dimmed := false } }

/-- CLOSE, with reason MANUAL: from OPEN, or before any shutter is held, with its message; from AUTO only the reason
changes (R46). -/
def closeManual (s : State) : State :=
  match s.power.shutter with
  | none | some .opened => evalLampMode (handControl (.shutter true) (holdClosed .closedManual s))
  | some .closedAuto => { s with power := { s.power with shutter := some .closedManual } }
  | some .closedManual => s

/-- OPEN, whatever the earlier reason, with its message when the shutter was not OPEN (R46). -/
def openShutter (s : State) : State :=
  match s.power.shutter with
  | some .opened => s
  | none | some .closedManual | some .closedAuto => evalLampMode (handControl (.shutter false) (holdOpen s))

/-- The closure of the no-signal rule: only from OPEN (R48). -/
def closeAuto (s : State) : State :=
  match s.power.shutter with
  | some .opened => evalLampMode (handControl (.shutter true) (holdClosed .closedAuto s))
  | none | some .closedManual | some .closedAuto => s

/-- The route has entered STABLE: a shutter closed with reason AUTO is reopened (R48, R85). -/
def routeStable (s : State) : State :=
  match s.power.shutter with
  | some .closedAuto => openShutter s
  | none | some .opened | some .closedManual => s

/-- The shutter position held, as a message of the head link carries it (R51). -/
def shutterIsClosed : Shutter → Bool
  | .opened => false
  | .closedManual | .closedAuto => true

end Sys2Proof.Machine
end

