-- ==== Sys2Proof/Machine/Lamp.lean ====
section
/-! DEFINITION. The Lamp Account Unit: burn seconds, strikes, levels, checkpoints, history and the load (chapter 1). -/

namespace Sys2Proof.Machine

/-! ## Checkpoint requests (R10, R11, R15) -/

/-- A checkpoint request of the unit itself: a mark in the tally before the load, discarded while a replacement is in
flight, else a snapshot of the live account queued with origin AUTO, the cadence counter back to 0 (R10, R11, R15). -/
def checkpointRequest (s : State) : State :=
  match s.lamp.account with
  | none => { s with lamp := { s.lamp with tally := { s.lamp.tally with requestWaiting := true } } }
  | some _ =>
    if s.lamp.replaceInFlight then s
    else queueLive .lampCheckpoint .auto { s with lamp := { s.lamp with cadence := 0 } }

/-! ## Levels (R2, R7, R9) -/

/-- The live rated limit L (R2, R9). -/
def liveLimit (s : State) : Nat := ratedLimit s.store.install.ratedLife

/-- The percentage of R8, in tenths, formed exactly. -/
def percentage (wear l : Nat) : Nat := wear * 1000 / l

/-- LAMP THRESHOLD: the new level, and the percentage held at 65535 (R7). -/
def postThreshold (v : Level) (wear : Nat) (s : State) : State :=
  post .lampThreshold .auto (some (word (levelRank v))) (some (heldWord (percentage wear (liveLimit s)))) s

/-- The level has come to `v`: a level crossed upward posts LAMP THRESHOLD and, where `ask` says so, makes a checkpoint
request; a fall posts nothing; the lamp mode is then evaluated (R7, R21, R44). -/
def levelBecomes (ask : Bool) (old : Option Level) (v : Level) (wear : Nat) (s : State) : State :=
  let t := { s with lamp := { s.lamp with level := some v } }
  match old with
  | none => t
  | some o =>
    if levelRank o < levelRank v then
      evalLampMode (if ask then checkpointRequest (postThreshold v wear t) else postThreshold v wear t)
    else evalLampMode t

/-- The level is evaluated again after a change of the wear or of L (R2, R7, R9). -/
def relevelAsking (ask : Bool) (s : State) : State :=
  match s.lamp.account with
  | none => s
  | some a => levelBecomes ask s.lamp.level (levelOf a.wear (liveLimit s)) a.wear s

/-- As `relevelAsking`, with the checkpoint request of R7. -/
def relevel (s : State) : State := relevelAsking true s

/-! ## Burn seconds (R3, R4) -/

/-- The wear of a burn second: 3 units at the NORMAL rate, 2 at the ECO rate (R4). -/
def burnWear (normal : Bool) : Nat := if normal then 3 else 2

/-- The additions of a burn second to the account (R3). -/
def accountSecond (normal : Bool) (a : Account) : Account :=
  { a with
    wear := satAdd a.wear (burnWear normal)
    secNormal := satAdd a.secNormal (if normal then 1 else 0)
    secEco := satAdd a.secEco (if normal then 0 else 1)
    totalSeconds := satAdd a.totalSeconds 1 }

/-- The additions of a burn second to the tally (R15). -/
def tallySecond (normal : Bool) (t : Tally) : Tally :=
  { t with
    wear := satAdd t.wear (burnWear normal)
    secNormal := satAdd t.secNormal (if normal then 1 else 0)
    secEco := satAdd t.secEco (if normal then 0 else 1) }

/-- The cadence counter advances, and at 900 makes a checkpoint request (R3, R10). -/
def advanceCadence (s : State) : State :=
  let t := { s with lamp := { s.lamp with cadence := s.lamp.cadence + 1 } }
  if 900 ≤ s.lamp.cadence + 1 then checkpointRequest t else t

/-- One burn second is charged, counted and cadenced, and the level evaluated; before the load it goes to the tally and
the cadence counter stands (R3, R4, R15). -/
def chargeSecond (s : State) : State :=
  match s.lamp.account with
  | none => { s with lamp := { s.lamp with tally := tallySecond s.lamp.normalSeen s.lamp.tally } }
  | some a =>
    relevel (advanceCadence { s with lamp := { s.lamp with account := some (accountSecond s.lamp.normalSeen a) } })

/-- A condition of R4 holds now. -/
def normalNow (s : State) : Bool := s.power.state == .warming || s.power.effectiveMode == .normal

/-- A burn second begins: the burn timer at 0, judged from the conditions that hold now (R3, R4). -/
def beginSecond (s : State) : State := { s with lamp := { s.lamp with burn := some 0, normalSeen := normalNow s } }

/-- The lamp stops being held lit: a burn timer above 0 completes a final burn second at once and stops (R3). -/
def endBurn (s : State) : State :=
  let stop := fun (t : State) => { t with lamp := { t.lamp with burn := none, normalSeen := false } }
  match s.lamp.burn with
  | none => s
  | some 0 => stop s
  | some (_ + 1) => stop (chargeSecond s)

/-! ## Strikes (R5, R6) -/

/-- The wear of a strike (R5). -/
def strikeWear (hot : Bool) : Nat := if hot then 3600 else 1800

/-- A strike is counted, hot while the hot-window timer runs (R5, R15). -/
def countStrike (s : State) : State :=
  let hot := s.lamp.hotWindow.isSome
  match s.lamp.account with
  | none => { s with lamp := { s.lamp with tally := { s.lamp.tally with
      wear := satAdd s.lamp.tally.wear (strikeWear hot)
      coldStrikes := satAdd s.lamp.tally.coldStrikes (if hot then 0 else 1)
      hotStrikes := satAdd s.lamp.tally.hotStrikes (if hot then 1 else 0) } } }
  | some a => relevel { s with lamp := { s.lamp with account := some { a with
      wear := satAdd a.wear (strikeWear hot)
      coldStrikes := satAdd a.coldStrikes (if hot then 0 else 1)
      hotStrikes := satAdd a.hotStrikes (if hot then 1 else 0)
      totalStrikes := satAdd a.totalStrikes 1 } } }

/-- A failed strike is counted and the level evaluated (R6, R15). -/
def countFailed (s : State) : State :=
  match s.lamp.account with
  | none => { s with lamp := { s.lamp with tally := { s.lamp.tally with
      failedStrikes := satAdd s.lamp.tally.failedStrikes 1 } } }
  | some a => relevel { s with lamp := { s.lamp with account := some { a with
      failedStrikes := satAdd a.failedStrikes 1 } } }

/-- The lamp's failed-strike count, before the load the tally's (R35). -/
def failedCount (s : State) : Nat :=
  match s.lamp.account with
  | some a => a.failedStrikes
  | none => s.lamp.tally.failedStrikes

/-! ## The lamp history (R16) -/

/-- A push: nothing when the serial is first; else the summary goes first, an entry of the same serial goes, and a fifth
is removed (R16). -/
def pushSummary (h : List Summary) (x : Summary) : List Summary :=
  match h with
  | [] => [x]
  | y :: r => if y.serial = x.serial then h else (x :: (y :: r).filter (fun z => z.serial != x.serial)).take 4

/-- A push; when it changes the list, the LAMP HISTORY record is queued where a place is free (R16). -/
def pushHistory (x : Summary) (o : Origin) (s : State) : State :=
  let h := pushSummary s.lamp.history x
  if h = s.lamp.history then s else queueOwn .lampHistory o { s with lamp := { s.lamp with history := h } }

/-! ## Replacement and setting (R19 to R21) -/

/-- The summary of the outgoing lamp (R16, R19). -/
def summaryOf (a : Account) (removed : Option Nat) : Summary :=
  { serial := a.serial, burnSeconds := satAdd a.secNormal a.secEco, strikes := satAdd a.coldStrikes a.hotStrikes
    finalWear := a.wear, removedDay := removed }

/-- The replacement content: the new lamp, today's day and the outgoing lamp's summary (R19). -/
def replacementAccount (a : Account) (serial : Nat) (today : Option Nat) : Account :=
  { serial := serial, installedDay := today, wear := 0, secNormal := 0, secEco := 0, coldStrikes := 0, hotStrikes := 0
    failedStrikes := 0, totalSeconds := a.totalSeconds, totalStrikes := a.totalStrikes, verified := true
    previous := some (summaryOf a today) }

/-- A checkpoint request with the content of LAMP REPLACE or LAMP SET, origin SERVICE; the flag is set (R19, R21). -/
def queueSwitch (kind : SwitchKind) (content : Account) (s : State) : State :=
  queueEntry { key := .lampCheckpoint, image := accountImage content, origin := .service, switch := some kind }
    { s with lamp := { s.lamp with cadence := 0, replaceInFlight := true } }

/-- The switch at the write completion of a LAMP REPLACE or LAMP SET content (R20, R21). -/
def makeSwitch (kind : SwitchKind) (a : Account) (s : State) : State :=
  let t := relevelAsking false
    { s with lamp := { s.lamp with account := some a, cadence := 0, replaceInFlight := false } }
  match kind with
  | .set => t
  | .replace =>
    let u := match a.previous with
      | some x => pushHistory x .service t
      | none => t
    postTo (some .service) .lampReplaced .service (some (word (a.serial / 65536))) (some (word a.serial)) u

/-! ## The load (R12 to R17) -/

/-- Sequence number `a` is newer than `b` (R12). -/
def newer (a b : Nat) : Bool :=
  if a < 4 && 4294967291 < b then true
  else if b < 4 && 4294967291 < a then false
  else b < a

/-- The newer of the newest so far and slot `i`, which counts when it is valid (R12, R13). -/
def newestOf (slots : Vector StoredRecord 4) (best : Option (Fin 4 × Nat)) (i : Fin 4) : Option (Fin 4 × Nat) :=
  if validRecord slots[i] then
    match best with
    | none => some (i, slotSequence slots[i].image)
    | some (j, n) => if newer (slotSequence slots[i].image) n then some (i, slotSequence slots[i].image) else some (j, n)
  else best

/-- The newest valid slot with its sequence number (R12, R13). -/
def newestSlot (slots : Vector StoredRecord 4) : Option (Fin 4 × Nat) :=
  (List.finRange 4).foldl (newestOf slots) none

/-- The UNVERIFIED account, its wear equal to L (R14). -/
def unverifiedAccount (l : Nat) : Account :=
  { serial := 0, installedDay := none, wear := l, secNormal := 0, secEco := 0, coldStrikes := 0, hotStrikes := 0
    failedStrikes := 0, totalSeconds := 0, totalStrikes := 0, verified := false, previous := none }

/-- The account of the newest valid slot, or the UNVERIFIED account, becomes live; the level is evaluated without
notice, and an account that is UNVERIFIED is told of (R13, R14). -/
def loadAccount (s : State) : State :=
  let newest := newestSlot s.store.slots
  let a := match newest with
    | some (i, _) => accountOf (slotAccount s.store.slots[i].image)
    | none => unverifiedAccount (liveLimit s)
  let t := { s with lamp := { s.lamp with
    account := some a, newest := newest, level := some (levelOf a.wear (liveLimit s)) } }
  if a.verified then t
  else post .lampAccountUnverified .auto (some (word (s.store.install.ratedLife / 100))) none t

/-- History completion (R17). DESIGN CHOICE: the write it queues has origin AUTO, where R16 and R17 give none (log entry
28). -/
def completeHistory (s : State) : State :=
  match s.lamp.account with
  | some a => match a.previous with
    | some x => pushHistory x .auto s
    | none => s
  | none => s

/-- The tally holds nothing and its mark is clear (R15). -/
def tallyIsEmpty (t : Tally) : Bool := t == Tally.empty

/-- The tally's addition to the account, each counter saturating (R15). -/
def addTally (t : Tally) (a : Account) : Account :=
  { a with
    wear := satAdd a.wear t.wear
    secNormal := satAdd a.secNormal t.secNormal
    secEco := satAdd a.secEco t.secEco
    coldStrikes := satAdd a.coldStrikes t.coldStrikes
    hotStrikes := satAdd a.hotStrikes t.hotStrikes
    failedStrikes := satAdd a.failedStrikes t.failedStrikes
    totalSeconds := satAdd a.totalSeconds (t.secNormal + t.secEco)
    totalStrikes := satAdd a.totalStrikes (t.coldStrikes + t.hotStrikes) }

/-- The tally is added as one addition, the level evaluated, one checkpoint request made, and the tally cleared (R15). -/
def applyTally (s : State) : State :=
  match s.lamp.account with
  | none => s
  | some a =>
    if tallyIsEmpty s.lamp.tally then s
    else
      let t := relevel { s with lamp := { s.lamp with account := some (addTally s.lamp.tally a) } }
      checkpointRequest { t with lamp := { t.lamp with tally := Tally.empty } }

/-- The Lamp Account Unit's part of load completion, in order (R13, R17, R15). -/
def loadLamp (s : State) : State := applyTally (completeHistory (loadAccount s))

end Sys2Proof.Machine
end

