-- ==== Sys2Proof/Machine/Power.lean ====
section
/-! DEFINITION. The Power Sequencer: changes of the power state, requests, the strike sequence, cooling, the head's reports
and its absence (chapter 2, sections 2.1 to 2.5 and 2.7), with the no-signal timer, which follows the power state. -/

namespace Sys2Proof.Machine

/-! ## The no-signal timer (R84) -/

/-- The no-signal timeout in ms (R84). -/
def noSignalTimeout (s : State) : Nat := s.store.room.noSignal * 60000

/-- The two conditions of R84; before the first resolution the timer does not run (R77). -/
def noSignalHolds (s : State) : Bool := s.router.resolved && s.router.state == .noSignal && s.power.state == .on

/-- The timer after a change of the route state or the power state, given whether the conditions held before: it starts
from the full timeout when they become true together and stops when one of them fails (R84). -/
def syncNoSignal (held : Bool) (s : State) : State :=
  { s with router := { s.router with
      noSignal :=
        if noSignalHolds s then
          if held then s.router.noSignal
          else if noSignalTimeout s = 0 then none else some (noSignalTimeout s)
        else none } }

/-! ## Changes of the power state (R24, R26, R37) -/

/-- The word of a reason, none included, in a notice (R26, R177). -/
def reasonWord (r : Option Reason) : Word :=
  match r with
  | none => noneWord
  | some x => word (position reasonList x)

/-- The state is entered: the timers of the other states stop, those of WARMING and COOLING start, and the attempt
count stands in IGNITING and FAULT alone (R24, R25, R32, R37). -/
def placePower (dest : PowerState) (rec : InstallRecord) (u : PowerUnit) : PowerUnit :=
  { u with
    state := dest
    attempt := (match dest with | .igniting | .fault => u.attempt | _ => 0)
    strikeTimer := if dest = .igniting then u.strikeTimer else none
    pauseTimer := if dest = .igniting then u.pauseTimer else none
    warmingTimer := if dest = .warming then some (rec.warmingTime * 1000) else none
    coolingTimer := if dest = .cooling then some (rec.coolingTime * 1000) else none }

/-- The length of the hot window in ms (R5). -/
def hotWindowLength : Nat := 1800000

/-- Entry to COOLING starts the hot-window timer and then makes a checkpoint request (R5, R10, R37). -/
def enteredCooling (s : State) : State :=
  checkpointRequest { s with lamp := { s.lamp with hotWindow := some hotWindowLength } }

/-- The power state becomes `dest`, with the burn timer's two edges, the cooling entry and the no-signal timer. -/
def enterPower (dest : PowerState) (s : State) : State :=
  let a := if isLit s.power.state && !isLit dest then endBurn s else s
  let b := { a with power := placePower dest a.store.install a.power }
  let c := if !isLit s.power.state && isLit dest then beginSecond b else b
  let d := if dest = .cooling then enteredCooling c else c
  syncNoSignal (noSignalHolds s) d

/-- A change of power state with its notice: origin, the states left and entered, the reason or none (R26). -/
def setPower (dest : PowerState) (origin : Origin) (reason : Option Reason) (s : State) : State :=
  postFor .powerStateChanged origin
    (some (pairWord (position powerStateList s.power.state) (position powerStateList dest)))
    (some (reasonWord reason)) (enterPower dest s)

/-- Every intent and the ignition origin cleared. -/
def clearIntents (u : PowerUnit) : PowerUnit :=
  { u with restartPending := false, offPending := false, ignitionOrigin := none, offOrigin := none }

/-- Entry to STANDBY or COOLING with no intent left (R29, R31, R33, R34, R36, R37, R40, R43). -/
def settleDark (dest : PowerState) (origin : Origin) (reason : Option Reason) (s : State) : State :=
  setPower dest origin reason { s with power := clearIntents s.power }

/-- The origin of the present strike sequence or restart pending. -/
def ignitionOf (s : State) : Origin := s.power.ignitionOrigin.getD .auto

/-- The origin of the off pending. -/
def offOf (s : State) : Origin := s.power.offOrigin.getD .auto

/-! ## POWER REQUEST REFUSED (R132) -/

/-- POWER REQUEST REFUSED: the reason and the current booking id (R132). -/
def postPowerRefused (r : Reason) (s : State) : State :=
  post .powerRequestRefused .schedule (some (word (position reasonList r)))
    (some (match s.room.current with | some o => word o.id.val | none => noneWord)) s

/-- The runner is told of a dropped restart pending or sequence of origin SCHEDULE (R132). DEDUCED: where it is used, POWER
STATE CHANGED comes first and POWER REQUEST REFUSED after it (R34, R37, R42; log entry 20). -/
def tellDropped (o : Origin) (r : Reason) (s : State) : State := if o = .schedule then postPowerRefused r s else s

/-! ## The strike sequence (R30 to R35) -/

/-- An attempt begins: IGNITE is handed to the control lane and the step is SENDING (R30). -/
def beginAttempt (n : Nat) (s : State) : State :=
  handControl .ignite { s with power := { s.power with attempt := n, step := .sending } }

/-- A strike sequence begins with attempt 1 for an origin; restart pending is cleared (R28, R30, R37). -/
def beginSequence (o : Origin) (s : State) : State :=
  setPower .igniting o none
    (beginAttempt 1 { s with power := { clearIntents s.power with ignitionOrigin := some o } })

/-- The head has acknowledged the IGNITE with ACK OK: the strike is counted, and the step becomes AWAITING RESULT with
its timer at 10 s; in UNKNOWN the acknowledgement is disregarded (R5, R30, R41). -/
def igniteAccepted (s : State) : State :=
  if s.power.state = .unknown then s
  else if s.power.state = .igniting && s.power.step == .sending then
    countStrike { s with power := { s.power with step := .awaitingResult, strikeTimer := some 10000 } }
  else countStrike s

/-- The head has rejected the IGNITE: the sequence ends in STANDBY (R31). DEDUCED: told with the ignition origin (R26; log
entry 20). -/
def igniteRejected (s : State) : State :=
  if s.power.state = .igniting then
    settleDark .standby (ignitionOf s) none
      (postFor .igniteRefusedByHead (ignitionOf s) (some (word s.power.attempt)) none s)
  else s

/-- The attempt succeeds: WARMING (R32). DEDUCED: the change is told with the ignition origin, as the request that R28
has it report, not with AUTO (R26; log entry 20). -/
def attemptSucceeds (s : State) : State := setPower .warming (ignitionOf s) none s

/-- Entry to FAULT, with its notice; the ignition origin then becomes none (R35). DEDUCED: the change of state is told with
the ignition origin, as FAULT is (R26; log entry 20). -/
def enterFault (s : State) : State :=
  let t := setPower .fault (ignitionOf s) none s
  let u := postFor .fault (ignitionOf s) (some (heldWord (failedCount s))) none t
  { u with power := clearIntents u.power }

/-- The attempt fails, by a FAIL result or by the timeout; the failure is counted and told of, and the sequence ends,
pauses or faults (R6, R33). -/
def attemptFails (timeout : Bool) (s : State) : State :=
  let t := postFor .strikeFailed (ignitionOf s) (some (word s.power.attempt)) (some (if timeout then 1 else 0)) (countFailed s)
  if s.power.offPending then
    settleDark .standby (offOf s) (if s.power.thermalHold then some .thermalHold else none) t
  else if s.power.attempt < 3 then
    { t with power := { t.power with step := .pause, strikeTimer := none, pauseTimer := some 20000 } }
  else enterFault t

/-- A STRIKE RESULT by strike step (R30, R32, R33). -/
def strikeResultTaken (ok : Bool) (s : State) : State :=
  match s.power.step, ok with
  | .sending, _ => s
  | .awaitingResult, true => attemptSucceeds s
  | .pause, true => attemptSucceeds s
  | .awaitingResult, false => attemptFails false s
  | .pause, false => s

/-- The re-strike pause ends: the next attempt, or STANDBY with the refusal's reason (R34). -/
def pauseEnds (s : State) : State :=
  let t := { s with power := { s.power with pauseTimer := none } }
  match refusalTest s (ignitionOf s) with
  | none => beginAttempt (s.power.attempt + 1) t
  | some r => tellDropped (ignitionOf s) r (settleDark .standby (ignitionOf s) (some r) t)

/-! ## Requests (R28, R29, R41) -/

/-- The head may be awaited: PRESENT, or AWAITING with the report wait running (R41). -/
def headMayCome (s : State) : Bool :=
  s.link.state == .present || (s.link.state == .awaiting && s.power.reportWait.isSome)

/-- A POWER ON that clears off pending; an origin of SERVICE becomes the ignition origin (R28). -/
def keepLit (o : Origin) (s : State) : State :=
  { s with power := { s.power with
      offPending := false, offOrigin := none
      ignitionOrigin := if o = .service then some .service else s.power.ignitionOrigin } }

/-- Restart pending set for an origin (R28, R41). -/
def setRestart (o : Origin) (s : State) : State :=
  { s with power := { s.power with
      restartPending := true, offPending := false, offOrigin := none, ignitionOrigin := some o } }

/-- POWER ON by power state (R28, R41). DEDUCED: R40 has POWER ON refused while thermal hold is set and names R27 for it,
so that refusal falls where R28 makes the test of R27, in STANDBY and COOLING; elsewhere R28's table stands (log entry
30). In ON off pending is cleared (log entry 11). -/
def powerOn (o : Origin) (s : State) : Answer × State :=
  match s.power.state with
  | .unknown => if headMayCome s then (started [], setRestart o s) else refuse .headLost s
  | .standby => match refusalTest s o with
    | none => (started [], beginSequence o s)
    | some r => refuse r s
  | .igniting | .warming | .on => (done, keepLit o s)
  | .cooling => match refusalTest s o with
    | none => (started [], setRestart o s)
    | some r => refuse r s
  | .fault => refuse .lampFault s

/-- Off pending set for an origin (R29). -/
def setOff (o : Origin) (s : State) : State :=
  { s with power := { s.power with offPending := true, offOrigin := some o } }

/-- EXTINGUISH is handed over and the state becomes COOLING (R29, R36, R40, R43). -/
def putOut (o : Origin) (s : State) : State := settleDark .cooling o none (handControl .extinguish s)

/-- POWER OFF by power state (R29, R41). -/
def powerOff (o : Origin) (s : State) : Answer × State :=
  match s.power.state with
  | .unknown => (started [], setOff o { s with power := { s.power with restartPending := false, ignitionOrigin := none } })
  | .standby | .fault => (done, s)
  | .igniting => if s.power.step = .pause then (done, settleDark .standby o none s) else (started [], setOff o s)
  | .warming => (started [], setOff o s)
  | .on => (started [], if s.link.state = .lost then setOff o s else putOut o s)
  | .cooling => (done, { s with power := { s.power with restartPending := false, ignitionOrigin := none } })

/-- POWER ON of origin SCHEDULE: a refusal is told of (R132). -/
def schedulePowerOn (s : State) : State :=
  match powerOn .schedule s with
  | (a, t) => match a.reason with
    | some r => postPowerRefused r t
    | none => t

/-- POWER OFF of origin SCHEDULE (R132). -/
def schedulePowerOff (s : State) : State := (powerOff .schedule s).2

/-! ## Warming and cooling (R36, R37) -/

/-- The warming timer expires (R36). DEDUCED: the change into ON is told with the ignition origin, as the request that R28
has it report (R26; log entry 20). -/
def warmingEnds (s : State) : State :=
  if s.power.offPending && s.link.state != .lost then putOut (offOf s) s
  else setPower .on (ignitionOf s) none s

/-- The cooling timer expires (R37). -/
def coolingEnds (s : State) : State :=
  if s.power.restartPending then
    match refusalTest s (ignitionOf s) with
    | none => beginSequence (ignitionOf s) s
    | some r => tellDropped (ignitionOf s) r (settleDark .standby (ignitionOf s) (some r) s)
  else settleDark .standby .auto none s

/-! ## The head's REPORT (R32, R38 to R40, R42, R43, R46) -/

/-- Thermal hold is set, or cleared, with its notice (R40). -/
def markThermal (b : Bool) (s : State) : State :=
  post .thermalHold .auto (some (markWord b)) none { s with power := { s.power with thermalHold := b } }

/-- The state that a REPORT adopts (R42). -/
def adoptedState (r : Report) : PowerState :=
  if r.temperature = .over then .cooling
  else match r.lamp with
    | .lit => .on
    | .striking => .warming
    | .dark => if r.hot then .cooling else .standby

/-- The shutter of the first REPORT, unless a BLANK has been taken since the reset (R42, R47). -/
def adoptShutter (closed : Bool) (s : State) : State :=
  if s.power.shutter.isSome then s else if closed then holdClosed .closedManual s else holdOpen s

/-- An ON intent held in STANDBY meets the refusal test once the load has completed (R41, R42). -/
def applyOnInStandby (s : State) : State :=
  if s.power.state = .standby && s.power.restartPending && s.store.loaded then
    match refusalTest s (ignitionOf s) with
    | none => beginSequence (ignitionOf s) s
    | some r => tellDropped (ignitionOf s) r (settleDark .standby (ignitionOf s) (some r) s)
  else s

/-- The intent held is applied in the adopted state (R42). -/
def applyIntent (s : State) : State :=
  if s.power.restartPending then
    match s.power.state with
    | .on | .warming => { s with power := { s.power with
        restartPending := false
        ignitionOrigin := if s.power.ignitionOrigin = some .service then some .service else none } }
    | .standby => applyOnInStandby s
    | .unknown | .igniting | .cooling | .fault => s
  else if s.power.offPending then
    match s.power.state with
    | .on => (powerOff (offOf s) { s with power := { s.power with offPending := false, offOrigin := none } }).2
    | .cooling | .standby => { s with power := { s.power with offPending := false, offOrigin := none } }
    | .unknown | .igniting | .warming | .fault => s
  else s

/-- A burn that adoption begins is judged by the lamp mode evaluated at the same moment (R4, R44). -/
def restartSecond (s : State) : State := if isLit s.power.state then beginSecond s else s

/-- Adoption of the first REPORT in UNKNOWN (R42). -/
def adopt (r : Report) (s : State) : State :=
  let a := adoptShutter r.shutterClosed s
  let b := if r.temperature = .over then markThermal true a else a
  applyIntent (restartSecond (firstEvaluation (setPower (adoptedState r) .auto none b)))

/-- R32 for a REPORT: LIT in AWAITING RESULT or PAUSE. -/
def reportStrike (r : Report) (s : State) : State :=
  if s.power.state = .igniting && s.power.step != .sending && r.lamp == .lit then attemptSucceeds s else s

/-- Lamp out: DARK in WARMING or ON (R38); a REPORT of OVER is handled by R40. -/
def reportLampOut (r : Report) (s : State) : State :=
  if isLit s.power.state && r.lamp == .dark && r.temperature != .over then
    let restart := s.room.state == .occupied && !s.power.offPending
    let t := settleDark .cooling .auto none
      (post .lampOut .auto (some (word (position powerStateList s.power.state))) (some (markWord restart)) s)
    if restart then setRestart .auto t else t
  else s

/-- The lamp burns against the record: EXTINGUISH unless one is queued or outstanding (R39). -/
def reportBurning (r : Report) (s : State) : State :=
  if (s.power.state == .standby || s.power.state == .cooling || s.power.state == .fault) && r.lamp != .dark
      && !controlInHand s .extinguish then handControl .extinguish s
  else s

/-- The effect of OVER by power state (R40). DEDUCED: a change of WARMING or ON is told with AUTO, as the head causes it, and
an abandoned pause with the ignition origin (R26; log entry 20). -/
def overheated (s : State) : State :=
  match s.power.state with
  | .warming | .on => putOut .auto s
  | .igniting =>
    if s.power.step = .pause then settleDark .standby (ignitionOf s) (some .thermalHold) s
    else if s.power.offPending then s else setOff .auto s
  | .unknown | .standby | .cooling | .fault => s

/-- Thermal hold by the temperature field (R40). -/
def reportThermal (r : Report) (s : State) : State :=
  match r.temperature with
  | .over => overheated (if s.power.thermalHold then s else markThermal true s)
  | .ok =>
    if s.power.thermalHold && (s.power.state == .standby || s.power.state == .fault || s.power.state == .unknown) then
      markThermal false s
    else s
  | .warm => s

/-- The deferred extinguish (R43). -/
def reportDeferred (r : Report) (s : State) : State :=
  if s.power.state = .on && s.power.offPending && r.lamp != .dark then putOut (offOf s) s else s

/-- The shutter held is handed again when the head shows another and none is in hand (R46). -/
def reportShutter (r : Report) (s : State) : State :=
  match s.power.shutter with
  | none => s
  | some h =>
    if shutterIsClosed h != r.shutterClosed && !controlInHand s .shutter then handControl (.shutter (shutterIsClosed h)) s
    else s

/-- The Power Sequencer's part of a REPORT, in the order of R64. -/
def powerReport (r : Report) (s : State) : State :=
  reportShutter r
    (if s.power.state = .unknown then adopt r s
     else reportDeferred r (reportThermal r (reportBurning r (reportLampOut r (reportStrike r s)))))

/-! ## Loss of the head (R6, R43) -/

/-- The failed strike of an attempt cut off by the loss, by strike step (R6). -/
def countLost (s : State) : State :=
  match s.power.step with
  | .sending => countFailed (countStrike s)
  | .awaitingResult => countFailed s
  | .pause => s

/-- Entry to LOST: a strike sequence ends in COOLING; the other states stay (R43). DEDUCED: told with the ignition origin
(R26; log entry 20). -/
def powerLinkLost (s : State) : State :=
  if s.power.state = .igniting then settleDark .cooling (ignitionOf s) (some .headLost) (countLost s) else s

/-! ## The no-signal rule (R48) -/

/-- The no-signal timer has expired: the lamp is put out in a VACANT room, else the shutter closes (R48). -/
def noSignalActs (s : State) : State :=
  if s.power.state = .on then
    if s.room.state = .vacant then (powerOff .auto s).2 else closeAuto s
  else s

end Sys2Proof.Machine
end

