-- ==== Sys2Proof/Machine/Geometry.lean ====
section
/-! DEFINITION. The Geometry Engine: active preset, effective parameters, corners, tables, sets and status (sections 5.1 to
5.3). Coordinates are exact integers, and every table value is rounded once. -/

namespace Sys2Proof.Machine

/-! ## The active preset and the effective parameters (R90, R91) -/

/-- The preset that the current booking names, in PREPARING and OCCUPIED (R90). -/
def bookingPreset (s : State) : Option (Fin 16) :=
  if s.room.state = .vacant then none else (currentBooking s).bind (·.preset)

/-- The bound preset of the routed source last handed over (R90). -/
def boundPreset (s : State) : Option (Fin 16) := s.geometry.routed.bind fun r => s.router.sources[r].preset

/-- The active preset with its cause, evaluated now (R90). -/
def choosePreset (s : State) : Fin 16 × PresetCause :=
  match s.geometry.momentary with
  | some n => (n, .momentary)
  | none => match bookingPreset s with
    | some n => (n, .booking)
    | none => match boundPreset s with
      | some n => (n, .source)
      | none => (s.store.room.preset, .roomDefault)

/-- The active preset as last recorded, evaluated now where none is recorded yet (R90, R108). -/
def activePreset (s : State) : Fin 16 := (s.geometry.active.getD (choosePreset s)).1

/-- A trim with the set fields of its overlay in place (R91). -/
def effectiveTrim (o : TrimOverlay) (t : Trim) : Trim := { tx := o.tx.getD t.tx, ty := o.ty.getD t.ty }

/-- The preset with the overlay in place, its aspect override the overlay's aspect when set (R91, R105). -/
def overlaid (o : Overlay) (p : Preset) : Preset :=
  { p with
    kv := o.kv.getD p.kv, kh := o.kh.getD p.kh
    tl := effectiveTrim o.tl p.tl, tr := effectiveTrim o.tr p.tr
    bl := effectiveTrim o.bl p.bl, br := effectiveTrim o.br p.br
    aspect := o.aspect.or p.aspect }

/-- The active preset under the overlay (R91). -/
def effectivePreset (s : State) : Preset := overlaid s.geometry.overlay s.geometry.presets[activePreset s]

/-- The effective aspect (R91). -/
def effectiveAspect (s : State) : Aspect :=
  match (effectivePreset s).aspect with
  | some a => a
  | none => match s.geometry.routed with
    | some r => s.router.sources[r].aspect
    | none => .auto

/-- The content aspect of an aspect and a format image (R91). -/
def contentAspect (a : Aspect) (f : FormatImage) : ContentAspect :=
  match a, f with
  | .fill, _ => .fill
  | .wide, _ => .wide
  | .standard, _ => .standard
  | .auto, .signal x =>
    if 17 * x.height.toNat ≤ 10 * x.width.toNat then .wide
    else if 10 * x.width.toNat ≤ 14 * x.height.toNat then .standard
    else .fill
  | .auto, .unknown => .fill
  | .auto, .noSignal => .fill

/-- A content rectangle (R92). -/
structure Rectangle where
  x0 : Int
  y0 : Int
  x1 : Int
  y1 : Int
  deriving DecidableEq, Repr

/-- The content rectangle of a content aspect (R92). -/
def contentRectangle : ContentAspect → Rectangle
  | .fill => ⟨0, 0, 1920, 1200⟩
  | .wide => ⟨0, 60, 1920, 1140⟩
  | .standard => ⟨160, 0, 1760, 1200⟩

/-- The source width and height: the format's, or those of the content rectangle (R91). -/
def sourceSize (c : ContentAspect) (f : FormatImage) : Nat × Nat :=
  match f with
  | .signal x => (x.width.toNat, x.height.toNat)
  | .unknown | .noSignal =>
    let r := contentRectangle c
    ((r.x1 - r.x0).toNat, (r.y1 - r.y0).toNat)

/-- The inputs of a set as they stand now (R91, section 5.3). -/
def inputsNow (s : State) : GeomInputs :=
  let p := effectivePreset s
  let a := effectiveAspect s
  let c := contentAspect a s.geometry.format
  { kv := p.kv, kh := p.kh, tl := p.tl, tr := p.tr, bl := p.bl, br := p.br, aspect := a, content := c
    ws := (sourceSize c s.geometry.format).1, hs := (sourceSize c s.geometry.format).2 }

/-! ## The corners (R92 to R94) -/

/-- The corners of a rectangle (R92). -/
def rectangleCorners (r : Rectangle) : Corners := ⟨⟨r.x0, r.y0⟩, ⟨r.x1, r.y0⟩, ⟨r.x0, r.y1⟩, ⟨r.x1, r.y1⟩⟩

/-- The part of a value above 0, and of its negation (R93). -/
def above (i : Int) : Int := max i 0
def below (i : Int) : Int := max (-i) 0

/-- The keystone insets (R93). -/
def keystone (kv kh : Int) (c : Corners) : Corners :=
  { tl := ⟨c.tl.x + 6 * above kv, c.tl.y + 5 * below kh⟩
    tr := ⟨c.tr.x - 6 * above kv, c.tr.y + 5 * above kh⟩
    bl := ⟨c.bl.x + 6 * below kv, c.bl.y - 5 * below kh⟩
    br := ⟨c.br.x - 6 * below kv, c.br.y - 5 * above kh⟩ }

/-- A corner shifted by its trim (R93). -/
def shift (t : Trim) (p : Point) : Point := ⟨p.x + t.tx, p.y + t.ty⟩

/-- The trims (R93). -/
def trimmed (i : GeomInputs) (c : Corners) : Corners :=
  { tl := shift i.tl c.tl, tr := shift i.tr c.tr, bl := shift i.bl c.bl, br := shift i.br c.br }

/-- A point held within the panel (R94). -/
def clampPoint (p : Point) : Point := ⟨clampInt 0 1920 p.x, clampInt 0 1200 p.y⟩

/-- Every corner held within the panel (R94). -/
def clampCorners (c : Corners) : Corners :=
  { tl := clampPoint c.tl, tr := clampPoint c.tr, bl := clampPoint c.bl, br := clampPoint c.br }

/-- One edge along an axis, from `a` to `b`: when shorter than `2 * half` it becomes the minimum edge centred where it
was, moved into 0..`limit` (R94). -/
def minimumEdge (half limit a b : Int) : Int × Int :=
  if b - a < 2 * half then
    let c := (a + b) / 2
    let up := max (-(c - half)) 0
    let down := max (c + half + up - limit) 0
    (c - half + up - down, c + half + up - down)
  else (a, b)

/-- The top edge. -/
def topEdge (c : Corners) : Corners :=
  let e := minimumEdge 480 1920 c.tl.x c.tr.x
  { c with tl := ⟨e.1, c.tl.y⟩, tr := ⟨e.2, c.tr.y⟩ }

/-- The bottom edge. -/
def bottomEdge (c : Corners) : Corners :=
  let e := minimumEdge 480 1920 c.bl.x c.br.x
  { c with bl := ⟨e.1, c.bl.y⟩, br := ⟨e.2, c.br.y⟩ }

/-- The left edge. -/
def leftEdge (c : Corners) : Corners :=
  let e := minimumEdge 300 1200 c.tl.y c.bl.y
  { c with tl := ⟨c.tl.x, e.1⟩, bl := ⟨c.bl.x, e.2⟩ }

/-- The right edge. -/
def rightEdge (c : Corners) : Corners :=
  let e := minimumEdge 300 1200 c.tr.y c.br.y
  { c with tr := ⟨c.tr.x, e.1⟩, br := ⟨c.br.x, e.2⟩ }

/-- The corners before step four (R92, R93). -/
def rawCorners (i : GeomInputs) : Corners :=
  trimmed i (keystone i.kv i.kh (rectangleCorners (contentRectangle i.content)))

/-- Steps four and five (R94). -/
def limitCorners (c : Corners) : Corners := rightEdge (leftEdge (bottomEdge (topEdge (clampCorners c))))

/-! ## The tables (R95, R96) -/

/-- The nearest integer to `num / den` for a positive `den`, halves toward +∞ (R95). -/
def roundDiv (num den : Int) : Int := (2 * num + den) / (2 * den)

/-- The value at `t` of the line from `(t0, v0)` to `(t1, v1)`, in sixteenths, rounded once (R95, R96). -/
def lineAt (v0 v1 t0 t1 t : Int) : Int := roundDiv (16 * v0 * (t1 - t0) + 16 * (v1 - v0) * (t - t0)) (t1 - t0)

/-- The step of an entry: 0 for an empty span, held at 65,535 (R95, R96). -/
def entryStep (size lo hi : Nat) : Nat :=
  if hi = lo then 0 else min 65535 (roundDiv (65536 * size) (hi - lo : Int)).toNat

/-- An entry of clamped values, the second not less than the first (R95, R96). -/
def tableEntry (limit : Int) (size : Nat) (a b : Int) : TableEntry :=
  let lo := (clampInt 0 limit a).toNat
  let hi := max lo (clampInt 0 limit b).toNat
  { first := lo, second := hi, step := entryStep size lo hi }

/-- Row entry `k` (R95). -/
def rowEntry (c : Corners) (ws : Nat) (k : Nat) : TableEntry :=
  let y : Int := 48 * k
  tableEntry 30720 ws (lineAt c.tl.x c.bl.x c.tl.y c.bl.y y) (lineAt c.tr.x c.br.x c.tr.y c.br.y y)

/-- Column entry `j` (R96). -/
def columnEntry (c : Corners) (hs : Nat) (j : Nat) : TableEntry :=
  let x : Int := 64 * j
  tableEntry 19200 hs (lineAt c.tl.y c.tr.y c.tl.x c.tr.x x) (lineAt c.bl.y c.br.y c.bl.x c.br.x x)

/-- The set of a number and inputs (R92 to R96). -/
def computeSet (n : BitVec 8) (i : GeomInputs) : GeomSet :=
  let raw := rawCorners i
  let c := limitCorners raw
  { number := n, inputs := i, corners := c, limited := c != raw
    rows := (List.range 26).map (rowEntry c i.ws)
    columns := (List.range 31).map (columnEntry c i.hs) }

/-! ## Sets and evaluations (R97, R98) -/

/-- A new set from the inputs in force: numbered one on, recorded, and handed to the geometry lane; PENDING, or HELD
while the link is LOST. It serves a kept resend (R97, R98). -/
def makeSet (s : State) : State :=
  let g := computeSet (s.geometry.setNumber + 1) (inputsNow s)
  handSet g { s with geometry := { s.geometry with
    current := some g, setNumber := g.number, commitAcked := false, keptResend := false
    status := if s.link.state = .lost then .held else .pending } }

/-- The active preset and its cause are evaluated and recorded (R90). -/
def recordActive (s : State) : State := { s with geometry := { s.geometry with active := some (choosePreset s) } }

/-- The inputs differ from those of the current set, or none has been computed (R97). -/
def inputsDiffer (s : State) : Bool :=
  match s.geometry.current with
  | none => true
  | some g => g.inputs != inputsNow s

/-- A trigger evaluation; before the first settle end no set is made (R97). -/
def triggerEval (s : State) : State :=
  if s.geometry.started then
    let t := recordActive s
    if inputsDiffer t || t.geometry.status == .held then makeSet t else t
  else s

/-- A resend asked for by the Head Link Controller: a forced evaluation, or a kept request before the first settle end
(R61, R63, R97, R100). -/
def askResend (s : State) : State :=
  if s.geometry.started then makeSet (recordActive s)
  else { s with geometry := { s.geometry with keptResend := true } }

/-- The clearing of R89 at a routed source change that reaches a bound source. -/
def clearAtRoute (dest : Option (Fin 8)) (s : State) : State :=
  let bound := dest.bind fun r => s.router.sources[r].preset
  if dest != s.geometry.routed && bound.isSome then { s with geometry := { s.geometry with momentary := none } } else s

/-- The Source Router hands over a routed source and a format image at a settle end (R75, R97). -/
def handRoute (dest : Option (Fin 8)) (f : FormatImage) (s : State) : State :=
  let t := clearAtRoute dest s
  triggerEval { t with geometry := { t.geometry with routed := dest, format := f, started := true } }

/-- The Source Router reports a routed source change without a settle (R71, R97). -/
def handSource (dest : Option (Fin 8)) (s : State) : State :=
  let t := clearAtRoute dest s
  triggerEval { t with geometry := { t.geometry with routed := dest } }

/-- The Source Router hands over a format image whose width or height has changed (R76, R97). -/
def handFormat (f : FormatImage) (s : State) : State := triggerEval { s with geometry := { s.geometry with format := f } }

/-! ## The status (R99) -/

/-- The word of a set number. -/
def setWord (n : BitVec 8) : Word := n.setWidth 16

/-- The COMMIT of the current set has been acknowledged with ACK OK (R99). -/
def commitAccepted (s : State) : State :=
  if s.geometry.status = .pending then { s with geometry := { s.geometry with commitAcked := true } } else s

/-- The head has rejected entry `index` of the current set (R99). -/
def setRejected (index : Nat) (s : State) : State :=
  if s.geometry.status = .pending then
    post .geometryHeld .auto (some (setWord s.geometry.setNumber)) (some (pairWord 0 index))
      { s with geometry := { s.geometry with status := .held } }
  else s

/-- The link has entered LOST (R99, R100). -/
def geometryLinkLost (s : State) : State :=
  if s.geometry.status = .held then s
  else post .geometryHeld .auto (some (setWord s.geometry.setNumber)) (some (pairWord 1 noneByte))
    { s with geometry := { s.geometry with status := .held } }

/-- The LIMITED flag of the current set (R94). -/
def isLimited (s : State) : Bool :=
  match s.geometry.current with
  | some g => g.limited
  | none => false

/-- A REPORT shows a committed set number (R99). -/
def geometryReport (committed : Option (BitVec 8)) (s : State) : State :=
  if s.geometry.status = .pending && s.geometry.commitAcked && committed == some s.geometry.setNumber then
    post .geometryApplied .auto (some (setWord s.geometry.setNumber))
      (some (pairWord (if isLimited s then 1 else 0) (activePreset s).val))
      { s with geometry := { s.geometry with status := .applied } }
  else s

end Sys2Proof.Machine
end

