-- ==== Sys2Proof/Machine/Lockout.lean ====
section
/-! DEFINITION. The Lockout Unit: active profile, override and service enable (sections 7.2 to 7.4). -/

namespace Sys2Proof.Machine

/-- The six permit sets of a profile in one word (R176). -/
def profileWord (f : Profile) : Word :=
  0#4 ++ f.settings ++ f.schedule ++ f.geometry ++ f.source ++ f.lamp ++ f.power

/-- The active profile number and its cause, chosen by the room state (R137). -/
def chooseProfile (s : State) : Fin 8 × ProfileCause :=
  if s.room.state = .vacant then (s.store.install.vacantProfile, .vacant)
  else match currentBooking s with
    | some b => (b.profile, .booking)
    | none => (s.store.install.vacantProfile, .vacant)

/-- The active profile as it is to be set now. -/
def profileNow (s : State) : ActiveProfile :=
  let c := chooseProfile s
  { number := c.1, cause := c.2, sets := s.lockout.profiles[c.1] }

/-- The number or the content of the active profile has changed; nothing is compared before it is first set (R137). -/
def profileDiffers (old : Option ActiveProfile) (new : ActiveProfile) : Bool :=
  match old with
  | none => false
  | some a => a.number != new.number || a.sets != new.sets

/-- PROFILE CHANGED (R137). -/
def postProfile (a : ActiveProfile) (o : Origin) (s : State) : State :=
  postFor .profileChanged o (some (pairWord a.number.val (position profileCauseList a.cause))) (some (profileWord a.sets)) s

/-- The active profile is set; PROFILE CHANGED is posted when `tell` says so and it has changed (R137). -/
def setProfileActive (tell : Bool) (o : Origin) (s : State) : State :=
  let new := profileNow s
  let t := { s with lockout := { s.lockout with active := some new } }
  if tell && profileDiffers s.lockout.active new then postProfile new o t else t

/-- The effective override as it is to be set now (R138). -/
def overrideNow (s : State) : Option EffectiveOverride :=
  match s.lockout.hold with
  | .held none => none
  | .held (some n) => some { profile := n, scope := .momentary, sets := s.lockout.profiles[n] }
  | .followStanding => s.store.room.override.map fun n =>
      { profile := n, scope := .standing, sets := s.lockout.profiles[n] }

/-- OVERRIDE CHANGED (R138). -/
def postOverride (e : Option EffectiveOverride) (o : Origin) (s : State) : State :=
  match e with
  | none => postFor .overrideChanged o (some noneWord) (some noneWord) s
  | some x => postFor .overrideChanged o (some (pairWord x.profile.val (position scopeList x.scope)))
      (some (profileWord x.sets)) s

/-- The effective override is set; OVERRIDE CHANGED is posted when `tell` says so and its presence, number, scope or
content has changed (R138). -/
def setOverrideActive (tell : Bool) (o : Origin) (s : State) : State :=
  let new := overrideNow s
  let t := { s with lockout := { s.lockout with effective := new } }
  if tell && s.lockout.active.isSome && new != s.lockout.effective then postOverride new o t else t

/-- The active profile and the effective override after an event that may change them: each tells of its change
(R136 to R140). -/
def refreshProfile (o : Origin) (s : State) : State :=
  if s.lockout.active.isSome then setProfileActive true o s else s

def refreshOverride (o : Origin) (s : State) : State :=
  if s.lockout.active.isSome then setOverrideActive true o s else s

/-- Both, at an event that reaches both. DEDUCED: PROFILE CHANGED comes before OVERRIDE CHANGED (R136; log entry 38). -/
def refreshLockout (o : Origin) (s : State) : State := refreshOverride o (refreshProfile o s)

/-- The first setting after a reset, at load completion, without notice (R137, R138). -/
def firstLockout (s : State) : State := setOverrideActive false .auto (setProfileActive false .auto s)

/-- The momentary override is removed (R122, R140). -/
def releaseOverride (s : State) : State := { s with lockout := { s.lockout with hold := .followStanding } }

/-- The service enable flag takes a value; a change posts SERVICE ENABLE CHANGED with the value and the mode (R142). -/
def setServiceEnable (on : Bool) (p : Port) (s : State) : State :=
  if s.lockout.serviceEnabled = on then s
  else postTo (some p) .serviceEnableChanged (portOrigin p) (some (if on then 0 else 1))
    (some (word (position modeList s.lockout.mode))) { s with lockout := { s.lockout with serviceEnabled := on } }

/-- A request that writes an install-class record meets the lock (R146). -/
def installLocked (s : State) : Bool := s.lockout.locked

end Sys2Proof.Machine
end

