-- ==== Sys2Proof/Machine/Router.lean ====
section
/-! DEFINITION. The Source Router: resolution, settling, the arbiter, presence, auto-follow and no signal (chapter 4). -/

namespace Sys2Proof.Machine

/-! ## Resolution (R70, R71) -/

/-- The walk of the fallback chain from a member, after the members already walked (R70). -/
def walkFrom (sources : Vector SourceEntry 8) : Nat → Fin 8 → List (Fin 8) → List (Fin 8)
  | 0, _, walked => walked
  | fuel + 1, m, walked =>
    let w := walked ++ [m]
    if sources[m].input.isNone then w
    else match sources[m].fallback with
      | none => w
      | some f => if 4 ≤ w.length || w.contains f then w else walkFrom sources fuel f w

/-- The walk from a requested source: at most four members (R70). -/
def walk (sources : Vector SourceEntry 8) (m : Fin 8) : List (Fin 8) := walkFrom sources 4 m []

/-- The walk with the input that each entry names at this moment (R71). -/
def chainOf (sources : Vector SourceEntry 8) (m : Fin 8) : List (Fin 8 × Option (Fin 6)) :=
  (walk sources m).map fun x => (x, sources[x].input)

/-- The input has debounced presence PRESENT (R69). -/
def isPresent (debounced : Option (Vector Bool 6)) (i : Option (Fin 6)) : Bool :=
  match debounced, i with
  | some d, some n => d[n]
  | _, _ => false

/-- The routed source and input of a chain: the first member that is present, else its first member when that is used,
else none on MUTE (R70). -/
def routedOf (debounced : Option (Vector Bool 6)) (chain : List (Fin 8 × Option (Fin 6))) :
    Option (Fin 8) × Option (Fin 6) :=
  match chain.find? (fun m => isPresent debounced m.2) with
  | some m => (some m.1, m.2)
  | none => match chain.head? with
    | some (x, some i) => (some x, some i)
    | _ => (none, none)

/-- The chain of a requested source now; empty where no source has been requested. -/
def chainNow (s : State) : List (Fin 8 × Option (Fin 6)) :=
  match s.router.requested with
  | some m => chainOf s.router.sources m
  | none => []

/-! ## ROUTE CHANGED (R75) -/

/-- The number of an input: IN1 is 1 (R176). DESIGN CHOICE: MUTE, for which no code is given, is 0 (log entry 27). -/
def inputNumber (i : Option (Fin 6)) : Nat :=
  match i with
  | some n => n.val + 1
  | none => 0

/-- The number of a source, or none in a byte (R176). -/
def sourceNumber (x : Option (Fin 8)) : Nat :=
  match x with
  | some n => n.val
  | none => noneByte

/-- ROUTE CHANGED: routed source and input; requested source and route state (R75). -/
def postRoute (o : Origin) (s : State) : State :=
  postFor .routeChanged o (some (pairWord (sourceNumber s.router.routedSource) (inputNumber s.router.routedInput)))
    (some (pairWord (sourceNumber s.router.requested) (position routeStateList s.router.state))) s

/-! ## Settling (R72) -/

/-- The select lines move to an input and SETTLING is entered (R71, R72). -/
def startSettle (o : Origin) (dest : Option (Fin 8) × Option (Fin 6)) (s : State) : State :=
  syncNoSignal (noSignalHolds s)
    { s with router := { s.router with
        routedSource := dest.1, routedInput := dest.2, state := .settling, format := .unknown
        settle := some s.store.room.settleTime, settleOrigin := o } }

/-- A resolution from the requested source, for an origin: a new input starts a settle; a new routed source on the same
input is told at once; `tell` asks for ROUTE CHANGED though neither changes. The answer says whether a settle began
(R71, R80). -/
def resolve (o : Origin) (tell : Bool) (s : State) : Bool × State :=
  let chain := chainNow s
  let dest := routedOf s.router.debounced chain
  let t := { s with router := { s.router with chain := chain, deferred := false } }
  if dest.2 ≠ s.router.routedInput then (true, startSettle o dest t)
  else if dest.1 ≠ s.router.routedSource then
    (false, postRoute o (handSource dest.1 { t with router := { t.router with routedSource := dest.1 } }))
  else (false, if tell then postRoute o t else t)

/-- A re-resolution: at once, or deferred while SETTLING; none before the first resolution (R77, R78). -/
def reResolve (s : State) : State :=
  if !s.router.resolved then s
  else if s.router.state = .settling then { s with router := { s.router with deferred := true } }
  else (resolve .auto false s).2

/-! ## The arbiter (R79 to R82) -/

/-- A request applied: its source is requested and resolved; `always` posts ROUTE CHANGED even when nothing changed
(R80, R82). -/
def applyRoute (o : Origin) (x : Fin 8) (always : Bool) (s : State) : Bool × State :=
  resolve o (always || s.router.requested != some x) { s with router := { s.router with requested := some x } }

/-- The class order by room state, highest first (R81). -/
def classOrder : RoomState → List Origin
  | .occupied => [.service, .lectern, .schedule, .facility, .auto]
  | .vacant | .preparing => [.service, .facility, .schedule, .lectern, .auto]

/-- Origin `a` is ranked at or above `b` under the order in force (R81). -/
def ranksAtOrAbove (s : State) (a b : Origin) : Bool :=
  position (classOrder s.room.state) a ≤ position (classOrder s.room.state) b

/-- REQUEST DISPLACED: the source displaced; the reason with the displacing origin (R81). -/
def postDisplaced (held : RouteRequest) (r : Reason) (displacer : Nat) (s : State) : State :=
  postFor .requestDisplaced held.origin (some (word held.source.val)) (some (pairWord (position reasonList r) displacer)) s

/-- A request that arrives while SETTLING (R81). -/
def holdRoute (q : RouteRequest) (s : State) : Answer × State :=
  let t := { s with router := { s.router with pendingSlot := some q } }
  match s.router.pendingSlot with
  | none => (started [], t)
  | some held =>
    if ranksAtOrAbove s q.origin held.origin then
      (started [], postDisplaced held .outranked (position originList q.origin) t)
    else refuse .outranked s

/-- A request at the arbiter: recorded before the first resolution, held while SETTLING, else applied (R77, R80, R81). -/
def routeRequest (q : RouteRequest) (s : State) : Answer × State :=
  if !s.router.resolved then (done, { s with router := { s.router with requested := some q.source } })
  else if s.router.state = .settling then holdRoute q s
  else
    let r := applyRoute q.origin q.source false s
    (if r.1 then started [] else done, r.2)

/-- A request of origin SCHEDULE; its refusal posts nothing (R79). -/
def scheduleRoute (x : Fin 8) (s : State) : State :=
  (routeRequest { source := x, origin := .schedule, scope := .momentary } s).2

/-- The held request is still permitted (R82). -/
def stillPermitted (q : RouteRequest) (s : State) : Bool :=
  match originPort q.origin with
  | none => true
  | some p => (permissionRows s p .source).isNone

/-! ## Settle end (R75, R82) -/

/-- The request taken from the pending slot, the deferred re-resolution having been dropped (R75, R82). -/
def applyHeld (q : RouteRequest) (deferred : Bool) (s : State) : State :=
  if stillPermitted q s then (applyRoute q.origin q.source true s).2
  else
    let t := postDisplaced q .notPermitted noneByte s
    if deferred then reResolve t else t

/-- Steps 4 and 5 of R75. -/
def settleTail (s : State) : State :=
  let t := { s with router := { s.router with pendingSlot := none, deferred := false } }
  match s.router.pendingSlot with
  | some q => applyHeld q s.router.deferred t
  | none => if s.router.deferred then reResolve t else t

/-- A settle ends in a route state with a format image (R73, R74, R75). -/
def endSettle (dest : RouteState) (f : FormatImage) (s : State) : State :=
  let a := { s with router := { s.router with state := dest, format := f, settle := none } }
  let b := handRoute a.router.routedSource f (postRoute s.router.settleOrigin a)
  let c := if dest = .stable then routeStable b else b
  settleTail (syncNoSignal (noSignalHolds s) c)

/-! ## FORMAT (R73, R76, R77) -/

/-- The width and height of an image (R76). -/
def imageSize : FormatImage → Option (Word × Word)
  | .signal x => some (x.width, x.height)
  | .unknown | .noSignal => none

/-- The image of a FORMAT: none stands for one that carries NONE. -/
def imageOf (f : Option SignalFormat) : FormatImage :=
  match f with
  | some x => .signal x
  | none => .noSignal

/-- A FORMAT in STABLE or NO SIGNAL (R76). -/
def formatMoves (f : Option SignalFormat) (s : State) : State :=
  let image := imageOf f
  let a := { s with router := { s.router with format := image } }
  let b := match f, s.router.state with
    | none, .stable =>
      syncNoSignal (noSignalHolds s)
        (post .signalLost .auto (some (word (inputNumber s.router.routedInput))) (some noneWord)
          { a with router := { a.router with state := .noSignal } })
    | some x, .noSignal =>
      routeStable (syncNoSignal (noSignalHolds s)
        (post .signalFound .auto (some (word (inputNumber s.router.routedInput))) (some x.width)
          { a with router := { a.router with state := .stable } }))
    | _, _ => a
  if imageSize image = imageSize s.router.format then b else handFormat image b

/-- A FORMAT passed by the Head Link Controller (R73, R76, R77). -/
def routerFormat (f : Option SignalFormat) (s : State) : State :=
  if !s.router.resolved then { s with router := { s.router with format := imageOf f } }
  else if s.router.state = .settling then endSettle (if f.isSome then .stable else .noSignal) (imageOf f) s
  else formatMoves f s

/-- The settle timer expires (R74). -/
def settleExpires (s : State) : State := endSettle .noSignal .unknown s

/-! ## First resolution (R77) -/

/-- The first resolution, once the load has completed and the presence is known: SETTLING with origin AUTO, whatever the
input (R77). -/
def firstResolution (s : State) : State :=
  if s.router.resolved || !s.store.loaded || s.router.debounced.isNone then s
  else
    let chain := chainNow s
    startSettle .auto (routedOf s.router.debounced chain)
      { s with router := { s.router with chain := chain, resolved := true } }

/-! ## Presence and auto-follow (R69, R83) -/

/-- The raw line changes: the stability timer starts once the first values are known (R69). -/
def rawChange (n : Fin 6) (present : Bool) (s : State) : State :=
  if s.router.raw[n] = present then s
  else { s with router := { s.router with
    raw := s.router.raw.set n present
    stability := if s.router.debounced.isSome then s.router.stability.set n (some 500) else s.router.stability } }

/-- The first presence values are taken (R69). -/
def takeSample (s : State) : State :=
  firstResolution { s with router := { s.router with debounced := some s.router.raw, sample := none } }

/-- The flagged entries that name an input, lowest first (R83). -/
def flaggedEntries (s : State) (n : Fin 6) : List (Fin 8) :=
  (List.finRange 8).filter fun x => s.router.sources[x].autoFollow && s.router.sources[x].input == some n

/-- The auto-follow request that a rise raises (R83). -/
def autoFollow (s : State) (n : Fin 6) : Option (Fin 8) :=
  match flaggedEntries s n with
  | [] => none
  | x :: r => if (x :: r).any (fun y => s.router.requested == some y) then none else some x

/-- The input is recorded on the resolved chain (R78). -/
def onChain (s : State) (n : Fin 6) : Bool := s.router.chain.any fun m => m.2 == some n

/-- The route after a debounced change (R78, R83). -/
def presenceActs (n : Fin 6) (rise : Bool) (s : State) : State :=
  if !s.router.resolved then s
  else
    let t := if onChain s n then reResolve s else s
    match if rise then autoFollow s n else none with
    | none => t
    | some x =>
      let q : RouteRequest := { source := x, origin := .auto, scope := .momentary }
      if s.router.state = .settling then (holdRoute q t).2 else (routeRequest q s).2

/-- The stability timer of an input expires (R69). -/
def stabilityExpires (n : Fin 6) (s : State) : State :=
  let t := { s with router := { s.router with stability := s.router.stability.set n none } }
  match s.router.debounced with
  | none => t
  | some d =>
    if d[n] = s.router.raw[n] then t
    else presenceActs n s.router.raw[n]
      { t with router := { t.router with debounced := some (d.set n s.router.raw[n]) } }

/-! ## Edits and the no-signal timeout (R68, R85, R86) -/

/-- What the Geometry Engine reads of an entry (R68). -/
def shapeOf (e : SourceEntry) : Option (Fin 16) × Aspect := (e.preset, e.aspect)

/-- The live map is edited: a member of the resolved chain makes a re-resolution, and a new shape of the routed source
is told to the Geometry Engine at once (R68, R78). DEDUCED: the routed source is the one held when the edit is taken, before
the re-resolution that the same edit makes (log entry 37). -/
def editSources (new : Vector SourceEntry 8) (edited : List (Fin 8)) (s : State) : State :=
  let told := edited.any fun x => s.router.routedSource == some x && shapeOf new[x] != shapeOf s.router.sources[x]
  let t := { s with router := { s.router with sources := new } }
  let u := if edited.any (fun x => s.router.chain.any fun m => m.1 == x) then reResolve t else t
  if told then triggerEval u else u

/-- The no-signal timer expires (R85). -/
def noSignalExpires (s : State) : State := noSignalActs { s with router := { s.router with noSignal := none } }

/-- The no-signal timeout has changed from `old` minutes (R86). DEDUCED: a change from 0 starts the timer while the two
conditions hold, also after an expiry in the same spell of no signal, where R85 has it wait (log entry 32). -/
def timeoutChanged (old : Nat) (s : State) : State :=
  let full := noSignalTimeout s
  match s.router.noSignal with
  | some left =>
    let run := old * 60000 - left
    if full = 0 then { s with router := { s.router with noSignal := none } }
    else if full ≤ run then noSignalExpires s
    else { s with router := { s.router with noSignal := some (full - run) } }
  | none =>
    if old = 0 && full ≠ 0 && noSignalHolds s then { s with router := { s.router with noSignal := some full } } else s

end Sys2Proof.Machine
end

