-- ==== Sys2Proof/Machine/Room.lean ====
section
/-! DEFINITION. The Room Clock and Schedule Runner: clock, occurrences, conflicts, evaluation, room state changes and clock
jumps (chapter 6). -/

namespace Sys2Proof.Machine

/-! ## Occurrences (R109, R114) -/

/-- An absolute minute (R109). -/
def absolute (day minute : Nat) : Nat := day * 1440 + minute

/-- The absolute minute of the clock (R109). -/
def nowMinute (s : State) : Nat := absolute s.room.clock.day s.room.clock.minute

/-- The kind has an occurrence on a day (R114). -/
def occursOn (k : BookingKind) (d : Nat) : Bool :=
  d ≤ 65535 &&
    match k with
    | .oneOff day => d = day
    | .weekly mask first last =>
      first ≤ d && (match last with | none => true | some l => decide (d ≤ l)) && mask.getLsbD (d % 7)

/-- The start S of an occurrence (R114). -/
def startOf (b : Booking) (d : Nat) : Nat := absolute d b.startMinute

/-- The end E of an occurrence (R114). -/
def endOf (b : Booking) (d : Nat) : Nat := absolute d b.endMinute

/-- The preparation point P of an occurrence (R114). -/
def prepOf (b : Booking) (d : Nat) : Nat := startOf b d - b.lead

/-- The occurrence is cancelled (R114). -/
def isCancelled (s : State) (o : Occurrence) : Bool := s.room.exceptions.contains o

/-- The occurrence is taken (R120). -/
def isTaken (s : State) (o : Occurrence) : Bool := s.room.taken[o.id] == some o.day

/-- The booking of an occurrence of the table that is not cancelled (R114). -/
def liveBooking (s : State) (o : Occurrence) : Option Booking :=
  match s.room.bookings[o.id] with
  | some b => if occursOn b.kind o.day && !isCancelled s o then some b else none
  | none => none

/-- The first day, from `base` on, whose occurrence of a booking meets a condition and is not cancelled. An exception
can hide one day, so `weeks` counts the exceptions and some more. -/
def firstDay (s : State) (id : Fin 64) (base : Nat) (ok : Booking → Nat → Bool) : Option (Booking × Nat) :=
  match s.room.bookings[id] with
  | none => none
  | some b =>
    let start := match b.kind with
      | .oneOff day => day
      | .weekly _ first _ => max first base
    let weeks := s.room.exceptions.length + 5
    ((List.range (weeks * 7)).map (start + ·)).find?
        (fun d => occursOn b.kind d && !isCancelled s ⟨id, d⟩ && ok b d)
      |>.map fun d => (b, d)

/-- The better of two occurrences by a measure, the first on a tie. -/
def better (m : Booking → Nat → Nat) (x : Option (Fin 64 × Booking × Nat)) (y : Fin 64 × Booking × Nat) :
    Option (Fin 64 × Booking × Nat) :=
  match x with
  | none => some y
  | some z => if m y.2.1 y.2.2 < m z.2.1 z.2.2 then some y else some z

/-- The occurrence that is least by a measure among those from `base` on that meet a condition and are not cancelled. -/
def leastOccurrence (s : State) (base : Nat) (m : Booking → Nat → Nat) (ok : Fin 64 → Booking → Nat → Bool) :
    Option (Occurrence × Booking) :=
  ((List.finRange 64).foldl (fun best id =>
      match firstDay s id base (ok id) with
      | some (b, d) => better m best (id, b, d)
      | none => best) none).map fun x => (⟨x.1, x.2.2⟩, x.2.1)

/-- The candidate: neither taken nor cancelled, covering now, with the earliest start (R121). -/
def candidate (s : State) : Option (Occurrence × Booking) :=
  let now := nowMinute s
  leastOccurrence s s.room.clock.day startOf fun id b d =>
    !isTaken s ⟨id, d⟩ && prepOf b d ≤ now && now < endOf b d

/-- The next occurrence: neither taken nor cancelled, with the earliest preparation point after now (R126); none is
sought while the clock is UNSET. -/
def nextOccurrence (s : State) : Option (Occurrence × Booking) :=
  if s.room.clock.isSet then
    leastOccurrence s s.room.clock.day prepOf fun id b d => !isTaken s ⟨id, d⟩ && nowMinute s < prepOf b d
  else none

/-! ## Conflicts (R115) -/

/-- Two minute ranges intersect (R115). -/
def rangesMeet (a b : Booking) : Bool := a.startMinute < b.endMinute && b.startMinute < a.endMinute

/-- Some day carries an occurrence of each kind (R115). -/
def shareDay (a b : BookingKind) : Bool :=
  match a, b with
  | .oneOff d, k => occursOn k d && d ≤ 65535
  | k, .oneOff d => occursOn k d
  | .weekly _ f _, .weekly _ g _ => (List.range 7).any fun i => occursOn a (max f g + i) && occursOn b (max f g + i)

/-- Two bookings conflict (R115). -/
def conflicts (a b : Booking) : Bool := rangesMeet a b && shareDay a.kind b.kind

/-- The booking conflicts with another slot of the table (R115 to R117). -/
def conflictsAt (s : State) (id : Fin 64) (b : Booking) : Bool :=
  (List.finRange 64).any fun j => j != id &&
    (match s.room.bookings[j] with
     | some x => conflicts b x
     | none => false)

/-- The first occurrence, not cancelled, other than the current one, with the earliest start at or after a start
(R115, R128). -/
def following (s : State) (cur : Occurrence) (start : Nat) : Option (Occurrence × Booking) :=
  leastOccurrence s cur.day startOf fun id b d => !(⟨id, d⟩ == cur) && start ≤ startOf b d

/-- The extended-reach test fails (R115). -/
def reachFails (s : State) : Bool :=
  match s.room.current with
  | none => false
  | some o => match liveBooking s o with
    | none => false
    | some b => match following s o (startOf b o.day) with
      | none => false
      | some (x, c) => startOf c x.day < endOf b o.day + s.room.extension

/-! ## Room state changes (R122) -/

/-- The momentary settings are cleared (R122, step 2). -/
def clearMomentary (s : State) : State :=
  { s with
    geometry := { s.geometry with overlay := Overlay.empty, momentary := none }
    power := { s.power with momentaryMode := none } }

/-- Step 1 of R122. -/
def placeRoom (dest : RoomState) (occ : Option Occurrence) (s : State) : State :=
  { s with room := { s.room with
    state := dest, current := occ, extension := 0
    taken := match occ with
      | some o => s.room.taken.set o.id (some o.day)
      | none => s.room.taken } }

/-- A room state change with its four steps, for a cause, an origin and the id to be named (R122). -/
def roomChange (dest : RoomState) (occ : Option Occurrence) (cause : RoomCause) (origin : Origin) (id : Fin 64)
    (s : State) : State :=
  let a := refreshOverride origin (releaseOverride (clearMomentary (placeRoom dest occ s)))
  let b := postFor .roomStateChanged origin
    (some (tripleWord (position roomStateList s.room.state) (position roomStateList dest) (position roomCauseList cause)))
    (some (word id.val)) a
  triggerEval (evalLampMode (refreshProfile origin b))

/-! ## Entry and end actions (R123 to R127) -/

/-- The actions at OCCUPIED after R122 (R124). -/
def occupiedActions (b : Booking) (s : State) : State :=
  let a := match b.source with
    | some x => scheduleRoute x s
    | none => s
  let c := match a.power.state with
    | .on | .warming | .igniting => a
    | .unknown | .standby | .cooling | .fault => schedulePowerOn a
  if c.room.scheduleBlank then
    let d := openShutter c
    { d with room := { d.room with scheduleBlank := false } }
  else c

/-- The room enters an occurrence: PREPARING before its start, OCCUPIED from it (R123, R124). -/
def enterRoom (o : Occurrence) (b : Booking) (cause : RoomCause) (origin : Origin) (s : State) : State :=
  if nowMinute s < startOf b o.day then schedulePowerOn (roomChange .preparing (some o) cause origin o.id s)
  else occupiedActions b (roomChange .occupied (some o) cause origin o.id s)

/-- The BLANK end action (R125, R126). -/
def blankAtEnd (s : State) : State :=
  let t := closeManual s
  { t with room := { t.room with scheduleBlank := true } }

/-- An OFF end action becomes BLANK within the bridge gap (R126). -/
def bridged (s : State) : Bool :=
  match nextOccurrence s with
  | some (o, b) => prepOf b o.day ≤ nowMinute s + s.store.room.bridgeGap
  | none => false

/-- The end action of a booking, the room being VACANT (R125, R126). -/
def endAction (b : Booking) (s : State) : State :=
  match b.endAction with
  | .off => if bridged s then blankAtEnd s else scheduleRoute s.store.room.source (schedulePowerOff s)
  | .blank => blankAtEnd s
  | .stay => s

/-- The cause of a direct passage: BACK-TO-BACK, or the RELEASE or JUMP that brought it (R127, R129, R130). -/
def passageCause (c : RoomCause) : RoomCause :=
  match c with
  | .time | .edit | .backToBack => .backToBack
  | .jump => .jump
  | .release => .release
  | .unset => .unset

/-- The current occurrence ends: back-to-back to a candidate, else VACANT with its end action (R125, R127). `held` is
the booking it had, which serves where the slot is free now. -/
def endOccurrence (o : Occurrence) (held : Option Booking) (cause : RoomCause) (origin : Origin) (s : State) : State :=
  match if s.room.clock.isSet then candidate s else none with
  | some (n, b) => enterRoom n b (passageCause cause) origin s
  | none =>
    let t := roomChange .vacant none cause origin o.id s
    match s.room.bookings[o.id].or held with
    | some b => endAction b t
    | none => t

/-! ## Evaluation (R121) -/

/-- The current occurrence has ended (R121, step 2). -/
def hasEnded (s : State) (o : Occurrence) : Bool :=
  match liveBooking s o with
  | none => true
  | some b => endOf b o.day + s.room.extension ≤ nowMinute s || nowMinute s < prepOf b o.day

/-- An evaluation (R121). -/
def evaluate (held : Option Booking) (cause : RoomCause) (origin : Origin) (s : State) : State :=
  match s.room.current with
  | some o =>
    if !s.room.clock.isSet || hasEnded s o then endOccurrence o held cause origin s
    else match liveBooking s o with
      | some b =>
        if s.room.state = .preparing && startOf b o.day ≤ nowMinute s then
          occupiedActions b (roomChange .occupied (some o) cause origin o.id s)
        else s
      | none => s
  | none =>
    match if s.room.clock.isSet then candidate s else none with
    | some (o, b) => enterRoom o b cause origin s
    | none => s

/-! ## Exceptions (R111, R114) -/

/-- The exceptions in order of day, and of id within a day (R114). -/
def insertException (o : Occurrence) : List Occurrence → List Occurrence
  | [] => [o]
  | x :: r =>
    if o.day < x.day || (o.day = x.day && o.id.val < x.id.val) then o :: x :: r else x :: insertException o r

/-- The prune: exceptions dated before the clock's day go, and the record is queued where region D is unprotected and a
place is free (R111, R157). R155 has such a write meet protection at write time only: R111, the prune's own rule, is
followed (log entry 29). -/
def pruneExceptions (s : State) : State :=
  let kept := s.room.exceptions.filter fun o => s.room.clock.day ≤ o.day
  if kept = s.room.exceptions then s
  else
    let t := { s with room := { s.room with exceptions := kept } }
    if isProtected t .d then t else queueOwn .exceptions .schedule t

/-! ## The clock (R109, R130) -/

/-- CLOCK NEEDED (R109, R131). -/
def postClockNeeded (s : State) : State := post .clockNeeded .auto none none s

/-- The clock after a minute step or a day change (R109). DESIGN CHOICE: a clock that becomes UNSET has every field 0, as
after a hard reset (log entry 34). -/
def stepMinute (c : Clock) : Clock :=
  if c.minute < 1439 then { c with second := 0, minute := c.minute + 1 }
  else if c.day < 65535 then { c with second := 0, minute := 0, day := c.day + 1 }
  else Clock.unset

/-- The evaluation of a minute step, once the load has completed (R109, R121). -/
def evaluateStep (cause : RoomCause) (s : State) : State :=
  if s.store.loaded then evaluate none cause .schedule s else s

/-- A minute step: at the end of day 65535 the clock becomes UNSET; at a day change the exceptions are pruned (R109,
R111). -/
def minuteStep (s : State) : State :=
  let t := { s with room := { s.room with clock := stepMinute s.room.clock } }
  if !t.room.clock.isSet then evaluateStep .unset (postClockNeeded t)
  else if s.room.clock.day < t.room.clock.day then evaluateStep .time (pruneExceptions t)
  else evaluateStep .time t

/-- One second of the room clock (R109). -/
def clockTicks (s : State) : State :=
  if !s.room.clock.isSet then s
  else if s.room.clock.second < 59 then
    { s with room := { s.room with clock := { s.room.clock with second := s.room.clock.second + 1 } } }
  else minuteStep s

/-- OCCURRENCE MISSED, with the occurrence marked taken (R130). -/
def missOccurrence (origin : Origin) (s : State) (o : Occurrence) : State :=
  postFor .occurrenceMissed origin (some (word o.id.val)) (some (word o.day))
    { s with room := { s.room with taken := s.room.taken.set o.id (some o.day) } }

/-- The occurrences of a day that a forward jump passes (R130). -/
def missedOn (s : State) (old new day : Nat) : List Occurrence :=
  (List.finRange 64).filterMap fun id =>
    match liveBooking s ⟨id, day⟩ with
    | some b =>
      if !isTaken s ⟨id, day⟩ && s.room.current != some ⟨id, day⟩ && old < endOf b day && endOf b day ≤ new then
        some ⟨id, day⟩
      else none
    | none => none

/-- The occurrences that a jump from `old` to `new` passes: none unless it is forward (R130). -/
def missedBetween (s : State) (old new : Nat) : List Occurrence :=
  if old < new then
    (List.range (new / 1440 - old / 1440 + 1)).flatMap fun i => missedOn s old new (old / 1440 + i)
  else []

/-- The clock takes the values of a SET CLOCK; the exceptions are pruned, then the jump from the old time is handled,
and an evaluation is made (R110, R111, R121, R130). -/
def jumpClock (c : Clock) (origin : Origin) (s : State) : State :=
  let t := pruneExceptions { s with room := { s.room with clock := c } }
  let missed := if s.room.clock.isSet then missedBetween t (nowMinute s) (nowMinute t) else []
  evaluate none .jump origin (missed.foldl (missOccurrence origin) t)

/-! ## Load completion and the head's return (R131, R132) -/

/-- One slot of the conflict removal: it is freed when it conflicts with a lower slot kept (R131). -/
def cleanSlot (s : State) (id : Fin 64) : State :=
  match s.room.bookings[id] with
  | none => s
  | some b =>
    if (List.finRange 64).any (fun j => j.val < id.val &&
        (match s.room.bookings[j] with
         | some x => conflicts b x
         | none => false)) then
      queueOwn (.booking id) .auto
        (post .recordDefaulted .auto (some (word (keyPosition (.booking id)))) none
          { s with room := { s.room with bookings := s.room.bookings.set id none } })
    else s

/-- An exception names an occurrence of a WEEKLY booking (R114, R131). -/
def namesWeekly (s : State) (o : Occurrence) : Bool :=
  match s.room.bookings[o.id] with
  | some b => match b.kind with
    | .weekly _ _ _ => occursOn b.kind o.day
    | .oneOff _ => false
  | none => false

/-- The exceptions that stay at load completion: valid, and each once (R131). -/
def cleanExceptions (s : State) : List Occurrence :=
  (s.room.exceptions.filter (namesWeekly s)).foldl (fun l o => if l.contains o then l else l ++ [o]) []

/-- Steps 1 and 2 of R131. -/
def cleanTable (s : State) : State :=
  let t := (List.finRange 64).foldl cleanSlot s
  if cleanExceptions t = t.room.exceptions then t
  else queueOwn .exceptions .auto { t with room := { t.room with exceptions := cleanExceptions t } }

/-- The runner's part of load completion (R131). -/
def loadRoom (s : State) : State :=
  let t := cleanTable s
  if t.room.clock.isSet then evaluate none .time .schedule (pruneExceptions t) else postClockNeeded t

/-- The head has returned (R132). -/
def headReturnedRoom (s : State) : State :=
  if s.room.state = .vacant then s
  else match s.power.state with
    | .standby => schedulePowerOn s
    | .cooling => if s.power.restartPending then s else schedulePowerOn s
    | .unknown | .igniting | .warming | .on | .fault => s

end Sys2Proof.Machine
end

