-- ==== Sys2Proof/Machine/Link.lean ====
section
/-! DEFINITION. The Head Link Controller: arrival of head messages, acknowledgement, retries, loss, return and head restart
(chapter 3). -/

namespace Sys2Proof.Machine

/-- The length of the silence timer in ms (R59). -/
def silenceLength : Nat := 3000

/-- The length of the answer timer in ms (R53). -/
def answerLength : Nat := 250

/-- The send limit: one more than the live retry count (R55). -/
def sendLimit (s : State) : Nat := s.store.install.retryCount + 1

/-- The word of a head message type (R60, R61, R66). DESIGN CHOICE: its code of R178, where R176 has the position in a
list for an enumerated item and no list of all types is numbered otherwise (log entry 27). -/
def typeWord (t : HeadType) : Word := word (headTypeCode t)

/-! ## Arrival, return, restart (R59, R61 to R63) -/

/-- The link is PRESENT with the silence timer at its full length (R59). -/
def linkPresent (s : State) : State :=
  { s with link := { s.link with state := .present, silence := some silenceLength, lostFor := none } }

/-- LAMP MODE with the mode in force, then SHUTTER with the position held, if any (R61, step 3). -/
def handMode (s : State) : State :=
  let t := handControl (.lampMode s.power.effectiveMode) s
  match s.power.shutter with
  | some h => handControl (.shutter (shutterIsClosed h)) t
  | none => t

/-- STATUS REQUEST is handed when the message that brings the link up is not a REPORT (R61, R62). -/
def askStatus (t : HeadType) (s : State) : State := if t = .report then s else handControl .statusRequest s

/-- The head returns with a message of a type (R61). -/
def headReturns (t : HeadType) (s : State) : State :=
  let a := post .headReturned .auto (some (heldWord (s.link.lostFor.getD 0 / 1000))) (some (typeWord t)) (linkPresent s)
  headReturnedRoom (askResend (askStatus t (handMode a)))

/-- A valid head message of a type is taken, before it is handled (R59, R61, R62). -/
def headArrives (t : HeadType) (s : State) : State :=
  let a := { s with link := { s.link with sinceMessage := some 0 } }
  match s.link.state with
  | .awaiting => askStatus t (linkPresent a)
  | .present => linkPresent a
  | .lost => headReturns t a

/-- A REPORT is a head restart: its flag is set, and no flagged REPORT stands in the image (R63). -/
def isRestart (r : Report) (image : Option Report) : Bool :=
  r.restarted &&
    (match image with
     | some x => !x.restarted
     | none => true)

/-- An optional set number in a word (R63, R176). -/
def optSetWord (n : Option (BitVec 8)) : Word :=
  match n with
  | some x => setWord x
  | none => noneWord

/-- A head restart; the resend is asked for once when the same REPORT returned the head (R63). -/
def headRestarts (r : Report) (lastSet : Option (BitVec 8)) (returned : Bool) (s : State) : State :=
  let a := handMode (post .headRestarted .auto (some (optSetWord r.committed)) (some (optSetWord lastSet)) s)
  if returned then a else askResend a

/-! ## Loss (R60) -/

/-- The causes of HEAD LOST (R60). -/
inductive LossCause where
  | silence
  | retriesExhausted
  deriving DecidableEq, Repr

/-- The causes in the manual's order (R60, R176). -/
def lossCauseList : List LossCause := [.silence, .retriesExhausted]

/-- The link fields at entry to LOST: timers stopped, message flushed, lanes and report image empty (R60). -/
def flushLink (l : LinkUnit) : LinkUnit :=
  { l with
    state := .lost, silence := none, outstanding := none, answer := none, control := [], lane := none
    reportImage := none, lostFor := some 0 }

/-- Entry to LOST (R60). -/
def linkLost (c : LossCause) (s : State) : State :=
  let flushed := match s.link.outstanding with
    | some o => typeWord (headMsgType o.msg)
    | none => noneWord
  geometryLinkLost (powerLinkLost
    (post .headLost .auto (some (word (position lossCauseList c))) (some flushed)
      { s with link := flushLink s.link }))

/-! ## Acknowledgement and retries (R53 to R55, R57) -/

/-- The exchange ends: nothing is outstanding and the answer timer stops (R54). -/
def endExchange (s : State) : State := { s with link := { s.link with outstanding := none, answer := none } }

/-- The lane's progress index advances by one (R57). -/
def advanceLane (s : State) : State :=
  { s with link := { s.link with lane := s.link.lane.map fun l => { l with progress := l.progress + 1 } } }

/-- The lane becomes empty (R57). -/
def emptyLane (s : State) : State := { s with link := { s.link with lane := none } }

/-- ACK OK for the outstanding message (R54). -/
def ackOk (o : Outstanding) (s : State) : State :=
  match o.msg with
  | .control .ignite => igniteAccepted s
  | .control .extinguish | .control (.lampMode _) | .control (.shutter _) | .control .statusRequest => s
  | .row _ _ _ | .column _ _ _ => if o.ofLane then advanceLane s else s
  | .commit _ => if o.ofLane then commitAccepted (emptyLane s) else s

/-- The progress index of the lane, where a set is held. -/
def laneIndex (s : State) : Nat :=
  match s.link.lane with
  | some l => l.progress
  | none => 0

/-- ACK REJECT for the outstanding message, recorded as the last rejection (R54, R57). -/
def ackReject (o : Outstanding) (s : State) : State :=
  let t := { s with link := { s.link with lastRejection := some (headMsgType o.msg, o.tag) } }
  match o.msg with
  | .control .ignite => igniteRejected t
  | .control .extinguish | .control (.lampMode _) | .control (.shutter _) | .control .statusRequest => t
  | .row _ _ _ | .column _ _ _ | .commit _ => if o.ofLane then setRejected (laneIndex s) (emptyLane t) else t

/-- An ACK is matched with the outstanding message; one that matches nothing is disregarded (R54). -/
def ackTaken (tag : BitVec 3) (ok : Bool) (s : State) : State :=
  match s.link.outstanding with
  | none => s
  | some o =>
    if o.tag = tag then (if ok then ackOk o (endExchange s) else ackReject o (endExchange s)) else s

/-- The outstanding message is sent again with its tag (R55). -/
def resend (o : Outstanding) (s : State) : State :=
  { s with link := { s.link with
      outstanding := some { o with sends := o.sends + 1 }
      answer := none
      transmit := messageBytes o.tag o.msg } }

/-- The answer timer expires with a message outstanding (R55). -/
def answerExpires (s : State) : State :=
  match s.link.outstanding, s.link.answer with
  | some o, some _ => if o.sends < sendLimit s then resend o s else linkLost .retriesExhausted s
  | _, _ => s

/-- The last byte of the message leaves the line: the answer timer of the message outstanding starts (R53, R55), and the
line is free. Where the exchange has ended while the bytes went out, no timer starts (log entry 26). -/
def messageLeaves (s : State) : State :=
  if s.link.transmit.isEmpty then s
  else { s with link := { s.link with answer := s.link.outstanding.map fun _ => answerLength, transmit := [] } }

/-- The silence timer expires while the link is PRESENT (R60). -/
def silenceExpires (s : State) : State :=
  if s.link.state = .present && s.link.silence.isSome then linkLost .silence s else s

/-! ## The head's messages (R64, R65) -/

/-- A REPORT: return or first message, head restart, report image, distribution (R61 to R64). -/
def reportTaken (r : Report) (s : State) : State :=
  let a := headArrives .report s
  let b := if isRestart r s.link.reportImage then headRestarts r s.link.lastSet (s.link.state == .lost) a else a
  geometryReport r.committed (powerReport r { b with link := { b.link with reportImage := some r } })

/-- A STRIKE RESULT, passed on while IGNITING (R65). -/
def strikeResultArrives (ok : Bool) (s : State) : State :=
  let t := headArrives .strikeResult s
  if t.power.state = .igniting then strikeResultTaken ok t else t

/-- A FORMAT of a width, a height and a refresh rate, NONE when one of the first two is 0 (R178). -/
def formatOf (width height : Word) (refresh : Byte) : Option SignalFormat :=
  if width = 0 || height = 0 then none else some { width := width, height := height, refresh := refresh }

/-- A FORMAT is recorded and passed to the Source Router (R65). -/
def formatTaken (f : Option SignalFormat) (s : State) : State :=
  let t := headArrives .format s
  routerFormat f { t with link := { t.link with lastFormat := some f } }

end Sys2Proof.Machine
end

