-- ==== Sys2Proof/Machine/Store.lean ====
section
/-! DEFINITION. The Settings Store: the load, write completion, the wipe, the start-up window, and the resets (chapter 8, and
R181). -/

namespace Sys2Proof.Machine

/-! ## Stored records -/

/-- The place of a key among the 101 records other than the checkpoint (R149). -/
def recordIndex (k : Key) : Fin 101 := Fin.ofNat 101 (keyPosition k - 1)

/-- The stored record of a key other than the checkpoint. -/
def recordOf (s : State) (k : Key) : StoredRecord := s.store.records[recordIndex k]

/-- The image that the load hands over: the stored one, or the default of an invalid record (R151). -/
def loadImage (s : State) (k : Key) : List Word :=
  if validRecord (recordOf s k) then (recordOf s k).image else defaultImage k

/-! ## The load (R145, R151) -/

/-- The lock state and the mismatch mark that a LOCK PAIR image loads (R145). -/
def lockOf (image : List Word) : Bool × Bool :=
  if itemAt image 1 = ~~~ itemAt image 0 then
    if itemAt image 0 = lockWord true then (true, false)
    else if itemAt image 0 = lockWord false then (false, false)
    else (true, true)
  else (true, true)

/-- The notices of one record of the pass: RECORD DEFAULTED, or LOCK PAIR MISMATCH (R145, R151). -/
def loadNotice (s : State) (k : Key) : State :=
  if !validRecord (recordOf s k) then post .recordDefaulted .auto (some (word (keyPosition k))) none s
  else if k = .lockPair && (lockOf (loadImage s k)).2 then
    post .lockPairMismatch .auto (some (itemAt (loadImage s k) 0)) none s
  else s

/-- Every record other than the checkpoint becomes its live copy (R151). -/
def loadRecords (s : State) : State :=
  let lock := lockOf (loadImage s .lockPair)
  { s with
    lamp := { s.lamp with history := historyOf (loadImage s .lampHistory) }
    router := { s.router with
      sources := Vector.ofFn fun n => sourceOf (loadImage s (.source n))
      requested := some (roomOf (loadImage s .roomDefaults)).source }
    geometry := { s.geometry with presets := Vector.ofFn fun n => presetOf (loadImage s (.preset n)) }
    room := { s.room with
      bookings := Vector.ofFn fun n => bookingOf (loadImage s (.booking n))
      exceptions := exceptionsOf (loadImage s .exceptions) }
    lockout := { s.lockout with
      profiles := Vector.ofFn fun n => profileOf (loadImage s (.profile n))
      serviceEnabled := (installOf (loadImage s .install)).serviceDefault
      locked := lock.1, mismatch := lock.2 }
    store := { s.store with
      loaded := true, window := some 10000
      install := installOf (loadImage s .install), room := roomOf (loadImage s .roomDefaults) } }

/-- Load completion, block by block: the lamp account, the lamp mode and a held ON intent, the runner, the lockout, and
last the first resolution (R13 to R17, R42, R44, R77, R131, R137, R151). -/
def completeLoad (s : State) : State :=
  if s.store.loaded then s
  else
    let a := loadRecords (nonLampKeys.foldl loadNotice s)
    let b := firstEvaluation (compareBlankDim (loadLamp a))
    firstResolution (firstLockout (loadRoom (applyOnInStandby b)))

/-! ## Write completion (R12, R158) -/

/-- The stored copy of an entry written (R12, R158). -/
def storeEntry (e : Entry) (slot : Fin 4) (s : State) : State :=
  if e.key = .lampCheckpoint then
    { s with
      store := { s.store with slots := s.store.slots.set slot (sealed (slotImage (nextSequence s) e.image)) }
      lamp := { s.lamp with newest := some (slot, nextSequence s) } }
  else { s with store := { s.store with records := s.store.records.set (recordIndex e.key) (sealed e.image) } }

/-- The second word of WRITE DONE: the slot of a checkpoint, else none (R158). -/
def slotWord (k : Key) (slot : Fin 4) : Word := if k = .lampCheckpoint then word slot.val else noneWord

/-- The write in progress completes (R158). -/
def completeWrite (s : State) : State :=
  match s.store.engine with
  | .writing e slot _ =>
    let a := storeEntry e slot { s with store := { s.store with engine := .idle } }
    let b := postFor .writeDone e.origin (some (word (keyPosition e.key))) (some (slotWord e.key slot)) a
    match e.switch with
    | some kind => makeSwitch kind (accountOf e.image) b
    | none => b
  | .idle | .wiping _ => s

/-! ## The wipe (R163) -/

/-- Record `i` after a wipe: LAMP HISTORY, in place 0, is kept (R163). -/
def wipedRecord (old : Vector StoredRecord 101) (i : Fin 101) : StoredRecord :=
  if i.val = 0 then old[i] else sealed (defaultImage (recordKey i))

/-- The live copies of B, C and D other than the source map take their defaults (R163). -/
def wipeLive (s : State) : State :=
  { s with
    geometry := { s.geometry with presets := Vector.replicate 16 defaultPreset }
    room := { s.room with bookings := Vector.replicate 64 none, exceptions := [] }
    lockout := { s.lockout with profiles := Vector.replicate 8 defaultProfile, locked := false, mismatch := false }
    store := { s.store with install := defaultInstall, room := defaultRoom } }

/-- The blocks act on their new live copies (R163). -/
def wipeActs (old : State) (o : Origin) (s : State) : State :=
  let a := relevel s
  let b := timeoutChanged old.store.room.noSignal
    (editSources (Vector.replicate 8 defaultSource) (List.finRange 8) a)
  let c := triggerEval (evalLampMode (compareBlankDim b))
  refreshLockout o (evaluate (currentBooking old) .edit o c)

/-- Wipe completion (R163). -/
def completeWipe (s : State) : State :=
  match s.store.engine with
  | .wiping _ =>
    let o := match s.store.wipe with
      | some p => portOrigin p
      | none => .auto
    let a := { s with store := { s.store with
      records := Vector.ofFn (wipedRecord s.store.records), engine := .idle, wipe := none } }
    wipeActs s o (postFor .writeDone o (some 0xFFFE#16) (some noneWord) (wipeLive a))
  | .idle | .writing _ _ _ => s

/-! ## The start-up window (R154) -/

/-- The causes of WINDOW CLOSED (R154). -/
inductive WindowCause where
  | expired
  | request
  deriving DecidableEq, Repr

/-- The causes in the manual's order (R154, R176). -/
def windowCauseList : List WindowCause := [.expired, .request]

/-- The window closes with its notice; nothing when it is CLOSED (R154). -/
def closeWindowFor (c : WindowCause) (dest : Option Port) (origin : Origin) (s : State) : State :=
  match s.store.window with
  | none => s
  | some _ =>
    postTo dest .windowClosed origin (some (word (position windowCauseList c))) (some (s.store.protect.setWidth 16))
      { s with store := { s.store with window := none } }

/-! ## Resets (R151, R159, R163, R181) -/

/-- The records after a reset that cuts short a wipe which had written `point` of its 100 records (R163). -/
def cutWipe (old : Vector StoredRecord 101) (point : Nat) (i : Fin 101) : StoredRecord :=
  if i.val = 0 then old[i]
  else if i.val ≤ point then sealed (defaultImage (recordKey i))
  else if i.val = point + 1 then torn old[i].image
  else old[i]

/-- The slots that a reset leaves: a checkpoint write in progress is torn (R12, R159). -/
def slotsAfterReset (s : State) : Vector StoredRecord 4 :=
  match s.store.engine with
  | .writing e slot _ =>
    if e.key = .lampCheckpoint then s.store.slots.set slot (torn (slotImage (nextSequence s) e.image)) else s.store.slots
  | .idle | .wiping _ => s.store.slots

/-- The other records that a reset leaves: the record being written is torn, and a wipe is cut short (R159, R163). -/
def recordsAfterReset (s : State) : Vector StoredRecord 101 :=
  match s.store.engine with
  | .writing e _ _ =>
    if e.key = .lampCheckpoint then s.store.records
    else s.store.records.set (recordIndex e.key) (torn e.image)
  | .wiping _ => Vector.ofFn (cutWipe s.store.records (Config.freeWipePoint s.free % 100))
  | .idle => s.store.records

/-- The block after a reset, with the mode and the clock that the reset leaves; storage, the raw presence lines, and the
model's own queue of commands are kept (R151, R159, R163). -/
def resetState (mode : OperatingMode) (clock : Clock) (phase : Nat) (s : State) : State :=
  { ports := Ports.reset
    lamp := LampUnit.reset
    power := PowerUnit.reset
    link := LinkUnit.reset
    router := RouterUnit.reset s.router.raw
    geometry := GeometryUnit.reset
    room := RoomUnit.reset clock phase
    lockout := LockoutUnit.reset mode
    store := StoreUnit.reset (slotsAfterReset s) (recordsAfterReset s)
    free := s.free + 1
    pending := s.pending }

end Sys2Proof.Machine
end

