-- ==== Sys2Proof/Machine/EventCommands.lean ====
section
/-! DEFINITION. The meanings of the rows that no port sends: resets, the presence lines, the head's messages, and the expiry
of each timer. A timer's row acts while its timer runs and changes nothing otherwise (log entry 10). -/

namespace Sys2Proof.Machine

/-- What a meaning answers. -/
abbrev Result := Host.Outcome State Fault Refusal

/-! ## Reset and load -/

/-- HARD_RESET (R151, R179): every block takes its state after reset, the mode from the strap, the clock UNSET. -/
def execHardReset (strap : OperatingMode) (s : State) : Result := .next (resetState strap Clock.unset 0 s)

/-- LOAD_COMPLETION (R151). -/
def execLoadCompletion (s : State) : Result := .next (finish (completeLoad s))

/-! ## Presence (R69) -/

/-- PRESENCE_LINE_CHANGE (R69). -/
def execPresenceLineChange (n : Fin 6) (present : Bool) (s : State) : Result := .next (rawChange n present s)

/-- STABILITY_TIMER_EXPIRY (R69, R78, R83). -/
def execStabilityTimerExpiry (n : Fin 6) (s : State) : Result :=
  .next (if s.router.stability[n].isSome then finish (stabilityExpires n s) else s)

/-- FIRST_PRESENCE_SAMPLE (R69, R77). -/
def execFirstPresenceSample (s : State) : Result :=
  .next (if s.router.sample.isSome then finish (takeSample s) else s)

/-! ## The head link (chapter 3) -/

/-- ACK (R54, R59, R61, R62). -/
def execAck (tag : BitVec 3) (ok : Bool) (s : State) : Result := .next (finish (ackTaken tag ok (headArrives .ack s)))

/-- REPORT (R64). -/
def execReport (r : Report) (s : State) : Result := .next (finish (reportTaken r s))

/-- STRIKE_RESULT (R65). -/
def execStrikeResult (ok : Bool) (s : State) : Result := .next (finish (strikeResultArrives ok s))

/-- FORMAT (R65). -/
def execFormat (width height : Word) (refresh : Byte) (s : State) : Result :=
  .next (finish (formatTaken (formatOf width height refresh) s))

/-- INVALID_HEAD_MESSAGE (R50): ignored; the bytes gathered are discarded and the receiver hunts again. -/
def execInvalidHeadMessage (s : State) : Result := .next { s with link := { s.link with receiver := [] } }

/-- HEAD_MESSAGE_SENT: the line is free, and a message that has waited for it is sent (R53, R58). -/
def execHeadMessageSent (s : State) : Result := .next (serveLink (messageLeaves s))

/-- ANSWER_TIMER_EXPIRY (R55). -/
def execAnswerTimerExpiry (s : State) : Result := .next (finish (answerExpires s))

/-- SILENCE_TIMER_EXPIRY (R60). -/
def execSilenceTimerExpiry (s : State) : Result := .next (finish (silenceExpires s))

/-! ## The Power Sequencer's timers (chapter 2) -/

/-- REPORT_WAIT_EXPIRY (R41). -/
def execReportWaitExpiry (s : State) : Result := .next { s with power := { s.power with reportWait := none } }

/-- STRIKE_RESULT_TIMEOUT (R33). -/
def execStrikeResultTimeout (s : State) : Result :=
  .next (if s.power.strikeTimer.isSome then finish (attemptFails true s) else s)

/-- RESTRIKE_PAUSE_EXPIRY (R34). -/
def execRestrikePauseExpiry (s : State) : Result :=
  .next (if s.power.pauseTimer.isSome then finish (pauseEnds s) else s)

/-- WARMING_END (R36). -/
def execWarmingEnd (s : State) : Result := .next (if s.power.warmingTimer.isSome then finish (warmingEnds s) else s)

/-- COOLING_END (R37). -/
def execCoolingEnd (s : State) : Result := .next (if s.power.coolingTimer.isSome then finish (coolingEnds s) else s)

/-- The blank-dim timer has run longer than the delay: the mode is evaluated on that (R47). -/
def blankDimPasses (t : Nat) (s : State) : State :=
  evalLampMode { s with power := { s.power with blankDim := some (max t (blankDimDelay s + 1)), dimmed := true } }

/-- BLANK_DIM_EXPIRY (R47). -/
def execBlankDimExpiry (s : State) : Result :=
  .next (match s.power.blankDim with
    | some t => finish (blankDimPasses t s)
    | none => s)

/-- NO_SIGNAL_TIMER_EXPIRY (R85, R48). -/
def execNoSignalTimerExpiry (s : State) : Result :=
  .next (if s.router.noSignal.isSome then finish (noSignalExpires s) else s)

/-! ## The Lamp Account Unit's timers (chapter 1) -/

/-- BURN_SECOND (R3): the second is charged and the next begins. -/
def execBurnSecond (s : State) : Result :=
  .next (if s.lamp.burn.isSome then finish (beginSecond (chargeSecond s)) else s)

/-- HOT_WINDOW_EXPIRY (R5). -/
def execHotWindowExpiry (s : State) : Result := .next { s with lamp := { s.lamp with hotWindow := none } }

/-! ## The other timers -/

/-- SETTLE_TIMER_EXPIRY (R74). -/
def execSettleTimerExpiry (s : State) : Result :=
  .next (if s.router.settle.isSome then finish (settleExpires s) else s)

/-- CLOCK_SECOND (R109): a second of the clock has run. -/
def execClockSecond (s : State) : Result := .next (finish (clockTicks { s with room := { s.room with phase := 0 } }))

/-- WRITE_COMPLETION (R158). -/
def execWriteCompletion (s : State) : Result := .next (finish (completeWrite s))

/-- WIPE_COMPLETION (R163). -/
def execWipeCompletion (s : State) : Result := .next (finish (completeWipe s))

/-- WINDOW_TIMER_EXPIRY (R154). DESIGN CHOICE: no request stands behind it, and WINDOW CLOSED has origin AUTO (log entry
28). -/
def execWindowTimerExpiry (s : State) : Result := .next (closeWindowFor .expired none .auto s)

/-! ## Select periods of a port that are no request (R165, R166) -/

/-- The words on data out in a read period of `whole` words that answers a response: what comes out while the read word
itself goes in is not stated (log entry 6), then the response's words, then zeros (R165). -/
def readOut (r : Response) (whole free : Nat) : List Word :=
  Config.freeWord free :: ((responseWords r ++ List.replicate whole 0).take (whole - 1))

/-- A read period on a port that is not TAKING; one that ends in the middle of a word leaves the response held (R165,
R166). -/
def readPeriod (p : Port) (d : Span) (s : State) : State :=
  let x := portOf s p
  match x.response with
  | none => setPort s p { x with transfer := .idle, dataOut := List.replicate d.whole 0 }
  | some r =>
    let t := { s with free := s.free + 1 }
    if (responseWords r).length ≤ d.whole - 1 && !d.midWord then
      setPort t p { x with transfer := .idle, response := none, dataOut := readOut r d.whole s.free }
    else setPort t p { x with transfer := .responseReady, dataOut := readOut r d.whole s.free }

/-- READ_WORD_PERIOD (R165, R166). -/
def execReadWordPeriod (p : Port) (span : Span) (s : State) : Result :=
  .next (if (portOf s p).transfer = .taking then disregardPeriod p span.whole s
    else if span.whole = 0 then s else readPeriod p span s)

/-- FRAME_DISCARDED (R166): a response held is discarded, no response is made, and the port is IDLE. -/
def execFrameDiscarded (p : Port) (whole : Nat) (s : State) : Result :=
  .next (if (portOf s p).transfer = .taking then disregardPeriod p whole s
    else if whole = 0 then s
    else setPort s p { portOf s p with transfer := .idle, response := none, dataOut := List.replicate whole 0 })

/-- SELECT_WHILE_TAKING (R165). -/
def execSelectWhileTaking (p : Port) (whole : Nat) (s : State) : Result :=
  .next (if (portOf s p).transfer = .taking then disregardPeriod p whole s else s)

/-- RESPONSE_READY (R166): the response goes to the buffer. -/
def execResponseReady (p : Port) (s : State) : Result :=
  .next (if (portOf s p).transfer = .taking then
      setPort s p { portOf s p with
        transfer := .responseReady, response := (portOf s p).deciding, deciding := none }
    else s)

/-- The take of a frame whose code is not in the index (R168, step 1). -/
def takeUnknown (p : Port) (code : Byte) (f : Frame) (s : State) : State :=
  if (portOf s p).transfer = .taking then disregardPeriod p (f.words.length + 1) s
  else decideAnswer p code (malformed .unknownCommand) (beginFrame p (f.words.length + 1) s)

/-- UNKNOWN_COMMAND_FRAME (R168, step 1). A frame whose code is in the index is no occurrence of this row and changes
nothing here; `Instr.wellFormed` excludes it (log entry 9). -/
def execUnknownCommandFrame (p : Port) (code : Byte) (f : Frame) (s : State) : Result :=
  .next (if (commandOfCode code).isSome then s else takeUnknown p code f s)

end Sys2Proof.Machine
end

