-- ==== Sys2Proof/Machine/ReadCommands.lean ====
section
/-! DEFINITION. The reading commands of class OPEN: the data words that each answers (R8, R18, R49, R66, R87, R107, R133,
R148, R164, R174; the order of the words in log entry 8), and their meanings. -/

namespace Sys2Proof.Machine

/-! ## Words of answers (R176) -/

/-- An optional number in a word. -/
def optWord (o : Option Nat) : Word :=
  match o with
  | some n => word n
  | none => noneWord

/-- An optional number in two words. -/
def optWords32 (o : Option Nat) : List Word :=
  match o with
  | some n => words32 n
  | none => [noneWord, noneWord]

/-- The position of an optional value. -/
def optPosition {α : Type} [DecidableEq α] (all : List α) (o : Option α) : Word := optWord (o.map (position all))

/-- Whole units, rounded up. -/
def ceilDiv (n d : Nat) : Nat := (n + d - 1) / d

/-- ENABLED or DISABLED, in that order (R142). -/
def enabledWord (b : Bool) : Word := if b then 0 else 1

/-- A question answered in a word: 1 for yes. -/
def yesWord (b : Bool) : Word := if b then 1 else 0

/-! ## IDENTIFY and READ NOTICES (R173, R174, R177) -/

/-- IDENTIFY (R174). -/
def identifyWords (p : Port) (s : State) : List Word :=
  [0x5A6A#16, 0x0420#16, 0x0001#16, word (position portList p), word (position modeList s.lockout.mode),
   yesWord s.store.loaded, yesWord s.store.window.isSome, (if s.lockout.locked then 0 else 1), markWord s.lockout.mismatch]

/-- The five words of a notice (R177). -/
def noticeWords (n : Notice) : List Word :=
  let g := kindGroup n.kind
  [(if n.lostBefore then 1#1 else 0#1) ++ BitVec.ofNat 3 (position groupList g)
      ++ BitVec.ofNat 3 (position (groupKinds g) n.kind) ++ BitVec.ofNat 3 (position originList n.origin)
      ++ BitVec.ofNat 6 (match n.stamp with | some t => t.second | none => 0),
   word (match n.stamp with | some t => t.day | none => 0),
   (match n.stamp with | some t => word t.minute | none => 0x8000#16),
   n.first, n.second]

/-- READ NOTICES removes up to 8 notices and gives them (R173, R177). -/
def ownReadNotices (p : Port) (s : State) : Answer × State :=
  let x := portOf s p
  let taken := x.notices.take 8
  let rest := x.notices.drop 8
  (doneWith (pairWord taken.length rest.length :: taken.flatMap noticeWords), setPort s p { x with notices := rest })

/-! ## The lamp (R8, R18) -/

/-- A summary (R16). -/
def summaryWords (x : Summary) : List Word :=
  words32 x.serial ++ words32 x.burnSeconds ++ words32 x.strikes ++ words32 x.finalWear ++ [optWord x.removedDay]

/-- The account as READ LAMP ACCOUNT shows it: before the load every field zero, with the tally in the places of the
counters (R8). -/
def shownAccount (s : State) : Account :=
  match s.lamp.account with
  | some a => a
  | none =>
    { serial := 0, installedDay := some 0, wear := s.lamp.tally.wear, secNormal := s.lamp.tally.secNormal
      secEco := s.lamp.tally.secEco, coldStrikes := s.lamp.tally.coldStrikes, hotStrikes := s.lamp.tally.hotStrikes
      failedStrikes := s.lamp.tally.failedStrikes, totalSeconds := 0, totalStrikes := 0, verified := true, previous := none }

/-- READ LAMP ACCOUNT (R8). DESIGN CHOICE: before the load the effective hours and the percentage are formed from the
tally's wear and the rated life is the default; no valid checkpoint is a mark 0 and two zero words; an unset installed or
removed day is 0xFFFF (log entry 27). -/
def lampAccountWords (s : State) : List Word :=
  let a := shownAccount s
  words32 a.serial ++ [optWord a.installedDay] ++ words32 a.wear ++ words32 a.secNormal ++ words32 a.secEco
    ++ words32 a.coldStrikes ++ words32 a.hotStrikes ++ words32 a.failedStrikes ++ words32 a.totalSeconds
    ++ words32 a.totalStrikes ++ [if a.verified then 0 else 1]
    ++ (match a.previous with
        | some x => 1 :: summaryWords x
        | none => List.replicate 10 0)
    ++ words32 (a.wear / 1080) ++ words32 (percentage a.wear (liveLimit s))
    ++ [optPosition levelList s.lamp.level, word s.store.install.ratedLife, markWord s.lamp.replaceInFlight]
    ++ (match s.lamp.newest with
        | some (_, n) => 1 :: words32 n
        | none => [0, 0, 0])

/-- READ LAMP HISTORY (R18). -/
def lampHistoryWords (s : State) : List Word :=
  word s.lamp.history.length :: s.lamp.history.flatMap summaryWords

/-! ## The Power Sequencer (R49) -/

/-- The time left on whichever of the four timers runs, in ms (R49). -/
def powerTimeLeft (u : PowerUnit) : Nat :=
  (((u.strikeTimer.or u.pauseTimer).or u.warmingTimer).or u.coolingTimer).getD 0

/-- READ POWER STATE (R49). DESIGN CHOICE: the blank-dim time is in whole seconds, rounded down and held at 65535, and
before the first evaluation the mode's cause reads none (log entry 27). -/
def powerStateWords (s : State) : List Word :=
  let u := s.power
  [word (position powerStateList u.state),
   (if u.state = .igniting then word (position strikeStepList u.step) else noneWord),
   (if u.state = .igniting then word u.attempt else noneWord),
   markWord u.restartPending, markWord u.offPending, optPosition originList u.ignitionOrigin, markWord u.thermalHold,
   (match u.shutter with
    | some h => yesWord (shutterIsClosed h)
    | none => noneWord),
   (match u.shutter with
    | some .closedManual => 0
    | some .closedAuto => 1
    | some .opened | none => noneWord),
   heldWord (u.blankDim.getD 0 / 1000), word (position lampModeList u.effectiveMode),
   (if u.modeEvaluated then word (position modeCauseList (decideMode s).2) else noneWord),
   optPosition lampModeList u.momentaryMode, word (ceilDiv (powerTimeLeft u) 1000),
   (if u.state = .unknown then yesWord u.reportWait.isNone else noneWord)]

/-! ## The head link (R66) -/

/-- A control message in the lane: its type, and the content of a LAMP MODE or a SHUTTER (R66). DESIGN CHOICE: two words
for each message, 0xFFFF for a type that carries no content (log entry 27). -/
def controlWords (m : ControlMsg) : List Word :=
  [typeWord (controlType m),
   match m with
   | .lampMode x => word (position lampModeList x)
   | .shutter c => yesWord c
   | .ignite | .extinguish | .statusRequest => noneWord]

/-- The report image with its presence mark (R66). DESIGN CHOICE: an empty one is a mark 0 and six zero words (log entry
27). -/
def reportWords (r : Option Report) : List Word :=
  match r with
  | some x => [1, word (position headLampList x.lamp), yesWord x.hot, yesWord x.shutterClosed,
      word (position temperatureList x.temperature), yesWord x.restarted, optSetWord x.committed]
  | none => List.replicate 7 0

/-- The last FORMAT, or none; none and NONE are 0xFFFF in each word (R66, R176). -/
def lastFormatWords (f : Option (Option SignalFormat)) : List Word :=
  match f with
  | none | some none => [noneWord, noneWord, noneWord]
  | some (some x) => [x.width, x.height, x.refresh.setWidth 16]

/-- READ HEAD LINK (R66). DESIGN CHOICE: a count word stands before the messages of the control lane; the time since the
last head message is rounded down to tenths, a mark 0 and a time 0 say that none has come, and 0xFFFF in both words that the
geometry lane is empty (log entry 27). -/
def headLinkWords (s : State) : List Word :=
  let l := s.link
  [word (position linkStateList l.state), yesWord l.sinceMessage.isSome, heldWord (l.sinceMessage.getD 0 / 100)]
    ++ (match l.outstanding with
        | some o => [typeWord (headMsgType o.msg), o.tag.setWidth 16, word o.sends]
        | none => [noneWord, noneWord, noneWord])
    ++ [l.nextTag.setWidth 16, word (sendLimit s), word l.control.length] ++ l.control.flatMap controlWords
    ++ (match l.lane with
        | some x => [setWord x.set.number, word x.progress]
        | none => [noneWord, noneWord])
    ++ reportWords l.reportImage ++ lastFormatWords l.lastFormat
    ++ (match l.lastRejection with
        | some (t, n) => [typeWord t, n.setWidth 16]
        | none => [noneWord, noneWord])

/-! ## The Source Router (R87) -/

/-- A format image: its kind, width, height and refresh rate (R72). DESIGN CHOICE: the kind is a word of its own,
UNKNOWN, NONE or a format from 0 on, and the first two leave the others 0 (log entry 27). -/
def imageWords (f : FormatImage) : List Word :=
  match f with
  | .unknown => [0, 0, 0, 0]
  | .noSignal => [1, 0, 0, 0]
  | .signal x => [2, x.width, x.height, x.refresh.setWidth 16]

/-- An optional input of an entry: IN1 is 1 (R176). -/
def entryInputWord (i : Option (Fin 6)) : Word := optWord (i.map (·.val + 1))

/-- The debounced presence. DESIGN CHOICE: one set word, bit 0 for IN1, and 0xFFFF while it is not yet known (R87, R176; log
entry 27). -/
def presenceWord (d : Option (Vector Bool 6)) : Word :=
  match d with
  | some v => (List.finRange 6).foldl (fun w n => if v[n] then w ||| (1#16 <<< n.val) else w) 0#16
  | none => noneWord

/-- READ ROUTE (R87). DESIGN CHOICE: a count word stands before the chain, the settle time remaining is rounded up to
100 ms, and a no-signal timer that does not run reads 0xFFFF (log entry 27). -/
def routeWords (s : State) : List Word :=
  let r := s.router
  [optWord (r.requested.map (·.val)), optWord (r.routedSource.map (·.val)), word (inputNumber r.routedInput),
   word (position routeStateList r.state)] ++ imageWords r.format
    ++ word r.chain.length :: r.chain.flatMap (fun m => [word m.1.val, entryInputWord m.2])
    ++ (match r.pendingSlot with
        | some q => [word q.source.val, word (position originList q.origin), word (position scopeList q.scope)]
        | none => [noneWord, noneWord, noneWord])
    ++ [markWord r.deferred,
        (if r.state = .settling then word (position originList r.settleOrigin) else noneWord),
        (match r.settle with
         | some t => word (ceilDiv t 100)
         | none => noneWord),
        optWord (r.noSignal.map fun t => ceilDiv t 60000), presenceWord r.debounced]

/-- The six fields of a source entry (R67). -/
def entryWords (e : SourceEntry) : List Word :=
  textWords e.name ++ [entryInputWord e.input, optWord (e.fallback.map (·.val)), optWord (e.preset.map (·.val)),
    (if e.autoFollow then 0 else 1), word (position aspectList e.aspect)]

/-- READ SOURCE MAP: up to three entries from the first (R87). -/
def ownReadSourceMap (ps : List Word) (s : State) : Answer × State :=
  match finOf 8 (numAt ps 0) with
  | none => refuse .outOfRange s
  | some n =>
    (doneWith ((((List.finRange 8).drop n.val).take 3).flatMap fun x => entryWords s.router.sources[x]), s)

/-! ## The Geometry Engine (R107) -/

/-- A trim in two words. -/
def trimWords (t : Trim) : List Word := [intWord t.tx, intWord t.ty]

/-- The eleven fields of the overlay, in the order of R107, each set or unset. -/
def overlayFields (o : Overlay) : List (Option Word) :=
  [o.kv.map intWord, o.kh.map intWord, o.tl.tx.map intWord, o.tl.ty.map intWord, o.tr.tx.map intWord,
   o.tr.ty.map intWord, o.bl.tx.map intWord, o.bl.ty.map intWord, o.br.tx.map intWord, o.br.ty.map intWord,
   o.aspect.map fun a => word (position aspectList a)]

/-- The word whose bit n is set when field n is set (R107). -/
def fieldMask : List (Option Word) → Nat
  | [] => 0
  | o :: r => (if o.isSome then 1 else 0) + 2 * fieldMask r

/-- The values of the fields; that of an unset field is read by nobody and is free (R107; log entry 6). -/
def fieldValues (free : Nat) : List (Option Word) → List Word
  | [] => []
  | o :: r => dataWord o free :: fieldValues (free + 1) r

/-- The corners of the current set, none without one. -/
def cornerWords (s : State) : List Word :=
  match s.geometry.current with
  | some g => [intWord g.corners.tl.x, intWord g.corners.tl.y, intWord g.corners.tr.x, intWord g.corners.tr.y,
      intWord g.corners.bl.x, intWord g.corners.bl.y, intWord g.corners.br.x, intWord g.corners.br.y]
  | none => List.replicate 8 noneWord

/-- The progress index of the lane for the current set, or none (R107). -/
def progressWord (s : State) : Word :=
  match s.link.lane with
  | some l => if l.set.number = s.geometry.setNumber then word l.progress else noneWord
  | none => noneWord

/-- READ GEOMETRY (R107). DESIGN CHOICE: the committed set number is that of the report image, none when a loss has cleared
it; the corners are eight words of none without a set (log entry 27). -/
def geometryWords (s : State) : List Word :=
  let g := s.geometry
  let i := inputsNow s
  [optWord (g.active.map (·.1.val)), optPosition presetCauseList (g.active.map (·.2)),
   optWord (g.momentary.map (·.val)), word (fieldMask (overlayFields g.overlay))]
    ++ fieldValues s.free (overlayFields g.overlay)
    ++ [intWord i.kv, intWord i.kh] ++ trimWords i.tl ++ trimWords i.tr ++ trimWords i.bl ++ trimWords i.br
    ++ [word (position aspectList i.aspect), word (position contentList i.content), word i.ws, word i.hs,
        yesWord (imageSize g.format).isSome]
    ++ cornerWords s
    ++ [pairWord (position geomStatusList g.status) (if isLimited s then 1 else 0),
        (if g.current.isSome then setWord g.setNumber else noneWord), markWord g.commitAcked, progressWord s,
        optSetWord (s.link.reportImage.bind (·.committed))]

/-- READ GEOMETRY uses a free value for each field of the overlay. -/
def ownReadGeometry (s : State) : Answer × State := (doneWith (geometryWords s), { s with free := s.free + 11 })

/-- The fields of a preset (R88). -/
def presetWords (p : Preset) : List Word :=
  textWords p.name ++ [intWord p.kv, intWord p.kh] ++ trimWords p.tl ++ trimWords p.tr ++ trimWords p.bl
    ++ trimWords p.br ++ [optPosition aspectList p.aspect]

/-- READ PRESET (R107). -/
def ownReadPreset (ps : List Word) (s : State) : Answer × State :=
  match finOf 16 (numAt ps 0) with
  | none => refuse .outOfRange s
  | some n => (doneWith (presetWords s.geometry.presets[n]), s)

/-- The tables, in the order ROW, COLUMN (R107). -/
inductive Table where
  | row
  | column
  deriving DecidableEq, Repr

def tableList : List Table := [.row, .column]

/-- The entries that a table has (R95, R96). -/
def tableSize : Table → Nat
  | .row => 26
  | .column => 31

/-- The entries of the current set; none without one (R107). -/
def tableEntries (t : Table) (s : State) : List TableEntry :=
  match s.geometry.current, t with
  | none, _ => []
  | some g, .row => g.rows
  | some g, .column => g.columns

/-- READ GEOMETRY TABLE: up to 14 entries from an index (R107). -/
def ownReadGeometryTable (ps : List Word) (s : State) : Answer × State :=
  match enumAt tableList ps 0 with
  | none => refuse .outOfRange s
  | some t =>
    if tableSize t ≤ numAt ps 1 then refuse .outOfRange s
    else (doneWith ((((tableEntries t s).drop (numAt ps 1)).take 14).flatMap fun e =>
      [word e.first, word e.second, word e.step]), s)

/-! ## The room (R133) -/

/-- The clock, or the unset marker (R133). DESIGN CHOICE: the marker is that of a notice, R177's, in an answer too (log
entry 27). -/
def clockWords (c : Clock) : List Word :=
  if c.isSet then [word c.day, word c.minute, word c.second] else [0, 0x8000#16, 0]

/-- An occurrence with its id, day, P, S and E (R133). -/
def occurrenceWords (o : Occurrence) (b : Booking) : List Word :=
  [word o.id.val, word o.day] ++ words32 (prepOf b o.day) ++ words32 (startOf b o.day) ++ words32 (endOf b o.day)

/-- READ ROOM (R133). DESIGN CHOICE: an absent occurrence is none in every word (log entry 27). -/
def roomWords (p : Port) (s : State) : List Word :=
  clockWords s.room.clock ++ [optWord (portOf s p).dayBase, word (position roomStateList s.room.state)]
    ++ (match s.room.current, currentBooking s with
        | some o, some b => occurrenceWords o b ++ [word s.room.extension, word b.grace]
        | _, _ => List.replicate 10 noneWord)
    ++ (match nextOccurrence s with
        | some (o, b) => occurrenceWords o b
        | none => List.replicate 8 noneWord)
    ++ [markWord s.room.scheduleBlank, word s.store.room.bridgeGap]

/-- The fields of a booking, in the order of R113. DESIGN CHOICE: both kinds take four kind words, a ONE-OFF booking with
mask 0 and last day none (R133; log entry 27). -/
def bookingWords (b : Booking) : List Word :=
  (match b.kind with
   | .oneOff d => [0, 0, word d, noneWord]
   | .weekly m f l => [1, m.setWidth 16, word f, optWord l])
    ++ [word b.startMinute, word b.endMinute, word b.lead, optWord (b.source.map (·.val)), optWord (b.preset.map (·.val)),
        word (position bookingLampModeList b.lampMode), word b.profile.val, word (position endActionList b.endAction),
        word b.grace, word (position portList b.owner)] ++ textWords b.title

/-- READ BOOKING (R133). -/
def ownReadBooking (ps : List Word) (s : State) : Answer × State :=
  match finOf 64 (numAt ps 0) with
  | none => refuse .outOfRange s
  | some n => match s.room.bookings[n] with
    | none => refuse .noSuchEntry s
    | some b => (doneWith (bookingWords b ++ [optWord s.room.taken[n]]), s)

/-- READ EXCEPTIONS: the number, and up to 16 pairs from an index (R133). -/
def ownReadExceptions (ps : List Word) (s : State) : Answer × State :=
  if 31 < numAt ps 0 then refuse .outOfRange s
  else (doneWith (word s.room.exceptions.length ::
    ((s.room.exceptions.drop (numAt ps 0)).take 16).flatMap fun o => [word o.id.val, word o.day]), s)

/-- The first occurrence of the list of R133: the current one, else the first whose E lies after now. -/
def listHead (s : State) : Option (Occurrence × Booking) :=
  match s.room.current with
  | some o => (currentBooking s).map fun b => (o, b)
  | none => leastOccurrence s s.room.clock.day startOf fun _ b d => nowMinute s < endOf b d

/-- Up to `n` occurrences of the list from one on, in order of start (R133). -/
def listFrom (s : State) : Nat → Option (Occurrence × Booking) → List (Occurrence × Booking)
  | 0, _ => []
  | _ + 1, none => []
  | n + 1, some (o, b) =>
    (o, b) :: listFrom s n
      (leastOccurrence s o.day startOf fun _ c d => startOf b o.day < startOf c d)

/-- READ OCCURRENCES: up to four, past the first n (R133). -/
def ownReadOccurrences (ps : List Word) (s : State) : Answer × State :=
  if !s.room.clock.isSet then refuse .clockUnset s
  else (doneWith (((listFrom s (numAt ps 0 + 4) (listHead s)).drop (numAt ps 0)).flatMap fun x =>
    occurrenceWords x.1 x.2 ++ [yesWord (isTaken s x.1)]), s)

/-! ## The lockout (R148) -/

/-- The decision for a role in two bits: 0 permitted, 1 NOT PERMITTED, 2 SERVICE DISABLED (R148). -/
def decisionCode (s : State) (p : Port) (c : CommandClass) : BitVec 2 :=
  match permissionRows s p c with
  | none => 0
  | some .serviceDisabled => 2
  | some _ => 1

/-- The decisions for a class, in role order from bit 0 upward (R148). -/
def decisionWord (s : State) (c : CommandClass) : Word :=
  0#10 ++ decisionCode s .service c ++ decisionCode s .facility c ++ decisionCode s .lectern c

/-- The hold: FOLLOW STANDING, or HELD with its profile or NONE (R138). DESIGN CHOICE: two words, 0 or 1 and then the profile
or none (R148; log entry 27). -/
def holdWords : OverrideHold → List Word
  | .followStanding => [0, noneWord]
  | .held o => [1, optWord (o.map (·.val))]

/-- READ LOCKOUT (R148). DESIGN CHOICE: before the load the active profile and its cause read none, and the vacant profile
and the table their defaults (log entries 27, 28). -/
def lockoutWords (s : State) : List Word :=
  let k := s.lockout
  [word (position modeList k.mode), optWord (k.active.map (·.number.val)),
   optPosition profileCauseList (k.active.map (·.cause)), word s.store.install.vacantProfile.val]
    ++ holdWords k.hold
    ++ [optWord (s.store.room.override.map (·.val)), optWord (k.effective.map (·.profile.val)),
        optPosition scopeList (k.effective.map (·.scope)), enabledWord k.serviceEnabled,
        enabledWord s.store.install.serviceDefault, (if k.locked then 0 else 1), markWord k.mismatch]
    ++ k.profiles.toList.map profileWord ++ classList.map (decisionWord s)

/-! ## The store (R164) -/

/-- READ STORE (R164). DESIGN CHOICE: the window's time is 0 while it is CLOSED, and without a write the key and the time
read none (log entry 27). -/
def storeWords (s : State) : List Word :=
  let t := s.store
  [yesWord t.loaded, t.protect.setWidth 16, (if t.window.isSome then 0 else 1), word (t.window.getD 0 / 1000),
   yesWord t.wipe.isSome]
    ++ (match t.engine with
        | .idle => [0, noneWord, noneWord]
        | .writing e _ left => [1, word (keyPosition e.key), word left]
        | .wiping _ => [2, noneWord, noneWord])
    ++ t.queue.flatMap (fun e => [word (keyPosition e.key), word (position originList e.origin)])

/-- The CRC of a region's live images in key order (R164). -/
def regionCrc (s : State) (r : Region) : Word := crcImage ((regionKeys r).flatMap (liveImage s))

/-- A record write of the region is in progress (R164). -/
def writingIn (s : State) (r : Region) : Bool :=
  match s.store.engine with
  | .writing e _ _ => keyRegion e.key == r
  | .idle | .wiping _ => false

/-- DIGEST (R164). -/
def ownDigest (ps : List Word) (s : State) : Answer × State :=
  match enumAt regionList ps 0 with
  | none => refuse .outOfRange s
  | some r =>
    (doneWith [(if s.store.loaded then regionCrc s r else noneWord),
      word (s.store.queue.filter (fun e => keyRegion e.key == r)).length, yesWord (writingIn s r)], s)

/-- The free booking slots (R164). -/
def freeSlots (s : State) : Nat := ((List.finRange 64).filter fun n => s.room.bookings[n].isNone).length

/-- COUNT FREE (R164). DESIGN CHOICE: during the load the first two items read 0xFFFF (log entry 27). -/
def countFreeWords (s : State) : List Word :=
  [(if s.store.loaded then word (freeSlots s) else noneWord),
   (if s.store.loaded then word (32 - s.room.exceptions.length) else noneWord),
   word (11 - nonLampCount s.store.queue)]

/-! ## The meanings -/

/-- IDENTIFY (R174). -/
def execIdentify (p : Port) (f : Frame) (s : State) : Result :=
  .next (request .identify p f (fun _ _ t => (doneWith (identifyWords p t), t)) s)

/-- READ_NOTICES (R173). -/
def execReadNotices (p : Port) (f : Frame) (s : State) : Result :=
  .next (request .readNotices p f (fun _ _ t => ownReadNotices p t) s)

/-- READ_LAMP_ACCOUNT (R8). -/
def execReadLampAccount (p : Port) (f : Frame) (s : State) : Result :=
  .next (request .readLampAccount p f (fun _ _ t => (doneWith (lampAccountWords t), t)) s)

/-- READ_LAMP_HISTORY (R18). -/
def execReadLampHistory (p : Port) (f : Frame) (s : State) : Result :=
  .next (request .readLampHistory p f (fun _ _ t => (doneWith (lampHistoryWords t), t)) s)

/-- READ_POWER_STATE (R49). -/
def execReadPowerState (p : Port) (f : Frame) (s : State) : Result :=
  .next (request .readPowerState p f (fun _ _ t => (doneWith (powerStateWords t), t)) s)

/-- READ_HEAD_LINK (R66). -/
def execReadHeadLink (p : Port) (f : Frame) (s : State) : Result :=
  .next (request .readHeadLink p f (fun _ _ t => (doneWith (headLinkWords t), t)) s)

/-- READ_ROUTE (R87). -/
def execReadRoute (p : Port) (f : Frame) (s : State) : Result :=
  .next (request .readRoute p f (fun _ _ t => (doneWith (routeWords t), t)) s)

/-- READ_SOURCE_MAP (R87). -/
def execReadSourceMap (p : Port) (f : Frame) (s : State) : Result :=
  .next (request .readSourceMap p f (fun _ ps t => ownReadSourceMap ps t) s)

/-- READ_GEOMETRY (R107). -/
def execReadGeometry (p : Port) (f : Frame) (s : State) : Result :=
  .next (request .readGeometry p f (fun _ _ t => ownReadGeometry t) s)

/-- READ_PRESET (R107). -/
def execReadPreset (p : Port) (f : Frame) (s : State) : Result :=
  .next (request .readPreset p f (fun _ ps t => ownReadPreset ps t) s)

/-- READ_GEOMETRY_TABLE (R107). -/
def execReadGeometryTable (p : Port) (f : Frame) (s : State) : Result :=
  .next (request .readGeometryTable p f (fun _ ps t => ownReadGeometryTable ps t) s)

/-- READ_ROOM (R133). -/
def execReadRoom (p : Port) (f : Frame) (s : State) : Result :=
  .next (request .readRoom p f (fun _ _ t => (doneWith (roomWords p t), t)) s)

/-- READ_BOOKING (R133). -/
def execReadBooking (p : Port) (f : Frame) (s : State) : Result :=
  .next (request .readBooking p f (fun _ ps t => ownReadBooking ps t) s)

/-- READ_EXCEPTIONS (R133). -/
def execReadExceptions (p : Port) (f : Frame) (s : State) : Result :=
  .next (request .readExceptions p f (fun _ ps t => ownReadExceptions ps t) s)

/-- READ_OCCURRENCES (R133). -/
def execReadOccurrences (p : Port) (f : Frame) (s : State) : Result :=
  .next (request .readOccurrences p f (fun _ ps t => ownReadOccurrences ps t) s)

/-- READ_LOCKOUT (R148). -/
def execReadLockout (p : Port) (f : Frame) (s : State) : Result :=
  .next (request .readLockout p f (fun _ _ t => (doneWith (lockoutWords t), t)) s)

/-- READ_STORE (R164). -/
def execReadStore (p : Port) (f : Frame) (s : State) : Result :=
  .next (request .readStore p f (fun _ _ t => (doneWith (storeWords t), t)) s)

/-- DIGEST (R164). -/
def execDigest (p : Port) (f : Frame) (s : State) : Result :=
  .next (request .digest p f (fun _ ps t => ownDigest ps t) s)

/-- COUNT_FREE (R164). -/
def execCountFree (p : Port) (f : Frame) (s : State) : Result :=
  .next (request .countFree p f (fun _ _ t => (doneWith (countFreeWords t), t)) s)

end Sys2Proof.Machine
end

