-- ==== Sys2Proof/Machine/PowerCommands.lean ====
section
/-! DEFINITION. The commands of the port contexts and of the classes POWER, LAMP and SOURCE (R28, R29, R45, R46, R79, R112,
R170). -/

namespace Sys2Proof.Machine

/-- The end of an accepted request: the link is served and the engine takes what it may. A refused request changes
nothing. -/
def finished (r : Answer × State) : Answer × State := if r.1.reason.isSome then r else (r.1, finish r.2)

/-- An accepted answer with its effect. -/
def accept (a : Answer) (s : State) : Answer × State := finished (a, s)

/-! ## The port contexts (R112, R170) -/

/-- The items of SET PORT MODE: a value or KEEP each (R170, R176). -/
structure PortItems where
  scope : Option Scope
  form : Option TimeForm
  subscription : Option (BitVec 8)
  deriving DecidableEq, Repr

/-- A choice item brought to a value of a list, KEEP standing for none; none for an item that is not allowed. -/
def keepItem {α : Type} (read : Word → Option α) (ps : List Word) (i : Nat) : Option (Option α) :=
  match choiceAt ps i [0, 1] with
  | some (.value w) => (read w).map some
  | some .keep => some none
  | _ => none

/-- The items of SET PORT MODE, none when one is out of range (R168, R170). -/
def portItems (ps : List Word) : Option PortItems :=
  match keepItem (enumOf scopeList) ps 0, keepItem (enumOf timeFormList) ps 2, keepItem (setOf 8) ps 4 with
  | some a, some b, some c => some { scope := a, form := b, subscription := c }
  | _, _, _ => none

/-- The context of a port in words (R170). -/
def contextWords (x : PortState) : List Word :=
  [word (position scopeList x.defaultScope), word (position timeFormList x.defaultForm), optWord x.dayBase,
   x.subscription.setWidth 16]

/-- SET PORT MODE on the context of a port (R170). -/
def applyItems (i : PortItems) (x : PortState) : PortState :=
  { x with
    defaultScope := i.scope.getD x.defaultScope, defaultForm := i.form.getD x.defaultForm
    subscription := i.subscription.getD x.subscription }

/-- SET PORT MODE (R170). -/
def ownSetPortMode (p : Port) (ps : List Word) (s : State) : Answer × State :=
  match portItems ps with
  | none => refuse .outOfRange s
  | some i =>
    if p = .lectern && i.scope = some .standing then refuse .notPermitted s
    else (doneWith (contextWords (applyItems i (portOf s p))), setPort s p (applyItems i (portOf s p)))

/-- SET_PORT_MODE (R170). -/
def execSetPortMode (p : Port) (f : Frame) (s : State) : Result :=
  .next (request .setPortMode p f (fun _ ps t => ownSetPortMode p ps t) s)

/-- SET DAY BASE (R112). -/
def ownSetDayBase (p : Port) (ps : List Word) (s : State) : Answer × State :=
  (done, setPort s p { portOf s p with dayBase := some (numAt ps 0) })

/-- SET_DAY_BASE (R112). -/
def execSetDayBase (p : Port) (f : Frame) (s : State) : Result :=
  .next (request .setDayBase p f (fun _ ps t => ownSetDayBase p ps t) s)

/-! ## POWER (R28, R29, R46) -/

/-- POWER ON from a port (R28). -/
def ownPowerOn (p : Port) (s : State) : Answer × State := finished (powerOn (portOrigin p) s)

/-- POWER_ON (R28). -/
def execPowerOn (p : Port) (f : Frame) (s : State) : Result :=
  .next (request .powerOn p f (fun _ _ t => ownPowerOn p t) s)

/-- POWER OFF from a port (R29). -/
def ownPowerOff (p : Port) (s : State) : Answer × State := finished (powerOff (portOrigin p) s)

/-- POWER_OFF (R29). -/
def execPowerOff (p : Port) (f : Frame) (s : State) : Result :=
  .next (request .powerOff p f (fun _ _ t => ownPowerOff p t) s)

/-- The two operations of BLANK, in the manual's order (R46). -/
inductive BlankOp where
  | close
  | openIt
  deriving DecidableEq, Repr

def blankList : List BlankOp := [.close, .openIt]

/-- BLANK (R46). -/
def ownBlank (ps : List Word) (s : State) : Answer × State :=
  match enumAt blankList ps 0 with
  | none => refuse .outOfRange s
  | some .close => accept done (closeManual s)
  | some .openIt => accept done (openShutter s)

/-- BLANK (R46). -/
def execBlank (p : Port) (f : Frame) (s : State) : Result :=
  .next (request .blank p f (fun _ ps t => ownBlank ps t) s)

/-! ## Standing writes (R155, R157) -/

/-- The checks of a standing write in order: protection, the install lock where it applies, the store's place (R155,
R157). -/
def standingCheck (s : State) (r : Region) (installClass : Bool) (keys : List Key) : Option Reason :=
  if isProtected s r then some .regionProtected
  else if installClass && installLocked s then some .installLocked
  else if storeBusy s keys then some .storeBusy
  else none

/-- The live ROOM DEFAULTS replaced, and the record queued (R161). -/
def writeRoom (r : RoomDefaults) (o : Origin) (s : State) : State :=
  queueLive .roomDefaults o { s with store := { s.store with room := r } }

/-! ## LAMP (R45) -/

/-- What SET LAMP MODE carries: a mode, or none for CLEAR; the outer none is out of range. -/
def lampModeItem (ps : List Word) : Option (Option LampMode) :=
  match choiceAt ps 0 [0, 2] with
  | some (.value w) => (enumOf lampModeList w).map some
  | some .clear => some none
  | _ => none

/-- The momentary lamp mode takes a value (R45). -/
def setMomentaryMode (m : Option LampMode) (s : State) : State :=
  { s with power := { s.power with momentaryMode := m } }

/-- SET LAMP MODE by scope (R45). -/
def ownSetLampMode (p : Port) (q : Qualifier) (ps : List Word) (s : State) : Answer × State :=
  match lampModeItem ps, q.scope with
  | none, _ => refuse .outOfRange s
  | some m, .momentary => accept done (evalLampMode (setMomentaryMode m s))
  | some none, .standing => refuse .outOfRange s
  | some (some m), .standing =>
    match standingCheck s .c false [.roomDefaults] with
    | some r => refuse r s
    | none => accept (doneQueued false [])
        (evalLampMode (writeRoom { s.store.room with lampMode := m } (portOrigin p) (setMomentaryMode none s)))

/-- SET_LAMP_MODE (R45). -/
def execSetLampMode (p : Port) (f : Frame) (s : State) : Result :=
  .next (request .setLampMode p f (fun q ps t => ownSetLampMode p q ps t) s)

/-! ## SOURCE (R79) -/

/-- The standing part of an accepted SELECT SOURCE (R79). -/
def storeSource (x : Fin 8) (o : Origin) (s : State) : State := writeRoom { s.store.room with source := x } o s

/-- SELECT SOURCE by scope; an accepted standing request sets the default as well and carries QUEUED (R79). DEDUCED: the
route effect and its notices come before the queueing and its WRITE DROPPED (log entry 37). -/
def ownSelectSource (p : Port) (q : Qualifier) (ps : List Word) (s : State) : Answer × State :=
  match finOf 8 (numAt ps 0) with
  | none => refuse .outOfRange s
  | some x =>
    match q.scope with
    | .momentary => finished (routeRequest { source := x, origin := portOrigin p, scope := .momentary } s)
    | .standing =>
      match standingCheck s .c false [.roomDefaults] with
      | some r => refuse r s
      | none =>
        match routeRequest { source := x, origin := portOrigin p, scope := .standing } s with
        | (a, t) =>
          if a.reason.isSome then (a, s)
          else accept { a with queued := true } (storeSource x (portOrigin p) t)

/-- SELECT_SOURCE (R79). -/
def execSelectSource (p : Port) (f : Frame) (s : State) : Result :=
  .next (request .selectSource p f (fun q ps t => ownSelectSource p q ps t) s)

end Sys2Proof.Machine
end

