-- ==== Sys2Proof/Machine/GeometryCommands.lean ====
section
/-! DEFINITION. The commands of class GEOMETRY (R101 to R106). -/

namespace Sys2Proof.Machine

/-! ## Values and records (R101) -/

/-- A value of a geometry command: given, KEEP or CLEAR. -/
inductive Field where
  | value (i : Int)
  | keep
  | clear
  deriving DecidableEq, Repr

/-- A field item brought into range, with whether it was replaced; none for a selector not allowed (R101, R168). -/
def fieldAt (lo hi : Int) (ps : List Word) (i : Nat) : Option (Field × Bool) :=
  match choiceAt ps i [0, 1, 2] with
  | some (.value w) => some (.value (clampInt lo hi w.toInt), clampInt lo hi w.toInt != w.toInt)
  | some .keep => some (.keep, false)
  | some .clear => some (.clear, false)
  | _ => none

/-- An overlay field after a MOMENTARY item (R103). -/
def overlayField (f : Field) (old : Option Int) : Option Int :=
  match f with
  | .value i => some i
  | .keep => old
  | .clear => none

/-- A preset field after a STANDING item (R103). -/
def presetField (f : Field) (old : Int) : Int :=
  match f with
  | .value i => i
  | .keep | .clear => old

/-- An overlay field after a STANDING item: unset when a value was given (R103). -/
def releasedField (f : Field) (old : Option Int) : Option Int :=
  match f with
  | .value _ => none
  | .keep | .clear => old

/-- The overlay replaced. -/
def setOverlay (o : Overlay) (s : State) : State := { s with geometry := { s.geometry with overlay := o } }

/-- Preset `n` replaced, and its record queued (R101). -/
def writePreset (n : Fin 16) (x : Preset) (o : Origin) (s : State) : State :=
  queueLive (.preset n) o { s with geometry := { s.geometry with presets := s.geometry.presets.set n x } }

/-- DONE, with CLAMPED when a value was replaced (R101). -/
def doneClamped (c : Bool) : Answer := { done with clamped := c }

/-- The overlay, the momentary preset, the preset records and the default preset are in `t` as they are in `s`. -/
def sameShape (s t : State) : Bool :=
  t.geometry.overlay == s.geometry.overlay && t.geometry.momentary == s.geometry.momentary &&
    t.geometry.presets == s.geometry.presets && t.store.room.preset == s.store.room.preset

/-- The trigger evaluation of a geometry command that has made `t` of `s`: none when the command has changed nothing
that R97 names. DEDUCED: a nudge at its limit follows R97 too, so that in HELD it makes a new set where it sets an unset
overlay field, and no evaluation where the overlay held the value, against R103's last sentence (log entry 36). -/
def commandEval (s t : State) : State := if sameShape s t then t else triggerEval t

/-- A MOMENTARY geometry command: the overlay takes a value, and a change of it is a trigger (R97, R101). -/
def momentaryGeometry (clamped : Bool) (o : Overlay) (s : State) : Answer × State :=
  accept (doneClamped clamped) (commandEval s (setOverlay o s))

/-- A STANDING geometry command on the active preset: the checks of R101, then the record and the overlay, a change of
which is a trigger (R97). -/
def standingGeometry (p : Port) (clamped : Bool) (x : Preset) (o : Overlay) (s : State) : Answer × State :=
  let n := activePreset s
  match standingCheck s .c true [.preset n] with
  | some r => refuse r s
  | none => accept (doneQueued clamped [word n.val])
      (commandEval s (setOverlay o (writePreset n x (portOrigin p) s)))

/-- The record of the active preset. -/
def activeRecord (s : State) : Preset := s.geometry.presets[activePreset s]

/-! ## LOAD PRESET (R102) -/

/-- What LOAD PRESET carries: a preset, or none for CLEAR; the outer none is out of range. -/
def presetItem (ps : List Word) : Option (Option (Fin 16)) :=
  match choiceAt ps 0 [0, 2] with
  | some (.value w) => (finOf 16 w.toNat).map some
  | some .clear => some none
  | _ => none

/-- The momentary preset takes a value. -/
def setMomentaryPreset (n : Option (Fin 16)) (s : State) : State :=
  { s with geometry := { s.geometry with momentary := n } }

/-- LOAD PRESET by scope (R102). -/
def ownLoadPreset (p : Port) (q : Qualifier) (ps : List Word) (s : State) : Answer × State :=
  match presetItem ps, q.scope with
  | none, _ => refuse .outOfRange s
  | some n, .momentary => accept done (commandEval s (setMomentaryPreset n s))
  | some none, .standing => refuse .outOfRange s
  | some (some n), .standing =>
    match standingCheck s .c false [.roomDefaults] with
    | some r => refuse r s
    | none => accept (doneQueued false [word (keyPosition .roomDefaults)])
        (commandEval s (setMomentaryPreset none (writeRoom { s.store.room with preset := n } (portOrigin p) s)))

/-- LOAD_PRESET (R102). -/
def execLoadPreset (p : Port) (f : Frame) (s : State) : Result :=
  .next (request .loadPreset p f (fun q ps t => ownLoadPreset p q ps t) s)

/-! ## SET KEYSTONE and NUDGE KEYSTONE (R103) -/

/-- SET KEYSTONE by scope (R103). -/
def ownSetKeystone (p : Port) (q : Qualifier) (ps : List Word) (s : State) : Answer × State :=
  match fieldAt (-40) 40 ps 0, fieldAt (-30) 30 ps 2 with
  | some (v, a), some (h, b) =>
    let o := s.geometry.overlay
    match q.scope with
    | .momentary => momentaryGeometry (a || b) { o with kv := overlayField v o.kv, kh := overlayField h o.kh } s
    | .standing =>
      let x := activeRecord s
      standingGeometry p (a || b) { x with kv := presetField v x.kv, kh := presetField h x.kh }
        { o with kv := releasedField v o.kv, kh := releasedField h o.kh } s
  | _, _ => refuse .outOfRange s

/-- SET_KEYSTONE (R103). -/
def execSetKeystone (p : Port) (f : Frame) (s : State) : Result :=
  .next (request .setKeystone p f (fun q ps t => ownSetKeystone p q ps t) s)

/-- The axes of NUDGE KEYSTONE, in the manual's order (R103). -/
inductive Axis where
  | vertical
  | horizontal
  deriving DecidableEq, Repr

def axisList : List Axis := [.vertical, .horizontal]

/-- The limit of an axis (R88). -/
def axisLimit : Axis → Int
  | .vertical => 40
  | .horizontal => 30

/-- The effective value of an axis (R91). -/
def axisValue (s : State) : Axis → Int
  | .vertical => (effectivePreset s).kv
  | .horizontal => (effectivePreset s).kh

/-- An overlay with the field of an axis at a value. -/
def withAxis (x : Axis) (i : Option Int) (o : Overlay) : Overlay :=
  match x with
  | .vertical => { o with kv := i }
  | .horizontal => { o with kh := i }

/-- A preset with the field of an axis at a value. -/
def presetAxis (x : Axis) (i : Int) (r : Preset) : Preset :=
  match x with
  | .vertical => { r with kv := i }
  | .horizontal => { r with kh := i }

/-- NUDGE KEYSTONE by scope (R103). -/
def ownNudgeKeystone (p : Port) (q : Qualifier) (ps : List Word) (s : State) : Answer × State :=
  match enumAt axisList ps 0 with
  | none => refuse .outOfRange s
  | some x =>
    let sum := axisValue s x + (itemAt ps 1).toInt
    let new := clampInt (-(axisLimit x)) (axisLimit x) sum
    match q.scope with
    | .momentary => momentaryGeometry (new != sum) (withAxis x (some new) s.geometry.overlay) s
    | .standing =>
      standingGeometry p (new != sum) (presetAxis x new (activeRecord s)) (withAxis x none s.geometry.overlay) s

/-- NUDGE_KEYSTONE (R103). -/
def execNudgeKeystone (p : Port) (f : Frame) (s : State) : Result :=
  .next (request .nudgeKeystone p f (fun q ps t => ownNudgeKeystone p q ps t) s)

/-! ## SET CORNER and SET ASPECT (R104) -/

/-- The corners, in the manual's order (R104). -/
inductive Corner where
  | tl
  | tr
  | bl
  | br
  deriving DecidableEq, Repr

def cornerList : List Corner := [.tl, .tr, .bl, .br]

/-- The overlay with the fields of a corner changed. -/
def mapCornerOverlay (c : Corner) (g : TrimOverlay → TrimOverlay) (o : Overlay) : Overlay :=
  match c with
  | .tl => { o with tl := g o.tl }
  | .tr => { o with tr := g o.tr }
  | .bl => { o with bl := g o.bl }
  | .br => { o with br := g o.br }

/-- The preset with the trim of a corner changed. -/
def mapCornerPreset (c : Corner) (g : Trim → Trim) (x : Preset) : Preset :=
  match c with
  | .tl => { x with tl := g x.tl }
  | .tr => { x with tr := g x.tr }
  | .bl => { x with bl := g x.bl }
  | .br => { x with br := g x.br }

/-- SET CORNER by scope (R104). -/
def ownSetCorner (p : Port) (q : Qualifier) (ps : List Word) (s : State) : Answer × State :=
  match enumAt cornerList ps 0, fieldAt (-64) 64 ps 1, fieldAt (-64) 64 ps 3 with
  | some c, some (x, a), some (y, b) =>
    let o := s.geometry.overlay
    match q.scope with
    | .momentary =>
      momentaryGeometry (a || b) (mapCornerOverlay c (fun t => ⟨overlayField x t.tx, overlayField y t.ty⟩) o) s
    | .standing =>
      standingGeometry p (a || b)
        (mapCornerPreset c (fun t => ⟨presetField x t.tx, presetField y t.ty⟩) (activeRecord s))
        (mapCornerOverlay c (fun t => ⟨releasedField x t.tx, releasedField y t.ty⟩) o) s
  | _, _, _ => refuse .outOfRange s

/-- SET_CORNER (R104). -/
def execSetCorner (p : Port) (f : Frame) (s : State) : Result :=
  .next (request .setCorner p f (fun q ps t => ownSetCorner p q ps t) s)

/-- What SET ASPECT carries: an aspect, or none for CLEAR, with whether a code beyond the list was taken as STANDARD;
the outer none is out of range (R101, R104). -/
def aspectItem (ps : List Word) : Option (Option Aspect × Bool) :=
  match choiceAt ps 0 [0, 2] with
  | some (.value w) =>
    match enumOf aspectList w with
    | some a => some (some a, false)
    | none => some (some .standard, true)
  | some .clear => some (none, false)
  | _ => none

/-- SET ASPECT by scope (R104). -/
def ownSetAspect (p : Port) (q : Qualifier) (ps : List Word) (s : State) : Answer × State :=
  match aspectItem ps with
  | none => refuse .outOfRange s
  | some (a, c) =>
    match q.scope with
    | .momentary => momentaryGeometry c { s.geometry.overlay with aspect := a } s
    | .standing =>
      standingGeometry p c { activeRecord s with aspect := a } { s.geometry.overlay with aspect := none } s

/-- SET_ASPECT (R104). -/
def execSetAspect (p : Port) (f : Frame) (s : State) : Result :=
  .next (request .setAspect p f (fun q ps t => ownSetAspect p q ps t) s)

/-! ## SAVE PRESET and REAPPLY GEOMETRY (R105, R106) -/

/-- The name of SAVE PRESET: given, or none; the outer none is out of range (R105). -/
def nameItem (ps : List Word) : Option (Option (List Byte)) :=
  match choiceAt ps 1 [0, 3] with
  | some (.value n) => if 12 < n.toNat then none else some (some (textAt ps 2))
  | some .absent => some none
  | _ => none

/-- The content that SAVE PRESET writes into preset `n` (R105). -/
def savedPreset (s : State) (n : Fin 16) (name : Option (List Byte)) : Preset :=
  { effectivePreset s with name := name.getD s.geometry.presets[n].name }

/-- SAVE PRESET (R105). -/
def ownSavePreset (p : Port) (ps : List Word) (s : State) : Answer × State :=
  match finOf 16 (numAt ps 0), nameItem ps with
  | some n, some name =>
    match standingCheck s .c true [.preset n] with
    | some r => refuse r s
    | none =>
      let t := writePreset n (savedPreset s n name) (portOrigin p) s
      accept (doneQueued false [word n.val]) (commandEval s (if n = activePreset s then setOverlay Overlay.empty t else t))
  | _, _ => refuse .outOfRange s

/-- SAVE_PRESET (R105). -/
def execSavePreset (p : Port) (f : Frame) (s : State) : Result :=
  .next (request .savePreset p f (fun _ ps t => ownSavePreset p ps t) s)

/-- REAPPLY GEOMETRY (R106). -/
def ownReapplyGeometry (s : State) : Answer × State :=
  if s.geometry.started then accept done (makeSet (recordActive s)) else refuse .wrongState s

/-- REAPPLY_GEOMETRY (R106). -/
def execReapplyGeometry (p : Port) (f : Frame) (s : State) : Result :=
  .next (request .reapplyGeometry p f (fun _ _ t => ownReapplyGeometry t) s)

end Sys2Proof.Machine
end

