-- ==== Sys2Proof/Machine/ScheduleCommands.lean ====
section
/-! DEFINITION. The commands of class SCHEDULE (R110, R116 to R119, R128, R129). -/

namespace Sys2Proof.Machine

/-! ## SET CLOCK (R110) -/

/-- SET CLOCK (R110). -/
def ownSetClock (p : Port) (ps : List Word) (s : State) : Answer × State :=
  if 1439 < numAt ps 1 || 59 < numAt ps 2 then refuse .outOfRange s
  else accept (doneWith (clockWords s.room.clock))
    (jumpClock { day := numAt ps 0, minute := numAt ps 1, second := numAt ps 2, isSet := true } (portOrigin p) s)

/-- SET_CLOCK (R110). -/
def execSetClock (p : Port) (f : Frame) (s : State) : Result :=
  .next (request .setClock p f (fun _ ps t => ownSetClock p ps t) s)

/-! ## The parameters of a booking (R112, R113, R116) -/

/-- The day of a time: the day word in LONG form, the port's day base in SHORT form (R112). -/
def dayOf (form : TimeForm) (base : Option Nat) (w : Word) : Nat :=
  match form with
  | .long => w.toNat
  | .short => base.getD 0

/-- A value of a list, or absent; none for an item that is not allowed (R116, R176). -/
def absentItem {α : Type} (read : Word → Option α) (ps : List Word) (i : Nat) : Option (Option α) :=
  match choiceAt ps i [0, 3] with
  | some (.value w) => (read w).map some
  | some .absent => some none
  | _ => none

/-- The kinds, in the manual's order (R113). -/
inductive KindName where
  | oneOff
  | weekly
  deriving DecidableEq, Repr

def kindList : List KindName := [.oneOff, .weekly]

/-- The kind of a booking, the anchor's day given; mask and last day are disregarded for a ONE-OFF booking (R113,
R116). -/
def kindItem (day : Nat) (ps : List Word) : Option BookingKind :=
  match enumAt kindList ps 0 with
  | none => none
  | some .oneOff => some (.oneOff day)
  | some .weekly =>
    match setOf 7 (itemAt ps 1), absentItem (fun w => some w.toNat) ps 2 with
    | some mask, some last =>
      if mask = 0 || (match last with | some l => decide (l < day) | none => false) then none
      else some (.weekly mask day last)
    | _, _ => none

/-- A booking's fields lie within their values (R113). -/
def bookingInRange (start stop lead grace title : Nat) : Bool :=
  start ≤ 1430 && start + 10 ≤ stop && stop ≤ 1440 && lead ≤ 30 && grace ≤ 60 && title ≤ 16

/-- The booking that the parameters carry, none when a field is out of range (R116, step 1). -/
def bookingItem (form : TimeForm) (base : Option Nat) (owner : Port) (ps : List Word) : Option Booking :=
  match kindItem (dayOf form base (itemAt ps 4)) ps, absentItem (fun w => finOf 8 w.toNat) ps 8,
      absentItem (fun w => finOf 16 w.toNat) ps 10, enumAt bookingLampModeList ps 12, finOf 8 (numAt ps 13),
      enumAt endActionList ps 14 with
  | some kind, some source, some preset, some lampMode, some profile, some endAction =>
    if bookingInRange (numAt ps 5) (numAt ps 6) (numAt ps 7) (numAt ps 15) (numAt ps 16) then
      some
        { kind := kind, startMinute := numAt ps 5, endMinute := numAt ps 6, lead := numAt ps 7, source := source
          preset := preset, lampMode := lampMode, profile := profile, endAction := endAction, grace := numAt ps 15
          owner := owner, title := textAt ps 16 }
    else none
  | _, _, _, _, _, _ => none

/-- Slot `id` of the table takes a value. -/
def putBooking (id : Fin 64) (b : Option Booking) (s : State) : State :=
  { s with room := { s.room with bookings := s.room.bookings.set id b } }

/-- The exception list takes a value. -/
def putExceptions (l : List Occurrence) (s : State) : State := { s with room := { s.room with exceptions := l } }

/-- The taken marker of a slot is cleared. -/
def clearTaken (id : Fin 64) (s : State) : State :=
  { s with room := { s.room with taken := s.room.taken.set id none } }

/-- The EXCEPTIONS record is queued when the list differs from the old one. -/
def queueExceptions (old : List Occurrence) (o : Origin) (s : State) : State :=
  if s.room.exceptions = old then s else queueLive .exceptions o s

/-! ## ADD BOOKING (R116) -/

/-- The lowest free slot. -/
def freeSlot (s : State) : Option (Fin 64) := (List.finRange 64).find? fun n => s.room.bookings[n].isNone

/-- The new booking conflicts, or the table with it fails the extended-reach test (R115, R116). -/
def conflictWith (id : Fin 64) (b : Booking) (t : State) : Bool := conflictsAt t id b || reachFails t

/-- ADD BOOKING (R116). -/
def ownAddBooking (p : Port) (q : Qualifier) (ps : List Word) (s : State) : Answer × State :=
  match bookingItem q.form (portOf s p).dayBase p ps with
  | none => refuse .outOfRange s
  | some b =>
    if isProtected s .d then refuse .regionProtected s
    else match freeSlot s with
      | none => refuse .tableFull s
      | some id =>
        let t := clearTaken id (putBooking id (some b) s)
        if conflictWith id b t then refuse .conflict s
        else if storeBusy s [.booking id] then refuse .storeBusy s
        else accept (doneQueued false [word id.val])
          (evaluate none .edit (portOrigin p) (queueLive (.booking id) (portOrigin p) t))

/-- ADD_BOOKING (R116). -/
def execAddBooking (p : Port) (f : Frame) (s : State) : Result :=
  .next (request .addBooking p f (fun q ps t => ownAddBooking p q ps t) s)

/-! ## CHANGE BOOKING (R117) -/

/-- The exceptions that still name an occurrence when slot `id` takes a kind (R117). -/
def keptExceptions (id : Fin 64) (k : BookingKind) (l : List Occurrence) : List Occurrence :=
  l.filter fun o => o.id != id ||
    (match k with
     | .oneOff _ => false
     | .weekly _ _ _ => occursOn k o.day)

/-- The keys that an edit of slot `id` writes, EXCEPTIONS when its list changes (R117, R118). -/
def editKeys (id : Fin 64) (old new : List Occurrence) : List Key :=
  if new = old then [.booking id] else [.booking id, .exceptions]

/-- The effects of an edit of the current booking whose occurrence stays (R117). -/
def currentEdited (old new : Booking) (o : Origin) (s : State) : State :=
  let t := evalLampMode (refreshProfile o s)
  if old.preset = new.preset then t else triggerEval t

/-- CHANGE BOOKING on a booking whose checks passed (R117). -/
def changeBooking (id : Fin 64) (old new : Booking) (o : Origin) (s : State) : State :=
  let t := putExceptions (keptExceptions id new.kind s.room.exceptions) (putBooking id (some new) s)
  let u := queueExceptions s.room.exceptions o (queueLive (.booking id) o t)
  let v := evaluate none .edit o u
  if s.room.current.any (fun c => c.id == id) && v.room.current == s.room.current && v.room.state == s.room.state then
    currentEdited old new o v
  else v

/-- CHANGE BOOKING (R117). -/
def ownChangeBooking (p : Port) (q : Qualifier) (ps : List Word) (s : State) : Answer × State :=
  match finOf 64 (numAt ps 0), bookingItem q.form (portOf s p).dayBase p (ps.drop 1) with
  | some id, some b =>
    match s.room.bookings[id] with
    | none => refuse .noSuchEntry s
    | some old =>
      let new := { b with owner := old.owner }
      let kept := keptExceptions id new.kind s.room.exceptions
      if isProtected s .d then refuse .regionProtected s
      else if conflictWith id new (putExceptions kept (putBooking id (some new) s)) then refuse .conflict s
      else if storeBusy s (editKeys id s.room.exceptions kept) then refuse .storeBusy s
      else accept (doneQueued false []) (changeBooking id old new (portOrigin p) s)
  | _, _ => refuse .outOfRange s

/-- CHANGE_BOOKING (R117). -/
def execChangeBooking (p : Port) (f : Frame) (s : State) : Result :=
  .next (request .changeBooking p f (fun q ps t => ownChangeBooking p q ps t) s)

/-! ## REMOVE BOOKING (R118) -/

/-- REMOVE BOOKING on a slot whose checks passed (R118). -/
def removeBooking (id : Fin 64) (o : Origin) (s : State) : State :=
  let t := putExceptions (s.room.exceptions.filter fun x => x.id != id) (clearTaken id (putBooking id none s))
  evaluate (currentBooking s) .edit o (queueExceptions s.room.exceptions o (queueLive (.booking id) o t))

/-- REMOVE BOOKING (R118). -/
def ownRemoveBooking (p : Port) (ps : List Word) (s : State) : Answer × State :=
  match finOf 64 (numAt ps 0) with
  | none => refuse .outOfRange s
  | some id =>
    if s.room.bookings[id].isNone then refuse .noSuchEntry s
    else if isProtected s .d then refuse .regionProtected s
    else if storeBusy s (editKeys id s.room.exceptions (s.room.exceptions.filter fun x => x.id != id)) then
      refuse .storeBusy s
    else accept (doneQueued false []) (removeBooking id (portOrigin p) s)

/-- REMOVE_BOOKING (R118). -/
def execRemoveBooking (p : Port) (f : Frame) (s : State) : Result :=
  .next (request .removeBooking p f (fun _ ps t => ownRemoveBooking p ps t) s)

/-! ## CANCEL and RESTORE OCCURRENCE (R119) -/

/-- The exception list takes a value, its record is queued, and an evaluation is made (R119). -/
def editExceptions (l : List Occurrence) (o : Origin) (s : State) : State :=
  evaluate none .edit o (queueLive .exceptions o (putExceptions l s))

/-- CANCEL OCCURRENCE (R119). -/
def ownCancelOccurrence (p : Port) (q : Qualifier) (ps : List Word) (s : State) : Answer × State :=
  match finOf 64 (numAt ps 0) with
  | none => refuse .outOfRange s
  | some id =>
    let o : Occurrence := ⟨id, dayOf q.form (portOf s p).dayBase (itemAt ps 1)⟩
    if !namesWeekly s o || isCancelled s o then refuse .noSuchEntry s
    else if s.room.clock.isSet && o.day < s.room.clock.day then refuse .outOfRange s
    else if isProtected s .d then refuse .regionProtected s
    else if 32 ≤ s.room.exceptions.length then refuse .tableFull s
    else if storeBusy s [.exceptions] then refuse .storeBusy s
    else accept (doneQueued false []) (editExceptions (insertException o s.room.exceptions) (portOrigin p) s)

/-- CANCEL_OCCURRENCE (R119). -/
def execCancelOccurrence (p : Port) (f : Frame) (s : State) : Result :=
  .next (request .cancelOccurrence p f (fun q ps t => ownCancelOccurrence p q ps t) s)

/-- RESTORE OCCURRENCE (R119). -/
def ownRestoreOccurrence (p : Port) (q : Qualifier) (ps : List Word) (s : State) : Answer × State :=
  match finOf 64 (numAt ps 0) with
  | none => refuse .outOfRange s
  | some id =>
    let o : Occurrence := ⟨id, dayOf q.form (portOf s p).dayBase (itemAt ps 1)⟩
    let l := s.room.exceptions.filter fun x => x != o
    if !isCancelled s o then refuse .noSuchEntry s
    else if isProtected s .d then refuse .regionProtected s
    else if reachFails (putExceptions l s) then refuse .conflict s
    else if storeBusy s [.exceptions] then refuse .storeBusy s
    else accept (doneQueued false []) (editExceptions l (portOrigin p) s)

/-- RESTORE_OCCURRENCE (R119). -/
def execRestoreOccurrence (p : Port) (f : Frame) (s : State) : Result :=
  .next (request .restoreOccurrence p f (fun q ps t => ownRestoreOccurrence p q ps t) s)

/-! ## EXTEND BOOKING and RELEASE ROOM (R128, R129) -/

/-- The extended end passes the start of the following occurrence (R128). -/
def passesFollowing (s : State) (o : Occurrence) (b : Booking) (m : Nat) : Bool :=
  match following s o (startOf b o.day) with
  | some (x, c) => startOf c x.day < endOf b o.day + s.room.extension + m
  | none => false

/-- EXTEND BOOKING (R128). DEDUCED: an end past midnight is counted on from the minute 1440, and does not wrap (log entry
33). -/
def ownExtendBooking (ps : List Word) (s : State) : Answer × State :=
  match s.room.state, s.room.current, currentBooking s with
  | .occupied, some o, some b =>
    let m := numAt ps 0
    if m = 0 || 60 < m || b.grace < s.room.extension + m then refuse .outOfRange s
    else if passesFollowing s o b m then refuse .conflict s
    else accept (doneWith [word (s.room.extension + m), word (b.endMinute + s.room.extension + m)])
      { s with room := { s.room with extension := s.room.extension + m } }
  | _, _, _ => refuse .wrongState s

/-- EXTEND_BOOKING (R128). -/
def execExtendBooking (p : Port) (f : Frame) (s : State) : Result :=
  .next (request .extendBooking p f (fun _ ps t => ownExtendBooking ps t) s)

/-- RELEASE ROOM (R129). -/
def ownReleaseRoom (p : Port) (s : State) : Answer × State :=
  match s.room.current with
  | none => refuse .wrongState s
  | some o => accept done (endOccurrence o none .release (portOrigin p) s)

/-- RELEASE_ROOM (R129). -/
def execReleaseRoom (p : Port) (f : Frame) (s : State) : Result :=
  .next (request .releaseRoom p f (fun _ _ t => ownReleaseRoom p t) s)

end Sys2Proof.Machine
end

