-- ==== Sys2Proof/Machine/SettingsCommands.lean ====
section
/-! DEFINITION. The commands of the classes SETTINGS and LOCKOUT (R68, R136, R139, R142, R147, R153, R154, R160 to R162). -/

namespace Sys2Proof.Machine

/-! ## SET SOURCE ENTRY (R68) -/

/-- The number of an input in a request, IN1 being 1 (R68, R176). -/
def inputOf (w : Word) : Option (Fin 6) := if w.toNat = 0 then none else finOf 6 (w.toNat - 1)

/-- The auto-follow values, in the manual's order "set, clear" (R67, R176). -/
def autoFollowList : List Bool := [true, false]

/-- The entry that the parameters carry, none when a field is out of range (R68, step 1). -/
def entryItem (ps : List Word) : Option SourceEntry :=
  let name := textAt ps 1
  let r := ps.drop (2 + textLength (itemAt ps 1))
  match absentItem inputOf r 0, absentItem (fun w => finOf 8 w.toNat) r 2, absentItem (fun w => finOf 16 w.toNat) r 4,
      enumAt autoFollowList r 6, enumAt aspectList r 7 with
  | some input, some fallback, some preset, some autoFollow, some aspect =>
    if 12 < numAt ps 1 then none
    else some { name := name, input := input, fallback := fallback, preset := preset, autoFollow := autoFollow, aspect := aspect }
  | _, _, _, _, _ => none

/-- SET SOURCE ENTRY on an entry whose checks passed: the record is queued and the router acts on the edit (R68). -/
def writeEntry (n : Fin 8) (e : SourceEntry) (o : Origin) (s : State) : State :=
  let new := s.router.sources.set n e
  editSources new [n] (queueEntry { key := .source n, image := sourceImage e, origin := o, switch := none } s)

/-- SET SOURCE ENTRY (R68). -/
def ownSetSourceEntry (p : Port) (ps : List Word) (s : State) : Answer × State :=
  match finOf 8 (numAt ps 0), entryItem ps with
  | some n, some e =>
    match standingCheck s .b true [.source n] with
    | some r => refuse r s
    | none => accept (doneQueued false []) (writeEntry n e (portOrigin p) s)
  | _, _ => refuse .outOfRange s

/-- SET_SOURCE_ENTRY (R68). -/
def execSetSourceEntry (p : Port) (f : Frame) (s : State) : Result :=
  .next (request .setSourceEntry p f (fun _ ps t => ownSetSourceEntry p ps t) s)

/-! ## SET PROFILE (R136) -/

/-- The profile that six permit sets make, none when one has a member too many (R136, R168). -/
def profileItem (ps : List Word) : Option Profile :=
  match setOf 2 (itemAt ps 1), setOf 2 (itemAt ps 2), setOf 2 (itemAt ps 3), setOf 2 (itemAt ps 4),
      setOf 2 (itemAt ps 5), setOf 2 (itemAt ps 6) with
  | some a, some b, some c, some d, some e, some f =>
    some { power := a, lamp := b, source := c, geometry := d, schedule := e, settings := f }
  | _, _, _, _, _, _ => none

/-- SET PROFILE on a profile whose checks passed: PROFILE CHANGED and OVERRIDE CHANGED follow a change of content
(R136). -/
def writeProfile (n : Fin 8) (f : Profile) (o : Origin) (s : State) : State :=
  refreshLockout o
    (queueLive (.profile n) o { s with lockout := { s.lockout with profiles := s.lockout.profiles.set n f } })

/-- SET PROFILE (R136). -/
def ownSetProfile (p : Port) (ps : List Word) (s : State) : Answer × State :=
  match finOf 8 (numAt ps 0), profileItem ps with
  | some n, some f =>
    match standingCheck s .b true [.profile n] with
    | some r => refuse r s
    | none => accept (doneQueued false []) (writeProfile n f (portOrigin p) s)
  | _, _ => refuse .outOfRange s

/-- SET_PROFILE (R136). -/
def execSetProfile (p : Port) (f : Frame) (s : State) : Result :=
  .next (request .setProfile p f (fun _ ps t => ownSetProfile p ps t) s)

/-! ## SET INSTALL RECORD (R160) -/

/-- A rated life brought into range: 500..20,000, rounded down to a multiple of 100 (R9). -/
def ratedLifeOf (n : Nat) : Nat := clampNat 500 20000 n / 100 * 100

/-- A number item brought into range, KEEP standing for the old value, with whether it was changed; none for a selector
not allowed. -/
def numberItem (fit : Nat → Nat) (old : Nat) (ps : List Word) (i : Nat) : Option (Nat × Bool) :=
  match choiceAt ps i [0, 1] with
  | some (.value w) => some (fit w.toNat, fit w.toNat != w.toNat)
  | some .keep => some (old, false)
  | _ => none

/-- ENABLED and DISABLED, in the manual's order (R142, R176). -/
def enabledList : List Bool := [true, false]

/-- The INSTALL RECORD that the parameters make of the old one, with CLAMPED; none when a field is out of range
(R160). -/
def installItem (old : InstallRecord) (ps : List Word) : Option (InstallRecord × Bool) :=
  match numberItem ratedLifeOf old.ratedLife ps 0, numberItem (clampNat 90 300) old.coolingTime ps 2,
      numberItem (clampNat 30 120) old.warmingTime ps 4, keepItem (fun w => finOf 8 w.toNat) ps 6,
      keepItem (enumOf enabledList) ps 8, numberItem (clampNat 0 7) old.retryCount ps 10 with
  | some (life, a), some (cooling, b), some (warming, c), some vacant, some service, some (retry, d) =>
    some ({ ratedLife := life, coolingTime := cooling, warmingTime := warming
            vacantProfile := vacant.getD old.vacantProfile, serviceDefault := service.getD old.serviceDefault
            retryCount := retry }, a || b || c || d)
  | _, _, _, _, _, _ => none

/-- The live INSTALL RECORD replaced, and the record queued (R160). -/
def writeInstall (r : InstallRecord) (o : Origin) (s : State) : State :=
  queueLive .install o { s with store := { s.store with install := r } }

/-- SET INSTALL RECORD (R160): the rated life and the vacant profile act at once. -/
def ownSetInstallRecord (p : Port) (ps : List Word) (s : State) : Answer × State :=
  match installItem s.store.install ps with
  | none => refuse .outOfRange s
  | some (r, c) =>
    match standingCheck s .b true [.install] with
    | some x => refuse x s
    | none => accept (doneQueued c [])
        (refreshProfile (portOrigin p) (relevel (writeInstall r (portOrigin p) s)))

/-- SET_INSTALL_RECORD (R160). -/
def execSetInstallRecord (p : Port) (f : Frame) (s : State) : Result :=
  .next (request .setInstallRecord p f (fun _ ps t => ownSetInstallRecord p ps t) s)

/-! ## SET ROOM TIMES (R161) -/

/-- A settle time brought into range: 200..5,000 ms, rounded down to a multiple of 100 (R86). -/
def settleTimeOf (n : Nat) : Nat := clampNat 200 5000 n / 100 * 100

/-- The ROOM DEFAULTS that the parameters make of the old ones, with CLAMPED; none for a selector not allowed (R161). -/
def roomItem (old : RoomDefaults) (ps : List Word) : Option (RoomDefaults × Bool) :=
  match numberItem settleTimeOf old.settleTime ps 0, numberItem (clampNat 0 120) old.noSignal ps 2,
      numberItem (clampNat 0 30) old.blankDim ps 4, numberItem (clampNat 0 60) old.bridgeGap ps 6 with
  | some (settle, a), some (noSignal, b), some (dim, c), some (gap, d) =>
    some ({ old with settleTime := settle, noSignal := noSignal, blankDim := dim, bridgeGap := gap }, a || b || c || d)
  | _, _, _, _ => none

/-- SET ROOM TIMES (R161): the no-signal timeout and the blank-dim delay act at once (R47, R86). -/
def ownSetRoomTimes (p : Port) (ps : List Word) (s : State) : Answer × State :=
  match roomItem s.store.room ps with
  | none => refuse .outOfRange s
  | some (r, c) =>
    match standingCheck s .c false [.roomDefaults] with
    | some x => refuse x s
    | none => accept (doneQueued c [])
        (compareBlankDim (timeoutChanged s.store.room.noSignal (writeRoom r (portOrigin p) s)))

/-- SET_ROOM_TIMES (R161). -/
def execSetRoomTimes (p : Port) (f : Frame) (s : State) : Result :=
  .next (request .setRoomTimes p f (fun _ ps t => ownSetRoomTimes p ps t) s)

/-! ## The install lock (R147) -/

/-- The live lock state changes, the mismatch mark is cleared, and the pair is queued (R147). -/
def writeLock (locked : Bool) (o : Origin) (s : State) : State :=
  queueLive .lockPair o { s with lockout := { s.lockout with locked := locked, mismatch := false } }

/-- SET INSTALL LOCK (R147). -/
def ownSetInstallLock (p : Port) (s : State) : Answer × State :=
  if storeBusy s [.lockPair] then refuse .storeBusy s
  else accept (doneQueued false []) (writeLock true (portOrigin p) s)

/-- SET_INSTALL_LOCK (R147). -/
def execSetInstallLock (p : Port) (f : Frame) (s : State) : Result :=
  .next (request .setInstallLock p f (fun _ _ t => ownSetInstallLock p t) s)

/-- CLEAR INSTALL LOCK (R147). -/
def ownClearInstallLock (p : Port) (s : State) : Answer × State :=
  if s.lockout.mode = .normal then refuse .wrongState s
  else if storeBusy s [.lockPair] then refuse .storeBusy s
  else accept (doneQueued false []) (writeLock false (portOrigin p) s)

/-- CLEAR_INSTALL_LOCK (R147). -/
def execClearInstallLock (p : Port) (f : Frame) (s : State) : Result :=
  .next (request .clearInstallLock p f (fun _ _ t => ownClearInstallLock p t) s)

/-! ## Protection, window and wipe (R153, R154, R162) -/

/-- The protect mask takes a value. -/
def setProtect (m : BitVec 4) (s : State) : State := { s with store := { s.store with protect := m } }

/-- PROTECT REGIONS (R153). -/
def ownProtectRegions (ps : List Word) (s : State) : Answer × State :=
  match setOf 4 (itemAt ps 0) with
  | none => refuse .outOfRange s
  | some m => accept done (setProtect (s.store.protect ||| m) s)

/-- PROTECT_REGIONS (R153). -/
def execProtectRegions (p : Port) (f : Frame) (s : State) : Result :=
  .next (request .protectRegions p f (fun _ ps t => ownProtectRegions ps t) s)

/-- UNPROTECT REGIONS: while the window is open or in COMMISSION; the empty set is DONE at any time (R153). -/
def ownUnprotectRegions (ps : List Word) (s : State) : Answer × State :=
  match setOf 4 (itemAt ps 0) with
  | none => refuse .outOfRange s
  | some m =>
    if m ≠ 0 && s.store.window.isNone && s.lockout.mode = .normal then refuse .windowClosed s
    else accept done (setProtect (s.store.protect &&& ~~~ m) s)

/-- UNPROTECT_REGIONS (R153). -/
def execUnprotectRegions (p : Port) (f : Frame) (s : State) : Result :=
  .next (request .unprotectRegions p f (fun _ ps t => ownUnprotectRegions ps t) s)

/-- CLOSE_WINDOW (R154). -/
def execCloseWindow (p : Port) (f : Frame) (s : State) : Result :=
  .next (request .closeWindow p f (fun _ _ t => accept done (closeWindowFor .request (some p) (portOrigin p) t)) s)

/-- The queue at the acceptance of a wipe: the entries of B, C and D go, each told of with cause WIPE (R162). -/
def dropForWipe (s : State) : State :=
  let t := { s with store := { s.store with queue := s.store.queue.filter fun e => keyRegion e.key == .a } }
  (s.store.queue.filter fun e => keyRegion e.key != .a).foldl (fun u e => postDropped e.key 2 e.origin u) t

/-- STORE WIPE (R162). -/
def ownStoreWipe (p : Port) (s : State) : Answer × State :=
  if isProtected s .b || isProtected s .c || isProtected s .d then refuse .regionProtected s
  else if s.store.wipe.isSome then refuse .storeBusy s
  else
    let t := dropForWipe s
    accept (started []) { t with store := { t.store with wipe := some p } }

/-- STORE_WIPE (R162). -/
def execStoreWipe (p : Port) (f : Frame) (s : State) : Result :=
  .next (request .storeWipe p f (fun _ _ t => ownStoreWipe p t) s)

/-! ## LOCKOUT (R139, R142) -/

/-- What SET OVERRIDE carries: a profile, or none for CLEAR; the outer none is out of range (R139). -/
def overrideItem (ps : List Word) : Option (Option (Fin 8)) :=
  match choiceAt ps 0 [0, 2] with
  | some (.value w) => (finOf 8 w.toNat).map some
  | some .clear => some none
  | _ => none

/-- The override hold takes a value. -/
def setHold (h : OverrideHold) (s : State) : State := { s with lockout := { s.lockout with hold := h } }

/-- SET OVERRIDE by scope (R139). -/
def ownSetOverride (p : Port) (q : Qualifier) (ps : List Word) (s : State) : Answer × State :=
  match overrideItem ps with
  | none => refuse .outOfRange s
  | some n =>
    match q.scope with
    | .momentary => accept done (refreshOverride (portOrigin p) (setHold (.held n) s))
    | .standing =>
      match standingCheck s .c false [.roomDefaults] with
      | some r => refuse r s
      | none => accept (doneQueued false [])
          (refreshOverride (portOrigin p)
            (setHold .followStanding (writeRoom { s.store.room with override := n } (portOrigin p) s)))

/-- SET_OVERRIDE (R139). -/
def execSetOverride (p : Port) (f : Frame) (s : State) : Result :=
  .next (request .setOverride p f (fun q ps t => ownSetOverride p q ps t) s)

/-- ENABLE_SERVICE (R142). -/
def execEnableService (p : Port) (f : Frame) (s : State) : Result :=
  .next (request .enableService p f (fun _ _ t => accept done (setServiceEnable true p t)) s)

/-- DISABLE_SERVICE (R142). -/
def execDisableService (p : Port) (f : Frame) (s : State) : Result :=
  .next (request .disableService p f (fun _ _ t => accept done (setServiceEnable false p t)) s)

end Sys2Proof.Machine
end

