-- ==== Sys2Proof/Machine/ServiceCommands.lean ====
section
/-! DEFINITION. The commands of class SERVICE-ONLY (R19, R21, R35, R180, R181). -/

namespace Sys2Proof.Machine

/-- The checks common to LAMP REPLACE and LAMP SET, steps 1 to 3 of R19. -/
def lampChangeCheck (s : State) : Option Reason :=
  if s.power.state ≠ .standby then some .wrongState
  else if s.lamp.replaceInFlight then some .wrongState
  else if isProtected s .a then some .regionProtected
  else none

/-- The rated life of LAMP REPLACE: given and brought into range, or none; the outer none is out of range (R9, R19). -/
def lifeItem (ps : List Word) : Option (Option Nat) := absentItem (fun w => some (ratedLifeOf w.toNat)) ps 2

/-- Today's day, the unset marker while the clock is UNSET (R19). -/
def today (s : State) : Option Nat := if s.room.clock.isSet then some s.room.clock.day else none

/-- Step 5 of R19. -/
def lifeCheck (s : State) (life : Option Nat) : Option Reason :=
  match life with
  | none => none
  | some _ => standingCheck s .b true [.install]

/-- The effect of LAMP REPLACE: the content queued, then the rated life, if given (R9, R19). -/
def replaceLamp (a : Account) (serial : Nat) (life : Option Nat) (s : State) : State :=
  let t := queueSwitch .replace (replacementAccount a serial (today s)) s
  match life with
  | none => t
  | some n => relevel (writeInstall { s.store.install with ratedLife := n } .service t)

/-- LAMP REPLACE (R19). -/
def ownLampReplace (ps : List Word) (s : State) : Answer × State :=
  match lifeItem ps, s.lamp.account with
  | none, _ => refuse .outOfRange s
  | _, none => refuse .wrongState s
  | some life, some a =>
    match lampChangeCheck s with
    | some r => refuse r s
    | none =>
      let serial := num32At ps 0
      if serial = a.serial then refuse .outOfRange s
      else match lifeCheck s life with
        | some r => refuse r s
        | none => accept (started [word (life.getD s.store.install.ratedLife)]) (replaceLamp a serial life s)

/-- LAMP_REPLACE (R19). -/
def execLampReplace (p : Port) (f : Frame) (s : State) : Result :=
  .next (request .lampReplace p f (fun _ ps t => ownLampReplace ps t) s)

/-- The account that LAMP SET makes of the live one (R21). -/
def setAccount (a : Account) (ps : List Word) : Account :=
  { a with
    wear := num32At ps 0, secNormal := num32At ps 2, secEco := num32At ps 4, coldStrikes := num32At ps 6
    hotStrikes := num32At ps 8, failedStrikes := num32At ps 10, verified := true }

/-- LAMP SET (R21). -/
def ownLampSet (ps : List Word) (s : State) : Answer × State :=
  match s.lamp.account, lampChangeCheck s with
  | none, _ => refuse .wrongState s
  | some _, some r => refuse r s
  | some a, none => accept (started []) (queueSwitch .set (setAccount a ps) s)

/-- LAMP_SET (R21). -/
def execLampSet (p : Port) (f : Frame) (s : State) : Result :=
  .next (request .lampSet p f (fun _ ps t => ownLampSet ps t) s)

/-- CLEAR FAULT (R35). -/
def ownClearFault (p : Port) (s : State) : Answer × State :=
  if s.power.state = .fault then accept done (settleDark .standby (portOrigin p) none s) else refuse .wrongState s

/-- CLEAR_FAULT (R35). -/
def execClearFault (p : Port) (f : Frame) (s : State) : Result :=
  .next (request .clearFault p f (fun _ _ t => ownClearFault p t) s)

/-- LEAVE COMMISSION (R180). -/
def ownLeaveCommission (s : State) : Answer × State :=
  if s.lockout.mode = .commission then accept done { s with lockout := { s.lockout with mode := .normal } }
  else refuse .wrongState s

/-- LEAVE_COMMISSION (R180). -/
def execLeaveCommission (p : Port) (f : Frame) (s : State) : Result :=
  .next (request .leaveCommission p f (fun _ _ t => ownLeaveCommission t) s)

/-- The take of a RESTART: its effect is the restart itself, and no response is built (R168, R181). -/
def takeRestart (p : Port) (f : Frame) (s : State) : State :=
  if (portOf s p).transfer = .taking then disregardPeriod p (f.words.length + 1) s
  else
    match admission .restart p f (beginFrame p (f.words.length + 1) s) with
    | .error a => decideAnswer p (commandCode .restart) a (beginFrame p (f.words.length + 1) s)
    | .ok _ => resetState s.lockout.mode s.room.clock s.room.phase s

/-- RESTART (R181). -/
def execRestart (p : Port) (f : Frame) (s : State) : Result := .next (takeRestart p f s)

end Sys2Proof.Machine
end

