-- ==== Sys2Proof/Machine/Dispatch.lean ====
section
/-! DEFINITION. The dispatch of a command to its meaning: one arm for each row of the opcode table. -/

namespace Sys2Proof.Machine

/-- The effect of a command on everything but the queue of commands. -/
def exec (i : Instr) (s : State) : Host.Outcome State Fault Refusal :=
  match i with
  | .hardReset strap => Sys2Proof.Machine.execHardReset strap s
  | .loadCompletion => Sys2Proof.Machine.execLoadCompletion s
  | .presenceLineChange n present => Sys2Proof.Machine.execPresenceLineChange n present s
  | .stabilityTimerExpiry n => Sys2Proof.Machine.execStabilityTimerExpiry n s
  | .firstPresenceSample => Sys2Proof.Machine.execFirstPresenceSample s
  | .ack tag ok => Sys2Proof.Machine.execAck tag ok s
  | .report r => Sys2Proof.Machine.execReport r s
  | .strikeResult ok => Sys2Proof.Machine.execStrikeResult ok s
  | .format width height refresh => Sys2Proof.Machine.execFormat width height refresh s
  | .invalidHeadMessage => Sys2Proof.Machine.execInvalidHeadMessage s
  | .headMessageSent => Sys2Proof.Machine.execHeadMessageSent s
  | .answerTimerExpiry => Sys2Proof.Machine.execAnswerTimerExpiry s
  | .silenceTimerExpiry => Sys2Proof.Machine.execSilenceTimerExpiry s
  | .reportWaitExpiry => Sys2Proof.Machine.execReportWaitExpiry s
  | .strikeResultTimeout => Sys2Proof.Machine.execStrikeResultTimeout s
  | .restrikePauseExpiry => Sys2Proof.Machine.execRestrikePauseExpiry s
  | .warmingEnd => Sys2Proof.Machine.execWarmingEnd s
  | .coolingEnd => Sys2Proof.Machine.execCoolingEnd s
  | .blankDimExpiry => Sys2Proof.Machine.execBlankDimExpiry s
  | .noSignalTimerExpiry => Sys2Proof.Machine.execNoSignalTimerExpiry s
  | .burnSecond => Sys2Proof.Machine.execBurnSecond s
  | .hotWindowExpiry => Sys2Proof.Machine.execHotWindowExpiry s
  | .settleTimerExpiry => Sys2Proof.Machine.execSettleTimerExpiry s
  | .clockSecond => Sys2Proof.Machine.execClockSecond s
  | .writeCompletion => Sys2Proof.Machine.execWriteCompletion s
  | .wipeCompletion => Sys2Proof.Machine.execWipeCompletion s
  | .windowTimerExpiry => Sys2Proof.Machine.execWindowTimerExpiry s
  | .readWordPeriod p span => Sys2Proof.Machine.execReadWordPeriod p span s
  | .frameDiscarded p whole => Sys2Proof.Machine.execFrameDiscarded p whole s
  | .selectWhileTaking p whole => Sys2Proof.Machine.execSelectWhileTaking p whole s
  | .responseReady p => Sys2Proof.Machine.execResponseReady p s
  | .unknownCommandFrame p code f => Sys2Proof.Machine.execUnknownCommandFrame p code f s
  | .identify p f => Sys2Proof.Machine.execIdentify p f s
  | .readNotices p f => Sys2Proof.Machine.execReadNotices p f s
  | .setPortMode p f => Sys2Proof.Machine.execSetPortMode p f s
  | .setDayBase p f => Sys2Proof.Machine.execSetDayBase p f s
  | .readLampAccount p f => Sys2Proof.Machine.execReadLampAccount p f s
  | .readLampHistory p f => Sys2Proof.Machine.execReadLampHistory p f s
  | .readPowerState p f => Sys2Proof.Machine.execReadPowerState p f s
  | .readHeadLink p f => Sys2Proof.Machine.execReadHeadLink p f s
  | .readRoute p f => Sys2Proof.Machine.execReadRoute p f s
  | .readSourceMap p f => Sys2Proof.Machine.execReadSourceMap p f s
  | .readGeometry p f => Sys2Proof.Machine.execReadGeometry p f s
  | .readPreset p f => Sys2Proof.Machine.execReadPreset p f s
  | .readGeometryTable p f => Sys2Proof.Machine.execReadGeometryTable p f s
  | .readRoom p f => Sys2Proof.Machine.execReadRoom p f s
  | .readBooking p f => Sys2Proof.Machine.execReadBooking p f s
  | .readExceptions p f => Sys2Proof.Machine.execReadExceptions p f s
  | .readOccurrences p f => Sys2Proof.Machine.execReadOccurrences p f s
  | .readLockout p f => Sys2Proof.Machine.execReadLockout p f s
  | .readStore p f => Sys2Proof.Machine.execReadStore p f s
  | .digest p f => Sys2Proof.Machine.execDigest p f s
  | .countFree p f => Sys2Proof.Machine.execCountFree p f s
  | .powerOn p f => Sys2Proof.Machine.execPowerOn p f s
  | .powerOff p f => Sys2Proof.Machine.execPowerOff p f s
  | .blank p f => Sys2Proof.Machine.execBlank p f s
  | .setLampMode p f => Sys2Proof.Machine.execSetLampMode p f s
  | .selectSource p f => Sys2Proof.Machine.execSelectSource p f s
  | .loadPreset p f => Sys2Proof.Machine.execLoadPreset p f s
  | .setKeystone p f => Sys2Proof.Machine.execSetKeystone p f s
  | .nudgeKeystone p f => Sys2Proof.Machine.execNudgeKeystone p f s
  | .setCorner p f => Sys2Proof.Machine.execSetCorner p f s
  | .setAspect p f => Sys2Proof.Machine.execSetAspect p f s
  | .savePreset p f => Sys2Proof.Machine.execSavePreset p f s
  | .reapplyGeometry p f => Sys2Proof.Machine.execReapplyGeometry p f s
  | .setClock p f => Sys2Proof.Machine.execSetClock p f s
  | .addBooking p f => Sys2Proof.Machine.execAddBooking p f s
  | .changeBooking p f => Sys2Proof.Machine.execChangeBooking p f s
  | .removeBooking p f => Sys2Proof.Machine.execRemoveBooking p f s
  | .cancelOccurrence p f => Sys2Proof.Machine.execCancelOccurrence p f s
  | .restoreOccurrence p f => Sys2Proof.Machine.execRestoreOccurrence p f s
  | .extendBooking p f => Sys2Proof.Machine.execExtendBooking p f s
  | .releaseRoom p f => Sys2Proof.Machine.execReleaseRoom p f s
  | .setSourceEntry p f => Sys2Proof.Machine.execSetSourceEntry p f s
  | .setProfile p f => Sys2Proof.Machine.execSetProfile p f s
  | .setInstallRecord p f => Sys2Proof.Machine.execSetInstallRecord p f s
  | .setRoomTimes p f => Sys2Proof.Machine.execSetRoomTimes p f s
  | .setInstallLock p f => Sys2Proof.Machine.execSetInstallLock p f s
  | .protectRegions p f => Sys2Proof.Machine.execProtectRegions p f s
  | .unprotectRegions p f => Sys2Proof.Machine.execUnprotectRegions p f s
  | .closeWindow p f => Sys2Proof.Machine.execCloseWindow p f s
  | .storeWipe p f => Sys2Proof.Machine.execStoreWipe p f s
  | .setOverride p f => Sys2Proof.Machine.execSetOverride p f s
  | .enableService p f => Sys2Proof.Machine.execEnableService p f s
  | .disableService p f => Sys2Proof.Machine.execDisableService p f s
  | .clearInstallLock p f => Sys2Proof.Machine.execClearInstallLock p f s
  | .lampReplace p f => Sys2Proof.Machine.execLampReplace p f s
  | .lampSet p f => Sys2Proof.Machine.execLampSet p f s
  | .clearFault p f => Sys2Proof.Machine.execClearFault p f s
  | .leaveCommission p f => Sys2Proof.Machine.execLeaveCommission p f s
  | .restart p f => Sys2Proof.Machine.execRestart p f s

end Sys2Proof.Machine
end

