-- ==== Sys2Proof/Machine/Tick.lean ====
section
/-! DEFINITION. What time does when no command waits: the timers that have run out, in a fixed order, and one millisecond of
the oscillator (log entry 10). -/

namespace Sys2Proof.Machine

/-- A timer that counts down has run out. -/
def isDue (t : Option Nat) : Bool := t == some 0

/-- The first stability timer that has run out. -/
def dueStability (s : State) : Option (Fin 6) := (List.finRange 6).find? fun n => isDue s.router.stability[n]

/-- The row of a stability timer that has run out. -/
def dueInput (s : State) : Option Instr := (dueStability s).map .stabilityTimerExpiry

/-- The closed shutter's time has come to exceed the blank-dim delay (R47). -/
def dueBlankDim (s : State) : Bool :=
  match s.power.blankDim with
  | some t => !s.power.dimmed && exceedsDelay (blankDimDelay s) t
  | none => false

/-- The write or the wipe in progress has run its time (R158, R162). -/
def dueEngine (s : State) : Option Instr :=
  match s.store.engine with
  | .writing _ _ 0 => some .writeCompletion
  | .wiping 0 => some .wipeCompletion
  | .idle | .writing _ _ (_ + 1) | .wiping (_ + 1) => none

/-- The burn timer has reached 1,000 ms (R3). -/
def dueBurn (s : State) : Bool :=
  match s.lamp.burn with
  | some t => 1000 ≤ t
  | none => false

/-- The rows that are due, by their conditions, in the fixed order. -/
def dueRows (s : State) : List (Bool × Instr) :=
  [(isDue s.power.warmingTimer, .warmingEnd), (isDue s.power.coolingTimer, .coolingEnd),
   (isDue s.power.strikeTimer, .strikeResultTimeout), (isDue s.power.pauseTimer, .restrikePauseExpiry),
   (dueBurn s, .burnSecond), (isDue s.lamp.hotWindow, .hotWindowExpiry), (dueBlankDim s, .blankDimExpiry),
   (isDue s.router.sample, .firstPresenceSample), (isDue s.router.settle, .settleTimerExpiry),
   (isDue s.router.noSignal, .noSignalTimerExpiry), (isDue s.link.answer, .answerTimerExpiry),
   (isDue s.link.silence, .silenceTimerExpiry), (isDue s.power.reportWait, .reportWaitExpiry),
   (isDue s.store.window, .windowTimerExpiry), (s.room.clock.isSet && 1000 ≤ s.room.phase, .clockSecond)]

/-- The row of a timer that has run out, none when none has. -/
def dueRow (s : State) : Option Instr :=
  (((dueRows s).find? (·.1)).map (·.2)).or ((dueInput s).or (dueEngine s))

/-- A timer that counts down, one millisecond later. -/
def countDown (t : Option Nat) : Option Nat := t.map (· - 1)

/-- A timer that counts up, one millisecond later. -/
def countUp (t : Option Nat) : Option Nat := t.map (· + 1)

/-- The write engine one millisecond later. -/
def engineTick (e : Engine) : Engine :=
  match e with
  | .idle => .idle
  | .writing x slot left => .writing x slot (left - 1)
  | .wiping left => .wiping (left - 1)

/-- One millisecond in which no timer has run out. -/
def millisecond (s : State) : State :=
  { s with
    lamp := { s.lamp with burn := countUp s.lamp.burn, hotWindow := countDown s.lamp.hotWindow }
    power := { s.power with
      strikeTimer := countDown s.power.strikeTimer, pauseTimer := countDown s.power.pauseTimer
      warmingTimer := countDown s.power.warmingTimer, coolingTimer := countDown s.power.coolingTimer
      blankDim := countUp s.power.blankDim, reportWait := countDown s.power.reportWait }
    link := { s.link with
      silence := countDown s.link.silence, answer := countDown s.link.answer
      lostFor := countUp s.link.lostFor, sinceMessage := countUp s.link.sinceMessage }
    router := { s.router with
      stability := Vector.ofFn fun n => countDown s.router.stability[n]
      sample := countDown s.router.sample, settle := countDown s.router.settle
      noSignal := countDown s.router.noSignal }
    room := { s.room with phase := if s.room.clock.isSet then s.room.phase + 1 else s.room.phase }
    store := { s.store with window := countDown s.store.window, engine := engineTick s.store.engine } }

/-- No command waits: a timer that has run out acts, else a millisecond passes. -/
def timePasses (s : State) : Host.Outcome State Fault Refusal :=
  match dueRow s with
  | some i => exec i s
  | none => .next (millisecond s)

end Sys2Proof.Machine
end

