-- ==== Sys2Proof/Safety.lean ====
section
/-! DEFINITION. What claims about runs of the block are stated in: the bounds that the manual gives its queues and lanes,
what a request, a notice and a write leave, and what an evaluation of the Schedule Runner does. -/

namespace Sys2Proof.Machine

/-- No port's notice queue holds more than 16 notices (R172). -/
def noticesBounded (s : State) : Prop := ∀ p : Port, (portOf s p).notices.length ≤ 16

/-- A persist queue holds each key at most once, and at most 11 entries other than the lamp checkpoint (R156). -/
def queueWithin (q : List Entry) : Prop := (q.map (·.key)).Nodup ∧ nonLampCount q ≤ 11

/-- The persist queue of the block is within its bounds (R156). -/
def queueBounded (s : State) : Prop := queueWithin s.store.queue

/-- A control lane holds each type at most once, and never IGNITE and EXTINGUISH together (R56). -/
def laneWithin (l : List ControlMsg) : Prop :=
  (l.map controlType).Nodup ∧ ¬ (ControlMsg.ignite ∈ l ∧ ControlMsg.extinguish ∈ l)

/-- The control lane of the link is within its bounds (R56). -/
def laneBounded (s : State) : Prop := laneWithin s.link.control

/-- The exception list holds no pair twice and at most 32 (R114). -/
def exceptionsBounded (s : State) : Prop := s.room.exceptions.Nodup ∧ s.room.exceptions.length ≤ 32

/-- The lamp history holds at most four summaries, no two of one serial (R16). -/
def historyWithin (h : List Summary) : Prop := h.length ≤ 4 ∧ (h.map (·.serial)).Nodup

/-- A set has 26 row entries and 31 column entries within the panel, in sixteenths (R95, R96). -/
def tablesWithin (g : GeomSet) : Prop :=
  g.rows.length = 26 ∧ g.columns.length = 31 ∧
    (∀ e ∈ g.rows, e.first ≤ e.second ∧ e.second ≤ 30720 ∧ e.step ≤ 65535) ∧
    (∀ e ∈ g.columns, e.first ≤ e.second ∧ e.second ≤ 19200 ∧ e.step ≤ 65535)

/-- The block's own bounds together. -/
def stateBounded (s : State) : Prop := noticesBounded s ∧ queueBounded s ∧ laneBounded s ∧ exceptionsBounded s

/-- The strike attempt, the strike timers and the timers of WARMING and COOLING stand as the power state has them (R25,
R30, R33 to R37). -/
def powerConsistent (u : PowerUnit) : Prop :=
  (u.state ≠ .igniting → u.strikeTimer = none ∧ u.pauseTimer = none) ∧
  (u.state ≠ .warming → u.warmingTimer = none) ∧ (u.state ≠ .cooling → u.coolingTimer = none) ∧
  (u.strikeTimer ≠ none → u.step = .awaitingResult) ∧ (u.pauseTimer ≠ none → u.step = .pause ∧ u.attempt ≤ 2) ∧
  (match u.state with
   | .igniting => 1 ≤ u.attempt ∧ u.attempt ≤ 3
   | .fault => u.attempt = 3
   | .unknown | .standby | .warming | .on | .cooling => u.attempt = 0)

/-- No two bookings of a table conflict (R115). -/
def tableClear (t : Vector (Option Booking) 64) : Prop :=
  ∀ i j : Fin 64, i ≠ j → ∀ a b : Booking, t[i] = some a → t[j] = some b → conflicts a b = false

/-! ## What a request leaves -/

/-- A port without its notice queue. -/
def quietPort (x : PortState) : PortState := { x with notices := [] }

/-- Three ports without their notice queues. -/
def quietPorts (ps : Ports) : Ports :=
  { lectern := quietPort ps.lectern, facility := quietPort ps.facility, service := quietPort ps.service }

/-- The three ports of a state without their notice queues. -/
def contexts (s : State) : Ports := quietPorts s.ports

/-- Port `p` takes a frame of command `c` with qualifier `q`: it is not TAKING, and steps 2 to 6 of the take order pass
(R165, R168). -/
def taken (c : Command) (p : Port) (f : Frame) (q : Qualifier) (s : State) : Prop :=
  (portOf s p).transfer ≠ .taking ∧ admission c p f s = .ok q

/-- The state after the take of a frame whose answer is `a` and whose effect has left `t` (R165, R166, R168). -/
def after (c : Command) (p : Port) (a : Answer) (t : State) : State := decideAnswer p (commandCode c) a t

/-- The state in which the owning block acts: port `p` has become TAKING, and data out has carried zeros, during the
header word by the model's choice (R165, R166; log entry 35). -/
def begun (p : Port) (f : Frame) (s : State) : State := beginFrame p (f.words.length + 1) s

/-- `t` has the answer `a` of a frame taken in `s` on port `p`, and no other change in any port but in its notices. -/
def answered (c : Command) (p : Port) (f : Frame) (a : Answer) (s t : State) : Prop :=
  contexts t = contexts (after c p a (begun p f s))

/-- A notice queue after notices have joined it, the first first (R172). -/
def joined (q : List Notice) (l : List Notice) : List Notice := l.foldl joinQueue q

/-- Between `s` and `t` a notice has joined the queue of each port that subscribes to its group and of the port named,
with its origin, its two data words and the clock's stamp; other notices may have joined before it and after it (R171,
R172). -/
def told (dest : Option Port) (kind : NoticeKind) (o : Origin) (first second : Word) (s t : State) : Prop :=
  ∀ p : Port, (subscribes (portOf s p) (kindGroup kind) = true ∨ dest = some p) →
    ∃ x y : List Notice, (portOf t p).notices = joined (portOf s p).notices
      (x ++ { kind := kind, origin := o, stamp := clockStamp s, first := first, second := second, lostBefore := false } :: y)

/-- POWER STATE CHANGED has been posted, for the states left and entered, with an origin and a reason or none (R26). -/
def toldPower (dest : Option Port) (o : Origin) (old new : PowerState) (r : Option Reason) (s t : State) : Prop :=
  told dest .powerStateChanged o (pairWord (position powerStateList old) (position powerStateList new)) (reasonWord r) s t

/-- `b` differs from `a` at most in what serving the control lane changes (R53, R56, R58). -/
def linkServed (a b : LinkUnit) : Prop :=
  b = { a with control := b.control, outstanding := b.outstanding, answer := b.answer, nextTag := b.nextTag
               transmit := b.transmit }

/-- `b` differs from `a` at most in the persist queue and the write engine (R156, R158). -/
def storeServed (a b : StoreUnit) : Prop := b = { a with queue := b.queue, engine := b.engine }

/-- The entries that wait in the persist queue, and the one being written. -/
def entriesOf (s : State) : List Entry :=
  match s.store.engine with
  | .writing e _ _ => e :: s.store.queue
  | .idle | .wiping _ => s.store.queue

/-- A record is on its way to storage with a content, for an origin: it is queued or being written (R156, R158). -/
def sentToStore (k : Key) (image : List Word) (o : Origin) (s : State) : Prop :=
  { key := k, image := image, origin := o, switch := none } ∈ entriesOf s

/-- The link after a valid head message, before it is handled: PRESENT, the silence timer at its full length (R59). -/
def heard (l : LinkUnit) : LinkUnit :=
  { l with state := .present, silence := some 3000, lostFor := none, sinceMessage := some 0 }

/-- `b` differs from `a` at most in the no-signal timer. -/
def routerTimed (a b : RouterUnit) : Prop := b = { a with noSignal := b.noSignal }

/-- `b` differs from `a` at most in the effective lamp mode. -/
def powerModed (a b : PowerUnit) : Prop := b = { a with effectiveMode := b.effectiveMode }

/-- `b` differs from `a` at most in the judgement of the burn second in progress. -/
def lampModed (a b : LampUnit) : Prop := b = { a with normalSeen := b.normalSeen }

/-- What is stored, protected and standing is the same in `t` as in `s`: the stored records, the live INSTALL RECORD and
ROOM DEFAULTS, the source map, the presets, the profiles, the locks, and the lamp history. -/
def standingKept (s t : State) : Prop :=
  t.store = { s.store with queue := t.store.queue, engine := t.store.engine } ∧ t.router.sources = s.router.sources ∧
    t.geometry.presets = s.geometry.presets ∧ t.lockout.profiles = s.lockout.profiles ∧
    t.lockout.locked = s.lockout.locked ∧ t.lockout.serviceEnabled = s.lockout.serviceEnabled ∧
    t.lockout.mode = s.lockout.mode ∧ t.lamp.history = s.lamp.history

/-- Five blocks are the same in `t` as in `s`. -/
def actionsKept (s t : State) : Prop :=
  t.lamp = s.lamp ∧ t.power = s.power ∧ t.router = s.router ∧ t.geometry = s.geometry ∧ t.lockout = s.lockout

/-! ## What an evaluation of the Schedule Runner does -/

/-- The times of every booking of the table lie in the ranges of R113. -/
def timesInRange (s : State) : Prop :=
  ∀ (n : Fin 64) (b : Booking), s.room.bookings[n] = some b →
    b.startMinute ≤ 1430 ∧ b.startMinute + 10 ≤ b.endMinute ∧ b.endMinute ≤ 1440 ∧ b.lead ≤ 30

/-- `o` is an occurrence of the booking `b` of the table and is not cancelled (R114). -/
def occurs (s : State) (o : Occurrence) (b : Booking) : Prop :=
  s.room.bookings[o.id] = some b ∧ occursOn b.kind o.day = true ∧ o ∉ s.room.exceptions

/-- The clock is set, and `o` covers now and is neither cancelled nor taken (R120, R121). -/
def mayEnter (s : State) (o : Occurrence) (b : Booking) : Prop :=
  s.room.clock.isSet = true ∧ occurs s o b ∧ s.room.taken[o.id] ≠ some o.day ∧ prepOf b o.day ≤ nowMinute s ∧
    nowMinute s < endOf b o.day

/-- `o` is the candidate: it may be entered, and starts before every other that may (R121). -/
def isCandidate (s : State) (o : Occurrence) (b : Booking) : Prop :=
  mayEnter s o b ∧ ∀ x c, mayEnter s x c → x ≠ o → startOf b o.day < startOf c x.day

/-- The preparation point of an occurrence neither taken nor cancelled lies ahead and within the bridge gap (R126). -/
def nextIsNear (s : State) : Prop :=
  s.room.clock.isSet = true ∧ ∃ o b, occurs s o b ∧ s.room.taken[o.id] ≠ some o.day ∧ nowMinute s < prepOf b o.day ∧
    prepOf b o.day ≤ nowMinute s + s.store.room.bridgeGap

/-- The four steps of a room state change (R122): the room, with the occurrence entered taken; the momentary settings
cleared; ROOM STATE CHANGED; the profile, the lamp mode and the active preset as they now are. -/
def roomChanged (dest : RoomState) (occ : Option Occurrence) (cause : RoomCause) (origin : Origin) (id : Fin 64)
    (profile : Fin 8) (s t : State) : Prop :=
  t.room.state = dest ∧ t.room.current = occ ∧ t.room.extension = 0 ∧
    t.room.taken = (match occ with
      | some o => s.room.taken.set o.id (some o.day)
      | none => s.room.taken) ∧
    t.geometry.overlay = Overlay.empty ∧ t.geometry.momentary = none ∧ t.power.momentaryMode = none ∧
    t.lockout.hold = .followStanding ∧
    told (originPort origin) .roomStateChanged origin
      (tripleWord (position roomStateList s.room.state) (position roomStateList dest) (position roomCauseList cause))
      (word id.val) s t ∧
    (s.lockout.active ≠ none → t.lockout.active.map (·.number) = some profile) ∧
    (s.power.modeEvaluated = true → s.lamp.level ≠ none → t.power.effectiveMode = (decideMode t).1) ∧
    (s.geometry.started = true → t.geometry.active = some (choosePreset t))

/-- The outcome of a POWER ON of origin SCHEDULE, by the power state it finds (R28, R41); a refusal is told with the
current booking's id (R132). -/
def lampAsked (id : Fin 64) (s t : State) : Prop :=
  let refusedFor := fun (r : Reason) => t.power.state = s.power.state ∧
    told none .powerRequestRefused .schedule (word (position reasonList r)) (word id.val) s t
  match s.power.state with
  | .standby =>
    (refusalTest s .schedule = none →
      t.power.state = .igniting ∧ t.power.attempt = 1 ∧ t.power.ignitionOrigin = some .schedule) ∧
    ∀ r, refusalTest s .schedule = some r → refusedFor r
  | .cooling =>
    (refusalTest s .schedule = none →
      t.power.state = .cooling ∧ t.power.restartPending = true ∧ t.power.ignitionOrigin = some .schedule) ∧
    ∀ r, refusalTest s .schedule = some r → refusedFor r
  | .unknown =>
    ((s.link.state = .present ∨ (s.link.state = .awaiting ∧ s.power.reportWait ≠ none)) →
      t.power.state = .unknown ∧ t.power.restartPending = true ∧ t.power.ignitionOrigin = some .schedule) ∧
    (¬ (s.link.state = .present ∨ (s.link.state = .awaiting ∧ s.power.reportWait ≠ none)) → refusedFor .headLost)
  | .fault => refusedFor .lampFault
  | .igniting | .warming | .on => t.power.state = s.power.state

/-- The room has entered `o`, of booking `b`: PREPARING while its start lies ahead, with the lamp asked for (R123), else
OCCUPIED, with the booking's source asked for, the lamp, and a shutter that the runner closed opened (R124). -/
def entered (cause : RoomCause) (origin : Origin) (o : Occurrence) (b : Booking) (s t : State) : Prop :=
  roomChanged (if nowMinute s < startOf b o.day then .preparing else .occupied) (some o) cause origin o.id b.profile s t ∧
    lampAsked o.id s t ∧
    (nowMinute s < startOf b o.day → t.room.scheduleBlank = s.room.scheduleBlank ∧
      t.router.requested = s.router.requested ∧ t.router.pendingSlot = s.router.pendingSlot ∧
      (s.power.state = .on ∨ s.power.state = .warming ∨ s.power.state = .igniting → t.power.offPending = false)) ∧
    (startOf b o.day ≤ nowMinute s → t.room.scheduleBlank = false ∧
      (s.room.scheduleBlank = true → t.power.shutter = some .opened) ∧
      ∀ x, b.source = some x → (s.router.resolved = false ∨ s.router.state ≠ .settling) → t.router.requested = some x)

/-- The occurrence `o` has ended with no candidate: the room is VACANT, and the end action of its booking is performed,
an OFF as BLANK when the next occurrence is near (R125, R126). -/
def vacated (cause : RoomCause) (origin : Origin) (o : Occurrence) (s t : State) : Prop :=
  roomChanged .vacant none cause origin o.id s.store.install.vacantProfile s t ∧
    ∀ b, s.room.bookings[o.id] = some b →
      (b.endAction = .stay → t.room.scheduleBlank = s.room.scheduleBlank ∧ t.power.shutter = s.power.shutter ∧
        t.power.state = s.power.state ∧ t.router.requested = s.router.requested) ∧
      ((b.endAction = .blank ∨ (b.endAction = .off ∧ nextIsNear s)) →
        t.room.scheduleBlank = true ∧ t.power.shutter = some .closedManual ∧ t.power.state = s.power.state ∧
        t.router.requested = s.router.requested) ∧
      (b.endAction = .off → ¬ nextIsNear s → t.room.scheduleBlank = s.room.scheduleBlank ∧
        (s.power.state = .on → s.link.state ≠ .lost →
          t.power.state = .cooling ∧ toldPower none .schedule .on .cooling none s t) ∧
        (s.power.state = .warming → t.power.state = .warming ∧ t.power.offPending = true) ∧
        (s.power.state = .standby ∨ s.power.state = .fault → t.power.state = s.power.state) ∧
        ((s.router.resolved = false ∨ s.router.state ≠ .settling) →
          t.router.requested = some s.store.room.source))

/-- `t` follows from `s` by an evaluation (R121): the current occurrence, while its booking keeps it and now lies from
its preparation point to its end with the extension, stays, and becomes OCCUPIED at its start; when it has ended, the
candidate is entered back-to-back (R127), else the room becomes VACANT; with none current the candidate is entered. -/
def evaluated (cause : RoomCause) (origin : Origin) (s t : State) : Prop :=
  let kept := t.room.state = s.room.state ∧ t.room.current = s.room.current ∧ t.room.extension = s.room.extension ∧
    t.room.taken = s.room.taken ∧ t.room.scheduleBlank = s.room.scheduleBlank
  (s.room.current = none →
    (∀ o b, isCandidate s o b → entered cause origin o b s t) ∧ ((∀ o b, ¬ mayEnter s o b) → kept)) ∧
  ∀ o, s.room.current = some o →
    let stays := fun (b : Booking) => s.room.clock.isSet = true ∧ occurs s o b ∧ prepOf b o.day ≤ nowMinute s ∧
      nowMinute s < endOf b o.day + s.room.extension
    (∀ b, stays b → s.room.state = .preparing → startOf b o.day ≤ nowMinute s → entered cause origin o b s t) ∧
    (∀ b, stays b → (s.room.state ≠ .preparing ∨ nowMinute s < startOf b o.day) → kept) ∧
    ((∀ b, ¬ stays b) →
      (∀ x c, isCandidate s x c → entered (passageCause cause) origin x c s t) ∧
      ((∀ x c, ¬ mayEnter s x c) → vacated cause origin o s t))

end Sys2Proof.Machine
end

