-- ==== Sys2Proof/Certificates/Slice0/Obligations.lean ====
section
/-! DEFINITION. The statements about the block, chapter by chapter. -/

open Sys2Proof Sys2Proof.Machine

/-- A command at the front of the queue is executed with the queue's rest, and its outcome is the step's. -/
def Obligations.StepRunsTheFrontCommand : Prop :=
  ∀ (c : Instr) (rest : List Instr) (s : State), s.pending = c :: rest → step s = exec c { s with pending := rest }

/-- With no command waiting, a timer that has run out acts as its row, and otherwise a millisecond passes: each timer
that counts down has one millisecond less, each that counts up one more, the clock's phase advances while the clock is
set, and no other register changes. The model's choice (log entry 10). -/
def Obligations.IdleStepLetsTimePass : Prop :=
  ∀ s : State, s.pending = [] →
    (∀ i : Instr, dueRow s = some i → step s = exec i s) ∧
    (dueRow s = none →
      let down := fun (a b : Option Nat) => (a = none → b = none) ∧ ∀ n, a = some (n + 1) → b = some n
      let up := fun (a b : Option Nat) => (a = none → b = none) ∧ ∀ n, a = some n → b = some (n + 1)
      ∃ t, step s = .next t ∧ t.ports = s.ports ∧ t.geometry = s.geometry ∧ t.lockout = s.lockout ∧
        t.room = { s.room with phase := if s.room.clock.isSet = true then s.room.phase + 1 else s.room.phase } ∧
        t.lamp = { s.lamp with burn := t.lamp.burn, hotWindow := t.lamp.hotWindow } ∧
        t.power = { s.power with strikeTimer := t.power.strikeTimer, pauseTimer := t.power.pauseTimer
                                 warmingTimer := t.power.warmingTimer, coolingTimer := t.power.coolingTimer
                                 blankDim := t.power.blankDim, reportWait := t.power.reportWait } ∧
        t.link = { s.link with silence := t.link.silence, answer := t.link.answer, lostFor := t.link.lostFor
                               sinceMessage := t.link.sinceMessage } ∧
        t.router = { s.router with stability := t.router.stability, sample := t.router.sample
                                   settle := t.router.settle, noSignal := t.router.noSignal } ∧
        t.store = { s.store with window := t.store.window, engine := t.store.engine } ∧ t.free = s.free ∧
        t.pending = [] ∧
        up s.lamp.burn t.lamp.burn ∧ down s.lamp.hotWindow t.lamp.hotWindow ∧
        down s.power.strikeTimer t.power.strikeTimer ∧ down s.power.pauseTimer t.power.pauseTimer ∧
        down s.power.warmingTimer t.power.warmingTimer ∧ down s.power.coolingTimer t.power.coolingTimer ∧
        up s.power.blankDim t.power.blankDim ∧ down s.power.reportWait t.power.reportWait ∧
        down s.link.silence t.link.silence ∧ down s.link.answer t.link.answer ∧ up s.link.lostFor t.link.lostFor ∧
        up s.link.sinceMessage t.link.sinceMessage ∧
        (∀ n : Fin 6, down s.router.stability[n] t.router.stability[n]) ∧ down s.router.sample t.router.sample ∧
        down s.router.settle t.router.settle ∧ down s.router.noSignal t.router.noSignal ∧
        down s.store.window t.store.window ∧ (s.store.engine = .idle → t.store.engine = .idle) ∧
        (∀ e slot n, s.store.engine = .writing e slot (n + 1) → t.store.engine = .writing e slot n) ∧
        (∀ n, s.store.engine = .wiping (n + 1) → t.store.engine = .wiping n))

/-- Every command answers a next state, and leaves the queue of waiting commands as it found it. That nothing stops
the block is read from the spec by inference (log entry 2); the queue, and that the two resets keep it, is the model's
choice (log entry 1). -/
def Obligations.EveryCommandCompletes : Prop :=
  ∀ (c : Instr) (s : State), ∃ t, exec c s = .next t ∧ t.pending = s.pending

/-- A step keeps the bounds: at most 16 notices in a port's queue, each key once in the persist queue with at most
11 entries other than the checkpoint, each type once in the control lane and never IGNITE beside EXTINGUISH, and at most
32 exceptions with no pair twice. -/
def Obligations.QueueBoundsKeptByEveryStep : Prop :=
  ∀ s t : State, stateBounded s → step s = .next t → stateBounded t

/-- The state after reset is within the bounds. -/
def Obligations.QueueBoundsAtReset : Prop :=
  stateBounded State.reset

/-- A step keeps the strike record: the attempt number and the four power timers stand as the power state has them. -/
def Obligations.PowerRecordKeptByEveryStep : Prop :=
  ∀ s t : State, powerConsistent s.power → step s = .next t → powerConsistent t.power

/-- FAULT is left only by CLEAR FAULT, by RESTART and by a hard reset. -/
def Obligations.FaultLeftOnlyByClearFaultOrReset : Prop :=
  ∀ (c : Instr) (s t : State), powerConsistent s.power → s.power.state = .fault → exec c s = .next t →
    t.power.state ≠ .fault →
      (∃ p f, c = .clearFault p f) ∨ (∃ p f, c = .restart p f) ∨ (∃ m, c = .hardReset m)

/-- What is stored changes only when a write completes, when a wipe completes, and at a reset. -/
def Obligations.StorageChangesOnlyAtCompletionsAndResets : Prop :=
  ∀ (c : Instr) (s t : State), exec c s = .next t →
    (t.store.slots = s.store.slots ∧ t.store.records = s.store.records) ∨ c = .writeCompletion ∨ c = .wipeCompletion ∨
      (∃ m, c = .hardReset m) ∨ (∃ p f, c = .restart p f)

/-- Nothing but the strap at a hard reset brings the block into COMMISSION: a step whose command is no such reset
keeps NORMAL. -/
def Obligations.CommissionOnlyFromTheStrap : Prop :=
  ∀ s t : State, s.lockout.mode = .normal → s.pending.head? ≠ some (.hardReset .commission) → step s = .next t →
    t.lockout.mode = .normal

/-- No two bookings of the table conflict, once they do not: every step keeps it so. -/
def Obligations.BookingTableKeptFreeOfConflicts : Prop :=
  ∀ s t : State, tableClear s.room.bookings → step s = .next t → tableClear t.room.bookings

/-- After a hard reset with no write in progress the block is in the state that the rules give. The mode is the
strap's and the clock is UNSET. A reset in the middle of a record write leaves that record, and no other, failing its
CRC. A reset in a wipe leaves the first records at their defaults, the next failing its CRC and the rest as they were;
how many is open (log entry 7). The model's choices: the kept queue of commands (log entry 1), the kept raw presence
levels (log entries 4, 24), the strike step, the settle origin (log entry 4), and the empty history (log entry 28). -/
def Obligations.ResetsLeaveTheResetState : Prop :=
  (∀ (m : OperatingMode) (s : State), s.store.engine = .idle →
     ∃ t, exec (.hardReset m) s = .next t ∧
       t.lockout.mode = m ∧ t.room.clock = { day := 0, minute := 0, second := 0, isSet := false } ∧
       t.store.slots = s.store.slots ∧ t.store.records = s.store.records ∧ t.store.loaded = false ∧
       t.store.queue = [] ∧ t.store.engine = .idle ∧ t.store.window = none ∧ t.store.wipe = none ∧
       t.store.protect = 0b0111 ∧
       t.lamp = { account := none, level := none, newest := none
                  tally := { wear := 0, secNormal := 0, secEco := 0, coldStrikes := 0, hotStrikes := 0, failedStrikes := 0
                             requestWaiting := false }
                  burn := none, normalSeen := false, hotWindow := none, cadence := 0, replaceInFlight := false
                  history := [] } ∧
       t.power = { state := .unknown, step := .sending, attempt := 0, restartPending := false, offPending := false
                   ignitionOrigin := none, offOrigin := none, thermalHold := false, shutter := none
                   momentaryMode := none, effectiveMode := .normal, modeEvaluated := false, strikeTimer := none
                   pauseTimer := none, warmingTimer := none, coolingTimer := none, blankDim := none, dimmed := false
                   reportWait := some 3000 } ∧
       t.link = { t.link with
         state := .awaiting, silence := none, outstanding := none, answer := none, nextTag := 0, control := []
         lane := none, reportImage := none, lastFormat := none, lastRejection := none, lostFor := none
         sinceMessage := none, lastSet := none, receiver := [] } ∧
       t.router = { t.router with
         raw := s.router.raw, debounced := none, sample := some 500, requested := none, routedInput := none
         routedSource := none, state := .noSignal, format := .unknown, chain := [], pendingSlot := none
         deferred := false, settle := none, settleOrigin := .auto, noSignal := none, resolved := false } ∧
       (∀ n : Fin 6, t.router.stability[n] = none) ∧
       t.geometry = { t.geometry with
         overlay := Overlay.empty, momentary := none, routed := none, format := .unknown, started := false
         active := none, current := none, setNumber := 0, status := .pending, commitAcked := false
         keptResend := false } ∧
       t.room.state = .vacant ∧ t.room.current = none ∧ t.room.extension = 0 ∧ t.room.scheduleBlank = false ∧
       (∀ n : Fin 64, t.room.taken[n] = none) ∧
       t.lockout.hold = .followStanding ∧ t.lockout.locked = true ∧ t.lockout.mismatch = false ∧
       t.lockout.serviceEnabled = false ∧ t.lockout.active = none ∧ t.lockout.effective = none ∧
       (∀ p : Port, (portOf t p).notices = [] ∧ (portOf t p).subscription = 0xFF ∧ (portOf t p).dayBase = none ∧
         (portOf t p).transfer = .idle ∧ (portOf t p).response = none) ∧
       t.ports.lectern.defaultScope = .momentary ∧ t.ports.facility.defaultScope = .standing ∧
       t.ports.service.defaultScope = .momentary ∧ t.ports.lectern.defaultForm = .short ∧
       t.ports.facility.defaultForm = .long ∧ t.ports.service.defaultForm = .long ∧ t.pending = s.pending) ∧
  (∀ (m : OperatingMode) (e : Entry) (slot : Fin 4) (left : Nat) (s : State), s.store.engine = .writing e slot left →
     ∃ t, exec (.hardReset m) s = .next t ∧
       (e.key = .lampCheckpoint → validRecord t.store.slots[slot] = false ∧ t.store.records = s.store.records ∧
         ∀ j : Fin 4, j ≠ slot → t.store.slots[j] = s.store.slots[j]) ∧
       (e.key ≠ .lampCheckpoint → validRecord (recordOf t e.key) = false ∧ t.store.slots = s.store.slots ∧
         ∀ j : Fin 101, j ≠ recordIndex e.key → t.store.records[j] = s.store.records[j])) ∧
  (∀ (m : OperatingMode) (left : Nat) (s : State), s.store.engine = .wiping left →
     ∃ t k, exec (.hardReset m) s = .next t ∧ k < 100 ∧ t.store.engine = .idle ∧ t.store.wipe = none ∧
       t.store.slots = s.store.slots ∧
       ∀ i : Fin 101,
         (1 ≤ i.val → i.val ≤ k → t.store.records[i] = sealed (defaultImage (recordKey i)) ∧
           validRecord t.store.records[i] = true) ∧
         (i.val = k + 1 → validRecord t.store.records[i] = false) ∧
         ((i.val = 0 ∨ k + 1 < i.val) → t.store.records[i] = s.store.records[i]))

/-- RESTART, taken, leaves every block as a hard reset does, but for the mode and the room clock, which it keeps. -/
def Obligations.RestartKeepsModeAndClock : Prop :=
  ∀ (p : Port) (f : Frame) (q : Qualifier) (s : State), taken .restart p f q s →
    ∃ t, exec (.restart p f) s = .next t ∧ exec (.hardReset s.lockout.mode) s = .next { t with room := { t.room with
        clock := { day := 0, minute := 0, second := 0, isSet := false }, phase := 0 } } ∧
      t.lockout.mode = s.lockout.mode ∧ t.room.clock = s.room.clock ∧ t.ports = Ports.reset

/-- Steps 2 to 6 of the take order: the first that fails gives the answer, and the request has no other effect; so
no queue, no register and no notice changes, and the port holds the answer with its reason. -/
def Obligations.TakeOrderAnswersTheFirstFailure : Prop :=
  ∀ (c : Command) (p : Port) (f : Frame) (s : State), (portOf s p).transfer ≠ .taking →
    let answers := fun a => exec (instrOf c p f) s = .next (after c p a (begun p f s))
    (goodLength c f = false → answers (malformed .badLength)) ∧
    (goodLength c f = true →
      (∀ r, qualify c (portOf s p) (itemAt f.words 0) (f.words.drop 1) = .error r → answers (malformed r)) ∧
      (∀ q, qualify c (portOf s p) (itemAt f.words 0) (f.words.drop 1) = .ok q →
        (∀ r, permission s p (commandClass c) q.scope = some r → answers (refused r)) ∧
        (permission s p (commandClass c) q.scope = none →
          (s.store.loaded = false → commandClass c ≠ .openClass → answers (refused .wrongState)) ∧
          ((s.store.loaded = true ∨ commandClass c = .openClass) → guardHolds s q.guard = false → answers skipped))))

/-- A request that is refused, malformed or skipped changes nothing but its own port, which holds the answer. -/
def Obligations.RefusedRequestChangesNothing : Prop :=
  ∀ (c : Command) (p : Port) (f : Frame) (s t : State) (a : Answer), (portOf s p).transfer ≠ .taking →
    exec (instrOf c p f) s = .next t → (portOf t p).deciding = some { code := commandCode c, answer := a } →
    (a.verdict = .refused ∨ a.verdict = .malformed ∨ a.verdict = .skipped) → t = after c p a (begun p f s)

/-- A request from the LECTERN port leaves the live INSTALL RECORD, ROOM DEFAULTS, source map, presets and profiles, the
service enable flag and the operating mode as they are. -/
def Obligations.LecternChangesNoStandingRecord : Prop :=
  ∀ (c : Command) (f : Frame) (s t : State), exec (instrOf c .lectern f) s = .next t →
    t.store.install = s.store.install ∧ t.store.room = s.store.room ∧ t.router.sources = s.router.sources ∧
      t.geometry.presets = s.geometry.presets ∧ t.lockout.profiles = s.lockout.profiles ∧
      t.lockout.serviceEnabled = s.lockout.serviceEnabled ∧ t.lockout.mode = s.lockout.mode

/-- A select period that begins while the port is TAKING is not read: data out carries zeros and nothing else
changes, be it empty, a read, a cut frame or a request. -/
def Obligations.PeriodWhileTakingIsDisregarded : Prop :=
  ∀ (p : Port) (n : Nat) (c : Command) (code : Byte) (f : Frame) (s : State), (portOf s p).transfer = .taking →
    commandOfCode code = none →
    let quiet := fun k => Host.Outcome.next (setPort s p { portOf s p with dataOut := List.replicate k 0 })
    exec (.selectWhileTaking p n) s = quiet n ∧ (∀ cut : Bool, exec (.readWordPeriod p ⟨n, cut⟩) s = quiet n) ∧
      exec (.frameDiscarded p n) s = quiet n ∧ exec (instrOf c p f) s = quiet (f.words.length + 1) ∧
      exec (.unknownCommandFrame p code f) s = quiet (f.words.length + 1)

/-- A frame whose code is not in the index is answered MALFORMED, UNKNOWN COMMAND with that code echoed, and the
port is TAKING; nothing else changes. The response time has run: the response stands in the buffer, whole, and the
port is RESPONSE READY. A frame cut in the middle of a word is no request: a response held is discarded, the port is
IDLE, and nothing else changes. Data out carries zeros; that it does so during the header word too is the model's choice
(log entry 35). -/
def Obligations.PeriodsThatAreNoRequest : Prop :=
  (∀ (p : Port) (code : Byte) (f : Frame) (s : State), commandOfCode code = none → (portOf s p).transfer ≠ .taking →
     exec (.unknownCommandFrame p code f) s = .next (setPort s p { portOf s p with
       transfer := .taking, response := none, dataOut := List.replicate (f.words.length + 1) 0
       deciding := some { code := code, answer := { verdict := .malformed, reason := some .unknownCommand, clamped := false
                                                    queued := false, data := [] } } })) ∧
  (∀ (p : Port) (r : Response) (s : State), (portOf s p).transfer = .taking → (portOf s p).deciding = some r →
     exec (.responseReady p) s = .next (setPort s p { portOf s p with
       transfer := .responseReady, response := some r, deciding := none })) ∧
  (∀ (p : Port) (whole : Nat) (s : State), 1 ≤ whole → (portOf s p).transfer ≠ .taking →
     exec (.frameDiscarded p whole) s = .next (setPort s p { portOf s p with
       transfer := .idle, response := none, dataOut := List.replicate whole 0 }))

/-- A read period: with no response data out carries zeros; one that clocks out the whole response and ends after a
whole word discards it and leaves the port IDLE; a shorter one, and one cut in the middle of a word, leaves it RESPONSE
READY, so that the next read begins the response again. -/
def Obligations.ReadPeriodGivesTheResponse : Prop :=
  ∀ (p : Port) (whole : Nat) (cut : Bool) (s : State), 1 ≤ whole → (portOf s p).transfer ≠ .taking →
    ∃ t, exec (.readWordPeriod p ⟨whole, cut⟩) s = .next t ∧
      t = { setPort s p (portOf t p) with free := t.free } ∧
      (match (portOf s p).response with
       | none => portOf t p = { portOf s p with transfer := .idle, dataOut := List.replicate whole 0 } ∧ t.free = s.free
       | some r =>
         (portOf t p).dataOut.drop 1 = (responseWords r ++ List.replicate whole 0).take (whole - 1) ∧
         (portOf t p).dataOut.length = whole ∧
         (if (responseWords r).length + 1 ≤ whole ∧ cut = false then
            portOf t p = { portOf s p with transfer := .idle, response := none, dataOut := (portOf t p).dataOut }
          else portOf t p = { portOf s p with transfer := .responseReady, dataOut := (portOf t p).dataOut }))

/-- The qualifier word is checked in the order of the rule; the seventh check is read as one of commands that take
times (log entry 8). -/
def Obligations.QualifierChecksInOrder : Prop :=
  ∀ (c : Command) (x : PortState) (q : Word) (ps : List Word),
    let scopeField := (q.extractLsb' 0 2).toNat
    let formField := (q.extractLsb' 2 2).toNat
    let scope := effectiveScope x scopeField
    let form := effectiveForm x formField
    let c1 := scopeField = 3 ∨ formField = 3 ∨ q.extractLsb' 7 9 ≠ 0
    let c2 := scopeField ≠ 0 ∧ takesScope c = false
    let c3 := standingOnly c = true ∧ scope = .momentary
    let c4 := carriesClear c ps = true ∧ scope = .standing
    let c5 := formField ≠ 0 ∧ takesTimes c = false
    let c6 := longOnly c = true ∧ form = .short
    let c7 := takesTimes c = true ∧ form = .short ∧ x.dayBase = none
    ((c1 ∨ c2 ∨ c3 ∨ c4 ∨ c5 ∨ c6) → qualify c x q ps = .error .badQualifier) ∧
    (¬ (c1 ∨ c2 ∨ c3 ∨ c4 ∨ c5 ∨ c6) → c7 → qualify c x q ps = .error .noDayBase) ∧
    (¬ (c1 ∨ c2 ∨ c3 ∨ c4 ∨ c5 ∨ c6) → ¬ c7 →
      ∃ g, guardList[(q.extractLsb' 4 3).toNat]? = some g ∧
        qualify c x q ps = .ok { scope := scope, form := form, guard := g })

/-- A delivered notice joins the end of the queue; when 16 are held the oldest goes first and the new one is marked;
the queue never comes to hold more than 16. A posted notice is stamped and delivered once to each port that
subscribes to its group or is named, and to no other port; nothing else of the block changes. The attention line is
asserted while the queue holds a notice, and the queues are empty after a hard reset and after RESTART. -/
def Obligations.NoticesAreQueuedAndDelivered : Prop :=
  (∀ (q : List Notice) (n : Notice), q.length ≤ 16 →
     (q.length < 16 → joinQueue q n = q ++ [{ n with lostBefore := false }]) ∧
     (q.length = 16 → joinQueue q n = q.drop 1 ++ [{ n with lostBefore := true }]) ∧ (joinQueue q n).length ≤ 16) ∧
  (∀ (dest : Option Port) (kind : NoticeKind) (o : Origin) (a b : Word) (s : State) (p : Port),
     let n : Notice := { kind := kind, origin := o
                         stamp := if s.room.clock.isSet = true then
                           some { day := s.room.clock.day, minute := s.room.clock.minute, second := s.room.clock.second }
                           else none
                         first := a, second := b, lostBefore := false }
     let t := postTo dest kind o (some a) (some b) s
     (portOf t p).notices =
       (if (portOf s p).subscription.getLsbD (position groupList (kindGroup kind)) = true ∨ dest = some p then
         joinQueue (portOf s p).notices n else (portOf s p).notices) ∧
     contexts t = contexts s ∧ t = { s with ports := t.ports, free := t.free }) ∧
  (∀ (s : State) (p : Port), attentionLine s p = true ↔ (portOf s p).notices ≠ []) ∧
  (∀ (m : OperatingMode) (s : State) (p : Port), ∃ t, exec (.hardReset m) s = .next t ∧ (portOf t p).notices = []) ∧
  (∀ (x : Port) (f : Frame) (q : Qualifier) (s : State) (p : Port), taken .restart x f q s →
     ∃ t, exec (.restart x f) s = .next t ∧ (portOf t p).notices = [])

/-- Ten reading commands without parameters answer DONE with their words, whatever the state, and change nothing but
the port they came from. The order and the words of IDENTIFY's items, yes as 1 and the lock state and the mismatch
mark as two words, are the model's choice (log entry 8), and so are single words of the other answers (log entries 8,
18, 27, 28). READ GEOMETRY answers DONE whatever the state, with every item of its rule, and changes nothing but its
port; the values of unset overlay fields, which nobody reads, are free (log entry 6). The words of its absent items,
and the committed set number as that of the report image, are the model's choice (log entry 27), and so are the active
preset and the effective parameters before the first settle end (log entry 19). -/
def Obligations.ReadingCommandsAnswer : Prop :=
  (∀ (p : Port) (f : Frame) (q : Qualifier) (s : State),
     let reads := fun (c : Command) (ws : State → List Word) =>
       taken c p f q s → exec (instrOf c p f) s = .next (after c p (doneWith (ws (begun p f s))) (begun p f s))
     reads .identify (fun t => [0x5A6A#16, 0x0420#16, 0x0001#16, word (position portList p),
         word (position modeList t.lockout.mode), yesWord t.store.loaded, yesWord t.store.window.isSome,
         (if t.lockout.locked then 0 else 1), markWord t.lockout.mismatch]) ∧
       reads .readLampAccount lampAccountWords ∧ reads .readLampHistory lampHistoryWords ∧
       reads .readPowerState powerStateWords ∧ reads .readHeadLink headLinkWords ∧ reads .readRoute routeWords ∧
       reads .readRoom (roomWords p) ∧ reads .readLockout lockoutWords ∧ reads .readStore storeWords ∧
       reads .countFree countFreeWords) ∧
  (∀ (p : Port) (f : Frame) (q : Qualifier) (s : State), taken .readGeometry p f q s →
     let g := s.geometry
     let o := g.overlay
     let i := inputsNow s
     let none16 := 0xFFFF#16
     let point := fun (x : Point) => [intWord x.x, intWord x.y]
     let trim := fun (x : Trim) => [intWord x.tx, intWord x.ty]
     let fields : List (Option Word) :=
       [o.kv.map intWord, o.kh.map intWord, o.tl.tx.map intWord, o.tl.ty.map intWord, o.tr.tx.map intWord,
        o.tr.ty.map intWord, o.bl.tx.map intWord, o.bl.ty.map intWord, o.br.tx.map intWord, o.br.ty.map intWord,
        o.aspect.map fun a => word (position aspectList a)]
     ∃ (t : State) (mask : Word) (values : List Word), exec (.readGeometry p f) s = .next t ∧
       t = { after .readGeometry p (doneWith (
           [optWord (g.active.map (·.1.val)), optPosition presetCauseList (g.active.map (·.2)),
            optWord (g.momentary.map (·.val)), mask] ++ values ++
           [intWord i.kv, intWord i.kh] ++ trim i.tl ++ trim i.tr ++ trim i.bl ++ trim i.br ++
           [word (position aspectList i.aspect), word (position contentList i.content), word i.ws, word i.hs,
            yesWord (imageSize g.format).isSome] ++
           (match g.current with
            | some x => point x.corners.tl ++ point x.corners.tr ++ point x.corners.bl ++ point x.corners.br
            | none => List.replicate 8 none16) ++
           [pairWord (position geomStatusList g.status) (if g.current.map (·.limited) = some true then 1 else 0),
            (if g.current.isSome then g.setNumber.setWidth 16 else none16), markWord g.commitAcked,
            (match s.link.lane with
             | some x => if x.set.number = g.setNumber then word x.progress else none16
             | none => none16),
            (match s.link.reportImage.bind (·.committed) with
             | some n => n.setWidth 16
             | none => none16)])) (begun p f s) with free := t.free } ∧
       values.length = 11 ∧ (∀ n : Nat, n < 16 → mask.getLsbD n = ((fields[n]?).bind id).isSome) ∧
       ∀ (n : Nat) (w : Word), fields[n]? = some (some w) → values[n]? = some w)

/-- The reading commands that name an item: in range they answer DONE with the item's words, beyond it OUT OF RANGE, a
free booking slot NO SUCH ENTRY and an UNSET clock CLOCK UNSET; nothing changes but the port. READ OCCURRENCES gives
up to four occurrences that are not cancelled, each with its id, day, P, S, E and whether it is taken, in order of
start, past the first n of the list that begins with the current occurrence, or with the first whose end lies after
now; no occurrence of a booking whose times lie within the day is left out of that list, where of two with one start
the model names one (log entry 21). In DIGEST the marker of a store not yet loaded is read from the text (log entry
18), the word for yes is the model's choice (log entry 8), and so are the words of a booking (log entry 27). -/
def Obligations.IndexedReadsAnswerByRange : Prop :=
  ∀ (p : Port) (f : Frame) (q : Qualifier) (s : State),
    let ps := f.words.drop 1
    let u := begun p f s
    let reads := fun (c : Command) (a : Answer) => exec (instrOf c p f) s = .next (after c p a u)
    (taken .readSourceMap p f q s →
      (∀ h : numAt ps 0 < 8, reads .readSourceMap (doneWith ((((List.finRange 8).drop (numAt ps 0)).take 3).flatMap
        fun x => entryWords s.router.sources[x]))) ∧
      (8 ≤ numAt ps 0 → reads .readSourceMap (refused .outOfRange))) ∧
    (taken .readPreset p f q s →
      (∀ h : numAt ps 0 < 16, reads .readPreset (doneWith (presetWords s.geometry.presets[numAt ps 0]))) ∧
      (16 ≤ numAt ps 0 → reads .readPreset (refused .outOfRange))) ∧
    (taken .readGeometryTable p f q s →
      (∀ tb : Table, enumAt tableList ps 0 = some tb → numAt ps 1 < tableSize tb →
        reads .readGeometryTable (doneWith ((((tableEntries tb s).drop (numAt ps 1)).take 14).flatMap
          fun e => [word e.first, word e.second, word e.step]))) ∧
      (∀ tb : Table, enumAt tableList ps 0 = some tb → tableSize tb ≤ numAt ps 1 →
        reads .readGeometryTable (refused .outOfRange)) ∧
      (2 ≤ numAt ps 0 → reads .readGeometryTable (refused .outOfRange))) ∧
    (taken .readBooking p f q s →
      (∀ n : Fin 64, numAt ps 0 = n.val →
        (∀ b, s.room.bookings[n] = some b → reads .readBooking (doneWith (bookingWords b ++ [optWord s.room.taken[n]]))) ∧
        (s.room.bookings[n] = none → reads .readBooking (refused .noSuchEntry))) ∧
      (64 ≤ numAt ps 0 → reads .readBooking (refused .outOfRange))) ∧
    (taken .readExceptions p f q s →
      (numAt ps 0 ≤ 31 → reads .readExceptions (doneWith (word s.room.exceptions.length ::
        ((s.room.exceptions.drop (numAt ps 0)).take 16).flatMap fun o => [word o.id.val, word o.day]))) ∧
      (32 ≤ numAt ps 0 → reads .readExceptions (refused .outOfRange))) ∧
    (taken .readOccurrences p f q s →
      (s.room.clock.isSet = true →
        let n := numAt ps 0
        let start := fun (x : Occurrence × Booking) => startOf x.2 x.1.day
        let now := s.room.clock.day * 1440 + s.room.clock.minute
        let timely := fun (b : Booking) => b.startMinute ≤ 1440 ∧ b.endMinute ≤ 1440
        let reachable := fun (y : Occurrence × Booking) => s.room.bookings[y.1.id] = some y.2 ∧ timely y.2 ∧
          occursOn y.2.kind y.1.day = true ∧ y.1 ∉ s.room.exceptions ∧
          (match s.room.current with
           | none => now < endOf y.2 y.1.day
           | some o => ∃ b, s.room.bookings[o.id] = some b ∧ startOf b o.day < start y)
        ∃ l : List (Occurrence × Booking),
          reads .readOccurrences (doneWith ((l.drop n).flatMap fun x => [word x.1.id.val, word x.1.day] ++
            words32 (prepOf x.2 x.1.day) ++ words32 (start x) ++ words32 (endOf x.2 x.1.day) ++
            [yesWord (s.room.taken[x.1.id] == some x.1.day)])) ∧
          l.length ≤ n + 4 ∧ l.Pairwise (fun x y => start x < start y) ∧
          (∀ x, x ∈ l → s.room.bookings[x.1.id] = some x.2 ∧
            (s.room.current = some x.1 ∨ (occursOn x.2.kind x.1.day = true ∧ x.1 ∉ s.room.exceptions))) ∧
          (∀ o b, s.room.current = some o → s.room.bookings[o.id] = some b → l.head? = some (o, b)) ∧
          (∀ x, s.room.current = none → l.head? = some x → now < endOf x.2 x.1.day) ∧
          (s.room.clock.minute ≤ 1440 → (∀ x, x ∈ l → timely x.2) → ∀ y, reachable y →
            (∃ x, x ∈ l ∧ start x = start y) ∨ (l.length = n + 4 ∧ ∀ x, x ∈ l → start x < start y))) ∧
      (s.room.clock.isSet = false → reads .readOccurrences (refused .clockUnset))) ∧
    (taken .digest p f q s →
      (∀ r : Region, enumAt regionList ps 0 = some r →
        reads .digest (doneWith [(if s.store.loaded then crcImage ((regionKeys r).flatMap (liveImage s)) else noneWord),
          word (s.store.queue.filter (fun e => keyRegion e.key == r)).length, yesWord (writingIn s r)])) ∧
      (4 ≤ numAt ps 0 → reads .digest (refused .outOfRange)))

/-- READ NOTICES removes up to eight notices from the front of the port's queue and gives them, oldest first, with
the number removed and the number left; nothing else changes. SET PORT MODE sets the items it names, keeps the
others and answers with the context as it then stands; from the LECTERN port a STANDING default is refused. SET DAY
BASE sets the day base. Nothing else changes. -/
def Obligations.PortCommandsActOnTheirPort : Prop :=
  (∀ (p : Port) (f : Frame) (q : Qualifier) (s : State), taken .readNotices p f q s →
     let x := portOf s p
     let ws := pairWord (min 8 x.notices.length) (x.notices.length - 8) :: (x.notices.take 8).flatMap noticeWords
     exec (.readNotices p f) s = .next (setPort s p { x with
       transfer := .taking, response := none, dataOut := List.replicate (f.words.length + 1) 0
       notices := x.notices.drop 8
       deciding := some { code := 0x02, answer := doneWith ws } })) ∧
  (∀ (p : Port) (f : Frame) (q : Qualifier) (s : State),
     let ps := f.words.drop 1
     let u := begun p f s
     (taken .setPortMode p f q s →
       (portItems ps = none → exec (.setPortMode p f) s = .next (after .setPortMode p (refused .outOfRange) u)) ∧
       (∀ i, portItems ps = some i → p = .lectern → i.scope = some .standing →
         exec (.setPortMode p f) s = .next (after .setPortMode p (refused .notPermitted) u)) ∧
       (∀ i, portItems ps = some i → (p ≠ .lectern ∨ i.scope ≠ some .standing) →
         let x : PortState := { portOf u p with
           defaultScope := i.scope.getD (portOf s p).defaultScope, defaultForm := i.form.getD (portOf s p).defaultForm
           subscription := i.subscription.getD (portOf s p).subscription }
         exec (.setPortMode p f) s = .next (after .setPortMode p
           (doneWith [word (position scopeList x.defaultScope), word (position timeFormList x.defaultForm),
             optWord (portOf s p).dayBase, x.subscription.setWidth 16]) (setPort u p x)))) ∧
     (taken .setDayBase p f q s →
       exec (.setDayBase p f) s = .next (after .setDayBase p done
         (setPort u p { portOf u p with dayBase := some (ps.getD 0 0).toNat }))))

/-- A burn second of a loaded account adds its wear, 3 units at the NORMAL rate and 2 at the ECO rate, and counts the
second in the counter of its rate and in the projector total, each saturating; the level is that of the new wear
against L, and a level above the old one is told by LAMP THRESHOLD with the percentage; the next second begins at 0,
judged by the conditions that hold then; no other field of the account changes, and in the other blocks only the
effective lamp mode, the control lane, the persist queue and the notices. -/
def Obligations.BurnSecondChargesTheAccount : Prop :=
  ∀ (n : Nat) (a : Account) (s : State), s.lamp.burn = some n → s.lamp.account = some a →
    ∃ t, exec .burnSecond s = .next t ∧ t.lamp.burn = some 0 ∧
      t.lamp.account = some { a with
        wear := satAdd a.wear (if s.lamp.normalSeen then 3 else 2)
        secNormal := satAdd a.secNormal (if s.lamp.normalSeen then 1 else 0)
        secEco := satAdd a.secEco (if s.lamp.normalSeen then 0 else 1)
        totalSeconds := satAdd a.totalSeconds 1 } ∧
      (∀ b, t.lamp.account = some b →
        let l := s.store.install.ratedLife * 10800
        let v := if 11 * l ≤ 10 * b.wear then Level.hardStop else if l ≤ b.wear then .atEnd
          else if 9 * l ≤ 10 * b.wear then .warn else .below
        t.lamp.level = some v ∧ ∀ old, s.lamp.level = some old → levelRank old < levelRank v →
          told none .lampThreshold .auto (word (levelRank v)) (heldWord (b.wear * 1000 / l)) s t) ∧
      t.lamp.normalSeen = (t.power.state == .warming || t.power.effectiveMode == .normal) ∧
      t.lamp = { s.lamp with account := t.lamp.account, level := t.lamp.level, burn := t.lamp.burn
                             normalSeen := t.lamp.normalSeen, cadence := t.lamp.cadence } ∧
      powerModed s.power t.power ∧
      t.router = s.router ∧ t.geometry = s.geometry ∧ t.room = s.room ∧ t.lockout = s.lockout ∧
      contexts t = contexts s ∧ linkServed s.link t.link ∧ storeServed s.store t.store ∧ t.pending = s.pending

/-- The ACK OK of an IGNITE counts one strike, hot while the hot-window timer runs and cold otherwise, and the
attempt awaits its result with the timer at 10 s; in UNKNOWN it is disregarded. The ACK REJECT of an IGNITE ends the
sequence in STANDBY with no wear, IGNITE REFUSED BY HEAD and POWER STATE CHANGED telling of it. An ACK whose tag is that
of the message outstanding ends its exchange, and a REJECT of any message becomes the last rejection; an ACK of another
tag, or with nothing outstanding, counts as a head message alone. The ACK OK of an entry sent from the lane advances the
progress index; at 57 the lane offers the COMMIT, whose ACK OK empties the lane and sets the commit-acknowledged mark of
a PENDING set. An ACK REJECT of either empties the lane, and the status of a PENDING set is HELD, told with the index of
the entry rejected. An acknowledgement of a message of an earlier set, or of another control message, changes neither.
The ignition origin of the change at a reject is the model's (log entry 20), the commit mark and the status HELD move
only for a PENDING set (R99), and the words of GEOMETRY HELD are as log entries 8 and 18 have them. -/
def Obligations.AckedIgniteCountsAStrike : Prop :=
  (∀ (tag : BitVec 3) (n : Nat) (b : Bool) (a : Account) (s : State),
    s.link.state = .present → s.link.outstanding = some { msg := .control .ignite, tag := tag, sends := n, ofLane := b } →
    s.power.state = .igniting → s.power.step = .sending → s.lamp.account = some a →
    ∃ t, exec (.ack tag true) s = .next t ∧
      t.lamp.account = some { a with
        wear := satAdd a.wear (if s.lamp.hotWindow = none then 1800 else 3600)
        coldStrikes := satAdd a.coldStrikes (if s.lamp.hotWindow = none then 1 else 0)
        hotStrikes := satAdd a.hotStrikes (if s.lamp.hotWindow = none then 0 else 1)
        totalStrikes := satAdd a.totalStrikes 1 } ∧
      t.power = { s.power with step := .awaitingResult, strikeTimer := some 10000
                               effectiveMode := t.power.effectiveMode } ∧
      t.lamp = { s.lamp with account := t.lamp.account, level := t.lamp.level, cadence := t.lamp.cadence
                             normalSeen := t.lamp.normalSeen } ∧
      linkServed (heard s.link) t.link ∧ t.router = s.router ∧ t.geometry = s.geometry ∧ t.room = s.room ∧
      t.lockout = s.lockout ∧ contexts t = contexts s ∧ storeServed s.store t.store) ∧
  (∀ (tag : BitVec 3) (n : Nat) (b : Bool) (s : State),
    s.link.state = .present → s.link.outstanding = some { msg := .control .ignite, tag := tag, sends := n, ofLane := b } →
    let o := s.power.ignitionOrigin.getD .auto
    let rejected := { heard s.link with lastRejection := some (.ignite, tag) }
    (s.power.state = .igniting → ∃ t, exec (.ack tag false) s = .next t ∧
      (∃ w, told (originPort o) .igniteRefusedByHead o (word s.power.attempt) w s t) ∧
      toldPower (originPort o) o .igniting .standby none s t ∧
      t.power = { s.power with
        state := .standby, attempt := 0, restartPending := false, offPending := false, offOrigin := none
        ignitionOrigin := none, strikeTimer := none, pauseTimer := none, warmingTimer := none, coolingTimer := none } ∧
      t.lamp = s.lamp ∧ linkServed rejected t.link ∧ routerTimed s.router t.router ∧ t.geometry = s.geometry ∧
      t.room = s.room ∧ t.lockout = s.lockout ∧ contexts t = contexts s ∧ storeServed s.store t.store) ∧
    (s.power.state = .unknown → (∃ t, exec (.ack tag true) s = .next t ∧ actionsKept s t ∧ t.room = s.room) ∧
      ∃ t, exec (.ack tag false) s = .next t ∧ actionsKept s t ∧ t.room = s.room ∧ linkServed rejected t.link)) ∧
  (∀ (tag : BitVec 3) (ok : Bool) (s : State), s.link.state = .present → s.link.outstanding = none →
    ∃ t, exec (.ack tag ok) s = .next t ∧ linkServed (heard s.link) t.link ∧ actionsKept s t ∧ t.room = s.room ∧
      storeServed s.store t.store ∧ contexts t = contexts s) ∧
  (∀ (tag : BitVec 3) (ok : Bool) (o : Outstanding) (s : State),
    s.link.state = .present → s.link.outstanding = some o →
    ∃ t, exec (.ack tag ok) s = .next t ∧ storeServed s.store t.store ∧ contexts t = contexts s ∧
      (o.tag ≠ tag → t.link = heard s.link ∧ actionsKept s t ∧ t.room = s.room) ∧
      (o.tag = tag → t.link.answer = none ∧
        (∀ x, t.link.outstanding = some x → x.tag = s.link.nextTag ∧ x.sends = 1) ∧
        t.link.lastRejection = (if ok = true then s.link.lastRejection else some (headMsgType o.msg, tag)) ∧
        ((∃ m, o.msg = .control m ∧ m ≠ .ignite) ∨ ((∀ m, o.msg ≠ .control m) ∧ o.ofLane = false) →
          actionsKept s t ∧ t.room = s.room ∧ t.link.lane = s.link.lane))) ∧
  (∀ (tag : BitVec 3) (n : Nat) (l : LaneSet) (s : State), s.link.state = .present → s.link.lane = some l →
    s.link.outstanding = some { msg := laneMessage l, tag := tag, sends := n, ofLane := true } →
    let mark := fun (g : GeometryUnit) (t : State) => t.lamp = s.lamp ∧ t.power = s.power ∧ t.router = s.router ∧
      t.room = s.room ∧ t.lockout = s.lockout ∧ storeServed s.store t.store ∧ contexts t = contexts s ∧
      (s.geometry.status = .pending → t.geometry = g) ∧ (s.geometry.status ≠ .pending → t.geometry = s.geometry)
    (l.progress < 57 → ∃ t, exec (.ack tag true) s = .next t ∧ mark s.geometry t ∧
      t.link.lane = some { l with progress := l.progress + 1 } ∧
      linkServed { heard s.link with lane := t.link.lane } t.link ∧
      (s.link.control = [] → s.link.transmit = [] →
        t.link.outstanding = some { msg := laneMessage { l with progress := l.progress + 1 }, tag := s.link.nextTag
                                    sends := 1, ofLane := true } ∧
        (l.progress = 56 → laneMessage { l with progress := l.progress + 1 } = .commit l.set.number))) ∧
    (l.progress = 57 → ∃ t, exec (.ack tag true) s = .next t ∧ mark { s.geometry with commitAcked := true } t ∧
      t.link.lane = none ∧ linkServed { heard s.link with lane := none } t.link) ∧
    (l.progress ≤ 57 → ∃ t, exec (.ack tag false) s = .next t ∧ mark { s.geometry with status := .held } t ∧
      t.link.lane = none ∧
      linkServed { heard s.link with lane := none, lastRejection := some (headMsgType (laneMessage l), tag) } t.link ∧
      (s.geometry.status = .pending →
        told none .geometryHeld .auto (s.geometry.setNumber.setWidth 16) (pairWord 0 l.progress) s t)))

/-- A push of a summary: nothing when its serial is first; otherwise it goes first, an entry of its serial goes, and
the list keeps at most four, no two of one serial. -/
def Obligations.HistoryPushKeepsFourSerials : Prop :=
  ∀ (h : List Summary) (x : Summary), historyWithin h →
    historyWithin (pushSummary h x) ∧
    (∀ y r, h = y :: r → y.serial = x.serial → pushSummary h x = h) ∧
    ((∀ y r, h = y :: r → y.serial ≠ x.serial) →
      (∃ r, pushSummary h x = x :: r) ∧
      (x.serial ∈ h.map (·.serial) → pushSummary h x = x :: h.filter (fun y => y.serial ≠ x.serial)) ∧
      (x.serial ∉ h.map (·.serial) → pushSummary h x = x :: h.take 3))

/-- LAMP REPLACE in STANDBY, its checks passed and no rated life given: STARTED with the rated life in force; the
content is on its way to storage with origin SERVICE, the flag is set, and the live account is the outgoing lamp's
still. LAMP SET in STANDBY, its checks passed: STARTED; the live account with six fields replaced and VERIFIED is on
its way to storage, the flag is set, and the live account stays. -/
def Obligations.LampReplaceAndLampSetQueueTheContent : Prop :=
  (∀ (p : Port) (f : Frame) (q : Qualifier) (a : Account) (s : State), taken .lampReplace p f q s →
     s.lamp.account = some a → s.power.state = .standby → s.lamp.replaceInFlight = false → isProtected s .a = false →
     numAt (f.words.drop 1) 2 = 3 → num32At (f.words.drop 1) 0 ≠ a.serial →
     let day := if s.room.clock.isSet = true then some s.room.clock.day else none
     ∃ t, exec (.lampReplace p f) s = .next t ∧
       answered .lampReplace p f (started [word s.store.install.ratedLife]) s t ∧
       { key := .lampCheckpoint, origin := .service, switch := some .replace
         image := accountImage
           { serial := num32At (f.words.drop 1) 0, installedDay := day, wear := 0, secNormal := 0, secEco := 0
             coldStrikes := 0, hotStrikes := 0, failedStrikes := 0, totalSeconds := a.totalSeconds
             totalStrikes := a.totalStrikes, verified := true
             previous := some { serial := a.serial, burnSeconds := satAdd a.secNormal a.secEco
                                strikes := satAdd a.coldStrikes a.hotStrikes, finalWear := a.wear, removedDay := day } }
         : Entry } ∈ entriesOf t ∧
       t.lamp = { s.lamp with cadence := 0, replaceInFlight := true } ∧ t.power = s.power ∧ t.router = s.router ∧
       t.geometry = s.geometry ∧ t.room = s.room ∧ t.lockout = s.lockout ∧ linkServed s.link t.link ∧
       storeServed s.store t.store ∧ t.pending = s.pending) ∧
  (∀ (p : Port) (f : Frame) (q : Qualifier) (a : Account) (s : State), taken .lampSet p f q s →
     s.lamp.account = some a → s.power.state = .standby → s.lamp.replaceInFlight = false → isProtected s .a = false →
     let ps := f.words.drop 1
     ∃ t, exec (.lampSet p f) s = .next t ∧ answered .lampSet p f (started []) s t ∧
       { key := .lampCheckpoint, origin := .service, switch := some .set
         image := accountImage { a with
           wear := num32At ps 0, secNormal := num32At ps 2, secEco := num32At ps 4, coldStrikes := num32At ps 6
           hotStrikes := num32At ps 8, failedStrikes := num32At ps 10, verified := true } : Entry } ∈ entriesOf t ∧
       t.lamp = { s.lamp with cadence := 0, replaceInFlight := true } ∧ t.power = s.power ∧ t.router = s.router ∧
       t.geometry = s.geometry ∧ t.room = s.room ∧ t.lockout = s.lockout ∧ linkServed s.link t.link ∧
       storeServed s.store t.store ∧ t.pending = s.pending)

/-- A write completes, and WRITE DONE is told with its key and slot: the record stands in storage with a good CRC, a
checkpoint in the slot chosen and with the next sequence number, which becomes the newest; no other stored record
changes. The write of a LAMP REPLACE or LAMP SET content completes: the content becomes the live account, the flag is
cleared and the cadence counter is 0; a LAMP REPLACE tells LAMP REPLACED with the new serial and pushes the previous
lamp's summary, the record of a history that changed being queued where a place is free. The persist queue: a request
for a key that is queued replaces the entry in its place and tells WRITE DROPPED with REPLACED to another origin, and
any other joins the end, as SET PROFILE's does. An IDLE engine, and one whose write completes, begins a wipe that
waits, else takes the oldest entry: entries of a protected region go with PROTECTED, but for LAMP CHECKPOINT, LAMP
HISTORY and LOCK PAIR, until one is written in 15 ms, its slot the one after the newest or slot 0. REPLACED as 0 and
PROTECTED as 1 are the order of the text (log entry 8). -/
def Obligations.WriteCompletionStoresTheRecord : Prop :=
  (let dropped := fun (e : Entry) (cause : Word) (s t : State) =>
     told (originPort e.origin) .writeDropped e.origin (word (keyPosition e.key)) cause s t
   let placed := fun (e : Entry) (s t : State) =>
     ((∀ x ∈ s.store.queue, x.key ≠ e.key) → t.store.queue = s.store.queue ++ [e]) ∧
     ∀ before old later, s.store.queue = before ++ old :: later → old.key = e.key →
       (∀ x ∈ before ++ later, x.key ≠ e.key) →
       t.store.queue = before ++ e :: later ∧ (old.origin ≠ e.origin → dropped old 0 s t)
   let barred := fun (s : State) (e : Entry) => isProtected s (keyRegion e.key) = true ∧
     e.key ≠ .lampCheckpoint ∧ e.key ≠ .lampHistory ∧ e.key ≠ .lockPair
   let takes := fun (newest : Option (Fin 4)) (s t : State) =>
     (s.store.wipe ≠ none → t.store.engine = .wiping 600 ∧ t.store.queue = s.store.queue) ∧
     (s.store.wipe = none →
       ((∀ e ∈ s.store.queue, barred s e) → t.store.engine = .idle ∧ t.store.queue = []) ∧
       (∀ before e later, s.store.queue = before ++ e :: later → (∀ x ∈ before, barred s x) → ¬ barred s e →
         t.store.queue = later ∧ t.store.engine = .writing e (match newest with
           | some i => i + 1
           | none => 0) 15) ∧
       ∀ before later, s.store.queue = before ++ later → (∀ x ∈ before, barred s x) → ∀ x ∈ before, dropped x 1 s t)
   (∀ (e : Entry) (s : State), placed e s (queueEntry e s) ∧
     queueEntry e s = { s with store := { s.store with queue := (queueEntry e s).store.queue }
                               ports := (queueEntry e s).ports, free := (queueEntry e s).free }) ∧
   (∀ (p : Port) (f : Frame) (q : Qualifier) (n : Fin 8) (k : Profile) (s : State), taken .setProfile p f q s →
     numAt (f.words.drop 1) 0 = n.val → profileItem (f.words.drop 1) = some k →
     standingCheck s .b true [.profile n] = none → s.store.engine ≠ .idle →
     ∃ t, exec (.setProfile p f) s = .next t ∧ t.store.engine = s.store.engine ∧
       placed { key := .profile n, image := profileImage k, origin := portOrigin p, switch := none } s t) ∧
   (∀ s : State, s.store.loaded = true → s.store.engine = .idle →
     takes (s.lamp.newest.map (·.1)) s (runEngine s) ∧
     runEngine s = { s with
       store := { s.store with queue := (runEngine s).store.queue, engine := (runEngine s).store.engine }
       ports := (runEngine s).ports, free := (runEngine s).free }) ∧
   ∀ (e : Entry) (slot : Fin 4) (left : Nat) (s : State), s.store.engine = .writing e slot left → e.switch = none →
     s.store.loaded = true → ∃ t, exec .writeCompletion s = .next t ∧
       takes (if e.key = .lampCheckpoint then some slot else s.lamp.newest.map (·.1)) s t) ∧
  (∀ (e : Entry) (slot : Fin 4) (left : Nat) (s : State), s.store.engine = .writing e slot left → e.switch = none →
     ∃ t, exec .writeCompletion s = .next t ∧
       told (originPort e.origin) .writeDone e.origin (word (keyPosition e.key))
         (if e.key = .lampCheckpoint then word slot.val else 0xFFFF#16) s t ∧
       (e.key = .lampCheckpoint →
         t.store.slots[slot] = sealed (words32 (nextSequence s) ++ e.image) ∧ validRecord t.store.slots[slot] = true ∧
         t.lamp = { s.lamp with newest := some (slot, nextSequence s) } ∧ t.store.records = s.store.records ∧
         ∀ j : Fin 4, j ≠ slot → t.store.slots[j] = s.store.slots[j]) ∧
       (e.key ≠ .lampCheckpoint →
         (recordOf t e.key).image = e.image ∧ validRecord (recordOf t e.key) = true ∧ t.store.slots = s.store.slots ∧
         t.lamp = s.lamp ∧ ∀ j : Fin 101, j ≠ recordIndex e.key → t.store.records[j] = s.store.records[j]) ∧
       t.power = s.power ∧ t.router = s.router ∧ t.geometry = s.geometry ∧ t.room = s.room ∧ t.lockout = s.lockout ∧
       linkServed s.link t.link ∧ contexts t = contexts s ∧
       t.store = { s.store with slots := t.store.slots, records := t.store.records, queue := t.store.queue
                                engine := t.store.engine }) ∧
  (∀ (e : Entry) (k : SwitchKind) (slot : Fin 4) (left : Nat) (s : State),
     s.store.engine = .writing e slot left → e.switch = some k → e.key = .lampCheckpoint →
     ∃ t, exec .writeCompletion s = .next t ∧ t.lamp.account = some (accountOf e.image) ∧
       told (originPort e.origin) .writeDone e.origin (word (keyPosition e.key)) (word slot.val) s t ∧
       t.lamp.replaceInFlight = false ∧ t.lamp.cadence = 0 ∧ t.lamp.newest = some (slot, nextSequence s) ∧
       (k = .set → t.lamp.history = s.lamp.history) ∧
       (k = .replace → told (some .service) .lampReplaced .service (word ((accountOf e.image).serial / 65536))
           (word (accountOf e.image).serial) s t ∧
         t.lamp.history = (match (accountOf e.image).previous with
           | some x => pushSummary s.lamp.history x
           | none => s.lamp.history) ∧
         (t.lamp.history ≠ s.lamp.history →
           (s.store.queue.any (fun x => x.key == .lampHistory) = true ∨ nonLampCount s.store.queue ≤ 10) →
           sentToStore .lampHistory (historyImage t.lamp.history) .service t)) ∧
       t.lamp.level = some (levelOf (accountOf e.image).wear (s.store.install.ratedLife * 10800)) ∧
       t.lamp.burn = s.lamp.burn ∧
       t.lamp.hotWindow = s.lamp.hotWindow ∧ t.lamp.tally = s.lamp.tally ∧
       t.store.slots[slot] = sealed (words32 (nextSequence s) ++ e.image) ∧ t.store.records = s.store.records ∧
       (∀ j : Fin 4, j ≠ slot → t.store.slots[j] = s.store.slots[j]) ∧ powerModed s.power t.power ∧
       t.room = s.room ∧ t.lockout = s.lockout ∧ t.router = s.router ∧ t.geometry = s.geometry ∧
       linkServed s.link t.link ∧ contexts t = contexts s)

/-- The load completes with no valid checkpoint slot, an empty tally, no occurrence and an UNSET clock: the account is
UNVERIFIED with its wear equal to the rated limit, which gives the level, the window opens for 10 s, the requested
source is the default source, and storage stays. In every load each record becomes its live copy, or its default with
RECORD DEFAULTED when its CRC is bad; the lock follows the LOCK PAIR's table; the newest valid slot, numbers below 4
being newer than numbers above 4,294,967,291, becomes the account, with the tally added to it and a checkpoint request
made; the level is the new wear's; the history is the record's with the previous lamp's summary pushed; an UNVERIFIED
account is told. A booking that conflicts with a lower one that is kept is removed and told as RECORD DEFAULTED, and
the empty record of the first such is queued where the queue was empty and nothing bars the write; of the exceptions
those stay, once each, that name an occurrence of a WEEKLY booking left, from the clock's day on where it is set. With
the clock UNSET, CLOCK NEEDED is told, and a list that has become shorter is queued where no booking was removed, the
queue was empty and nothing bars the write. With the clock set the VACANT room enters the candidate at once, PREPARING
before its start and else OCCUPIED, with cause TIME; its profile is active, in OCCUPIED its source asked for before
the first resolution, and in UNKNOWN, where the head may come, an ON intent of origin SCHEDULE held; with nothing
covering now the room stays VACANT. The prune of a protected region D is as log entry 29 has it. -/
def Obligations.LoadWithoutCheckpointIsUnverified : Prop :=
  (∀ s : State, s.store.loaded = false → (∀ i : Fin 4, validRecord s.store.slots[i] = false) →
    s.lamp.tally = Tally.empty → s.room.current = none → s.room.clock.isSet = false →
    ∃ t, exec .loadCompletion s = .next t ∧ t.store.loaded = true ∧ t.store.window = some 10000 ∧
      t.lamp.account = some (unverifiedAccount (t.store.install.ratedLife * 10800)) ∧ t.lamp.newest = none ∧
      t.lamp.level = some (levelOf (t.store.install.ratedLife * 10800) (t.store.install.ratedLife * 10800)) ∧
      t.router.requested = some t.store.room.source ∧ t.lockout.active.isSome = true ∧
      t.lockout.mode = s.lockout.mode ∧ t.room.clock = s.room.clock ∧ t.room.state = s.room.state ∧
      t.store.slots = s.store.slots ∧ t.store.records = s.store.records ∧ t.store.protect = s.store.protect ∧
      t.store.wipe = s.store.wipe ∧ contexts t = contexts s) ∧
  (∀ s : State, s.store.loaded = false →
    let good := fun (k : Key) => validRecord (recordOf s k) = true
    let words := fun (k : Key) => (recordOf s k).image
    let seq := fun (i : Fin 4) => num32At s.store.slots[i].image 0
    let newer := fun (a b : Nat) => (a < 4 ∧ 4294967291 < b) ∨ (¬ (b < 4 ∧ 4294967291 < a) ∧ b < a)
    let x := itemAt (words .lockPair) 0
    let y := itemAt (words .lockPair) 1
    ∃ t, exec .loadCompletion s = .next t ∧ t.store.loaded = true ∧ t.store.window = some 10000 ∧
      t.store.slots = s.store.slots ∧ t.store.records = s.store.records ∧ t.store.protect = s.store.protect ∧
      t.lockout.mode = s.lockout.mode ∧ t.room.clock = s.room.clock ∧ contexts t = contexts s ∧
      (∀ k : Key, k ≠ .lampCheckpoint → ¬ good k → ∃ w, told none .recordDefaulted .auto (word (keyPosition k)) w s t) ∧
      t.store.install = (if good .install then installOf (words .install) else defaultInstall) ∧
      t.store.room = (if good .roomDefaults then roomOf (words .roomDefaults) else defaultRoom) ∧
      (∀ n : Fin 8,
        t.router.sources[n] = (if good (.source n) then sourceOf (words (.source n)) else defaultSource) ∧
        t.lockout.profiles[n] = (if good (.profile n) then profileOf (words (.profile n)) else defaultProfile)) ∧
      (∀ n : Fin 16,
        t.geometry.presets[n] = (if good (.preset n) then presetOf (words (.preset n)) else defaultPreset)) ∧
      (∀ table : Vector (Option Booking) 64,
        (∀ n : Fin 64, table[n] = (if good (.booking n) then bookingOf (words (.booking n)) else none)) →
        let clash := fun (n : Fin 64) => ∃ j : Fin 64, j.val < n.val ∧ ∃ a b, t.room.bookings[j] = some a ∧
          table[n] = some b ∧ conflicts b a = true
        let listed := if good .exceptions then exceptionsOf (words .exceptions) else []
        let writable := s.store.queue = [] ∧ s.store.wipe = none ∧ isProtected s .d = false
        (tableClear table → t.room.bookings = table) ∧
        (∀ n : Fin 64, (¬ clash n → t.room.bookings[n] = table[n]) ∧
          (clash n → t.room.bookings[n] = none ∧
            (∃ w, told none .recordDefaulted .auto (word (keyPosition (.booking n))) w s t) ∧
            (writable → (∀ j : Fin 64, j.val < n.val → ¬ clash j) →
              sentToStore (.booking n) (bookingImage none) .auto t))) ∧
        t.room.exceptions.Sublist listed ∧ t.room.exceptions.Nodup ∧
        (∀ o, o ∈ t.room.exceptions ↔ o ∈ listed ∧ (s.room.clock.isSet = true → s.room.clock.day ≤ o.day) ∧
          ∃ b mask first last, t.room.bookings[o.id] = some b ∧ b.kind = .weekly mask first last ∧
            occursOn b.kind o.day = true) ∧
        (s.room.clock.isSet = false → t.room.exceptions ≠ listed → writable → (∀ n, ¬ clash n) →
          sentToStore .exceptions (exceptionsImage t.room.exceptions) .auto t)) ∧
      (s.room.clock.isSet = false → ∃ x y, told none .clockNeeded .auto x y s t) ∧
      (s.room.current = none → s.room.state = .vacant → timesInRange t →
        let u := { s with room := { s.room with bookings := t.room.bookings, exceptions := t.room.exceptions } }
        ((∀ o b, ¬ mayEnter u o b) → t.room.state = .vacant ∧ t.room.current = none ∧
          t.lockout.active.map (·.number) = some t.store.install.vacantProfile) ∧
        ∀ o b, isCandidate u o b →
          let dest := if nowMinute s < startOf b o.day then RoomState.preparing else .occupied
          t.room.state = dest ∧ t.room.current = some o ∧ t.room.extension = 0 ∧
          t.room.taken = s.room.taken.set o.id (some o.day) ∧ t.lockout.active.map (·.number) = some b.profile ∧
          told none .roomStateChanged .schedule (tripleWord (position roomStateList .vacant) (position roomStateList dest)
            (position roomCauseList .time)) (word o.id.val) s t ∧
          (∀ x, dest = .occupied → b.source = some x → s.router.resolved = false → t.router.requested = some x) ∧
          (s.power.state = .unknown → (s.link.state = .present ∨ (s.link.state = .awaiting ∧ s.power.reportWait ≠ none)) →
            t.power.state = .unknown ∧ t.power.restartPending = true ∧ t.power.ignitionOrigin = some .schedule)) ∧
      t.lockout.serviceEnabled = t.store.install.serviceDefault ∧
      (¬ good .lockPair → t.lockout.locked = false ∧ t.lockout.mismatch = false) ∧
      (good .lockPair →
        (y = ~~~ x → x = lockWord true → t.lockout.locked = true ∧ t.lockout.mismatch = false) ∧
        (y = ~~~ x → x = lockWord false → t.lockout.locked = false ∧ t.lockout.mismatch = false) ∧
        ((y ≠ ~~~ x ∨ (x ≠ lockWord true ∧ x ≠ lockWord false)) →
          t.lockout.locked = true ∧ t.lockout.mismatch = true ∧
          ∃ w, told none .lockPairMismatch .auto x w s t)) ∧
      ((∀ i : Fin 4, validRecord s.store.slots[i] = false) → t.lamp.newest = none) ∧
      (∀ i : Fin 4, validRecord s.store.slots[i] = true →
        (∀ j : Fin 4, j ≠ i → validRecord s.store.slots[j] = true → newer (seq i) (seq j)) →
        let a := accountOf (s.store.slots[i].image.drop 2)
        let y := s.lamp.tally
        t.lamp.newest = some (i, seq i) ∧
        (s.room.current = none →
          (y = Tally.empty → t.lamp.account = some a) ∧
          (y ≠ Tally.empty → t.lamp.account = some { a with
              wear := satAdd a.wear y.wear, secNormal := satAdd a.secNormal y.secNormal
              secEco := satAdd a.secEco y.secEco, coldStrikes := satAdd a.coldStrikes y.coldStrikes
              hotStrikes := satAdd a.hotStrikes y.hotStrikes, failedStrikes := satAdd a.failedStrikes y.failedStrikes
              totalSeconds := satAdd a.totalSeconds (y.secNormal + y.secEco)
              totalStrikes := satAdd a.totalStrikes (y.coldStrikes + y.hotStrikes) } ∧
            (s.lamp.replaceInFlight = false → ∀ b, t.lamp.account = some b →
              sentToStore .lampCheckpoint (accountImage b) .auto t)))) ∧
      t.lamp.tally = Tally.empty ∧
      (s.room.current = none → ∃ a, t.lamp.account = some a ∧
        t.lamp.level = some (levelOf a.wear (t.store.install.ratedLife * 10800)) ∧
        t.lamp.history = (match a.previous with
          | some x => pushSummary (if good .lampHistory then historyOf (words .lampHistory) else []) x
          | none => if good .lampHistory then historyOf (words .lampHistory) else []) ∧
        (a.verified = false →
          ∃ w, told none .lampAccountUnverified .auto (word (t.store.install.ratedLife / 100)) w s t)))

/-- The refusal test checks its five conditions in order and stops at the first that holds. -/
def Obligations.RefusalTestStopsAtTheFirst : Prop :=
  ∀ (s : State) (o : Origin),
    let c1 := s.lamp.replaceInFlight = true
    let c2 := s.lamp.level = some .hardStop ∧ o ≠ .service
    let c3 := s.power.state = .fault
    let c4 := s.power.thermalHold = true
    let c5 := s.link.state = .lost
    (c1 → refusalTest s o = some .lampChangeInProgress) ∧ (¬ c1 → c2 → refusalTest s o = some .lampExpired) ∧
    (¬ c1 → ¬ c2 → c3 → refusalTest s o = some .lampFault) ∧
    (¬ c1 → ¬ c2 → ¬ c3 → c4 → refusalTest s o = some .thermalHold) ∧
    (¬ c1 → ¬ c2 → ¬ c3 → ¬ c4 → c5 → refusalTest s o = some .headLost) ∧
    (¬ c1 → ¬ c2 → ¬ c3 → ¬ c4 → ¬ c5 → refusalTest s o = none)

/-- POWER ON does what the power state calls for: a strike sequence begins in STANDBY, told by POWER STATE CHANGED,
and restart pending is set in COOLING when the refusal test passes, an intent is held in UNKNOWN, off pending is
cleared in IGNITING, WARMING and (the model's reading, log entry 11) ON, FAULT refuses; a refusal leaves everything. A
thermal hold refuses it where the refusal test is made, in STANDBY and COOLING, and not in IGNITING, WARMING and ON,
which is the model's reading of two rules that differ (log entry 30). -/
def Obligations.PowerOnByPowerState : Prop :=
  ∀ (p : Port) (f : Frame) (q : Qualifier) (s : State), taken .powerOn p f q s →
    let o := portOrigin p
    let refuses := fun r => exec (.powerOn p f) s = .next (after .powerOn p (refused r) (begun p f s))
    let leaves := fun (a : Answer) (u : PowerUnit) (k : State → Prop) =>
      ∃ t, exec (.powerOn p f) s = .next t ∧ answered .powerOn p f a s t ∧ t.power = u ∧ k t ∧ t.lamp = s.lamp ∧
        t.geometry = s.geometry ∧ t.room = s.room ∧ t.lockout = s.lockout ∧ linkServed s.link t.link ∧
        storeServed s.store t.store ∧ t.pending = s.pending
    let same := fun (t : State) => t.router = s.router
    let restart := { s.power with restartPending := true, offPending := false, offOrigin := none, ignitionOrigin := some o }
    match s.power.state with
    | .standby => match refusalTest s o with
      | some r => refuses r
      | none => leaves (started [])
          { s.power with state := .igniting, step := .sending, attempt := 1, restartPending := false, offPending := false
                         offOrigin := none, ignitionOrigin := some o, warmingTimer := none, coolingTimer := none }
          (fun t => t.router = { s.router with noSignal := none } ∧ toldPower (some p) o .standby .igniting none s t ∧
            (.ignite ∈ t.link.control ∨ ∃ x, t.link.outstanding = some x ∧ x.msg = .control .ignite))
    | .cooling => match refusalTest s o with
      | some r => refuses r
      | none => leaves (started []) restart same
    | .unknown =>
      if s.link.state = .present ∨ (s.link.state = .awaiting ∧ s.power.reportWait ≠ none) then
        leaves (started []) restart same
      else refuses .headLost
    | .igniting | .warming | .on => leaves done
        { s.power with offPending := false, offOrigin := none
                       ignitionOrigin := if p = .service then some .service else s.power.ignitionOrigin } same
    | .fault => refuses .lampFault

/-- POWER OFF does what the power state calls for: it is DONE in STANDBY, FAULT and COOLING, abandons a pause, sets
off pending while an attempt, the warming or a lost link holds it back, and puts the lamp out in ON; each change of the
power state is told by POWER STATE CHANGED with the request's origin. -/
def Obligations.PowerOffByPowerState : Prop :=
  ∀ (p : Port) (f : Frame) (q : Qualifier) (s : State), taken .powerOff p f q s →
    let o := portOrigin p
    let leaves := fun (a : Answer) (k : State → Prop) =>
      ∃ t, exec (.powerOff p f) s = .next t ∧ answered .powerOff p f a s t ∧ k t ∧
        t.geometry = s.geometry ∧ t.room = s.room ∧ t.lockout = s.lockout ∧ linkServed s.link t.link ∧
        storeServed s.store t.store ∧ t.pending = s.pending
    let only := fun (u : PowerUnit) (t : State) => t.power = u ∧ t.lamp = s.lamp ∧ t.router = s.router
    let pending := { s.power with offPending := true, offOrigin := some o }
    match s.power.state with
    | .standby | .fault => leaves done (only s.power)
    | .unknown => leaves (started []) (only { pending with restartPending := false, ignitionOrigin := none })
    | .cooling => leaves done (only { s.power with restartPending := false, ignitionOrigin := none })
    | .warming => leaves (started []) (only pending)
    | .igniting =>
      if s.power.step = .pause then leaves done (fun t => t.lamp = s.lamp ∧
        toldPower (some p) o .igniting .standby none s t ∧
        t.power = { s.power with state := .standby, attempt := 0, strikeTimer := none, pauseTimer := none
                                 warmingTimer := none, coolingTimer := none, restartPending := false
                                 offPending := false, ignitionOrigin := none, offOrigin := none })
      else leaves (started []) (only pending)
    | .on =>
      if s.link.state = .lost then leaves (started []) (only pending)
      else leaves (started []) (fun t => toldPower (some p) o .on .cooling none s t ∧
        t.power = { s.power with state := .cooling, attempt := 0, strikeTimer := none, pauseTimer := none
                                 warmingTimer := none, coolingTimer := some (s.store.install.coolingTime * 1000)
                                 restartPending := false, offPending := false, ignitionOrigin := none
                                 offOrigin := none, effectiveMode := t.power.effectiveMode } ∧
        t.lamp.burn = none ∧ t.lamp.hotWindow = some 1800000 ∧ t.router = { s.router with noSignal := none } ∧
        (.extinguish ∈ t.link.control ∨ ∃ x, t.link.outstanding = some x ∧ x.msg = .control .extinguish))

/-- A STRIKE RESULT OK received in AWAITING RESULT or PAUSE lights the lamp: WARMING, with the warming timer at the
warming time and the burn timer at 0; off pending and the ignition origin are kept. In SENDING, and in every other
power state, a STRIKE RESULT does nothing but show that the head is there. An attempt fails by STRIKE RESULT FAIL or
by the timeout: the failed strike is counted, and told by STRIKE FAILED, and the sequence ends in STANDBY with off
pending set, pauses for 20 s after attempt 1 or 2, and ends in FAULT after attempt 3, told by FAULT; each change of
the power state is told. That the change into WARMING carries the ignition origin is the model's reading, as is the
order of the notices (log entry 20); FAIL as 0 and the timeout as 1 in STRIKE FAILED are the order of the text (log
entry 8). -/
def Obligations.StrikeResultsAndTimeout : Prop :=
  (∀ (ok : Bool) (s : State), s.link.state = .present →
     ∃ t, exec (.strikeResult ok) s = .next t ∧ linkServed (heard s.link) t.link ∧
       (s.power.state = .igniting → s.power.step ≠ .sending → ok = true →
         t.power = { s.power with state := .warming, attempt := 0, strikeTimer := none, pauseTimer := none
                                  warmingTimer := some (s.store.install.warmingTime * 1000), coolingTimer := none } ∧
         t.lamp = { s.lamp with burn := some 0, normalSeen := true } ∧
         toldPower (originPort (s.power.ignitionOrigin.getD .auto)) (s.power.ignitionOrigin.getD .auto)
           .igniting .warming none s t) ∧
       ((s.power.state ≠ .igniting ∨ s.power.step = .sending ∨ (s.power.step = .pause ∧ ok = false)) →
         t.power = s.power ∧ t.lamp = s.lamp) ∧ routerTimed s.router t.router ∧ storeServed s.store t.store ∧
       t.geometry = s.geometry ∧ t.room = s.room ∧ t.lockout = s.lockout ∧ contexts t = contexts s) ∧
  (∀ (c : Instr) (s : State), s.power.state = .igniting → s.power.step = .awaitingResult →
     ((c = .strikeResult false ∧ s.link.state = .present) ∨ (c = .strikeResultTimeout ∧ s.power.strikeTimer ≠ none)) →
     let o := s.power.ignitionOrigin.getD .auto
     let off := s.power.offOrigin.getD .auto
     ∃ t, exec c s = .next t ∧ failedCount t = satAdd (failedCount s) 1 ∧
       told (originPort o) .strikeFailed o (word s.power.attempt) (if c = .strikeResultTimeout then 1 else 0) s t ∧
       (s.power.offPending = true → toldPower (originPort off) off .igniting .standby
         (if s.power.thermalHold = true then some .thermalHold else none) s t) ∧
       (s.power.offPending = false → 3 ≤ s.power.attempt → toldPower (originPort o) o .igniting .fault none s t ∧
         ∃ w, told (originPort o) .fault o (heldWord (failedCount t)) w s t) ∧
       (s.power.offPending = true →
         t.power = { s.power with state := .standby, attempt := 0, strikeTimer := none, pauseTimer := none
                                  warmingTimer := none, coolingTimer := none, restartPending := false
                                  offPending := false, ignitionOrigin := none, offOrigin := none
                                  effectiveMode := t.power.effectiveMode }) ∧
       (s.power.offPending = false → s.power.attempt < 3 →
         t.power = { s.power with step := .pause, strikeTimer := none, pauseTimer := some 20000
                                  effectiveMode := t.power.effectiveMode }) ∧
       (s.power.offPending = false → 3 ≤ s.power.attempt →
         t.power = { s.power with state := .fault, strikeTimer := none, pauseTimer := none, warmingTimer := none
                                  coolingTimer := none, restartPending := false, ignitionOrigin := none
                                  offOrigin := none, effectiveMode := t.power.effectiveMode }) ∧
       linkServed (if c = .strikeResultTimeout then s.link else heard s.link) t.link ∧ routerTimed s.router t.router ∧
       t.geometry = s.geometry ∧ t.room = s.room ∧ t.lockout = s.lockout ∧ contexts t = contexts s ∧
       storeServed s.store t.store)

/-- The end of a re-strike pause begins the next attempt, or ends the sequence in STANDBY when the refusal test fails;
the end of the warming gives ON, or COOLING with EXTINGUISH when an off is pending and the link is not LOST; the end
of the cooling gives STANDBY, or a strike sequence when a restart is pending and the refusal test passes. Each change
is told by POWER STATE CHANGED with its origin and reason, and a sequence or a restart of origin SCHEDULE that the
refusal test drops by POWER REQUEST REFUSED. That a change of a strike sequence carries the ignition origin, and one
by an off pending its origin, is the model's reading (log entry 20). -/
def Obligations.TimedPowerStatesEnd : Prop :=
  ∀ s : State,
    let ignition := s.power.ignitionOrigin.getD .auto
    let frame := fun (t : State) => t.geometry = s.geometry ∧ t.room = s.room ∧ t.lockout = s.lockout ∧
      contexts t = contexts s ∧ linkServed s.link t.link ∧ routerTimed s.router t.router ∧
      storeServed s.store t.store
    let ignites := fun (t : State) =>
      .ignite ∈ t.link.control ∨ ∃ x, t.link.outstanding = some x ∧ x.msg = .control .ignite
    let tell := fun (o : Origin) (a b : PowerState) (r : Option Reason) (t : State) =>
      toldPower (originPort o) o a b r s t
    let drops := fun (r : Reason) (t : State) => ignition = .schedule →
      told none .powerRequestRefused .schedule (word (position reasonList r))
        (optWord (s.room.current.map (·.id.val))) s t
    let standby := { s.power with state := .standby, attempt := 0, strikeTimer := none, pauseTimer := none
                                  warmingTimer := none, coolingTimer := none, restartPending := false
                                  offPending := false, ignitionOrigin := none, offOrigin := none }
    (s.power.state = .igniting → s.power.pauseTimer ≠ none → ∃ t, exec .restrikePauseExpiry s = .next t ∧ frame t ∧
      t.lamp = s.lamp ∧
      (refusalTest s ignition = none →
        t.power = { s.power with pauseTimer := none, attempt := s.power.attempt + 1, step := .sending } ∧ ignites t) ∧
      (refusalTest s ignition ≠ none → t.power = standby) ∧
      (∀ r, refusalTest s ignition = some r → tell ignition .igniting .standby (some r) t ∧ drops r t)) ∧
    (s.power.state = .warming → s.power.warmingTimer ≠ none → ∃ t, exec .warmingEnd s = .next t ∧ frame t ∧
      ((s.power.offPending = false ∨ s.link.state = .lost) →
        t.power = { s.power with state := .on, attempt := 0, strikeTimer := none, pauseTimer := none
                                 warmingTimer := none, coolingTimer := none } ∧ t.lamp = s.lamp ∧
        tell ignition .warming .on none t) ∧
      (s.power.offPending = true → s.link.state ≠ .lost →
        tell (s.power.offOrigin.getD .auto) .warming .cooling none t ∧
        t.power = { standby with state := .cooling, coolingTimer := some (s.store.install.coolingTime * 1000)
                                 effectiveMode := t.power.effectiveMode } ∧
        t.lamp.burn = none ∧ t.lamp.hotWindow = some 1800000 ∧
        (.extinguish ∈ t.link.control ∨ ∃ x, t.link.outstanding = some x ∧ x.msg = .control .extinguish))) ∧
    (s.power.state = .cooling → s.power.coolingTimer ≠ none → ∃ t, exec .coolingEnd s = .next t ∧ frame t ∧
      t.lamp = s.lamp ∧
      (s.power.restartPending = false → t.power = standby ∧ tell .auto .cooling .standby none t) ∧
      (s.power.restartPending = true → refusalTest s ignition = none →
        t.power = { standby with state := .igniting, step := .sending, attempt := 1
                                 strikeTimer := s.power.strikeTimer, pauseTimer := s.power.pauseTimer
                                 ignitionOrigin := some ignition } ∧ ignites t ∧
        tell ignition .cooling .igniting none t) ∧
      (s.power.restartPending = true → refusalTest s ignition ≠ none → t.power = standby) ∧
      (∀ r, s.power.restartPending = true → refusalTest s ignition = some r →
        tell ignition .cooling .standby (some r) t ∧ drops r t))

/-- The first REPORT received in UNKNOWN, no intent being held, the link AWAITING or PRESENT, makes the link PRESENT
and is adopted: OVER or a hot dark lamp gives COOLING, LIT gives ON, STRIKING gives WARMING, and a cold dark lamp
STANDBY; the shutter is taken from it unless one is held; the change is told by POWER STATE CHANGED of origin AUTO. A
thermal hold that stands in UNKNOWN is kept by a REPORT that is not OVER, which is the model's reading of the order of
R42 and R40 (log entry 20). A REPORT of a dark lamp in WARMING or ON is a lamp out: COOLING, with a restart pending of
origin AUTO when the room is OCCUPIED and no off is pending; no EXTINGUISH is handed over; LAMP OUT and POWER STATE
CHANGED tell of it, a restart pending as 1, the yes of log entry 8. An ON intent at adoption ends in ON or WARMING,
stays in COOLING, and in STANDBY waits for the load, then strikes or is refused with a second notice; an OFF intent puts
an adopted ON out, stays in WARMING and ends elsewhere. With the link PRESENT: LIT in AWAITING RESULT or PAUSE is a
success, LIT in SENDING and STRIKING are disregarded; a lamp burning in STANDBY, COOLING or FAULT is sent EXTINGUISH
unless one is in hand, and nothing else changes; OVER sets the hold and acts by state, and OK releases it in STANDBY and
FAULT alone; in ON an off pending, unless the lamp is DARK, is carried out; a shutter that is not the one held is sent
again unless one is in hand; a committed number that is the set's after its COMMIT was acknowledged makes it APPLIED,
with GEOMETRY APPLIED. The ignition origin in a change of a sequence, AUTO for one by the head, and the order of these
rules are the model's (log entry 20), as are the words of GEOMETRY APPLIED (18) and the mark's set as 1 (8). -/
def Obligations.ReportsAreActedOn : Prop :=
  (∀ (r : Report) (s : State), s.power.state = .unknown → s.link.state ≠ .lost → r.restarted = false →
     s.power.restartPending = false → s.power.offPending = false →
     ∃ t, exec (.report r) s = .next t ∧ toldPower none .auto .unknown t.power.state none s t ∧
       (r.temperature = .over → t.power.state = .cooling ∧ t.power.thermalHold = true) ∧
       (r.temperature ≠ .over → t.power.thermalHold = s.power.thermalHold ∧
         (r.lamp = .lit → t.power.state = .on ∧ t.lamp.burn = some 0) ∧
         (r.lamp = .striking → t.power.state = .warming ∧ t.lamp.burn = some 0 ∧
           t.power.warmingTimer = some (s.store.install.warmingTime * 1000)) ∧
         (r.lamp = .dark → r.hot = true → t.power.state = .cooling) ∧
         (r.lamp = .dark → r.hot = false → t.power.state = .standby ∧ t.lamp.hotWindow = s.lamp.hotWindow)) ∧
       (t.power.state = .cooling → t.power.coolingTimer = some (s.store.install.coolingTime * 1000) ∧
         t.lamp.hotWindow = some 1800000) ∧
       (s.power.shutter = none → t.power.shutter = some (if r.shutterClosed then .closedManual else .opened)) ∧
       (s.power.shutter ≠ none → t.power.shutter = s.power.shutter) ∧
       linkServed { heard s.link with reportImage := some r } t.link ∧ storeServed s.store t.store ∧
       routerTimed s.router t.router ∧ t.geometry = { s.geometry with status := t.geometry.status } ∧
       t.room = s.room ∧ t.lockout = s.lockout ∧ contexts t = contexts s) ∧
  (∀ (r : Report) (s : State), s.power.state = .unknown → s.link.state ≠ .lost → r.restarted = false →
     r.temperature ≠ .over →
     let inHand := fun (m : ControlMsg) (t : State) =>
       m ∈ t.link.control ∨ ∃ x, t.link.outstanding = some x ∧ x.msg = .control m
     let cold := r.lamp = .dark ∧ r.hot = false
     let o := s.power.ignitionOrigin.getD .auto
     let barred : Option Reason := if s.lamp.replaceInFlight then some .lampChangeInProgress
       else if s.lamp.level = some .hardStop ∧ o ≠ .service then some .lampExpired
       else if s.power.thermalHold then some .thermalHold
       else none
     (s.power.restartPending = true → ∃ t, exec (.report r) s = .next t ∧
       (r.lamp = .lit → t.power.state = .on) ∧ (r.lamp = .striking → t.power.state = .warming) ∧
       (r.lamp ≠ .dark → t.power.restartPending = false) ∧
       (r.lamp = .dark → r.hot = true → t.power.state = .cooling ∧ t.power.restartPending = true ∧
         t.power.ignitionOrigin = s.power.ignitionOrigin) ∧
       (cold → s.store.loaded = false → t.power.state = .standby ∧ t.power.restartPending = true) ∧
       (cold → s.store.loaded = true → barred = none → t.power.state = .igniting ∧ t.power.attempt = 1 ∧
         t.power.restartPending = false ∧ t.power.ignitionOrigin = some o ∧ inHand .ignite t ∧
         toldPower (originPort o) o .standby .igniting none s t) ∧
       (∀ x, cold → s.store.loaded = true → barred = some x → t.power.state = .standby ∧
         t.power.restartPending = false ∧ t.power.ignitionOrigin = none ∧
         toldPower (originPort o) o .standby .standby (some x) s t)) ∧
     (s.power.restartPending = false → s.power.offPending = true → ∃ t, exec (.report r) s = .next t ∧
       (r.lamp = .lit → t.power.state = .cooling ∧ t.power.offPending = false ∧ inHand .extinguish t) ∧
       (r.lamp = .striking → t.power.state = .warming ∧ t.power.offPending = true) ∧
       (r.lamp = .dark → t.power.state = (if r.hot then .cooling else .standby) ∧ t.power.offPending = false))) ∧
  (∀ (r : Report) (s : State), s.link.state = .present → r.restarted = false →
     let inHand := fun (type : HeadType) (t : State) => (∃ m ∈ t.link.control, controlType m = type) ∨
       ∃ x, t.link.outstanding = some x ∧ headMsgType x.msg = type
     let o := s.power.ignitionOrigin.getD .auto
     let shown := s.geometry.status = .pending ∧ s.geometry.commitAcked = true ∧
       r.committed = some s.geometry.setNumber
     let keepsLamp := fun (t : State) => t.lamp = s.lamp ∧
       t.power = { s.power with thermalHold := t.power.thermalHold }
     ∃ t, exec (.report r) s = .next t ∧ t.room = s.room ∧ t.lockout = s.lockout ∧ routerTimed s.router t.router ∧
       contexts t = contexts s ∧
       (shown → t.geometry = { s.geometry with status := .applied } ∧
         ∀ g n c, s.geometry.current = some g → s.geometry.active = some (n, c) →
           told none .geometryApplied .auto (s.geometry.setNumber.setWidth 16)
             (pairWord (if g.limited then 1 else 0) n.val) s t) ∧
       (¬ shown → t.geometry = s.geometry) ∧
       (∀ h, s.power.shutter = some h → t.power.shutter = some h ∧
         let m : ControlMsg := .shutter (decide (h ≠ .opened))
         (decide (h ≠ .opened) ≠ r.shutterClosed → ¬ inHand .shutter s →
           m ∈ t.link.control ∨ ∃ x, t.link.outstanding = some x ∧ x.msg = .control m) ∧
         ((decide (h ≠ .opened) = r.shutterClosed ∨ inHand .shutter s) →
           ∀ b, .shutter b ∈ t.link.control → .shutter b ∈ s.link.control)) ∧
       (s.power.state = .igniting → r.temperature ≠ .over →
         (s.power.step ≠ .sending → r.lamp = .lit →
           t.power = { s.power with state := .warming, attempt := 0, strikeTimer := none, pauseTimer := none
                                    warmingTimer := some (s.store.install.warmingTime * 1000), coolingTimer := none } ∧
           t.lamp.account = s.lamp.account ∧ t.lamp.burn = some 0 ∧
           toldPower (originPort o) o .igniting .warming none s t) ∧
         ((s.power.step = .sending ∨ r.lamp ≠ .lit) → t.power = s.power ∧ t.lamp = s.lamp)) ∧
       ((s.power.state = .standby ∨ s.power.state = .cooling ∨ s.power.state = .fault) → keepsLamp t ∧
         (r.lamp ≠ .dark → inHand .extinguish t) ∧
         ((r.lamp = .dark ∨ inHand .extinguish s) → .extinguish ∈ t.link.control → .extinguish ∈ s.link.control)) ∧
       (r.temperature = .over → s.power.state ≠ .unknown → t.power.thermalHold = true ∧
         (s.power.thermalHold = false → ∃ w, told none .thermalHold .auto 1 w s t) ∧
         (s.power.state = .warming ∨ s.power.state = .on → t.power.state = .cooling ∧ inHand .extinguish t ∧
           t.power.offPending = false ∧ t.power.restartPending = false ∧ t.power.ignitionOrigin = none ∧
           toldPower none .auto s.power.state .cooling none s t) ∧
         (s.power.state = .igniting → s.power.step = .pause → r.lamp ≠ .lit → t.power.state = .standby ∧
           t.power.attempt = 0 ∧ t.power.pauseTimer = none ∧ t.power.ignitionOrigin = none ∧
           toldPower (originPort o) o .igniting .standby (some .thermalHold) s t) ∧
         (s.power.state = .igniting → s.power.step ≠ .pause → (s.power.step = .sending ∨ r.lamp ≠ .lit) →
           t.power = { s.power with thermalHold := true, offPending := true
                                    offOrigin := if s.power.offPending then s.power.offOrigin else some .auto })) ∧
       (r.temperature = .ok → (s.power.state = .standby ∨ s.power.state = .fault) → t.power.thermalHold = false ∧
         (s.power.thermalHold = true → ∃ w, told none .thermalHold .auto 0 w s t)) ∧
       (r.temperature = .ok → s.power.state ≠ .standby → s.power.state ≠ .fault → s.power.state ≠ .unknown →
         t.power.thermalHold = s.power.thermalHold) ∧
       (r.temperature = .warm → t.power.thermalHold = s.power.thermalHold) ∧
       (s.power.state = .on → s.power.offPending = true → r.lamp ≠ .dark → r.temperature ≠ .over →
         t.power.state = .cooling ∧ t.power.offPending = false ∧ inHand .extinguish t ∧
         toldPower (originPort (s.power.offOrigin.getD .auto)) (s.power.offOrigin.getD .auto) .on .cooling none s t) ∧
       ((s.power.state = .warming ∨ (s.power.state = .on ∧ s.power.offPending = false)) → r.lamp ≠ .dark →
         r.temperature ≠ .over → t.power = s.power ∧ t.lamp = s.lamp)) ∧
  (∀ (r : Report) (s : State), (s.power.state = .warming ∨ s.power.state = .on) → s.link.state = .present →
     r.restarted = false → r.lamp = .dark → r.temperature ≠ .over →
     ∃ t, exec (.report r) s = .next t ∧ t.power.state = .cooling ∧
       toldPower none .auto s.power.state .cooling none s t ∧
       told none .lampOut .auto (word (position powerStateList s.power.state))
         (if s.room.state = .occupied ∧ s.power.offPending = false then 1 else 0) s t ∧
       t.power.coolingTimer = some (s.store.install.coolingTime * 1000) ∧ t.lamp.hotWindow = some 1800000 ∧
       t.lamp.burn = none ∧ t.power.offPending = false ∧
       (s.room.state = .occupied → s.power.offPending = false →
         t.power.restartPending = true ∧ t.power.ignitionOrigin = some .auto) ∧
       ((s.room.state ≠ .occupied ∨ s.power.offPending = true) → t.power.restartPending = false) ∧
       (.extinguish ∈ t.link.control → .extinguish ∈ s.link.control) ∧
       (∀ x, t.link.outstanding = some x → x.msg = .control .extinguish →
         s.link.outstanding = some x ∨ .extinguish ∈ s.link.control) ∧
       linkServed { heard s.link with reportImage := some r } t.link ∧ storeServed s.store t.store ∧
       routerTimed s.router t.router ∧ t.geometry = { s.geometry with status := t.geometry.status } ∧
       t.room = s.room ∧ t.lockout = s.lockout ∧ contexts t = contexts s)

/-- BLANK CLOSE makes the shutter CLOSED with reason MANUAL, and OPEN makes it OPEN; a shutter that moves is told to
the head unless the link is LOST, and the blank-dim timer starts or stops with it; another operation code is
refused. SET LAMP MODE by scope. MOMENTARY sets or clears the momentary mode. STANDING sets the default of ROOM
DEFAULTS, sends the record to the store, and clears the momentary mode; its checks refuse before anything changes.
After the first evaluation the effective mode is then the one that the inputs give: ECO at WARN or above or with the
closed shutter's time over the delay, else the momentary mode, else the current booking's NORMAL or ECO in a room not
VACANT, else the default of ROOM DEFAULTS; each evaluation that changes it hands LAMP MODE unless the link is LOST. -/
def Obligations.BlankAndLampMode : Prop :=
  let mode := fun (u : State) =>
    let named : Option BookingLampMode := if u.room.state = .vacant then none
      else (u.room.current.bind fun o => u.room.bookings[o.id]).map (·.lampMode)
    if u.lamp.level = some .warn ∨ u.lamp.level = some .atEnd ∨ u.lamp.level = some .hardStop ∨ u.power.dimmed = true then
      LampMode.eco
    else match u.power.momentaryMode, named with
      | some m, _ => m
      | none, some .normal => .normal
      | none, some .eco => .eco
      | none, some .roomDefault => u.store.room.lampMode
      | none, none => u.store.room.lampMode
  let handed := fun (m : LampMode) (t : State) =>
    .lampMode m ∈ t.link.control ∨ ∃ x, t.link.outstanding = some x ∧ x.msg = .control (.lampMode m)
  (∀ u : State, (decideMode u).1 = mode u ∧
     (u.power.modeEvaluated = false ∨ u.power.effectiveMode = mode u → evalLampMode u = u) ∧
     (u.power.modeEvaluated = true → u.power.effectiveMode ≠ mode u →
       (evalLampMode u).power = { u.power with effectiveMode := mode u } ∧
       (u.link.state ≠ .lost → .lampMode (mode u) ∈ (evalLampMode u).link.control) ∧
       (u.link.state = .lost → (evalLampMode u).link = u.link))) ∧
  (∀ (p : Port) (f : Frame) (q : Qualifier) (s : State), taken .blank p f q s →
     let op := numAt (f.words.drop 1) 0
     let told := fun (closed : Bool) (t : State) => s.link.state ≠ .lost →
       .shutter closed ∈ t.link.control ∨ ∃ x, t.link.outstanding = some x ∧ x.msg = .control (.shutter closed)
     (2 ≤ op → exec (.blank p f) s = .next (after .blank p (refused .outOfRange) (begun p f s))) ∧
     (op ≤ 1 → ∃ t, exec (.blank p f) s = .next t ∧ answered .blank p f done s t ∧
       (op = 0 → t.power.shutter = some .closedManual ∧
         ((s.power.shutter = none ∨ s.power.shutter = some .opened) → t.power.blankDim = some 0 ∧ told true t ∧
           t.power.dimmed = decide (s.store.room.blankDim = 0) ∧
           (s.power.modeEvaluated = true → t.power.effectiveMode = mode t)) ∧
         (s.power.shutter ≠ none → s.power.shutter ≠ some .opened → t.power.blankDim = s.power.blankDim)) ∧
       (op = 1 → t.power.shutter = some .opened ∧
         (s.power.shutter ≠ some .opened → t.power.blankDim = none ∧ told false t ∧ t.power.dimmed = false ∧
           (s.power.modeEvaluated = true → t.power.effectiveMode = mode t))) ∧
       (t.power.effectiveMode ≠ s.power.effectiveMode → s.link.state ≠ .lost → handed t.power.effectiveMode t) ∧
       t.power = { s.power with shutter := t.power.shutter, blankDim := t.power.blankDim, dimmed := t.power.dimmed
                                effectiveMode := t.power.effectiveMode } ∧
       t.lamp = { s.lamp with normalSeen := t.lamp.normalSeen } ∧ t.router = s.router ∧ t.geometry = s.geometry ∧
       t.room = s.room ∧ t.lockout = s.lockout ∧ linkServed s.link t.link ∧ storeServed s.store t.store)) ∧
  (∀ (p : Port) (f : Frame) (q : Qualifier) (m : Option LampMode) (s : State), taken .setLampMode p f q s →
     lampModeItem (f.words.drop 1) = some m →
     (∀ r, q.scope = .standing → m ≠ none → standingCheck s .c false [.roomDefaults] = some r →
       exec (.setLampMode p f) s = .next (after .setLampMode p (refused r) (begun p f s))) ∧
     ((q.scope = .standing → m ≠ none ∧ standingCheck s .c false [.roomDefaults] = none) →
       ∃ t, exec (.setLampMode p f) s = .next t ∧
         (q.scope = .momentary → answered .setLampMode p f done s t ∧ t.power.momentaryMode = m ∧
           t.store.room = s.store.room) ∧
         (∀ k, q.scope = .standing → m = some k → answered .setLampMode p f (doneQueued false []) s t ∧
           t.power.momentaryMode = none ∧ t.store.room = { s.store.room with lampMode := k } ∧
           sentToStore .roomDefaults (roomImage t.store.room) (portOrigin p) t) ∧
         (s.power.modeEvaluated = true → t.power.effectiveMode = mode t) ∧
         (t.power.effectiveMode ≠ s.power.effectiveMode → s.link.state ≠ .lost → handed t.power.effectiveMode t) ∧
         (s.power.modeEvaluated = false → t.power.effectiveMode = s.power.effectiveMode) ∧
         t.lamp = { s.lamp with normalSeen := t.lamp.normalSeen } ∧ t.router = s.router ∧ t.geometry = s.geometry ∧
         t.room = s.room ∧ t.lockout = s.lockout ∧ linkServed s.link t.link))

/-- Once the closed shutter's time has passed the blank-dim delay, the effective lamp mode is ECO. The no-signal timer
expires in ON: a VACANT room's lamp is put out (off pending while the link is LOST), and in any other room state an
OPEN shutter closes with reason AUTO; in another power state nothing happens but that the timer stops. The timers that
only stop, and the window's: at the hot window's end the next strike is cold, the report wait's end changes how a
POWER ON in UNKNOWN is answered and nothing else, and the start-up window closes, told by WINDOW CLOSED, with the
origin AUTO that the model gives it (log entry 28) and its cause in the order of the text (log entry 8). -/
def Obligations.IdleTimersOfTheLamp : Prop :=
  (∀ (n : Nat) (s : State), s.power.blankDim = some n → s.power.modeEvaluated = true →
     ∃ t, exec .blankDimExpiry s = .next t ∧ t.power.effectiveMode = .eco ∧ t.power.dimmed = true ∧
       t.power = { s.power with blankDim := t.power.blankDim, dimmed := true, effectiveMode := .eco } ∧
       lampModed s.lamp t.lamp ∧ t.room = s.room ∧ t.router = s.router ∧ t.geometry = s.geometry ∧
       t.lockout = s.lockout ∧ linkServed s.link t.link ∧ storeServed s.store t.store ∧ contexts t = contexts s) ∧
  (∀ (n : Nat) (s : State), s.router.noSignal = some n →
     ∃ t, exec .noSignalTimerExpiry s = .next t ∧ t.router.noSignal = none ∧
       (s.power.state = .on → s.room.state = .vacant → s.link.state ≠ .lost → t.power.state = .cooling ∧
         toldPower none .auto .on .cooling none s t) ∧
       (s.power.state = .on → s.room.state = .vacant → s.link.state = .lost →
         t.power.state = .on ∧ t.power.offPending = true) ∧
       (s.power.state = .on → s.room.state ≠ .vacant → t.power.state = .on ∧
         t.power.shutter = (if s.power.shutter = some .opened then some .closedAuto else s.power.shutter)) ∧
       (s.power.state ≠ .on → t.power = s.power) ∧
       (s.power.state ≠ .on → t.lamp = s.lamp) ∧ t.router = { s.router with noSignal := none } ∧
       t.geometry = s.geometry ∧ t.room = s.room ∧ t.lockout = s.lockout ∧ linkServed s.link t.link ∧
       storeServed s.store t.store ∧ contexts t = contexts s) ∧
  (∀ s : State,
     exec .hotWindowExpiry s = .next { s with lamp := { s.lamp with hotWindow := none } } ∧
     exec .reportWaitExpiry s = .next { s with power := { s.power with reportWait := none } } ∧
     (∃ t, exec .windowTimerExpiry s = .next t ∧ t.store = { s.store with window := none } ∧
       (s.store.window ≠ none → told none .windowClosed .auto 0 (s.store.protect.setWidth 16) s t) ∧
       t = { s with store := t.store, ports := t.ports, free := t.free } ∧ contexts t = contexts s))

/-- CLEAR FAULT takes FAULT to STANDBY with the attempt count 0, told by POWER STATE CHANGED, and is refused WRONG
STATE in every other power state; LEAVE COMMISSION takes COMMISSION to NORMAL, and is refused WRONG STATE in NORMAL. -/
def Obligations.ClearFaultAndLeaveCommission : Prop :=
  ∀ (p : Port) (f : Frame) (q : Qualifier) (s : State),
    let rest := fun (t : State) => t.geometry = s.geometry ∧ t.room = s.room ∧ linkServed s.link t.link ∧
      storeServed s.store t.store ∧ t.pending = s.pending
    (taken .clearFault p f q s →
      (s.power.state = .fault → ∃ t, exec (.clearFault p f) s = .next t ∧ answered .clearFault p f done s t ∧
        toldPower (some p) (portOrigin p) .fault .standby none s t ∧
        t.power = { s.power with state := .standby, attempt := 0, strikeTimer := none, pauseTimer := none
                                 warmingTimer := none, coolingTimer := none, restartPending := false
                                 offPending := false, ignitionOrigin := none, offOrigin := none } ∧
        t.lamp = s.lamp ∧ t.lockout = s.lockout ∧ routerTimed s.router t.router ∧ rest t) ∧
      (s.power.state ≠ .fault →
        exec (.clearFault p f) s = .next (after .clearFault p (refused .wrongState) (begun p f s)))) ∧
    (taken .leaveCommission p f q s →
      (s.lockout.mode = .commission → ∃ t, exec (.leaveCommission p f) s = .next t ∧
        answered .leaveCommission p f done s t ∧ t.lockout = { s.lockout with mode := .normal } ∧ t.lamp = s.lamp ∧
        t.power = s.power ∧ t.router = s.router ∧ rest t) ∧
      (s.lockout.mode = .normal →
        exec (.leaveCommission p f) s = .next (after .leaveCommission p (refused .wrongState) (begun p f s))))

/-- A message handed to the control lane: discarded while the link is LOST; else it takes the place of the queued
message of its type, or joins the end, an IGNITE and an EXTINGUISH removing one another; each type stays at most once.
The link is served: PRESENT with nothing outstanding and no bytes going out, the oldest control message goes out, else
the entry that the geometry lane names, with the next tag, which advances modulo 8, and one send recorded; otherwise
nothing is sent, and a message or a set then handed to an idle link starts a send at once. -/
def Obligations.ControlLaneAndServingOrder : Prop :=
  (∀ (m : ControlMsg) (s : State), laneWithin s.link.control →
     let t := handControl m s
     laneWithin t.link.control ∧
     (s.link.state = .lost → t = s) ∧
     (s.link.state ≠ .lost →
       m ∈ t.link.control ∧
       (controlType m ∈ s.link.control.map controlType → t.link.control.map controlType = s.link.control.map controlType) ∧
       (controlType m ∉ s.link.control.map controlType → ∃ l, t.link.control = l ++ [m] ∧
         ∀ x, x ∈ l ↔ x ∈ s.link.control ∧ ¬ (m = .ignite ∧ x = .extinguish) ∧ ¬ (m = .extinguish ∧ x = .ignite))) ∧
     t = { s with link := { s.link with control := t.link.control } }) ∧
  (∀ s : State,
     let sent := fun (m : HeadMsg) (t : State) =>
       (∃ b, t.link.outstanding = some { msg := m, tag := s.link.nextTag, sends := 1, ofLane := b }) ∧
       t.link.nextTag = s.link.nextTag + 1 ∧ t.link.answer = none ∧ t.link.transmit = messageBytes s.link.nextTag m
     (s.link.state = .present → s.link.outstanding = none → s.link.transmit = [] →
       (∀ m l, s.link.control = m :: l → sent (.control m) (serveLink s) ∧ (serveLink s).link.control = l) ∧
       (∀ x, s.link.control = [] → s.link.lane = some x → sent (laneMessage x) (serveLink s) ∧
         (serveLink s).link.control = [] ∧ (serveLink s).link.lane = s.link.lane) ∧
       (s.link.control = [] → s.link.lane = none → serveLink s = s)) ∧
     ((s.link.state ≠ .present ∨ s.link.outstanding ≠ none ∨ s.link.transmit ≠ []) → serveLink s = s) ∧
     serveLink s = { s with link := { s.link with
       control := (serveLink s).link.control, outstanding := (serveLink s).link.outstanding
       answer := (serveLink s).link.answer, nextTag := (serveLink s).link.nextTag
       transmit := (serveLink s).link.transmit } }) ∧
  (∀ s : State, s.link.state = .present → s.link.outstanding = none → s.link.transmit = [] → s.link.control = [] →
     (∀ m, (finish (handControl m s)).link.outstanding =
       some { msg := .control m, tag := s.link.nextTag, sends := 1, ofLane := false }) ∧
     (∀ g, (finish (handSet g s)).link.outstanding =
       some { msg := laneMessage { set := g, progress := 0 }, tag := s.link.nextTag, sends := 1, ofLane := true }))

/-- The answer timer starts at 250 ms when the message has left the line; an exchange that an ACK OK ends while the
bytes go out leaves the line to them, and the next message is sent when they have gone (log entry 26). When the timer
expires a message with sends left goes out again with its tag, and one without takes the link to LOST, as the silence
timer does: HEAD LOST tells the cause and the type flushed, GEOMETRY HELD that the geometry waits, and a strike
sequence ends in COOLING. An invalid message discards the bytes gathered and changes nothing else. A head message of
any kind in LOST returns the head: PRESENT, HEAD RETURNED with the seconds lost, and, but for a REPORT, STATUS REQUEST
handed over. One that calls for nothing further hands LAMP MODE, SHUTTER when held and no other message, makes a new
geometry set or keeps its making until the first settle end, and in a room not VACANT the runner strikes the lamp. In
AWAITING such a message other than a REPORT hands STATUS REQUEST alone, and a REPORT does not hand it. A head restart
is told, hands LAMP MODE and SHUTTER, and makes a new set. The words of the message types and of GEOMETRY HELD are the
model's (log entries 27, 18), and so are the use of the last set's number (15), the ignition origin of the change that
ends a sequence at a loss (20), HELD at a loss before the first set (19), and the causes of HEAD LOST in the order of
the text (8). -/
def Obligations.LinkTimersResendOrLose : Prop :=
  (∀ s : State,
    let lost := fun (cause : Word) (t : State) => t.link.state = .lost ∧ t.link.outstanding = none ∧ t.link.answer = none ∧
      t.link.silence = none ∧ t.link.control = [] ∧ t.link.lane = none ∧ t.link.reportImage = none ∧
      t.link.nextTag = s.link.nextTag ∧ t.link.lostFor = some 0 ∧
      t.geometry = { s.geometry with status := .held } ∧
      told none .headLost .auto cause (match s.link.outstanding with
        | some o => typeWord (headMsgType o.msg)
        | none => 0xFFFF#16) s t ∧
      (s.geometry.status ≠ .held → told none .geometryHeld .auto (s.geometry.setNumber.setWidth 16) (pairWord 1 0xFF) s t) ∧
      (s.power.state = .igniting → t.power.state = .cooling ∧ t.power.restartPending = false ∧
        t.power.offPending = false ∧ t.power.ignitionOrigin = none ∧
        toldPower (originPort (s.power.ignitionOrigin.getD .auto)) (s.power.ignitionOrigin.getD .auto)
          .igniting .cooling (some .headLost) s t) ∧
      (s.power.state ≠ .igniting → t.power = s.power ∧ t.lamp = s.lamp) ∧ routerTimed s.router t.router ∧
      t.room = s.room ∧ t.lockout = s.lockout ∧ storeServed s.store t.store ∧ contexts t = contexts s
    (∀ o : Outstanding, s.link.outstanding = some o → s.link.transmit ≠ [] →
      exec .headMessageSent s = .next { s with link := { s.link with answer := some 250, transmit := [] } }) ∧
    (s.link.outstanding = none → s.link.transmit ≠ [] →
      let u := { s with link := { s.link with answer := none, transmit := [] } }
      ∃ t, exec .headMessageSent s = .next t ∧
      (s.link.state ≠ .present → t = u) ∧
      (s.link.state = .present → (s.link.control = [] → s.link.lane = none → t = u) ∧
        ∀ m : HeadMsg, (s.link.control.head?.map HeadMsg.control).or (s.link.lane.map laneMessage) = some m →
          t = { u with link := { u.link with
            outstanding := some { msg := m, tag := s.link.nextTag, sends := 1, ofLane := s.link.control.isEmpty }
            nextTag := s.link.nextTag + 1, control := s.link.control.drop 1
            transmit := messageBytes s.link.nextTag m } })) ∧
    (∀ (tag : BitVec 3) (o : Outstanding), s.link.state = .present → s.link.outstanding = some o → o.tag = tag →
      s.link.transmit ≠ [] → ∃ t, exec (.ack tag true) s = .next t ∧ t.link.outstanding = none ∧
      t.link.answer = none ∧ t.link.transmit = s.link.transmit ∧ t.link.nextTag = s.link.nextTag) ∧
    (∀ o : Outstanding, s.link.outstanding = some o → s.link.answer ≠ none → s.link.state = .present →
      ∃ t, exec .answerTimerExpiry s = .next t ∧
      (o.sends < s.store.install.retryCount + 1 →
        t.link = { s.link with outstanding := some { o with sends := o.sends + 1 }, answer := none
                               transmit := messageBytes o.tag o.msg } ∧
        actionsKept s t ∧ t.room = s.room ∧ storeServed s.store t.store ∧ contexts t = contexts s) ∧
      (s.store.install.retryCount + 1 ≤ o.sends → lost 1 t)) ∧
    (s.link.state = .present → s.link.silence ≠ none → ∃ t, exec .silenceTimerExpiry s = .next t ∧ lost 0 t) ∧
    exec .invalidHeadMessage s = .next { s with link := { s.link with receiver := [] } }) ∧
  (∀ s : State,
    let inHand := fun (m : ControlMsg) (t : State) =>
      m ∈ t.link.control ∨ ∃ x, t.link.outstanding = some x ∧ x.msg = .control m
    let modes : List ControlMsg := .lampMode s.power.effectiveMode :: (match s.power.shutter with
      | none => []
      | some h => [.shutter (decide (h ≠ .opened))])
    let hands := fun (ms : List ControlMsg) (t : State) =>
      (∀ m, m ∈ ms → inHand m t) ∧ ∀ m, inHand m t → m ∈ ms ∨ m ∈ s.link.control
    let resent := fun (t : State) =>
      (s.geometry.started = false → t.geometry = { s.geometry with keptResend := true, status := t.geometry.status }) ∧
      (s.geometry.started = true → t.geometry.setNumber = s.geometry.setNumber + 1 ∧ t.geometry.status = .pending ∧
        t.geometry.current = some (computeSet (s.geometry.setNumber + 1) (inputsNow t)) ∧
        t.link.lane = t.geometry.current.map fun g => { set := g, progress := 0 })
    let rest := fun (t : State) => t.lamp = s.lamp ∧ t.router = s.router ∧ t.room = s.room ∧ t.lockout = s.lockout ∧
      storeServed s.store t.store ∧ contexts t = contexts s
    let answerOf := fun (c : Instr) (type : HeadType) =>
      (type = .ack ∧ ∃ tag ok, c = .ack tag ok) ∨ (type = .strikeResult ∧ ∃ ok, c = .strikeResult ok) ∨
      (type = .format ∧ ∃ w k r, c = .format w k r)
    let quiet := fun (c : Instr) (type : HeadType) =>
      (type = .ack ∧ ∃ tag ok, c = .ack tag ok) ∨
      (type = .strikeResult ∧ s.power.state ≠ .igniting ∧ ∃ ok, c = .strikeResult ok) ∨
      (type = .format ∧ s.router.resolved = true ∧ s.router.state = .stable ∧ ∃ x : SignalFormat, x.width ≠ 0 ∧
        x.height ≠ 0 ∧ s.router.format = .signal x ∧ c = .format x.width x.height x.refresh)
    let calm := fun (r : Report) => s.power.state = .standby ∧ r.lamp = .dark ∧ r.temperature = .warm
    (s.link.state = .lost → s.link.outstanding = none →
      let returned := fun (type : HeadType) (t : State) => t.link.state = .present ∧ t.link.silence = some 3000 ∧
        t.link.lostFor = none ∧ t.link.sinceMessage = some 0 ∧
        told none .headReturned .auto (heldWord (s.link.lostFor.getD 0 / 1000)) (typeWord type) s t
      let runner := fun (t : State) => s.room.state ≠ .vacant → s.power.state = .standby →
        s.lamp.replaceInFlight = false → s.lamp.level ≠ some .hardStop → s.power.thermalHold = false →
        t.power.state = .igniting ∧ t.power.attempt = 1 ∧ t.power.ignitionOrigin = some .schedule ∧ inHand .ignite t
      (∀ c type, answerOf c type → ∃ t, exec c s = .next t ∧ returned type t ∧ inHand .statusRequest t) ∧
      (∀ r : Report, ∃ t, exec (.report r) s = .next t ∧ returned .report t ∧ t.link.reportImage = some r) ∧
      (∀ c type, quiet c type → ∃ t, exec c s = .next t ∧ (∀ m, m ∈ modes → inHand m t) ∧ resent t ∧ runner t ∧
        (s.room.state = .vacant → hands (modes ++ [.statusRequest]) t ∧ t.power = s.power ∧ rest t)) ∧
      (∀ r, calm r → r.restarted = false → ∃ t, exec (.report r) s = .next t ∧
        (∀ m, m ∈ modes → inHand m t) ∧ resent t ∧ runner t ∧
        (s.room.state = .vacant → hands modes t ∧ t.power = s.power ∧ rest t))) ∧
    (s.link.state = .awaiting → s.link.outstanding = none →
      (∀ c type, quiet c type → ∃ t, exec c s = .next t ∧
        linkServed { heard s.link with lastFormat := t.link.lastFormat } t.link ∧
        (type ≠ .format → t.link.lastFormat = s.link.lastFormat) ∧ hands [.statusRequest] t ∧
        (∀ m, m ∈ s.link.control → inHand m t) ∧ t.power = s.power ∧ t.geometry = s.geometry ∧ rest t) ∧
      (∀ r, r.restarted = false → ∃ t, exec (.report r) s = .next t ∧ t.link.state = .present ∧
        (inHand .statusRequest t → .statusRequest ∈ s.link.control))) ∧
    (∀ r : Report, s.link.state = .present → r.restarted = true →
      (∀ x, s.link.reportImage = some x → x.restarted = false) → calm r →
      ∃ t, exec (.report r) s = .next t ∧ t.link.reportImage = some r ∧
      told none .headRestarted .auto (match r.committed with
          | some n => n.setWidth 16
          | none => 0xFFFF#16) (match s.link.lastSet with
          | some n => n.setWidth 16
          | none => 0xFFFF#16) s t ∧
      (∀ m, m ∈ modes → inHand m t) ∧ resent t ∧ t.power = s.power ∧ rest t))

/-- The walk of a fallback chain starts at the requested source and has one to four members, no two alike; each next
member is the fallback of the one before, whose entry is used; it ends at an unused entry, at a fallback of NONE, at
four members, or at a fallback already walked. The routed source is the first member whose input is PRESENT, else the
requested source when its entry is used, else none on MUTE. -/
def Obligations.FallbackWalkIsShortAndDistinct : Prop :=
  ∀ (m : Vector SourceEntry 8) (x : Fin 8),
    (walk m x).head? = some x ∧ (walk m x).length ≤ 4 ∧ (walk m x).Nodup ∧
      (∀ (i : Nat) (a b : Fin 8), (walk m x)[i]? = some a → (walk m x)[i + 1]? = some b →
        m[a].input.isSome = true ∧ m[a].fallback = some b) ∧
      (∀ a, (walk m x).getLast? = some a → m[a].input = none ∨ m[a].fallback = none ∨ (walk m x).length = 4 ∨
        ∃ b, m[a].fallback = some b ∧ b ∈ walk m x) ∧
      (∀ d : Option (Vector Bool 6), let routed := routedOf d (chainOf m x)
        (∀ (i : Nat) (a : Fin 8), (walk m x)[i]? = some a → isPresent d m[a].input = true →
          (∀ (k : Nat) (b : Fin 8), k < i → (walk m x)[k]? = some b → isPresent d m[b].input = false) →
          routed = (some a, m[a].input)) ∧
        ((∀ a, a ∈ walk m x → isPresent d m[a].input = false) →
          (m[x].input.isSome = true → routed = (some x, m[x].input)) ∧
          (m[x].input = none → walk m x = [x] ∧ routed = (none, none))))

/-- SELECT SOURCE, MOMENTARY or, its checks passed, STANDING, which writes the default source to ROOM DEFAULTS as well
and answers with QUEUED. A source above 7 is refused. Before the first resolution the source is recorded as requested:
DONE. Outside a settle it is requested at once: STARTED and a settle of the port's origin when the routed input
changes, DONE otherwise, with ROUTE CHANGED when the requested or the routed source is another. While SETTLING it
takes the empty slot, or the place of a held request that it ranks at or above, which is told REQUEST DISPLACED, and
is refused OUTRANKED by one that ranks above it, nothing being stored. The word of MUTE in ROUTE CHANGED and the
second word of REQUEST DISPLACED are the model's (log entries 27, 18). -/
def Obligations.SelectSourceMomentary : Prop :=
  (∀ (p : Port) (f : Frame) (q : Qualifier) (s : State), taken .selectSource p f q s →
    (7 < numAt (f.words.drop 1) 0 →
      exec (.selectSource p f) s = .next (after .selectSource p (refused .outOfRange) (begun p f s))) ∧
    (∀ r, numAt (f.words.drop 1) 0 ≤ 7 → q.scope = .standing → standingCheck s .c false [.roomDefaults] = some r →
      exec (.selectSource p f) s = .next (after .selectSource p (refused r) (begun p f s)))) ∧
  (∀ (p : Port) (f : Frame) (q : Qualifier) (x : Fin 8) (s : State), taken .selectSource p f q s →
    (q.scope = .standing → standingCheck s .c false [.roomDefaults] = none) →
    numAt (f.words.drop 1) 0 = x.val →
    let o := portOrigin p
    let r : RouteRequest := { source := x, origin := o, scope := q.scope }
    let chain := (walk s.router.sources x).map fun y => (y, s.router.sources[y].input)
    let dest := routedOf s.router.debounced chain
    let rank := fun (a : Origin) => (classOrder s.room.state).idxOf a
    let answers := fun (a : Answer) (t : State) =>
      answered .selectSource p f (if q.scope = .standing then { a with queued := true } else a) s t
    let frame := fun (t : State) => t.lamp = s.lamp ∧ t.power = s.power ∧
      t.room = s.room ∧ t.lockout = s.lockout ∧ t.router.sources = s.router.sources ∧
      storeServed { s.store with room := t.store.room } t.store ∧
      (q.scope = .momentary → t.store.room = s.store.room) ∧
      (q.scope = .standing → t.store.room = { s.store.room with source := x } ∧
        sentToStore .roomDefaults (roomImage t.store.room) o t)
    (s.router.resolved = false → ∃ t, exec (.selectSource p f) s = .next t ∧ answers done t ∧
      t.router = { s.router with requested := some x } ∧ t.geometry = s.geometry ∧ frame t) ∧
    (s.router.resolved = true → s.router.state ≠ .settling → ∃ t, exec (.selectSource p f) s = .next t ∧
      t.router = { s.router with
        requested := some x, chain := chain, deferred := false, routedInput := dest.2, routedSource := dest.1
        state := t.router.state, format := t.router.format, settle := t.router.settle
        settleOrigin := t.router.settleOrigin, noSignal := t.router.noSignal } ∧ frame t ∧
      (dest.2 ≠ s.router.routedInput → answers (started []) t ∧ t.router.state = .settling ∧
        t.router.format = .unknown ∧ t.router.settle = some s.store.room.settleTime ∧ t.router.settleOrigin = o ∧
        t.geometry = s.geometry) ∧
      (dest.2 = s.router.routedInput → answers done t ∧ t.router.state = s.router.state ∧
        ((dest.1 ≠ s.router.routedSource ∨ s.router.requested ≠ some x) →
          told (some p) .routeChanged o (pairWord (sourceNumber dest.1) (inputNumber dest.2))
            (pairWord x.val (position routeStateList s.router.state)) s t))) ∧
    (s.router.resolved = true → s.router.state = .settling →
      ((s.router.pendingSlot = none ∨ ∃ h, s.router.pendingSlot = some h ∧ rank o ≤ rank h.origin) →
        ∃ t, exec (.selectSource p f) s = .next t ∧ answers (started []) t ∧
          t.router = { s.router with pendingSlot := some r } ∧ t.geometry = s.geometry ∧ frame t ∧
          ∀ h, s.router.pendingSlot = some h → told (originPort h.origin) .requestDisplaced h.origin (word h.source.val)
            (pairWord (position reasonList .outranked) (position originList o)) s t) ∧
      (∀ h, s.router.pendingSlot = some h → rank h.origin < rank o →
        exec (.selectSource p f) s = .next (after .selectSource p (refused .outranked) (begun p f s)))))

/-- A settle ends, by a FORMAT or by its timer, whatever the link, with no request held and no re-resolution deferred:
the route is STABLE on a signal and NO SIGNAL otherwise, told by ROUTE CHANGED, the format image is the report's, or
stays UNKNOWN at the timer; the Geometry Engine has the routed source and the image; an AUTO shutter opens when the
route is STABLE. At the timer's end a request held is taken from its slot: still permitted, it is applied, and starts
a settle of its origin when the routed input changes; no longer permitted, it is told REQUEST DISPLACED and the
requested source stays. A deferred re-resolution is then made with origin AUTO. A FORMAT in STABLE or NO SIGNAL makes
the route STABLE or NO SIGNAL with SIGNAL FOUND or SIGNAL LOST, and tells the Geometry Engine of a new size alone. The
words of MUTE and of REQUEST DISPLACED are the model's (log entries 27, 18). -/
def Obligations.SettleEndsInARouteState : Prop :=
  (∀ s : State, s.router.state = .settling → s.router.resolved = true → s.router.pendingSlot = none →
    s.router.deferred = false →
    let o := s.router.settleOrigin
    let ends := fun (c : Instr) (dest : RouteState) (i : FormatImage) => ∃ t, exec c s = .next t ∧
      t.geometry.routed = s.router.routedSource ∧ t.geometry.format = i ∧ t.geometry.started = true ∧
      t.geometry.current.isSome = true ∧
      t.power.shutter = (if dest = .stable ∧ s.power.shutter = some .closedAuto then some .opened else s.power.shutter) ∧
      (dest = .noSignal → s.power.state = .on → s.store.room.noSignal ≠ 0 →
        t.router.noSignal = some (s.store.room.noSignal * 60000)) ∧
      told (originPort o) .routeChanged o
        (pairWord (sourceNumber s.router.routedSource) (inputNumber s.router.routedInput))
        (pairWord (sourceNumber s.router.requested) (position routeStateList dest)) s t ∧
      t.router = { s.router with state := dest, format := i, settle := none, noSignal := t.router.noSignal } ∧
      t.geometry.presets = s.geometry.presets ∧ t.geometry.overlay = s.geometry.overlay ∧
      t.power = { s.power with shutter := t.power.shutter, blankDim := t.power.blankDim, dimmed := t.power.dimmed
                               effectiveMode := t.power.effectiveMode } ∧
      lampModed s.lamp t.lamp ∧ t.link.state = s.link.state ∧ storeServed s.store t.store ∧
      t.room = s.room ∧ t.lockout = s.lockout ∧ contexts t = contexts s
    (∀ w h r, s.link.state = .present → w ≠ 0 → h ≠ 0 →
      ends (.format w h r) .stable (.signal { width := w, height := h, refresh := r })) ∧
    (∀ w h r, s.link.state = .present → (w = 0 ∨ h = 0) → ends (.format w h r) .noSignal .noSignal) ∧
    (s.router.settle ≠ none → ends .settleTimerExpiry .noSignal .unknown)) ∧
  (∀ s : State, s.router.state = .settling → s.router.resolved = true → s.router.settle ≠ none →
    let routes := fun (o : Origin) (m : Fin 8) (t : State) =>
      let chain := chainOf s.router.sources m
      let dest := routedOf s.router.debounced chain
      t.router.requested = some m ∧ t.router.chain = chain ∧ t.router.routedSource = dest.1 ∧
        t.router.routedInput = dest.2 ∧ t.router.pendingSlot = none ∧ t.router.deferred = false ∧
        (dest.2 ≠ s.router.routedInput → t.router.state = .settling ∧ t.router.settleOrigin = o ∧
          t.router.settle = some s.store.room.settleTime ∧ t.router.format = .unknown) ∧
        (dest.2 = s.router.routedInput → t.router.state = .noSignal ∧ t.router.settle = none)
    let permitted := fun (q : RouteRequest) =>
      ∀ p : Port, originPort q.origin = some p → permission s p .source .momentary = none
    (∀ q, s.router.pendingSlot = some q → permitted q →
      ∃ t, exec .settleTimerExpiry s = .next t ∧ routes q.origin q.source t ∧
        ((routedOf s.router.debounced (chainOf s.router.sources q.source)).2 = s.router.routedInput →
          told (originPort q.origin) .routeChanged q.origin
            (pairWord (sourceNumber t.router.routedSource) (inputNumber t.router.routedInput))
            (pairWord q.source.val (position routeStateList .noSignal)) s t)) ∧
    (∀ q, s.router.pendingSlot = some q → ¬ permitted q →
      ∃ t, exec .settleTimerExpiry s = .next t ∧ t.router.requested = s.router.requested ∧ t.router.pendingSlot = none ∧
        told (originPort q.origin) .requestDisplaced q.origin (word q.source.val)
          (pairWord (position reasonList .notPermitted) 0xFF) s t ∧
        (s.router.deferred = false → t.router.state = .noSignal ∧ t.router.routedInput = s.router.routedInput) ∧
        (∀ m, s.router.deferred = true → s.router.requested = some m → routes .auto m t)) ∧
    (∀ m, s.router.pendingSlot = none → s.router.deferred = true → s.router.requested = some m →
      ∃ t, exec .settleTimerExpiry s = .next t ∧ routes .auto m t)) ∧
  (∀ (w h : Word) (r : Byte) (s : State), s.link.state = .present → s.router.resolved = true →
    s.router.state ≠ .settling →
    let signal := w ≠ 0 ∧ h ≠ 0
    let i : FormatImage := if signal then .signal { width := w, height := h, refresh := r } else .noSignal
    let size := fun (x : FormatImage) => match x with
      | .signal y => some (y.width, y.height)
      | .unknown | .noSignal => none
    ∃ t, exec (.format w h r) s = .next t ∧
      t.router = { s.router with state := if signal then .stable else .noSignal, format := i
                                 noSignal := t.router.noSignal } ∧
      (signal → s.router.state = .noSignal → t.router.noSignal = none ∧
        told none .signalFound .auto (word (inputNumber s.router.routedInput)) w s t ∧
        t.power.shutter = (if s.power.shutter = some .closedAuto then some .opened else s.power.shutter)) ∧
      (¬ signal → s.router.state = .stable →
        told none .signalLost .auto (word (inputNumber s.router.routedInput)) 0xFFFF s t) ∧
      ((¬ signal ∨ s.router.state = .stable) → t.power = s.power ∧ t.lamp = s.lamp) ∧
      (size i ≠ size s.router.format → t.geometry.format = i) ∧ (size i = size s.router.format → t.geometry = s.geometry) ∧
      t.room = s.room ∧ t.lockout = s.lockout ∧ storeServed s.store t.store ∧ contexts t = contexts s)

/-- Presence lines: a change of the raw line starts the input's 500 ms timer, once the first values are taken; its
expiry takes the raw value, and changes nothing else when the input is on no chain and no entry follows it; the first
sample takes every raw value and, with the load completed, makes the first resolution into SETTLING. A change of an
input on the resolved chain, which no entry follows, resolves the requested source again, or is deferred while
SETTLING. A rise of an input that a flagged entry names, no flagged entry that names it being requested, requests the
lowest such entry with origin AUTO: its input is routed at once, or it is held while SETTLING with the slot empty. -/
def Obligations.PresenceIsDebounced : Prop :=
  (∀ (n : Fin 6) (b : Bool) (s : State),
    (s.router.raw[n] ≠ b → ∃ t, exec (.presenceLineChange n b) s = .next t ∧ t.router.raw = s.router.raw.set n b ∧
      (s.router.debounced ≠ none → t.router.stability = s.router.stability.set n (some 500)) ∧
      t = { s with router := { s.router with raw := t.router.raw, stability := t.router.stability } }) ∧
    (∀ d, s.router.debounced = some d → s.router.stability[n] ≠ none →
      ∃ t, exec (.stabilityTimerExpiry n) s = .next t ∧ t.router.debounced = some (d.set n s.router.raw[n]) ∧
        t.router.stability = s.router.stability.set n none ∧ t.router.raw = s.router.raw ∧
        ((∀ m, m ∈ s.router.chain → m.2 ≠ some n) → (∀ x : Fin 8, s.router.sources[x].autoFollow = false) →
          t.router = { s.router with debounced := some (d.set n s.router.raw[n])
                                     stability := s.router.stability.set n none }) ∧
        t.router.sources = s.router.sources ∧ t.lamp = s.lamp ∧ t.power = s.power ∧ t.room = s.room ∧
        t.lockout = s.lockout ∧ storeServed s.store t.store ∧ contexts t = contexts s) ∧
    (s.router.sample ≠ none → ∃ t, exec .firstPresenceSample s = .next t ∧ t.router.debounced = some s.router.raw ∧
      t.router.sample = none ∧ t.router.sources = s.router.sources ∧ t.router.raw = s.router.raw ∧
      contexts t = contexts s ∧ t.lamp = s.lamp ∧ t.power = s.power ∧ t.geometry = s.geometry ∧ t.room = s.room ∧
      t.lockout = s.lockout ∧ linkServed s.link t.link ∧ storeServed s.store t.store ∧
      (s.store.loaded = true → s.router.resolved = false → t.router.state = .settling ∧ t.router.resolved = true ∧
        t.router.settleOrigin = .auto ∧ t.router.settle = some s.store.room.settleTime))) ∧
  (∀ (n : Fin 6) (d : Vector Bool 6) (s : State), s.router.debounced = some d → s.router.stability[n] ≠ none →
    s.router.resolved = true → d[n] ≠ s.router.raw[n] →
    let new := some (d.set n s.router.raw[n])
    (∀ (m : Fin 8) (y : Fin 8 × Option (Fin 6)), (∀ x : Fin 8, s.router.sources[x].autoFollow = false) →
      y ∈ s.router.chain → y.2 = some n → s.router.requested = some m →
      ∃ t, exec (.stabilityTimerExpiry n) s = .next t ∧ t.router.requested = some m ∧
        (s.router.state = .settling → t.router = { s.router with
          debounced := new, stability := s.router.stability.set n none, deferred := true } ∧ t.geometry = s.geometry) ∧
        (s.router.state ≠ .settling →
          let dest := routedOf new (chainOf s.router.sources m)
          t.router.routedSource = dest.1 ∧ t.router.routedInput = dest.2 ∧
          t.router.chain = chainOf s.router.sources m ∧
          (dest.2 ≠ s.router.routedInput → t.router.state = .settling ∧ t.router.settleOrigin = .auto ∧
            t.router.settle = some s.store.room.settleTime) ∧
          (dest.2 = s.router.routedInput → t.router.state = s.router.state))) ∧
    (∀ x : Fin 8, s.router.raw[n] = true → s.router.sources[x].autoFollow = true → s.router.sources[x].input = some n →
      (∀ z : Fin 8, s.router.sources[z].autoFollow = true → s.router.sources[z].input = some n →
        x.val ≤ z.val ∧ s.router.requested ≠ some z) →
      ∃ t, exec (.stabilityTimerExpiry n) s = .next t ∧
        (s.router.state ≠ .settling → t.router.requested = some x ∧ t.router.routedSource = some x ∧
          t.router.routedInput = some n ∧ (s.router.routedInput ≠ some n → t.router.state = .settling ∧
            t.router.settleOrigin = .auto ∧ t.router.settle = some s.store.room.settleTime)) ∧
        (s.router.state = .settling → s.router.pendingSlot = none → t.router.requested = s.router.requested ∧
          t.router.pendingSlot = some { source := x, origin := .auto, scope := .momentary })))

/-- Steps one to three place the content rectangle, the keystone insets and the trims. After step five every corner
lies within the panel, the top and bottom edges are at least 960 px and the left and right edges at least 600 px,
whatever the parameters. A set has 26 row entries with 0 ≤ left ≤ right ≤ 30,720 and 31 column entries with 0 ≤ top ≤
bottom ≤ 19,200; a step is at most 65,535, and 0 for an empty span. An edge that is too short once clamped is replaced
by the minimum edge about its middle, rounded down, moved into the panel. Each entry is the point of each side's line
at its row or column in sixteenths, rounded once with halves upward and clamped, the second at least the first, and
its step is 65,536 times the source size over the span, rounded and held at 65,535. -/
def Obligations.CornersAndTablesLieWithinThePanel : Prop :=
  (∀ i : GeomInputs,
     let x0 : Int := if i.content = .standard then 160 else 0
     let x1 : Int := if i.content = .standard then 1760 else 1920
     let y0 : Int := if i.content = .wide then 60 else 0
     let y1 : Int := if i.content = .wide then 1140 else 1200
     let pos := fun k : Int => if 0 < k then k else 0
     let neg := fun k : Int => if k < 0 then -k else 0
     rawCorners i =
       { tl := ⟨x0 + 6 * pos i.kv + i.tl.tx, y0 + 5 * neg i.kh + i.tl.ty⟩
         tr := ⟨x1 - 6 * pos i.kv + i.tr.tx, y0 + 5 * pos i.kh + i.tr.ty⟩
         bl := ⟨x0 + 6 * neg i.kv + i.bl.tx, y1 - 5 * neg i.kh + i.bl.ty⟩
         br := ⟨x1 - 6 * neg i.kv + i.br.tx, y1 - 5 * pos i.kh + i.br.ty⟩ }) ∧
  (∀ i : GeomInputs,
     let c := limitCorners (rawCorners i)
     let inside := fun (p : Point) => 0 ≤ p.x ∧ p.x ≤ 1920 ∧ 0 ≤ p.y ∧ p.y ≤ 1200
     inside c.tl ∧ inside c.tr ∧ inside c.bl ∧ inside c.br ∧ 960 ≤ c.tr.x - c.tl.x ∧ 960 ≤ c.br.x - c.bl.x ∧
       600 ≤ c.bl.y - c.tl.y ∧ 600 ≤ c.br.y - c.tr.y) ∧
  (∀ (n : BitVec 8) (i : GeomInputs), tablesWithin (computeSet n i) ∧
     (computeSet n i).corners = limitCorners (rawCorners i) ∧
     ((computeSet n i).limited = true ↔ limitCorners (rawCorners i) ≠ rawCorners i) ∧
     (∀ e, e ∈ (computeSet n i).rows ++ (computeSet n i).columns → e.first = e.second → e.step = 0)) ∧
  (∀ i : GeomInputs,
     let r := rawCorners i
     let c := limitCorners r
     let clamp := fun (limit v : Int) => max 0 (min limit v)
     let edge := fun (least limit a b : Int) =>
       if clamp limit b - clamp limit a < least then
         let low := clamp (limit - least) ((clamp limit a + clamp limit b) / 2 - least / 2)
         (low, low + least)
       else (clamp limit a, clamp limit b)
     (c.tl.x, c.tr.x) = edge 960 1920 r.tl.x r.tr.x ∧ (c.bl.x, c.br.x) = edge 960 1920 r.bl.x r.br.x ∧
       (c.tl.y, c.bl.y) = edge 600 1200 r.tl.y r.bl.y ∧ (c.tr.y, c.br.y) = edge 600 1200 r.tr.y r.br.y) ∧
  (∀ (n : BitVec 8) (i : GeomInputs),
     let c := (computeSet n i).corners
     let nearest := fun (v num den : Int) => 2 * den * v ≤ 2 * num + den ∧ 2 * num + den < 2 * den * (v + 1)
     let entry := fun (e : TableEntry) (limit size a b : Int) =>
       (e.first : Int) = max 0 (min limit a) ∧ (e.second : Int) = max (e.first : Int) (max 0 (min limit b)) ∧
       (e.first < e.second → ∃ z : Int, nearest z (65536 * size) ((e.second : Int) - e.first) ∧
         (e.step : Int) = min 65535 z)
     (∀ k : Nat, k < 26 → ∃ e a b, (computeSet n i).rows[k]? = some e ∧ entry e 30720 i.ws a b ∧
       nearest a (16 * (c.tl.x * (c.bl.y - c.tl.y) + (c.bl.x - c.tl.x) * (48 * k - c.tl.y))) (c.bl.y - c.tl.y) ∧
       nearest b (16 * (c.tr.x * (c.br.y - c.tr.y) + (c.br.x - c.tr.x) * (48 * k - c.tr.y))) (c.br.y - c.tr.y)) ∧
     (∀ j : Nat, j < 31 → ∃ e a b, (computeSet n i).columns[j]? = some e ∧ entry e 19200 i.hs a b ∧
       nearest a (16 * (c.tl.y * (c.tr.x - c.tl.x) + (c.tr.y - c.tl.y) * (64 * j - c.tl.x))) (c.tr.x - c.tl.x) ∧
       nearest b (16 * (c.bl.y * (c.br.x - c.bl.x) + (c.br.y - c.bl.y) * (64 * j - c.bl.x))) (c.br.x - c.bl.x)))

/-- A trigger evaluation after the first settle end: a new set, numbered one on, computed from the inputs in force
and handed to the lane (kept from it while the link is LOST), when an input differs, none has been computed, or the
status is HELD; otherwise only the active preset is recorded. REAPPLY GEOMETRY makes a new set whatever the inputs,
and is refused WRONG STATE before the first settle end. The active preset is the momentary one, else the current
booking's in a room not VACANT, else the routed source's bound one, else the default; each parameter is the overlay's
where set and else the active preset's; the aspect is the overlay's, else the preset's override, else the routed
source's, else AUTO, which a known source's width against its height makes WIDE, STANDARD or FILL; Ws and Hs are those
of the source, or of the content rectangle of a source not known. -/
def Obligations.GeometrySetsAreMade : Prop :=
  (∀ s : State,
     let booked := if s.room.state = .vacant then none
       else (s.room.current.bind fun o => s.room.bookings[o.id]).bind (·.preset)
     let bound := s.geometry.routed.bind fun x => s.router.sources[x].preset
     choosePreset s = (match s.geometry.momentary, booked, bound with
       | some n, _, _ => (n, .momentary)
       | none, some n, _ => (n, .booking)
       | none, none, some n => (n, .source)
       | none, none, none => (s.store.room.preset, .roomDefault))) ∧
  (∀ (n : Fin 16) (c : PresetCause) (s : State), s.geometry.active = some (n, c) →
     let y := s.geometry.overlay
     let x := s.geometry.presets[n]
     let i := inputsNow s
     let trim := fun (a : TrimOverlay) (b e : Trim) => e.tx = a.tx.getD b.tx ∧ e.ty = a.ty.getD b.ty
     let size := fun (w h : Nat) => i.ws = w ∧ i.hs = h
     i.kv = y.kv.getD x.kv ∧ i.kh = y.kh.getD x.kh ∧ trim y.tl x.tl i.tl ∧ trim y.tr x.tr i.tr ∧ trim y.bl x.bl i.bl ∧
     trim y.br x.br i.br ∧
     i.aspect = (match y.aspect, x.aspect, s.geometry.routed with
       | some a, _, _ => a
       | none, some a, _ => a
       | none, none, some m => s.router.sources[m].aspect
       | none, none, none => .auto) ∧
     (i.aspect = .fill → i.content = .fill) ∧ (i.aspect = .wide → i.content = .wide) ∧
     (i.aspect = .standard → i.content = .standard) ∧
     (i.aspect = .auto → ∀ k, s.geometry.format = .signal k →
       (17 * k.height.toNat ≤ 10 * k.width.toNat → i.content = .wide) ∧
       (10 * k.width.toNat < 17 * k.height.toNat → 10 * k.width.toNat ≤ 14 * k.height.toNat → i.content = .standard) ∧
       (10 * k.width.toNat < 17 * k.height.toNat → 14 * k.height.toNat < 10 * k.width.toNat → i.content = .fill)) ∧
     (∀ k, s.geometry.format = .signal k → size k.width.toNat k.height.toNat) ∧
     ((∀ k, s.geometry.format ≠ .signal k) → (i.aspect = .auto → i.content = .fill) ∧
       (i.content = .fill → size 1920 1200) ∧ (i.content = .wide → size 1920 1080) ∧
       (i.content = .standard → size 1600 1200))) ∧
  (∀ s : State, s.geometry.started = false → triggerEval s = s) ∧
  (∀ s : State, s.geometry.started = true →
     let s' := { s with geometry := { s.geometry with active := some (choosePreset s) } }
     let t := triggerEval s
     let differ := s.geometry.current.map (·.inputs) ≠ some (inputsNow s') ∨ s.geometry.status = .held
     (differ → ∃ g, t.geometry.current = some g ∧ g = computeSet (s.geometry.setNumber + 1) (inputsNow s') ∧
       t.geometry.setNumber = s.geometry.setNumber + 1 ∧ t.geometry.commitAcked = false ∧
       (s.link.state ≠ .lost → t.geometry.status = .pending ∧ t.link.lane = some { set := g, progress := 0 }) ∧
       (s.link.state = .lost → t.geometry.status = .held ∧ t.link = s.link)) ∧
     (¬ differ → t = s') ∧
     t = { s with geometry := t.geometry, link := t.link }) ∧
  commandClass .reapplyGeometry = .geometry ∧ takesScope .reapplyGeometry = false ∧ takesTimes .reapplyGeometry = false ∧
  (∀ (p : Port) (f : Frame) (q : Qualifier) (s : State), taken .reapplyGeometry p f q s →
     (s.geometry.started = false →
       exec (.reapplyGeometry p f) s = .next (after .reapplyGeometry p (refused .wrongState) (begun p f s))) ∧
     (s.geometry.started = true → ∃ t, exec (.reapplyGeometry p f) s = .next t ∧
       answered .reapplyGeometry p f done s t ∧ t.geometry.setNumber = s.geometry.setNumber + 1 ∧
       t.geometry.current = some (computeSet (s.geometry.setNumber + 1) (inputsNow t)) ∧
       t.geometry.status = (if s.link.state = .lost then .held else .pending) ∧
       (s.link.state ≠ .lost → t.link.lane = t.geometry.current.map fun g => { set := g, progress := 0 }) ∧
       (s.link.state = .lost → t.link.lane = s.link.lane) ∧
       t.geometry.overlay = s.geometry.overlay ∧ t.geometry.presets = s.geometry.presets ∧ t.lamp = s.lamp ∧
       t.power = s.power ∧ t.router = s.router ∧ t.room = s.room ∧ t.lockout = s.lockout ∧ storeServed s.store t.store))

/-- The MOMENTARY geometry commands change the overlay or the momentary preset alone, a value out of range taken as
the nearer limit and told as CLAMPED. A command that changes one of them makes a trigger evaluation, with a new set
handed to the lane when an input differs from the current set's or the status is HELD; one that changes neither leaves
the geometry as it was. -/
def Obligations.MomentaryGeometryCommands : Prop :=
  ∀ (p : Port) (f : Frame) (q : Qualifier) (s : State), q.scope = .momentary →
    let ps := f.words.drop 1
    let o := s.geometry.overlay
    let does := fun (c : Command) (clamped : Bool) (o' : Overlay) (m : Option (Fin 16)) =>
      ∃ t, exec (instrOf c p f) s = .next t ∧ answered c p f { done with clamped := clamped } s t ∧
        t.geometry.overlay = o' ∧ t.geometry.momentary = m ∧ t.geometry.presets = s.geometry.presets ∧
        (o' = o → m = s.geometry.momentary → t.geometry = s.geometry) ∧
        ((o' ≠ o ∨ m ≠ s.geometry.momentary) →
          t.geometry = (triggerEval { s with geometry := { s.geometry with overlay := o', momentary := m } }).geometry ∧
          (s.geometry.started = true → t.geometry.active = some (choosePreset t) ∧
            ((s.geometry.current.map (·.inputs) ≠ some (inputsNow t) ∨ s.geometry.status = .held) →
              t.geometry.setNumber = s.geometry.setNumber + 1 ∧
              t.geometry.current = some (computeSet (s.geometry.setNumber + 1) (inputsNow t)) ∧
              (s.link.state ≠ .lost → t.link.lane = t.geometry.current.map fun g => { set := g, progress := 0 })))) ∧
        t.lamp = s.lamp ∧
        t.power = s.power ∧ t.router = s.router ∧ t.room = s.room ∧ t.lockout = s.lockout ∧
        storeServed s.store t.store ∧ t.pending = s.pending
    (taken .setKeystone p f q s → ∀ v a h b, fieldAt (-40) 40 ps 0 = some (v, a) → fieldAt (-30) 30 ps 2 = some (h, b) →
      does .setKeystone (a || b) { o with kv := overlayField v o.kv, kh := overlayField h o.kh } s.geometry.momentary) ∧
    (taken .nudgeKeystone p f q s → ∀ x, enumAt axisList ps 0 = some x →
      let new := clampInt (-(axisLimit x)) (axisLimit x) (axisValue s x + (itemAt ps 1).toInt)
      does .nudgeKeystone (new != axisValue s x + (itemAt ps 1).toInt) (withAxis x (some new) o) s.geometry.momentary) ∧
    (taken .setCorner p f q s → ∀ k x a y b, enumAt cornerList ps 0 = some k → fieldAt (-64) 64 ps 1 = some (x, a) →
      fieldAt (-64) 64 ps 3 = some (y, b) →
      does .setCorner (a || b) (mapCornerOverlay k (fun t => ⟨overlayField x t.tx, overlayField y t.ty⟩) o)
        s.geometry.momentary) ∧
    (taken .setAspect p f q s → ∀ a c, aspectItem ps = some (a, c) →
      does .setAspect c { o with aspect := a } s.geometry.momentary) ∧
    (taken .loadPreset p f q s → ∀ m, presetItem ps = some m → does .loadPreset false o m)

/-- The STANDING geometry commands pass the checks of their rule, change the live record, queue it with the request's
origin, name it in the answer with QUEUED, and unset the overlay fields that the record has taken over. A command that
changes the record, the overlay, the momentary or the default preset makes a trigger evaluation, and another leaves
the geometry as it was. The answer's word for the record, 36 for ROOM DEFAULTS, is read from the text (log entry 18),
and the active preset before the first settle end is the model's reading (log entry 19). -/
def Obligations.StandingGeometryCommands : Prop :=
  ∀ (p : Port) (f : Frame) (q : Qualifier) (s : State), q.scope = .standing →
    let ps := f.words.drop 1
    let o := s.geometry.overlay
    let n := activePreset s
    let x := s.geometry.presets[n]
    let does := fun (c : Command) (clamped : Bool) (k : Fin 16) (x' : Preset) (o' : Overlay) =>
      (∀ r, standingCheck s .c true [.preset k] = some r →
        exec (instrOf c p f) s = .next (after c p (refused r) (begun p f s))) ∧
      (standingCheck s .c true [.preset k] = none → ∃ t, exec (instrOf c p f) s = .next t ∧
        answered c p f (doneQueued clamped [word k.val]) s t ∧ t.geometry.presets = s.geometry.presets.set k x' ∧
        t.geometry.overlay = o' ∧ (x' = s.geometry.presets[k] → o' = o → t.geometry = s.geometry) ∧
        ((x' ≠ s.geometry.presets[k] ∨ o' ≠ o) → t.geometry = (triggerEval { s with geometry := { s.geometry with
          presets := s.geometry.presets.set k x', overlay := o' } }).geometry) ∧
        sentToStore (.preset k) (presetImage x') (portOrigin p) t ∧ t.lamp = s.lamp ∧
        t.power = s.power ∧ t.router = s.router ∧ t.room = s.room ∧ t.lockout = s.lockout ∧
        storeServed s.store t.store)
    (taken .setKeystone p f q s → ∀ v a h b, fieldAt (-40) 40 ps 0 = some (v, a) → fieldAt (-30) 30 ps 2 = some (h, b) →
      does .setKeystone (a || b) n { x with kv := presetField v x.kv, kh := presetField h x.kh }
        { o with kv := releasedField v o.kv, kh := releasedField h o.kh }) ∧
    (taken .nudgeKeystone p f q s → ∀ ax, enumAt axisList ps 0 = some ax →
      let new := clampInt (-(axisLimit ax)) (axisLimit ax) (axisValue s ax + (itemAt ps 1).toInt)
      does .nudgeKeystone (new != axisValue s ax + (itemAt ps 1).toInt) n (presetAxis ax new x) (withAxis ax none o)) ∧
    (taken .setCorner p f q s → ∀ k x' a y b, enumAt cornerList ps 0 = some k → fieldAt (-64) 64 ps 1 = some (x', a) →
      fieldAt (-64) 64 ps 3 = some (y, b) →
      does .setCorner (a || b) n (mapCornerPreset k (fun t => ⟨presetField x' t.tx, presetField y t.ty⟩) x)
        (mapCornerOverlay k (fun t => ⟨releasedField x' t.tx, releasedField y t.ty⟩) o)) ∧
    (taken .setAspect p f q s → ∀ a c, aspectItem ps = some (a, c) →
      does .setAspect c n { x with aspect := a } { o with aspect := none }) ∧
    (taken .savePreset p f q s → ∀ (k : Fin 16) name, numAt ps 0 = k.val → nameItem ps = some name →
      does .savePreset false k { effectivePreset s with name := name.getD s.geometry.presets[k].name }
        (if k = n then Overlay.empty else o)) ∧
    (taken .loadPreset p f q s → ∀ k, presetItem ps = some (some k) →
      standingCheck s .c false [.roomDefaults] = none → ∃ t, exec (.loadPreset p f) s = .next t ∧
        answered .loadPreset p f (doneQueued false [word 36]) s t ∧ t.store.room = { s.store.room with preset := k } ∧
        t.geometry.momentary = none ∧ t.geometry.presets = s.geometry.presets ∧
        (k = s.store.room.preset → s.geometry.momentary = none → t.geometry = s.geometry) ∧
        ((k ≠ s.store.room.preset ∨ s.geometry.momentary ≠ none) → t.geometry = (triggerEval { s with
          geometry := { s.geometry with momentary := none }, store := { s.store with room := t.store.room } }).geometry) ∧
        sentToStore .roomDefaults (roomImage t.store.room) (portOrigin p) t ∧ t.lamp = s.lamp ∧ t.power = s.power ∧
        t.router = s.router ∧ t.room = s.room ∧ t.lockout = s.lockout)

/-- A second of the room clock: an UNSET clock stands; below second 59 the second advances alone; at 59 the minute,
and after minute 1439 the day, advance, and the end of day 65535 unsets the clock. Before the load completes a minute
step makes no evaluation. SET CLOCK: a minute or a second beyond its range is refused OUT OF RANGE; otherwise the
clock is set and the answer gives the old time, or the unset marker; in a VACANT room with an empty table nothing else
comes of it. After the load a minute step makes an evaluation of the room with cause TIME and origin SCHEDULE, or
UNSET with CLOCK NEEDED where the clock is lost: what it does is said by evaluated of Safety.lean, for a table within
R113's ranges. A forward SET CLOCK of a set clock first marks taken, and tells by OCCURRENCE MISSED, each occurrence
neither taken, cancelled nor current whose end it passes; every SET CLOCK then makes the evaluation with cause JUMP
and the port's origin. The causes in the order of the text (log entry 8), BACK-TO-BACK for a direct passage and the
prune of the exceptions before the jump (21) are the model's readings. The phase of the second, 0 at each second and
kept by SET CLOCK, is the model's choice (log entry 10), and so are the words of the unset marker in the answer (log
entry 27). -/
def Obligations.ClockIsAdvancedAndSet : Prop :=
  (∀ s : State, ∃ t, exec .clockSecond s = .next t ∧
     let k := s.room.clock
     (k.isSet = false → t.room = { s.room with phase := 0 }) ∧
     (k.isSet = true → k.second < 59 → t.room = { s.room with phase := 0, clock := { k with second := k.second + 1 } }) ∧
     (k.isSet = true → k.second = 59 → k.minute < 1439 →
       t.room.clock = { k with second := 0, minute := k.minute + 1 }) ∧
     (k.isSet = true → k.second = 59 → k.minute = 1439 → k.day < 65535 →
       t.room.clock = { k with second := 0, minute := 0, day := k.day + 1 } ∧
         ∀ o, o ∈ t.room.exceptions ↔ o ∈ s.room.exceptions ∧ k.day + 1 ≤ o.day) ∧
     (k.isSet = true → k.second = 59 → k.minute = 1439 → k.day = 65535 → t.room.clock.isSet = false) ∧
     (s.store.loaded = false → t.room.state = s.room.state ∧ t.room.current = s.room.current ∧ t.power = s.power ∧
       t.router = s.router ∧ t.geometry = s.geometry) ∧
     (s.room.current = none → t.room.current = none → actionsKept s t) ∧ standingKept s t ∧
     t.room.bookings = s.room.bookings ∧ contexts t = contexts s ∧
     (k.isSet = true → k.second = 59 →
       let u := { s with room := { s.room with clock := t.room.clock, exceptions := t.room.exceptions } }
       (t.room.clock.isSet = false → ∃ x y, told none .clockNeeded .auto x y u t) ∧
       (s.store.loaded = true → timesInRange s →
         evaluated (if t.room.clock.isSet then .time else .unset) .schedule u t))) ∧
  (∀ (p : Port) (f : Frame) (q : Qualifier) (s : State), taken .setClock p f q s →
     let ps := f.words.drop 1
     let c : Clock := { day := numAt ps 0, minute := numAt ps 1, second := numAt ps 2, isSet := true }
     ((1439 < numAt ps 1 ∨ 59 < numAt ps 2) →
       exec (.setClock p f) s = .next (after .setClock p (refused .outOfRange) (begun p f s))) ∧
     (numAt ps 1 ≤ 1439 → numAt ps 2 ≤ 59 → ∃ t, exec (.setClock p f) s = .next t ∧ t.room.clock = c ∧
       answered .setClock p f (doneWith (if s.room.clock.isSet then
         [word s.room.clock.day, word s.room.clock.minute, word s.room.clock.second] else [0, 0x8000#16, 0])) s t ∧
       (∀ o, o ∈ t.room.exceptions ↔ o ∈ s.room.exceptions ∧ c.day ≤ o.day) ∧ t.room.bookings = s.room.bookings ∧
       standingKept s t ∧
       (s.room.current = none → (∀ n : Fin 64, s.room.bookings[n] = none) → s.room.exceptions = [] →
         t.room = { s.room with clock := c } ∧ t.power = s.power ∧ t.router = s.router ∧ t.geometry = s.geometry ∧
         t.lamp = s.lamp ∧ t.lockout = s.lockout) ∧
       ∀ marks : Vector (Option Nat) 64,
         let u := { s with room := { s.room with clock := c, exceptions := t.room.exceptions, taken := marks } }
         let missed := fun (o : Occurrence) => s.room.clock.isSet = true ∧ nowMinute s < nowMinute u ∧
           s.room.current ≠ some o ∧ s.room.taken[o.id] ≠ some o.day ∧
           ∃ b, occurs u o b ∧ nowMinute s < endOf b o.day ∧ endOf b o.day ≤ nowMinute u
         timesInRange s →
         (∀ n d, missed ⟨n, d⟩ → ∃ e, d ≤ e ∧ missed ⟨n, e⟩ ∧ marks[n] = some e) →
         (∀ n : Fin 64, (∀ d, ¬ missed ⟨n, d⟩) → marks[n] = s.room.taken[n]) →
         (∀ o, missed o → told (some p) .occurrenceMissed (portOrigin p) (word o.id.val) (word o.day) u t) ∧
           evaluated .jump (portOrigin p) u t))

/-- ADD BOOKING, CHANGE BOOKING and REMOVE BOOKING are checked in order and refused at the first failure: OUT OF
RANGE, NO SUCH ENTRY, REGION PROTECTED, TABLE FULL, CONFLICT, STORE BUSY, as each has them. Their checks passed, the
table holds the new booking in the lowest free slot with the port's role as owner, the changed booking with its owner
kept, or a free slot; the record is on its way to storage with the request's origin; the answer is DONE with QUEUED. -/
def Obligations.BookingEditsChangeTheTable : Prop :=
  ∀ (p : Port) (f : Frame) (q : Qualifier) (id : Fin 64) (s : State),
    let ps := f.words.drop 1
    let o := portOrigin p
    let refuses := fun (c : Command) (r : Reason) => exec (instrOf c p f) s = .next (after c p (refused r) (begun p f s))
    let edited := fun (t : State) => standingKept s t ∧ t.room.clock = s.room.clock ∧
      (s.room.current = none → t.room.current = none → actionsKept s t ∧
        t.room = { s.room with bookings := t.room.bookings, exceptions := t.room.exceptions, taken := t.room.taken })
    let writable := isProtected s .d = false
    (taken .addBooking p f q s →
      (bookingItem q.form (portOf s p).dayBase p ps = none → refuses .addBooking .outOfRange) ∧
      ∀ b, bookingItem q.form (portOf s p).dayBase p ps = some b →
        (¬ writable → refuses .addBooking .regionProtected) ∧
        (writable → (∀ j : Fin 64, s.room.bookings[j] ≠ none) → refuses .addBooking .tableFull) ∧
        (writable → s.room.bookings[id] = none → (∀ j : Fin 64, j.val < id.val → s.room.bookings[j] ≠ none) →
          (conflictWith id b (clearTaken id (putBooking id (some b) s)) = true → refuses .addBooking .conflict) ∧
          (conflictWith id b (clearTaken id (putBooking id (some b) s)) = false →
            (storeBusy s [.booking id] = true → refuses .addBooking .storeBusy) ∧
            (storeBusy s [.booking id] = false → ∃ t, exec (.addBooking p f) s = .next t ∧
              answered .addBooking p f (doneQueued false [word id.val]) s t ∧
              edited t ∧ b.owner = p ∧ t.room.bookings = s.room.bookings.set id (some b) ∧
              sentToStore (.booking id) (bookingImage (some b)) o t ∧
              t.room.exceptions = s.room.exceptions)))) ∧
    (taken .changeBooking p f q s →
      ((64 ≤ numAt ps 0 ∨ bookingItem q.form (portOf s p).dayBase p (ps.drop 1) = none) →
        refuses .changeBooking .outOfRange) ∧
      ∀ b, numAt ps 0 = id.val → bookingItem q.form (portOf s p).dayBase p (ps.drop 1) = some b →
        (s.room.bookings[id] = none → refuses .changeBooking .noSuchEntry) ∧
        ∀ old, s.room.bookings[id] = some old →
          let new := { b with owner := old.owner }
          let kept := keptExceptions id new.kind s.room.exceptions
          let conflicting := conflictWith id new (putExceptions kept (putBooking id (some new) s))
          let busy := storeBusy s (editKeys id s.room.exceptions kept)
          (¬ writable → refuses .changeBooking .regionProtected) ∧
          (writable → conflicting = true → refuses .changeBooking .conflict) ∧
          (writable → conflicting = false → busy = true → refuses .changeBooking .storeBusy) ∧
          (writable → conflicting = false → busy = false → ∃ t, exec (.changeBooking p f) s = .next t ∧
            answered .changeBooking p f (doneQueued false []) s t ∧
            edited t ∧ t.room.bookings = s.room.bookings.set id (some new) ∧ t.room.exceptions = kept ∧
            sentToStore (.booking id) (bookingImage (some new)) o t)) ∧
    (taken .removeBooking p f q s →
      (64 ≤ numAt ps 0 → refuses .removeBooking .outOfRange) ∧
      (numAt ps 0 = id.val →
        (s.room.bookings[id] = none → refuses .removeBooking .noSuchEntry) ∧
        (s.room.bookings[id] ≠ none →
          let kept := s.room.exceptions.filter fun x => x.id != id
          let busy := storeBusy s (editKeys id s.room.exceptions kept)
          (¬ writable → refuses .removeBooking .regionProtected) ∧
          (writable → busy = true → refuses .removeBooking .storeBusy) ∧
          (writable → busy = false → ∃ t, exec (.removeBooking p f) s = .next t ∧
            answered .removeBooking p f (doneQueued false []) s t ∧
            edited t ∧ t.room.bookings = s.room.bookings.set id none ∧ t.room.exceptions = kept ∧
            sentToStore (.booking id) (bookingImage none) o t))))

/-- CANCEL OCCURRENCE puts a pair in its ordered place of the exception list and RESTORE OCCURRENCE takes it out,
each refused at the first of its checks that fails; the record is on its way to storage. A list in the order of day and
of id within a day is in that order with the pair in it. -/
def Obligations.ExceptionEditsChangeTheList : Prop :=
  (∀ (o : Occurrence) (l : List Occurrence),
    let before := fun (a b : Occurrence) => a.day < b.day ∨ (a.day = b.day ∧ a.id.val ≤ b.id.val)
    (l.Pairwise before → (insertException o l).Pairwise before) ∧
      ∀ x, x ∈ insertException o l ↔ x = o ∨ x ∈ l) ∧
  ∀ (p : Port) (f : Frame) (q : Qualifier) (id : Fin 64) (s : State),
    let ps := f.words.drop 1
    let d := dayOf q.form (portOf s p).dayBase (itemAt ps 1)
    let o : Occurrence := { id := id, day := d }
    let edits := fun (c : Command) (l : List Occurrence) => ∃ t, exec (instrOf c p f) s = .next t ∧
      answered c p f (doneQueued false []) s t ∧ t.room.exceptions = l ∧ t.room.bookings = s.room.bookings ∧
      sentToStore .exceptions (exceptionsImage l) (portOrigin p) t ∧ standingKept s t ∧ t.room.clock = s.room.clock ∧
      (s.room.current = none → t.room.current = none → actionsKept s t ∧ t.room = { s.room with exceptions := l })
    let refuses := fun (c : Command) (r : Reason) => exec (instrOf c p f) s = .next (after c p (refused r) (begun p f s))
    (taken .cancelOccurrence p f q s → 64 ≤ numAt ps 0 → refuses .cancelOccurrence .outOfRange) ∧
    (taken .restoreOccurrence p f q s → 64 ≤ numAt ps 0 → refuses .restoreOccurrence .outOfRange) ∧
    (taken .cancelOccurrence p f q s → numAt ps 0 = id.val →
      ((namesWeekly s o = false ∨ o ∈ s.room.exceptions) → refuses .cancelOccurrence .noSuchEntry) ∧
      (namesWeekly s o = true → o ∉ s.room.exceptions →
        (s.room.clock.isSet = true → d < s.room.clock.day → refuses .cancelOccurrence .outOfRange) ∧
        ((s.room.clock.isSet = true → s.room.clock.day ≤ d) →
          (isProtected s .d = true → refuses .cancelOccurrence .regionProtected) ∧
          (isProtected s .d = false → 32 ≤ s.room.exceptions.length → refuses .cancelOccurrence .tableFull) ∧
          (isProtected s .d = false → s.room.exceptions.length < 32 → storeBusy s [.exceptions] = true →
            refuses .cancelOccurrence .storeBusy) ∧
          (isProtected s .d = false → s.room.exceptions.length < 32 → storeBusy s [.exceptions] = false →
            edits .cancelOccurrence (insertException o s.room.exceptions))))) ∧
    (taken .restoreOccurrence p f q s → numAt ps 0 = id.val →
      (o ∉ s.room.exceptions → refuses .restoreOccurrence .noSuchEntry) ∧
      (o ∈ s.room.exceptions → isProtected s .d = true → refuses .restoreOccurrence .regionProtected) ∧
      (o ∈ s.room.exceptions → isProtected s .d = false →
        reachFails (putExceptions (s.room.exceptions.filter (· != o)) s) = true → refuses .restoreOccurrence .conflict) ∧
      (o ∈ s.room.exceptions → isProtected s .d = false →
        reachFails (putExceptions (s.room.exceptions.filter (· != o)) s) = false → storeBusy s [.exceptions] = true →
        refuses .restoreOccurrence .storeBusy) ∧
      (o ∈ s.room.exceptions → isProtected s .d = false →
        reachFails (putExceptions (s.room.exceptions.filter (· != o)) s) = false → storeBusy s [.exceptions] = false →
        edits .restoreOccurrence (s.room.exceptions.filter (· != o))))

/-- EXTEND BOOKING in OCCUPIED adds the minutes to the extension, within the grace and before the following
occurrence, and answers the new extension and end; RELEASE ROOM in VACANT is refused WRONG STATE, and otherwise ends
the current occurrence, told by ROOM STATE CHANGED with cause RELEASE: with no candidate the room is VACANT, the
occurrence stays taken, and the end action is performed, OFF as a POWER OFF and a route request for the default source
of origin SCHEDULE, or as BLANK when the next occurrence prepares within the bridge gap. With a candidate the room
passes to it back-to-back, without an end action. An end past midnight that does not wrap is the model's reading (log
entry 33), and the place of the cause RELEASE is the order of the text (log entry 8). -/
def Obligations.ExtendAndReleaseTheRoom : Prop :=
  ∀ (p : Port) (f : Frame) (q : Qualifier) (s : State),
    (taken .extendBooking p f q s → ∀ o b, s.room.state = .occupied → s.room.current = some o →
      s.room.bookings[o.id] = some b →
      let m := numAt (f.words.drop 1) 0
      ((m = 0 ∨ 60 < m ∨ b.grace < s.room.extension + m) →
        exec (.extendBooking p f) s = .next (after .extendBooking p (refused .outOfRange) (begun p f s))) ∧
      (1 ≤ m → m ≤ 60 → s.room.extension + m ≤ b.grace →
        (passesFollowing s o b m = true →
          exec (.extendBooking p f) s = .next (after .extendBooking p (refused .conflict) (begun p f s))) ∧
        (passesFollowing s o b m = false → ∃ t, exec (.extendBooking p f) s = .next t ∧
          answered .extendBooking p f
            (doneWith [word (s.room.extension + m), word (b.endMinute + s.room.extension + m)]) s t ∧
          t.room = { s.room with extension := s.room.extension + m } ∧ t.power = s.power ∧ t.lamp = s.lamp ∧
          t.router = s.router ∧ t.geometry = s.geometry ∧ t.lockout = s.lockout ∧ linkServed s.link t.link ∧
          storeServed s.store t.store))) ∧
    (taken .extendBooking p f q s → s.room.state ≠ .occupied →
      exec (.extendBooking p f) s = .next (after .extendBooking p (refused .wrongState) (begun p f s))) ∧
    (taken .releaseRoom p f q s → s.room.current = none →
      exec (.releaseRoom p f) s = .next (after .releaseRoom p (refused .wrongState) (begun p f s))) ∧
    (taken .releaseRoom p f q s → ∀ o b, s.room.current = some o → s.room.bookings[o.id] = some b →
      s.room.taken[o.id] = some o.day → candidate s = none →
      ∃ t, exec (.releaseRoom p f) s = .next t ∧ answered .releaseRoom p f done s t ∧
        t.room = { s.room with state := .vacant, current := none, extension := 0
                               scheduleBlank := t.room.scheduleBlank } ∧
        told (some p) .roomStateChanged (portOrigin p) (tripleWord (position roomStateList s.room.state)
          (position roomStateList .vacant) (position roomCauseList .release)) (word o.id.val) s t ∧
        standingKept s t ∧ t.geometry.overlay = Overlay.empty ∧ t.geometry.momentary = none ∧
        t.power.momentaryMode = none ∧ t.lockout.hold = .followStanding ∧
        (b.endAction = .stay →
          t.power = { s.power with momentaryMode := none, effectiveMode := t.power.effectiveMode } ∧
          lampModed s.lamp t.lamp ∧ t.router = s.router ∧
          t.room.scheduleBlank = s.room.scheduleBlank) ∧
        (b.endAction = .blank → t.power.shutter = some .closedManual ∧ t.room.scheduleBlank = true) ∧
        (let soon := ∃ x, nextOccurrence s = some x ∧ prepOf x.2 x.1.day ≤ nowMinute s + s.store.room.bridgeGap
         (b.endAction = .off → soon → t.power.shutter = some .closedManual ∧ t.room.scheduleBlank = true ∧
           t.power.state = s.power.state ∧ t.router = s.router) ∧
         (b.endAction = .off → ¬ soon → t.room.scheduleBlank = s.room.scheduleBlank ∧
           t.power.shutter = s.power.shutter ∧
           (s.power.state = .on → s.link.state ≠ .lost → t.power.state = .cooling ∧
             toldPower none .schedule .on .cooling none s t) ∧
           (s.power.state = .warming → t.power.offPending = true ∧ t.power.offOrigin = some .schedule) ∧
           (s.router.state ≠ .settling → t.router.requested = some s.store.room.source) ∧
           (s.router.resolved = true → s.router.state = .settling → s.router.pendingSlot = none →
             t.router = { s.router with
               pendingSlot := some { source := s.store.room.source, origin := .schedule, scope := .momentary }
               noSignal := t.router.noSignal })))) ∧
    (taken .releaseRoom p f q s → ∀ o n b, s.room.current = some o → s.room.clock.isSet = true →
      candidate s = some (n, b) →
      ∃ t, exec (.releaseRoom p f) s = .next t ∧ answered .releaseRoom p f done s t ∧ standingKept s t ∧
        t.room = { s.room with state := if nowMinute s < startOf b n.day then .preparing else .occupied, current := some n
                               extension := 0, taken := s.room.taken.set n.id (some n.day)
                               scheduleBlank := t.room.scheduleBlank } ∧
        told (some p) .roomStateChanged (portOrigin p) (tripleWord (position roomStateList s.room.state)
          (position roomStateList t.room.state) (position roomCauseList .release)) (word n.id.val) s t ∧
        t.geometry.overlay = Overlay.empty ∧ t.geometry.momentary = none ∧ t.power.momentaryMode = none ∧
        t.lockout.hold = .followStanding ∧
        (s.power.state = .on → t.power.state = .on))

/-- The permission decision: OPEN for all; SERVICE everything in COMMISSION or while enabled; LOCKOUT for FACILITY
and SERVICE-ONLY for neither ordinary role; in the six other classes FACILITY freely in COMMISSION, and else each
role as the active profile and the effective override, when present, both permit; a LECTERN request with STANDING
scope is barred. Before the load, with no profile active, the profile rows read as refusing. -/
def Obligations.PermissionDecision : Prop :=
  (∀ (s : State) (c : CommandClass) (scope : Scope), s.lockout.active = none → s.lockout.serviceEnabled = false →
    c ≠ .openClass → c ≠ .lockout → c ≠ .serviceOnly →
      permission s .lectern c scope = some .notPermitted ∧
      permission s .facility c scope = (if s.lockout.mode = .commission then none else some .notPermitted) ∧
      permission s .service c scope = (if s.lockout.mode = .commission then none else some .serviceDisabled)) ∧
  ∀ (s : State) (c : CommandClass) (scope : Scope) (a : ActiveProfile), s.lockout.active = some a →
    let allowed := fun (p : Port) => profilePermits s.lockout.profiles[a.number] c p = true ∧
      ∀ e, s.lockout.effective = some e → profilePermits s.lockout.profiles[e.profile] c p = true
    let ordinary := c ≠ .openClass ∧ c ≠ .lockout ∧ c ≠ .serviceOnly
    (permission s .lectern c .standing = some .notPermitted) ∧
    (c = .openClass → permission s .lectern c .momentary = none ∧ permission s .facility c scope = none ∧
      permission s .service c scope = none) ∧
    (c ≠ .openClass → permission s .service c scope =
      if s.lockout.mode = .commission ∨ s.lockout.serviceEnabled = true then none else some .serviceDisabled) ∧
    (c = .lockout → permission s .facility c scope = none ∧
      permission s .lectern c .momentary = some .notPermitted) ∧
    (c = .serviceOnly → permission s .facility c scope = some .notPermitted ∧
      permission s .lectern c .momentary = some .notPermitted) ∧
    (ordinary → (permission s .lectern c .momentary = none ↔ allowed .lectern) ∧
      (permission s .facility c scope = none ↔ s.lockout.mode = .commission ∨ allowed .facility) ∧
      (permission s .lectern c .momentary = none ∨ permission s .lectern c .momentary = some .notPermitted) ∧
      (permission s .facility c scope = none ∨ permission s .facility c scope = some .notPermitted))

/-- The override and the service enable flag. SET OVERRIDE MOMENTARY holds a profile, or NONE for CLEAR; STANDING
writes ROOM DEFAULTS and follows it; the effective override is then that of the hold, and a change of it is told by
OVERRIDE CHANGED, with none in both words when it ends (read so in log entry 18). ENABLE SERVICE and DISABLE SERVICE
give the flag its value, told by SERVICE ENABLE CHANGED when it is another. A profile above 7 is refused, and a
STANDING request whose checks fail changes nothing. ENABLED as 0 and DISABLED as 1 are the order of the text (log
entry 8). -/
def Obligations.OverrideAndServiceEnable : Prop :=
  (∀ c ∈ [Command.setOverride, .enableService, .disableService], commandClass c = .lockout ∧ takesTimes c = false) ∧
  takesScope .setOverride = true ∧
  ∀ (p : Port) (f : Frame) (q : Qualifier) (s : State),
    let rest := fun (t : State) => t.lamp = s.lamp ∧ t.power = s.power ∧ t.router = s.router ∧ t.geometry = s.geometry ∧
      t.room = s.room ∧ linkServed s.link t.link ∧ t.pending = s.pending
    let tells := fun (t : State) => s.lockout.active.isSome = true → t.lockout.effective ≠ s.lockout.effective →
      (t.lockout.effective = none → told (some p) .overrideChanged (portOrigin p) 0xFFFF 0xFFFF s t) ∧
      (∀ e, t.lockout.effective = some e → told (some p) .overrideChanged (portOrigin p)
        (pairWord e.profile.val (position scopeList e.scope)) (profileWord e.sets) s t)
    let enables := fun (b : Bool) (t : State) => s.lockout.serviceEnabled ≠ b → told (some p) .serviceEnableChanged
      (portOrigin p) (if b then 0 else 1) (word (position modeList s.lockout.mode)) s t
    (taken .setOverride p f q s → numAt (f.words.drop 1) 0 = 0 → 7 < numAt (f.words.drop 1) 1 →
      exec (.setOverride p f) s = .next (after .setOverride p (refused .outOfRange) (begun p f s))) ∧
    (taken .setOverride p f q s → ∀ n r, overrideItem (f.words.drop 1) = some n → q.scope = .standing →
      ((isProtected s .c = true ∧ r = .regionProtected) ∨
       (isProtected s .c = false ∧ storeBusy s [.roomDefaults] = true ∧ r = .storeBusy)) →
      exec (.setOverride p f) s = .next (after .setOverride p (refused r) (begun p f s))) ∧
    (taken .setOverride p f q s → ∀ n, overrideItem (f.words.drop 1) = some n →
      (q.scope = .momentary → ∃ t, exec (.setOverride p f) s = .next t ∧ answered .setOverride p f done s t ∧
        t.lockout.hold = .held n ∧ tells t ∧
        (s.lockout.active.isSome = true → t.lockout.effective.map (·.profile) = n) ∧
        t.lockout = { s.lockout with hold := t.lockout.hold, effective := t.lockout.effective } ∧
        storeServed s.store t.store ∧ rest t) ∧
      (q.scope = .standing → standingCheck s .c false [.roomDefaults] = none →
        ∃ t, exec (.setOverride p f) s = .next t ∧ answered .setOverride p f (doneQueued false []) s t ∧
        t.lockout.hold = .followStanding ∧ tells t ∧ t.store.room = { s.store.room with override := n } ∧
        sentToStore .roomDefaults (roomImage t.store.room) (portOrigin p) t ∧
        (s.lockout.active.isSome = true → t.lockout.effective.map (·.profile) = n) ∧ rest t)) ∧
    (taken .enableService p f q s → ∃ t, exec (.enableService p f) s = .next t ∧
      answered .enableService p f done s t ∧ t.lockout = { s.lockout with serviceEnabled := true } ∧ enables true t ∧
      storeServed s.store t.store ∧ rest t) ∧
    (taken .disableService p f q s → ∃ t, exec (.disableService p f) s = .next t ∧
      answered .disableService p f done s t ∧ t.lockout = { s.lockout with serviceEnabled := false } ∧ enables false t ∧
      storeServed s.store t.store ∧ rest t)

/-- A standing write checks protection first, then the install lock where the record is install-class, then a wipe
in progress and the place test. -/
def Obligations.StandingChecksInOrder : Prop :=
  ∀ (s : State) (r : Region) (k : Key) (ins : Bool), k ≠ .lampCheckpoint →
    let full := 11 < nonLampCount s.store.queue + (if s.store.queue.any (fun e => e.key == k) then 0 else 1)
    (isProtected s r = true → standingCheck s r ins [k] = some .regionProtected) ∧
    (isProtected s r = false → ins = true → s.lockout.locked = true → standingCheck s r ins [k] = some .installLocked) ∧
    (isProtected s r = false → (ins = false ∨ s.lockout.locked = false) →
      (s.store.wipe ≠ none ∨ full → standingCheck s r ins [k] = some .storeBusy) ∧
      (s.store.wipe = none → ¬ full → standingCheck s r ins [k] = none))

/-- SET SOURCE ENTRY, SET PROFILE, SET INSTALL RECORD and SET ROOM TIMES, their checks passed: the live record is
replaced at once, and the record with that content is on its way to storage with the request's origin; the answer is
DONE with QUEUED, and with CLAMPED where a value was brought into range. A field outside its values, or a selector that
the rule does not name, is refused OUT OF RANGE by each of the four; then the check of protection, of the lock, which
does not bar ROOM DEFAULTS, and of the place refuses. Each number that
SET INSTALL RECORD and SET ROOM TIMES carry is brought into the range of its field, the rated life and the settle time
rounded down to a multiple of 100; KEEP keeps the field, and a vacant profile above 7 is refused. ENABLED as the word
0 is the order of the text (log entry 8). -/
def Obligations.SettingsWritesReplaceTheRecord : Prop :=
  (∀ (ps : List Word),
    let value := fun (i : Nat) (w : Word) => choiceAt ps i [0, 1] = some (.value w)
    let keeps := fun (i : Nat) => choiceAt ps i [0, 1] = some .keep
    let number := fun (i : Nat) (fit : Nat → Nat) (was now : Nat) =>
      (∀ w, value i w → now = fit w.toNat) ∧ (keeps i → now = was)
    let altered := fun (i : Nat) (now : Nat) => ∃ w, value i w ∧ now ≠ w.toNat
    (∀ old r c, installItem old ps = some (r, c) →
      number 0 (fun n => max 500 (min 20000 n) / 100 * 100) old.ratedLife r.ratedLife ∧
      number 2 (fun n => max 90 (min 300 n)) old.coolingTime r.coolingTime ∧
      number 4 (fun n => max 30 (min 120 n)) old.warmingTime r.warmingTime ∧
      number 6 (fun n => n) old.vacantProfile.val r.vacantProfile.val ∧
      (∀ w, value 8 w → r.serviceDefault = decide (w = 0)) ∧ (keeps 8 → r.serviceDefault = old.serviceDefault) ∧
      number 10 (fun n => min 7 n) old.retryCount r.retryCount ∧
      (c = true ↔ altered 0 r.ratedLife ∨ altered 2 r.coolingTime ∨ altered 4 r.warmingTime ∨ altered 10 r.retryCount)) ∧
    (∀ old r c, roomItem old ps = some (r, c) →
      number 0 (fun n => max 200 (min 5000 n) / 100 * 100) old.settleTime r.settleTime ∧
      number 2 (fun n => min 120 n) old.noSignal r.noSignal ∧ number 4 (fun n => min 30 n) old.blankDim r.blankDim ∧
      number 6 (fun n => min 60 n) old.bridgeGap r.bridgeGap ∧
      r = { old with settleTime := r.settleTime, noSignal := r.noSignal, blankDim := r.blankDim
                     bridgeGap := r.bridgeGap } ∧
      (c = true ↔ altered 0 r.settleTime ∨ altered 2 r.noSignal ∨ altered 4 r.blankDim ∨ altered 6 r.bridgeGap)) ∧
    ∀ (p : Port) (f : Frame) (q : Qualifier) (s : State), taken .setInstallRecord p f q s → ps = f.words.drop 1 →
      (((∃ w, value 6 w ∧ 7 < w.toNat) ∨ (∃ w, value 8 w ∧ 1 < w.toNat) ∨ ∃ i ∈ [0, 2, 4, 6, 8, 10], 1 < numAt ps i) →
        exec (.setInstallRecord p f) s = .next (after .setInstallRecord p (refused .outOfRange) (begun p f s))) ∧
      (∀ r c x, installItem s.store.install ps = some (r, c) → standingCheck s .b true [.install] = some x →
        exec (.setInstallRecord p f) s = .next (after .setInstallRecord p (refused x) (begun p f s)))) ∧
  ∀ (p : Port) (f : Frame) (q : Qualifier) (s : State),
    let ps := f.words.drop 1
    let o := portOrigin p
    let refuses := fun (c : Command) (r : Reason) => exec (instrOf c p f) s = .next (after c p (refused r) (begun p f s))
    let chosen := fun (i : Nat) (ok : Nat → Prop) => numAt ps i = 3 ∨ (numAt ps i = 0 ∧ ok (numAt ps (i + 1)))
    let k := 2 + (numAt ps 1 + 1) / 2
    let goodEntry := numAt ps 0 ≤ 7 ∧ numAt ps 1 ≤ 12 ∧ chosen k (fun n => 1 ≤ n ∧ n ≤ 6) ∧
      chosen (k + 2) (fun n => n ≤ 7) ∧ chosen (k + 4) (fun n => n ≤ 15) ∧ numAt ps (k + 6) ≤ 1 ∧ numAt ps (k + 7) ≤ 3
    let goodProfile := numAt ps 0 ≤ 7 ∧ ∀ i : Nat, 1 ≤ i → i ≤ 6 → numAt ps i ≤ 3
    let goodTimes := ∀ i ∈ [0, 2, 4, 6], numAt ps i ≤ 1
    (taken .setSourceEntry p f q s → (¬ goodEntry → refuses .setSourceEntry .outOfRange) ∧
      (goodEntry → ∀ (n : Fin 8) r, numAt ps 0 = n.val → standingCheck s .b true [.source n] = some r →
        refuses .setSourceEntry r)) ∧
    (taken .setProfile p f q s → (¬ goodProfile → refuses .setProfile .outOfRange) ∧
      (goodProfile → ∀ (n : Fin 8) r, numAt ps 0 = n.val → standingCheck s .b true [.profile n] = some r →
        refuses .setProfile r)) ∧
    (taken .setRoomTimes p f q s → (¬ goodTimes → refuses .setRoomTimes .outOfRange) ∧
      (goodTimes → ∀ r, standingCheck s .c false [.roomDefaults] = some r → refuses .setRoomTimes r)) ∧
    (goodEntry → (entryItem ps).isSome) ∧ (goodProfile → (profileItem ps).isSome) ∧
    (goodTimes → (roomItem s.store.room ps).isSome) ∧
    let writes := fun (c : Command) (clamped : Bool) (k : Key) (image : List Word) (live : State → Prop) =>
      ∃ t, exec (instrOf c p f) s = .next t ∧ answered c p f (doneQueued clamped []) s t ∧ live t ∧
        sentToStore k image o t ∧ t.room = s.room ∧ t.pending = s.pending
    (taken .setSourceEntry p f q s → ∀ (n : Fin 8) e, numAt ps 0 = n.val → entryItem ps = some e →
      standingCheck s .b true [.source n] = none →
      writes .setSourceEntry false (.source n) (sourceImage e) (fun t => t.router.sources = s.router.sources.set n e ∧
        t.geometry.presets = s.geometry.presets ∧ t.geometry.overlay = s.geometry.overlay ∧
        storeServed s.store t.store ∧ t.lockout = s.lockout ∧ t.lamp = s.lamp ∧ t.power = s.power)) ∧
    (taken .setProfile p f q s → ∀ (n : Fin 8) k, numAt ps 0 = n.val → profileItem ps = some k →
      standingCheck s .b true [.profile n] = none →
      writes .setProfile false (.profile n) (profileImage k) (fun t =>
        t.lockout = { s.lockout with profiles := s.lockout.profiles.set n k, active := t.lockout.active
                                     effective := t.lockout.effective } ∧
        storeServed s.store t.store ∧ linkServed s.link t.link ∧ t.lamp = s.lamp ∧ t.power = s.power ∧
        t.router = s.router ∧ t.geometry = s.geometry)) ∧
    (taken .setInstallRecord p f q s → ∀ r c, installItem s.store.install ps = some (r, c) →
      standingCheck s .b true [.install] = none →
      writes .setInstallRecord c .install (installImage r) (fun t =>
        storeServed { s.store with install := r } t.store ∧ linkServed s.link t.link ∧ powerModed s.power t.power ∧
        t.lamp = { s.lamp with level := t.lamp.level, normalSeen := t.lamp.normalSeen, cadence := t.lamp.cadence } ∧
        t.lockout = { s.lockout with active := t.lockout.active } ∧ t.router = s.router ∧
        t.geometry = s.geometry)) ∧
    (taken .setRoomTimes p f q s → ∀ r c, roomItem s.store.room ps = some (r, c) →
      standingCheck s .c false [.roomDefaults] = none →
      writes .setRoomTimes c .roomDefaults (roomImage r) (fun t =>
        storeServed { s.store with room := r } t.store ∧ linkServed s.link t.link ∧ routerTimed s.router t.router ∧
        (s.power.state ≠ .on → lampModed s.lamp t.lamp ∧
          t.power = { s.power with dimmed := t.power.dimmed, effectiveMode := t.power.effectiveMode }) ∧
        t.geometry = s.geometry ∧ t.lockout = s.lockout))

/-- SET INSTALL LOCK and CLEAR INSTALL LOCK check and write the lock pair; PROTECT REGIONS adds to the mask,
UNPROTECT REGIONS takes from it while the window is open or in COMMISSION, the empty set is DONE at any time and changes
nothing, a region outside A to D is refused, and CLOSE WINDOW closes the window, told by WINDOW CLOSED, with
its cause in the order of the text (log entry 8). -/
def Obligations.LocksProtectionAndWindow : Prop :=
  commandClass .setInstallLock = .settings ∧ commandClass .clearInstallLock = .lockout ∧
  (∀ c ∈ [Command.setInstallLock, .clearInstallLock], takesScope c = false ∧ takesTimes c = false) ∧
  ∀ (p : Port) (f : Frame) (q : Qualifier) (s : State),
    let ps := f.words.drop 1
    let rest := fun (t : State) => t.lamp = s.lamp ∧ t.power = s.power ∧ t.router = s.router ∧ t.geometry = s.geometry ∧
      t.room = s.room ∧ linkServed s.link t.link ∧ t.pending = s.pending
    let locks := fun (c : Command) (b : Bool) =>
      (storeBusy s [.lockPair] = true → exec (instrOf c p f) s = .next (after c p (refused .storeBusy) (begun p f s))) ∧
      (storeBusy s [.lockPair] = false → ∃ t, exec (instrOf c p f) s = .next t ∧
        answered c p f (doneQueued false []) s t ∧ t.lockout = { s.lockout with locked := b, mismatch := false } ∧
        sentToStore .lockPair (lockImage b) (portOrigin p) t ∧ storeServed s.store t.store ∧ rest t)
    (taken .setInstallLock p f q s → locks .setInstallLock true) ∧
    (taken .clearInstallLock p f q s →
      (s.lockout.mode = .normal → exec (.clearInstallLock p f) s =
        .next (after .clearInstallLock p (refused .wrongState) (begun p f s))) ∧
      (s.lockout.mode = .commission → locks .clearInstallLock false)) ∧
    (taken .protectRegions p f q s → 16 ≤ numAt ps 0 → exec (.protectRegions p f) s =
      .next (after .protectRegions p (refused .outOfRange) (begun p f s))) ∧
    (taken .unprotectRegions p f q s → 16 ≤ numAt ps 0 → exec (.unprotectRegions p f) s =
      .next (after .unprotectRegions p (refused .outOfRange) (begun p f s))) ∧
    (taken .protectRegions p f q s → ∀ m, Sys2Proof.Machine.setOf 4 (itemAt ps 0) = some m →
      ∃ t, exec (.protectRegions p f) s = .next t ∧
      answered .protectRegions p f done s t ∧ t.store.protect = s.store.protect ||| m ∧
      storeServed { s.store with protect := t.store.protect } t.store ∧ t.lockout = s.lockout ∧ rest t) ∧
    (taken .unprotectRegions p f q s → ∀ m, Sys2Proof.Machine.setOf 4 (itemAt ps 0) = some m →
      (m ≠ 0 → s.store.window = none → s.lockout.mode = .normal → exec (.unprotectRegions p f) s =
        .next (after .unprotectRegions p (refused .windowClosed) (begun p f s))) ∧
      ((m = 0 ∨ s.store.window ≠ none ∨ s.lockout.mode = .commission) → ∃ t, exec (.unprotectRegions p f) s = .next t ∧
        answered .unprotectRegions p f done s t ∧ t.store.protect = s.store.protect &&& ~~~ m ∧
        storeServed { s.store with protect := t.store.protect } t.store ∧ t.lockout = s.lockout ∧ rest t)) ∧
    (taken .closeWindow p f q s → ∃ t, exec (.closeWindow p f) s = .next t ∧ answered .closeWindow p f done s t ∧
      t.store.window = none ∧ (s.store.window ≠ none →
        told (some p) .windowClosed (portOrigin p) 1 (s.store.protect.setWidth 16) s t) ∧
      storeServed { s.store with window := none } t.store ∧ t.lockout = s.lockout ∧ rest t)

/-- STORE WIPE is refused REGION PROTECTED while B, C or D is protected and STORE BUSY while a wipe is in progress;
accepted, it answers STARTED, drops every entry of B, C and D from the queue and marks the wipe in progress, nothing
live changing. At the wipe's completion every record of B, C and D is its default with a good CRC, LAMP HISTORY and
the checkpoint slots are kept, the live copies are the defaults, the lock UNLOCKED, and WRITE DONE is told to the
requester with key 0xFFFE; its second word, none, is read so in log entry 18. -/
def Obligations.WipeGivesTheDefaults : Prop :=
  ∀ (p : Port) (f : Frame) (q : Qualifier) (s : State),
    let bcd := isProtected s .b = true ∨ isProtected s .c = true ∨ isProtected s .d = true
    (taken .storeWipe p f q s →
      (bcd → exec (.storeWipe p f) s = .next (after .storeWipe p (refused .regionProtected) (begun p f s))) ∧
      (¬ bcd → s.store.wipe ≠ none →
        exec (.storeWipe p f) s = .next (after .storeWipe p (refused .storeBusy) (begun p f s))) ∧
      (¬ bcd → s.store.wipe = none → ∃ t, exec (.storeWipe p f) s = .next t ∧
        answered .storeWipe p f (started []) s t ∧ t.store.wipe = some p ∧
        t.store.queue = s.store.queue.filter (fun e => keyRegion e.key == .a) ∧
        t.store.install = s.store.install ∧ t.store.room = s.store.room ∧ t.store.records = s.store.records ∧
        t.lamp = s.lamp ∧ t.power = s.power ∧ t.router = s.router ∧ t.geometry = s.geometry ∧ t.room = s.room ∧
        t.lockout = s.lockout)) ∧
    (∀ left, s.store.engine = .wiping left → ∃ t, exec .wipeCompletion s = .next t ∧ t.store.wipe = none ∧
      (∀ r, s.store.wipe = some r → told (some r) .writeDone (portOrigin r) 0xFFFE 0xFFFF s t) ∧
      t.store.records[(0 : Fin 101)] = s.store.records[(0 : Fin 101)] ∧
      (∀ i : Fin 101, i ≠ 0 → t.store.records[i] = sealed (defaultImage (recordKey i)) ∧
        validRecord t.store.records[i] = true) ∧
      t.store.slots = s.store.slots ∧ t.store.install = defaultInstall ∧ t.store.room = defaultRoom ∧
      (∀ n : Fin 8, t.router.sources[n] = defaultSource ∧ t.lockout.profiles[n] = defaultProfile) ∧
      (∀ n : Fin 16, t.geometry.presets[n] = defaultPreset) ∧ (∀ n : Fin 64, t.room.bookings[n] = none) ∧
      t.room.exceptions = [] ∧ t.lockout.locked = false ∧ t.lockout.mismatch = false ∧
      t.lamp.history = s.lamp.history ∧ t.lockout.serviceEnabled = s.lockout.serviceEnabled)

/-- A record image holds its record: reading back the image that the store writes gives the record, for every booking,
source entry, preset, profile, INSTALL RECORD, ROOM DEFAULTS, LOCK PAIR, exception list, lamp history and lamp
account, with a previous lamp or without, whose fields are within their values. Every BOOKING image has one length, a
free slot's too. The layout of the images is the model's reading (log entry 23). -/
def Obligations.RecordImagesReadBack : Prop :=
  (∀ b : Booking, (match b.kind with
      | .oneOff d => d ≤ 65535
      | .weekly _ first last => first ≤ 65535 ∧ ∀ l, last = some l → l ≤ 65535) →
    b.startMinute ≤ 1430 → b.endMinute ≤ 1440 → b.lead ≤ 30 → b.grace ≤ 60 → b.title.length ≤ 16 →
    bookingOf (bookingImage (some b)) = some b ∧
      (bookingImage (some b)).length = (bookingImage none).length) ∧
  bookingOf (bookingImage none) = none ∧
  (∀ e : SourceEntry, e.name.length ≤ 12 → sourceOf (sourceImage e) = e) ∧
  (∀ x : Preset, x.name.length ≤ 12 → (∀ i, i ∈ [x.kv, x.kh, x.tl.tx, x.tl.ty, x.tr.tx, x.tr.ty, x.bl.tx, x.bl.ty,
      x.br.tx, x.br.ty] → -64 ≤ i ∧ i ≤ 64) → presetOf (presetImage x) = x) ∧
  (∀ k : Profile, profileOf (profileImage k) = k) ∧
  (∀ r : InstallRecord, r.ratedLife ≤ 65535 → r.coolingTime ≤ 65535 → r.warmingTime ≤ 65535 → r.retryCount ≤ 65535 →
    installOf (installImage r) = r) ∧
  (∀ r : RoomDefaults, r.settleTime ≤ 65535 → r.noSignal ≤ 65535 → r.blankDim ≤ 65535 → r.bridgeGap ≤ 65535 →
    roomOf (roomImage r) = r) ∧
  (∀ b : Bool, lockOf (lockImage b) = (b, false)) ∧
  (∀ l : List Occurrence, l.length ≤ 32 → (∀ o, o ∈ l → o.day ≤ 65535) → exceptionsOf (exceptionsImage l) = l) ∧
  (let within := fun (x : Summary) => (∀ n, n ∈ [x.serial, x.burnSeconds, x.strikes, x.finalWear] → n ≤ 4294967295) ∧
     ∀ d, x.removedDay = some d → d ≤ 65535
   (∀ h : List Summary, h.length ≤ 4 → (∀ x, x ∈ h → within x) → historyOf (historyImage h) = h) ∧
   (∀ a : Account, (∀ x, a.previous = some x → within x) → (∀ d, a.installedDay = some d → d ≤ 65535) →
     (∀ n, n ∈ [a.serial, a.wear, a.secNormal, a.secEco, a.coldStrikes, a.hotStrikes, a.failedStrikes, a.totalSeconds,
       a.totalStrikes] → n ≤ 4294967295) → accountOf (accountImage a) = a))

/-- What a master clocks in is read as the command it names: a header of a command's code and a count, then the words,
is that command's row; and a valid head message, an ACK, a REPORT, a STRIKE RESULT or a FORMAT, is read as its row,
the check byte being the one the transmitter forms. -/
def Obligations.FramesAndMessagesAreReadAsTheirRows : Prop :=
  (∀ (c : Command) (p : Port) (n : Byte) (ws : List Word),
    periodEvent p ((commandCode c ++ n) :: ws) false = some (instrOf c p { count := n, words := ws })) ∧
  (∀ (p : Port) (ws : List Word) (m : Bool), periodEvent p (0 :: ws) m = some (.readWordPeriod p ⟨ws.length + 1, m⟩)) ∧
  (∀ (p : Port) (h : Word) (ws : List Word), h ≠ 0 →
    periodEvent p (h :: ws) true = some (.frameDiscarded p (ws.length + 1))) ∧
  (∀ (tag : BitVec 3) (ok : Bool),
    receive 8 (frameBytes tag 0x10 [if ok then 0 else 1]) = [.ack tag ok]) ∧
  (∀ (tag : BitVec 3) (w h : Word) (r : Byte),
    receive 16 (frameBytes tag 0x13 [w.extractLsb' 8 8, w.extractLsb' 0 8, h.extractLsb' 8 8, h.extractLsb' 0 8, r]) =
      [.format w h r]) ∧
  (∀ (tag : BitVec 3) (ok : Bool), receive 8 (frameBytes tag 0x12 [if ok then 0 else 1]) = [.strikeResult ok]) ∧
  (∀ (tag : BitVec 3) (r : Report) (any : Byte),
    let lamp : Byte := match r.lamp with
      | .dark => 0
      | .striking => 1
      | .lit => 2
    let flags : Byte := (if r.hot then 1 else 0) ||| (if r.shutterClosed then 2 else 0) |||
      (if r.restarted then 4 else 0) ||| (if r.committed.isSome then 8 else 0)
    let temperature : Byte := match r.temperature with
      | .ok => 0
      | .warm => 1
      | .over => 2
    receive 16 (frameBytes tag 0x11 [lamp, flags, temperature, r.committed.getD any]) = [.report r])
end

