-- ==== Sys2Proof/Laws/State.lean ====
section
/-! SUPPORT. The fields that an update of the state leaves, so that no proof unfolds one: ports and their replacement, the
ports without their queues, and folds. -/

namespace Sys2Proof.Machine

/-- A fold of steps that each keep a quantity keeps it. -/
theorem foldl_keeps {α β γ : Type} (p : β → γ) (g : β → α → β) (l : List α) (s : β) (h : ∀ b a, p (g b a) = p b) :
    p (l.foldl g s) = p s := by
  induction l generalizing s with
  | nil => rfl
  | cons a r ih => simp [ih, h]

/-! ## Equality of the blocks, field by field -/

theorem LampUnit.eq_iff (a b : LampUnit) : a = b ↔ a.account = b.account ∧ a.level = b.level ∧ a.newest = b.newest ∧
    a.tally = b.tally ∧ a.burn = b.burn ∧ a.normalSeen = b.normalSeen ∧ a.hotWindow = b.hotWindow ∧ a.cadence =
    b.cadence ∧ a.replaceInFlight = b.replaceInFlight ∧ a.history = b.history := by
  cases a; cases b; simp

theorem PowerUnit.eq_iff (a b : PowerUnit) : a = b ↔ a.state = b.state ∧ a.step = b.step ∧ a.attempt = b.attempt ∧
    a.restartPending = b.restartPending ∧ a.offPending = b.offPending ∧ a.ignitionOrigin = b.ignitionOrigin ∧
    a.offOrigin = b.offOrigin ∧ a.thermalHold = b.thermalHold ∧ a.shutter = b.shutter ∧ a.momentaryMode =
    b.momentaryMode ∧ a.effectiveMode = b.effectiveMode ∧ a.modeEvaluated = b.modeEvaluated ∧ a.strikeTimer =
    b.strikeTimer ∧ a.pauseTimer = b.pauseTimer ∧ a.warmingTimer = b.warmingTimer ∧ a.coolingTimer = b.coolingTimer ∧
    a.blankDim = b.blankDim ∧ a.dimmed = b.dimmed ∧ a.reportWait = b.reportWait := by
  cases a; cases b; simp

theorem LinkUnit.eq_iff (a b : LinkUnit) : a = b ↔ a.state = b.state ∧ a.silence = b.silence ∧ a.outstanding =
    b.outstanding ∧ a.answer = b.answer ∧ a.nextTag = b.nextTag ∧ a.control = b.control ∧ a.lane = b.lane ∧
    a.reportImage = b.reportImage ∧ a.lastFormat = b.lastFormat ∧ a.lastRejection = b.lastRejection ∧ a.lostFor =
    b.lostFor ∧ a.sinceMessage = b.sinceMessage ∧ a.lastSet = b.lastSet ∧ a.receiver = b.receiver ∧ a.transmit =
    b.transmit := by
  cases a; cases b; simp

theorem RouterUnit.eq_iff (a b : RouterUnit) : a = b ↔ a.sources = b.sources ∧ a.raw = b.raw ∧ a.debounced =
    b.debounced ∧ a.stability = b.stability ∧ a.sample = b.sample ∧ a.requested = b.requested ∧ a.routedInput =
    b.routedInput ∧ a.routedSource = b.routedSource ∧ a.state = b.state ∧ a.format = b.format ∧ a.chain = b.chain ∧
    a.pendingSlot = b.pendingSlot ∧ a.deferred = b.deferred ∧ a.settle = b.settle ∧ a.settleOrigin = b.settleOrigin ∧
    a.noSignal = b.noSignal ∧ a.resolved = b.resolved := by
  cases a; cases b; simp

theorem GeometryUnit.eq_iff (a b : GeometryUnit) : a = b ↔ a.presets = b.presets ∧ a.overlay = b.overlay ∧ a.momentary
    = b.momentary ∧ a.routed = b.routed ∧ a.format = b.format ∧ a.started = b.started ∧ a.active = b.active ∧
    a.current = b.current ∧ a.setNumber = b.setNumber ∧ a.status = b.status ∧ a.commitAcked = b.commitAcked ∧
    a.keptResend = b.keptResend := by
  cases a; cases b; simp

theorem RoomUnit.eq_iff (a b : RoomUnit) : a = b ↔ a.clock = b.clock ∧ a.phase = b.phase ∧ a.bookings = b.bookings ∧
    a.exceptions = b.exceptions ∧ a.state = b.state ∧ a.current = b.current ∧ a.extension = b.extension ∧ a.taken =
    b.taken ∧ a.scheduleBlank = b.scheduleBlank := by
  cases a; cases b; simp

theorem LockoutUnit.eq_iff (a b : LockoutUnit) : a = b ↔ a.profiles = b.profiles ∧ a.hold = b.hold ∧ a.serviceEnabled
    = b.serviceEnabled ∧ a.locked = b.locked ∧ a.mismatch = b.mismatch ∧ a.mode = b.mode ∧ a.active = b.active ∧
    a.effective = b.effective := by
  cases a; cases b; simp

theorem StoreUnit.eq_iff (a b : StoreUnit) : a = b ↔ a.slots = b.slots ∧ a.records = b.records ∧ a.loaded = b.loaded ∧
    a.install = b.install ∧ a.room = b.room ∧ a.protect = b.protect ∧ a.window = b.window ∧ a.queue = b.queue ∧
    a.engine = b.engine ∧ a.wipe = b.wipe := by
  cases a; cases b; simp

theorem State.eq_iff (a b : State) : a = b ↔ a.ports = b.ports ∧ a.lamp = b.lamp ∧ a.power = b.power ∧ a.link = b.link
    ∧ a.router = b.router ∧ a.geometry = b.geometry ∧ a.room = b.room ∧ a.lockout = b.lockout ∧ a.store = b.store ∧
    a.free = b.free ∧ a.pending = b.pending := by
  cases a; cases b; simp

/-! ## Ports -/

@[simp] theorem setPort_frame (s : State) (p : Port) (x : PortState) : (setPort s p x).lamp = s.lamp ∧
    (setPort s p x).power = s.power ∧ (setPort s p x).link = s.link ∧ (setPort s p x).router = s.router ∧
    (setPort s p x).geometry = s.geometry ∧ (setPort s p x).room = s.room ∧ (setPort s p x).lockout = s.lockout ∧
    (setPort s p x).store = s.store ∧ (setPort s p x).free = s.free ∧ (setPort s p x).pending = s.pending :=
  ⟨rfl, rfl, rfl, rfl, rfl, rfl, rfl, rfl, rfl, rfl⟩

@[simp] theorem portOf_setPort_self (s : State) (p : Port) (x : PortState) : portOf (setPort s p x) p = x := by
  cases p <;> rfl

theorem portOf_setPort_other (s : State) (p r : Port) (x : PortState) (h : r ≠ p) :
    portOf (setPort s p x) r = portOf s r := by
  cases p <;> cases r <;> first | rfl | exact absurd rfl h

@[simp] theorem setPort_setPort (s : State) (p : Port) (x y : PortState) :
    setPort (setPort s p x) p y = setPort s p y := by cases p <;> rfl

@[simp] theorem setPort_portOf (s : State) (p : Port) : setPort s p (portOf s p) = s := by cases p <;> rfl

/-- A port is a function of the three ports. -/
theorem portOf_congr (s t : State) (h : s.ports = t.ports) (p : Port) : portOf s p = portOf t p := by
  cases p <;> simp [portOf, h]

@[simp] theorem quietPort_notices (x : PortState) (l : List Notice) : quietPort { x with notices := l } = quietPort x :=
  rfl

@[simp] theorem quietPort_quietPort (x : PortState) : quietPort (quietPort x) = quietPort x := rfl

@[simp] theorem quietPorts_deliver (d : Option Port) (n : Notice) (a b c : PortState) :
    quietPorts ⟨deliver d n .lectern a, deliver d n .facility b, deliver d n .service c⟩ = quietPorts ⟨a, b, c⟩ := rfl

/-- The three ports without their queues are each port without its queue. -/
theorem quietPorts_eq_iff (s t : State) :
    quietPorts s.ports = quietPorts t.ports ↔ ∀ p : Port, quietPort (portOf s p) = quietPort (portOf t p) := by
  constructor
  · intro h p
    have h' := Ports.mk.inj h
    cases p
    · exact h'.1
    · exact h'.2.1
    · exact h'.2.2
  · intro h
    simp only [quietPorts, Ports.mk.injEq]
    exact ⟨h .lectern, h .facility, h .service⟩

/-- A replaced port counts for its quiet part alone. -/
theorem quietPorts_setPort (s t : State) (p : Port) (x y : PortState) (h : quietPorts s.ports = quietPorts t.ports)
    (hx : quietPort x = quietPort y) : quietPorts (setPort s p x).ports = quietPorts (setPort t p y).ports := by
  rw [quietPorts_eq_iff] at h ⊢
  intro r
  by_cases hr : r = p
  · subst hr; simpa using hx
  · simpa [portOf_setPort_other _ _ _ _ hr] using h r

/-! ## Notices (R172) -/

/-- What a queue is after a notice joins it (R172). -/
theorem joinQueue_eq (q : List Notice) (n : Notice) :
    joinQueue q n = if 16 ≤ q.length then q.drop (q.length - 15) ++ [{ n with lostBefore := true }]
      else q ++ [{ n with lostBefore := false }] := rfl

/-- No queue comes to hold more than 16 (R172). -/
theorem joinQueue_length (q : List Notice) (n : Notice) : (joinQueue q n).length ≤ 16 := by
  unfold joinQueue
  split <;> simp <;> omega

/-! ## The relations of the statements, field by field -/

/-- Serving the control lane leaves ten fields of the link. -/
theorem linkServed_iff (a b : LinkUnit) : linkServed a b ↔ b.state = a.state ∧ b.silence = a.silence ∧ b.lane = a.lane ∧
    b.reportImage = a.reportImage ∧ b.lastFormat = a.lastFormat ∧ b.lastRejection = a.lastRejection ∧
    b.lostFor = a.lostFor ∧ b.sinceMessage = a.sinceMessage ∧ b.lastSet = a.lastSet ∧ b.receiver = a.receiver := by
  unfold linkServed
  rw [LinkUnit.mk.injEq]
  simp only [true_and, and_true]

/-- Serving the queue leaves eight fields of the store. -/
theorem storeServed_iff (a b : StoreUnit) : storeServed a b ↔ b.slots = a.slots ∧ b.records = a.records ∧
    b.loaded = a.loaded ∧ b.install = a.install ∧ b.room = a.room ∧ b.protect = a.protect ∧ b.window = a.window ∧
    b.wipe = a.wipe := by
  unfold storeServed
  rw [StoreUnit.mk.injEq]
  simp only [true_and]

theorem linkServed_refl (a : LinkUnit) : linkServed a a := rfl

theorem storeServed_refl (a : StoreUnit) : storeServed a a := rfl

end Sys2Proof.Machine
end

