-- ==== Sys2Proof/Laws/Frames.lean ====
section
/-! SUPPORT. What each operation of the machine leaves unchanged: one lemma for each operation, its clauses simp rules, in
the order of the definitions. -/

namespace Sys2Proof.Machine

set_option linter.unusedTactic false
set_option linter.unreachableTactic false

/-! ## Ops -/

@[simp] theorem postTo_frame (dest : Option Port) (kind : NoticeKind) (origin : Origin) (first second : Option Word) (s : State) :
    quietPorts (postTo dest kind origin first second s).ports = quietPorts s.ports ∧
    (postTo dest kind origin first second s).lamp = s.lamp ∧
    (postTo dest kind origin first second s).power = s.power ∧
    (postTo dest kind origin first second s).link = s.link ∧
    (postTo dest kind origin first second s).router = s.router ∧
    (postTo dest kind origin first second s).geometry = s.geometry ∧
    (postTo dest kind origin first second s).room = s.room ∧
    (postTo dest kind origin first second s).lockout = s.lockout ∧
    (postTo dest kind origin first second s).store = s.store ∧
    (postTo dest kind origin first second s).pending = s.pending := by
  unfold postTo; try dsimp only
  all_goals (repeat' split)
  all_goals first | (simp; done) | (simp_all; done) | rfl

@[simp] theorem postFor_frame (kind : NoticeKind) (origin : Origin) (first second : Option Word) (s : State) :
    quietPorts (postFor kind origin first second s).ports = quietPorts s.ports ∧
    (postFor kind origin first second s).lamp = s.lamp ∧ (postFor kind origin first second s).power = s.power ∧
    (postFor kind origin first second s).link = s.link ∧ (postFor kind origin first second s).router = s.router ∧
    (postFor kind origin first second s).geometry = s.geometry ∧ (postFor kind origin first second s).room = s.room ∧
    (postFor kind origin first second s).lockout = s.lockout ∧ (postFor kind origin first second s).store = s.store ∧
    (postFor kind origin first second s).pending = s.pending := by
  unfold postFor; try dsimp only
  all_goals (repeat' split)
  all_goals first | (simp; done) | (simp_all; done) | rfl

@[simp] theorem post_frame (kind : NoticeKind) (origin : Origin) (first second : Option Word) (s : State) :
    quietPorts (post kind origin first second s).ports = quietPorts s.ports ∧
    (post kind origin first second s).lamp = s.lamp ∧ (post kind origin first second s).power = s.power ∧
    (post kind origin first second s).link = s.link ∧ (post kind origin first second s).router = s.router ∧
    (post kind origin first second s).geometry = s.geometry ∧ (post kind origin first second s).room = s.room ∧
    (post kind origin first second s).lockout = s.lockout ∧ (post kind origin first second s).store = s.store ∧
    (post kind origin first second s).pending = s.pending := by
  unfold post; try dsimp only
  all_goals (repeat' split)
  all_goals first | (simp; done) | (simp_all; done) | rfl

@[simp] theorem postDropped_frame (k : Key) (cause : Nat) (o : Origin) (s : State) :
    quietPorts (postDropped k cause o s).ports = quietPorts s.ports ∧ (postDropped k cause o s).lamp = s.lamp ∧
    (postDropped k cause o s).power = s.power ∧ (postDropped k cause o s).link = s.link ∧
    (postDropped k cause o s).router = s.router ∧ (postDropped k cause o s).geometry = s.geometry ∧
    (postDropped k cause o s).room = s.room ∧ (postDropped k cause o s).lockout = s.lockout ∧
    (postDropped k cause o s).store = s.store ∧ (postDropped k cause o s).pending = s.pending := by
  unfold postDropped; try dsimp only
  all_goals (repeat' split)
  all_goals first | (simp; done) | (simp_all; done) | rfl

@[simp] theorem queueEntry_frame (e : Entry) (s : State) :
    quietPorts (queueEntry e s).ports = quietPorts s.ports ∧ (queueEntry e s).lamp = s.lamp ∧
    (queueEntry e s).power = s.power ∧ (queueEntry e s).link = s.link ∧ (queueEntry e s).router = s.router ∧
    (queueEntry e s).geometry = s.geometry ∧ (queueEntry e s).room = s.room ∧ (queueEntry e s).lockout = s.lockout ∧
    (queueEntry e s).store.slots = s.store.slots ∧ (queueEntry e s).store.records = s.store.records ∧
    (queueEntry e s).store.loaded = s.store.loaded ∧ (queueEntry e s).store.install = s.store.install ∧
    (queueEntry e s).store.room = s.store.room ∧ (queueEntry e s).store.protect = s.store.protect ∧
    (queueEntry e s).store.window = s.store.window ∧ (queueEntry e s).store.engine = s.store.engine ∧
    (queueEntry e s).store.wipe = s.store.wipe ∧ (queueEntry e s).pending = s.pending := by
  unfold queueEntry; try dsimp only
  all_goals (repeat' split)
  all_goals first | (simp; done) | (simp_all; done) | rfl

@[simp] theorem queueLive_frame (k : Key) (o : Origin) (s : State) :
    quietPorts (queueLive k o s).ports = quietPorts s.ports ∧ (queueLive k o s).lamp = s.lamp ∧
    (queueLive k o s).power = s.power ∧ (queueLive k o s).link = s.link ∧ (queueLive k o s).router = s.router ∧
    (queueLive k o s).geometry = s.geometry ∧ (queueLive k o s).room = s.room ∧
    (queueLive k o s).lockout = s.lockout ∧ (queueLive k o s).store.slots = s.store.slots ∧
    (queueLive k o s).store.records = s.store.records ∧ (queueLive k o s).store.loaded = s.store.loaded ∧
    (queueLive k o s).store.install = s.store.install ∧ (queueLive k o s).store.room = s.store.room ∧
    (queueLive k o s).store.protect = s.store.protect ∧ (queueLive k o s).store.window = s.store.window ∧
    (queueLive k o s).store.engine = s.store.engine ∧ (queueLive k o s).store.wipe = s.store.wipe ∧
    (queueLive k o s).pending = s.pending := by
  unfold queueLive; try dsimp only
  all_goals (repeat' split)
  all_goals first | (simp; done) | (simp_all; done) | rfl

@[simp] theorem queueOwn_frame (k : Key) (o : Origin) (s : State) :
    quietPorts (queueOwn k o s).ports = quietPorts s.ports ∧ (queueOwn k o s).lamp = s.lamp ∧
    (queueOwn k o s).power = s.power ∧ (queueOwn k o s).link = s.link ∧ (queueOwn k o s).router = s.router ∧
    (queueOwn k o s).geometry = s.geometry ∧ (queueOwn k o s).room = s.room ∧ (queueOwn k o s).lockout = s.lockout ∧
    (queueOwn k o s).store.slots = s.store.slots ∧ (queueOwn k o s).store.records = s.store.records ∧
    (queueOwn k o s).store.loaded = s.store.loaded ∧ (queueOwn k o s).store.install = s.store.install ∧
    (queueOwn k o s).store.room = s.store.room ∧ (queueOwn k o s).store.protect = s.store.protect ∧
    (queueOwn k o s).store.window = s.store.window ∧ (queueOwn k o s).store.engine = s.store.engine ∧
    (queueOwn k o s).store.wipe = s.store.wipe ∧ (queueOwn k o s).pending = s.pending := by
  unfold queueOwn; try dsimp only
  all_goals (repeat' split)
  all_goals first | (simp; done) | (simp_all; done) | rfl

@[simp] theorem takeEntries_frame (q : List Entry) (s : State) : quietPorts (takeEntries q s).ports = quietPorts s.ports ∧
    (takeEntries q s).lamp = s.lamp ∧ (takeEntries q s).power = s.power ∧ (takeEntries q s).link = s.link ∧
    (takeEntries q s).router = s.router ∧ (takeEntries q s).geometry = s.geometry ∧ (takeEntries q s).room = s.room ∧
    (takeEntries q s).lockout = s.lockout ∧ (takeEntries q s).store.slots = s.store.slots ∧
    (takeEntries q s).store.records = s.store.records ∧ (takeEntries q s).store.loaded = s.store.loaded ∧
    (takeEntries q s).store.install = s.store.install ∧ (takeEntries q s).store.room = s.store.room ∧
    (takeEntries q s).store.protect = s.store.protect ∧ (takeEntries q s).store.window = s.store.window ∧
    (takeEntries q s).store.wipe = s.store.wipe ∧ (takeEntries q s).pending = s.pending := by
  induction q generalizing s with
  | nil => exact ⟨rfl, rfl, rfl, rfl, rfl, rfl, rfl, rfl, rfl, rfl, rfl, rfl, rfl, rfl, rfl, rfl, rfl⟩
  | cons e r ih =>
    simp only [takeEntries]
    split
    · simp [ih]
    · exact ⟨rfl, rfl, rfl, rfl, rfl, rfl, rfl, rfl, rfl, rfl, rfl, rfl, rfl, rfl, rfl, rfl, rfl⟩

@[simp] theorem runEngine_frame (s : State) :
    quietPorts (runEngine s).ports = quietPorts s.ports ∧ (runEngine s).lamp = s.lamp ∧
    (runEngine s).power = s.power ∧ (runEngine s).link = s.link ∧ (runEngine s).router = s.router ∧
    (runEngine s).geometry = s.geometry ∧ (runEngine s).room = s.room ∧ (runEngine s).lockout = s.lockout ∧
    (runEngine s).store.slots = s.store.slots ∧ (runEngine s).store.records = s.store.records ∧
    (runEngine s).store.loaded = s.store.loaded ∧ (runEngine s).store.install = s.store.install ∧
    (runEngine s).store.room = s.store.room ∧ (runEngine s).store.protect = s.store.protect ∧
    (runEngine s).store.window = s.store.window ∧ (runEngine s).store.wipe = s.store.wipe ∧
    (runEngine s).pending = s.pending := by
  unfold runEngine; try dsimp only
  all_goals (repeat' split)
  all_goals first | (simp; done) | (simp_all; done) | rfl

@[simp] theorem handControl_frame (m : ControlMsg) (s : State) :
    (handControl m s).ports = s.ports ∧ (handControl m s).lamp = s.lamp ∧ (handControl m s).power = s.power ∧
    (handControl m s).link.state = s.link.state ∧ (handControl m s).link.silence = s.link.silence ∧
    (handControl m s).link.outstanding = s.link.outstanding ∧ (handControl m s).link.answer = s.link.answer ∧
    (handControl m s).link.nextTag = s.link.nextTag ∧ (handControl m s).link.lane = s.link.lane ∧
    (handControl m s).link.reportImage = s.link.reportImage ∧ (handControl m s).link.lastFormat = s.link.lastFormat ∧
    (handControl m s).link.lastRejection = s.link.lastRejection ∧ (handControl m s).link.lostFor = s.link.lostFor ∧
    (handControl m s).link.sinceMessage = s.link.sinceMessage ∧ (handControl m s).link.lastSet = s.link.lastSet ∧
    (handControl m s).link.receiver = s.link.receiver ∧ (handControl m s).link.transmit = s.link.transmit ∧
    (handControl m s).router = s.router ∧ (handControl m s).geometry = s.geometry ∧ (handControl m s).room = s.room ∧
    (handControl m s).lockout = s.lockout ∧ (handControl m s).store = s.store ∧ (handControl m s).free = s.free ∧
    (handControl m s).pending = s.pending := by
  unfold handControl; try dsimp only
  all_goals (repeat' split)
  all_goals first | (simp; done) | (simp_all; done) | rfl

@[simp] theorem handSet_frame (g : GeomSet) (s : State) :
    (handSet g s).ports = s.ports ∧ (handSet g s).lamp = s.lamp ∧ (handSet g s).power = s.power ∧
    (handSet g s).link.state = s.link.state ∧ (handSet g s).link.silence = s.link.silence ∧
    (handSet g s).link.answer = s.link.answer ∧ (handSet g s).link.nextTag = s.link.nextTag ∧
    (handSet g s).link.control = s.link.control ∧ (handSet g s).link.reportImage = s.link.reportImage ∧
    (handSet g s).link.lastFormat = s.link.lastFormat ∧ (handSet g s).link.lastRejection = s.link.lastRejection ∧
    (handSet g s).link.lostFor = s.link.lostFor ∧ (handSet g s).link.sinceMessage = s.link.sinceMessage ∧
    (handSet g s).link.receiver = s.link.receiver ∧ (handSet g s).link.transmit = s.link.transmit ∧
    (handSet g s).router = s.router ∧ (handSet g s).geometry = s.geometry ∧ (handSet g s).room = s.room ∧
    (handSet g s).lockout = s.lockout ∧ (handSet g s).store = s.store ∧ (handSet g s).free = s.free ∧
    (handSet g s).pending = s.pending := by
  unfold handSet; try dsimp only
  all_goals (repeat' split)
  all_goals first | (simp; done) | (simp_all; done) | rfl

@[simp] theorem sendMessage_frame (m : HeadMsg) (ofLane : Bool) (s : State) :
    (sendMessage m ofLane s).ports = s.ports ∧ (sendMessage m ofLane s).lamp = s.lamp ∧
    (sendMessage m ofLane s).power = s.power ∧ (sendMessage m ofLane s).link.state = s.link.state ∧
    (sendMessage m ofLane s).link.silence = s.link.silence ∧ (sendMessage m ofLane s).link.control = s.link.control ∧
    (sendMessage m ofLane s).link.lane = s.link.lane ∧
    (sendMessage m ofLane s).link.reportImage = s.link.reportImage ∧
    (sendMessage m ofLane s).link.lastFormat = s.link.lastFormat ∧
    (sendMessage m ofLane s).link.lastRejection = s.link.lastRejection ∧
    (sendMessage m ofLane s).link.lostFor = s.link.lostFor ∧
    (sendMessage m ofLane s).link.sinceMessage = s.link.sinceMessage ∧
    (sendMessage m ofLane s).link.lastSet = s.link.lastSet ∧
    (sendMessage m ofLane s).link.receiver = s.link.receiver ∧ (sendMessage m ofLane s).router = s.router ∧
    (sendMessage m ofLane s).geometry = s.geometry ∧ (sendMessage m ofLane s).room = s.room ∧
    (sendMessage m ofLane s).lockout = s.lockout ∧ (sendMessage m ofLane s).store = s.store ∧
    (sendMessage m ofLane s).free = s.free ∧ (sendMessage m ofLane s).pending = s.pending := by
  unfold sendMessage; try dsimp only
  all_goals (repeat' split)
  all_goals first | (simp; done) | (simp_all; done) | rfl

@[simp] theorem serveLink_frame (s : State) :
    (serveLink s).ports = s.ports ∧ (serveLink s).lamp = s.lamp ∧ (serveLink s).power = s.power ∧
    (serveLink s).link.state = s.link.state ∧ (serveLink s).link.silence = s.link.silence ∧
    (serveLink s).link.lane = s.link.lane ∧ (serveLink s).link.reportImage = s.link.reportImage ∧
    (serveLink s).link.lastFormat = s.link.lastFormat ∧ (serveLink s).link.lastRejection = s.link.lastRejection ∧
    (serveLink s).link.lostFor = s.link.lostFor ∧ (serveLink s).link.sinceMessage = s.link.sinceMessage ∧
    (serveLink s).link.lastSet = s.link.lastSet ∧ (serveLink s).link.receiver = s.link.receiver ∧
    (serveLink s).router = s.router ∧ (serveLink s).geometry = s.geometry ∧ (serveLink s).room = s.room ∧
    (serveLink s).lockout = s.lockout ∧ (serveLink s).store = s.store ∧ (serveLink s).free = s.free ∧
    (serveLink s).pending = s.pending := by
  unfold serveLink; try dsimp only
  all_goals (repeat' split)
  all_goals first | (simp; done) | (simp_all; done) | rfl

@[simp] theorem finish_frame (s : State) :
    quietPorts (finish s).ports = quietPorts s.ports ∧ (finish s).lamp = s.lamp ∧ (finish s).power = s.power ∧
    (finish s).link.state = s.link.state ∧ (finish s).link.silence = s.link.silence ∧
    (finish s).link.lane = s.link.lane ∧ (finish s).link.reportImage = s.link.reportImage ∧
    (finish s).link.lastFormat = s.link.lastFormat ∧ (finish s).link.lastRejection = s.link.lastRejection ∧
    (finish s).link.lostFor = s.link.lostFor ∧ (finish s).link.sinceMessage = s.link.sinceMessage ∧
    (finish s).link.lastSet = s.link.lastSet ∧ (finish s).link.receiver = s.link.receiver ∧
    (finish s).router = s.router ∧ (finish s).geometry = s.geometry ∧ (finish s).room = s.room ∧
    (finish s).lockout = s.lockout ∧ (finish s).store.slots = s.store.slots ∧
    (finish s).store.records = s.store.records ∧ (finish s).store.loaded = s.store.loaded ∧
    (finish s).store.install = s.store.install ∧ (finish s).store.room = s.store.room ∧
    (finish s).store.protect = s.store.protect ∧ (finish s).store.window = s.store.window ∧
    (finish s).store.wipe = s.store.wipe ∧ (finish s).pending = s.pending := by
  unfold finish; try dsimp only
  all_goals (repeat' split)
  all_goals first | (simp; done) | (simp_all; done) | rfl

/-! ## Operands -/

@[simp] theorem disregardPeriod_frame (p : Port) (whole : Nat) (s : State) :
    (disregardPeriod p whole s).lamp = s.lamp ∧ (disregardPeriod p whole s).power = s.power ∧
    (disregardPeriod p whole s).link = s.link ∧ (disregardPeriod p whole s).router = s.router ∧
    (disregardPeriod p whole s).geometry = s.geometry ∧ (disregardPeriod p whole s).room = s.room ∧
    (disregardPeriod p whole s).lockout = s.lockout ∧ (disregardPeriod p whole s).store = s.store ∧
    (disregardPeriod p whole s).free = s.free ∧ (disregardPeriod p whole s).pending = s.pending := by
  unfold disregardPeriod; try dsimp only
  all_goals (repeat' split)
  all_goals first | (simp; done) | (simp_all; done) | rfl

@[simp] theorem beginFrame_frame (p : Port) (whole : Nat) (s : State) :
    (beginFrame p whole s).lamp = s.lamp ∧ (beginFrame p whole s).power = s.power ∧
    (beginFrame p whole s).link = s.link ∧ (beginFrame p whole s).router = s.router ∧
    (beginFrame p whole s).geometry = s.geometry ∧ (beginFrame p whole s).room = s.room ∧
    (beginFrame p whole s).lockout = s.lockout ∧ (beginFrame p whole s).store = s.store ∧
    (beginFrame p whole s).free = s.free ∧ (beginFrame p whole s).pending = s.pending := by
  unfold beginFrame; try dsimp only
  all_goals (repeat' split)
  all_goals first | (simp; done) | (simp_all; done) | rfl

@[simp] theorem decideAnswer_frame (p : Port) (code : Byte) (a : Answer) (s : State) :
    (decideAnswer p code a s).lamp = s.lamp ∧ (decideAnswer p code a s).power = s.power ∧
    (decideAnswer p code a s).link = s.link ∧ (decideAnswer p code a s).router = s.router ∧
    (decideAnswer p code a s).geometry = s.geometry ∧ (decideAnswer p code a s).room = s.room ∧
    (decideAnswer p code a s).lockout = s.lockout ∧ (decideAnswer p code a s).store = s.store ∧
    (decideAnswer p code a s).free = s.free ∧ (decideAnswer p code a s).pending = s.pending := by
  unfold decideAnswer; try dsimp only
  all_goals (repeat' split)
  all_goals first | (simp; done) | (simp_all; done) | rfl

@[simp] theorem refuse_frame (r : Reason) (s : State) :
    (refuse r s).2.ports = s.ports ∧ (refuse r s).2.lamp = s.lamp ∧ (refuse r s).2.power = s.power ∧
    (refuse r s).2.link = s.link ∧ (refuse r s).2.router = s.router ∧ (refuse r s).2.geometry = s.geometry ∧
    (refuse r s).2.room = s.room ∧ (refuse r s).2.lockout = s.lockout ∧ (refuse r s).2.store = s.store ∧
    (refuse r s).2.free = s.free ∧ (refuse r s).2.pending = s.pending := by
  unfold refuse; try dsimp only
  all_goals (repeat' split)
  all_goals first | (simp; done) | (simp_all; done) | rfl

/-! ## Mode -/

@[simp] theorem applyMode_frame (m : LampMode) (s : State) :
    (applyMode m s).ports = s.ports ∧ (applyMode m s).lamp.account = s.lamp.account ∧
    (applyMode m s).lamp.level = s.lamp.level ∧ (applyMode m s).lamp.newest = s.lamp.newest ∧
    (applyMode m s).lamp.tally = s.lamp.tally ∧ (applyMode m s).lamp.burn = s.lamp.burn ∧
    (applyMode m s).lamp.hotWindow = s.lamp.hotWindow ∧ (applyMode m s).lamp.cadence = s.lamp.cadence ∧
    (applyMode m s).lamp.replaceInFlight = s.lamp.replaceInFlight ∧ (applyMode m s).lamp.history = s.lamp.history ∧
    (applyMode m s).power.state = s.power.state ∧ (applyMode m s).power.step = s.power.step ∧
    (applyMode m s).power.attempt = s.power.attempt ∧ (applyMode m s).power.restartPending = s.power.restartPending ∧
    (applyMode m s).power.offPending = s.power.offPending ∧
    (applyMode m s).power.ignitionOrigin = s.power.ignitionOrigin ∧
    (applyMode m s).power.offOrigin = s.power.offOrigin ∧ (applyMode m s).power.thermalHold = s.power.thermalHold ∧
    (applyMode m s).power.shutter = s.power.shutter ∧ (applyMode m s).power.momentaryMode = s.power.momentaryMode ∧
    (applyMode m s).power.modeEvaluated = s.power.modeEvaluated ∧
    (applyMode m s).power.strikeTimer = s.power.strikeTimer ∧ (applyMode m s).power.pauseTimer = s.power.pauseTimer ∧
    (applyMode m s).power.warmingTimer = s.power.warmingTimer ∧
    (applyMode m s).power.coolingTimer = s.power.coolingTimer ∧ (applyMode m s).power.blankDim = s.power.blankDim ∧
    (applyMode m s).power.dimmed = s.power.dimmed ∧ (applyMode m s).power.reportWait = s.power.reportWait ∧
    (applyMode m s).link.state = s.link.state ∧ (applyMode m s).link.silence = s.link.silence ∧
    (applyMode m s).link.outstanding = s.link.outstanding ∧ (applyMode m s).link.answer = s.link.answer ∧
    (applyMode m s).link.nextTag = s.link.nextTag ∧ (applyMode m s).link.lane = s.link.lane ∧
    (applyMode m s).link.reportImage = s.link.reportImage ∧ (applyMode m s).link.lastFormat = s.link.lastFormat ∧
    (applyMode m s).link.lastRejection = s.link.lastRejection ∧ (applyMode m s).link.lostFor = s.link.lostFor ∧
    (applyMode m s).link.sinceMessage = s.link.sinceMessage ∧ (applyMode m s).link.lastSet = s.link.lastSet ∧
    (applyMode m s).link.receiver = s.link.receiver ∧ (applyMode m s).link.transmit = s.link.transmit ∧
    (applyMode m s).router = s.router ∧ (applyMode m s).geometry = s.geometry ∧ (applyMode m s).room = s.room ∧
    (applyMode m s).lockout = s.lockout ∧ (applyMode m s).store = s.store ∧ (applyMode m s).free = s.free ∧
    (applyMode m s).pending = s.pending := by
  unfold applyMode; try dsimp only
  all_goals (repeat' split)
  all_goals first | (simp; done) | (simp_all; done) | rfl

@[simp] theorem evalLampMode_frame (s : State) :
    (evalLampMode s).ports = s.ports ∧ (evalLampMode s).lamp.account = s.lamp.account ∧
    (evalLampMode s).lamp.level = s.lamp.level ∧ (evalLampMode s).lamp.newest = s.lamp.newest ∧
    (evalLampMode s).lamp.tally = s.lamp.tally ∧ (evalLampMode s).lamp.burn = s.lamp.burn ∧
    (evalLampMode s).lamp.hotWindow = s.lamp.hotWindow ∧ (evalLampMode s).lamp.cadence = s.lamp.cadence ∧
    (evalLampMode s).lamp.replaceInFlight = s.lamp.replaceInFlight ∧ (evalLampMode s).lamp.history = s.lamp.history ∧
    (evalLampMode s).power.state = s.power.state ∧ (evalLampMode s).power.step = s.power.step ∧
    (evalLampMode s).power.attempt = s.power.attempt ∧
    (evalLampMode s).power.restartPending = s.power.restartPending ∧
    (evalLampMode s).power.offPending = s.power.offPending ∧
    (evalLampMode s).power.ignitionOrigin = s.power.ignitionOrigin ∧
    (evalLampMode s).power.offOrigin = s.power.offOrigin ∧ (evalLampMode s).power.thermalHold = s.power.thermalHold ∧
    (evalLampMode s).power.shutter = s.power.shutter ∧ (evalLampMode s).power.momentaryMode = s.power.momentaryMode ∧
    (evalLampMode s).power.modeEvaluated = s.power.modeEvaluated ∧
    (evalLampMode s).power.strikeTimer = s.power.strikeTimer ∧
    (evalLampMode s).power.pauseTimer = s.power.pauseTimer ∧
    (evalLampMode s).power.warmingTimer = s.power.warmingTimer ∧
    (evalLampMode s).power.coolingTimer = s.power.coolingTimer ∧ (evalLampMode s).power.blankDim = s.power.blankDim ∧
    (evalLampMode s).power.dimmed = s.power.dimmed ∧ (evalLampMode s).power.reportWait = s.power.reportWait ∧
    (evalLampMode s).link.state = s.link.state ∧ (evalLampMode s).link.silence = s.link.silence ∧
    (evalLampMode s).link.outstanding = s.link.outstanding ∧ (evalLampMode s).link.answer = s.link.answer ∧
    (evalLampMode s).link.nextTag = s.link.nextTag ∧ (evalLampMode s).link.lane = s.link.lane ∧
    (evalLampMode s).link.reportImage = s.link.reportImage ∧ (evalLampMode s).link.lastFormat = s.link.lastFormat ∧
    (evalLampMode s).link.lastRejection = s.link.lastRejection ∧ (evalLampMode s).link.lostFor = s.link.lostFor ∧
    (evalLampMode s).link.sinceMessage = s.link.sinceMessage ∧ (evalLampMode s).link.lastSet = s.link.lastSet ∧
    (evalLampMode s).link.receiver = s.link.receiver ∧ (evalLampMode s).link.transmit = s.link.transmit ∧
    (evalLampMode s).router = s.router ∧ (evalLampMode s).geometry = s.geometry ∧ (evalLampMode s).room = s.room ∧
    (evalLampMode s).lockout = s.lockout ∧ (evalLampMode s).store = s.store ∧ (evalLampMode s).free = s.free ∧
    (evalLampMode s).pending = s.pending := by
  unfold evalLampMode; try dsimp only
  all_goals (repeat' split)
  all_goals first | (simp; done) | (simp_all; done) | rfl

@[simp] theorem firstEvaluation_frame (s : State) :
    (firstEvaluation s).ports = s.ports ∧ (firstEvaluation s).lamp.account = s.lamp.account ∧
    (firstEvaluation s).lamp.level = s.lamp.level ∧ (firstEvaluation s).lamp.newest = s.lamp.newest ∧
    (firstEvaluation s).lamp.tally = s.lamp.tally ∧ (firstEvaluation s).lamp.burn = s.lamp.burn ∧
    (firstEvaluation s).lamp.hotWindow = s.lamp.hotWindow ∧ (firstEvaluation s).lamp.cadence = s.lamp.cadence ∧
    (firstEvaluation s).lamp.replaceInFlight = s.lamp.replaceInFlight ∧
    (firstEvaluation s).lamp.history = s.lamp.history ∧ (firstEvaluation s).power.state = s.power.state ∧
    (firstEvaluation s).power.step = s.power.step ∧ (firstEvaluation s).power.attempt = s.power.attempt ∧
    (firstEvaluation s).power.restartPending = s.power.restartPending ∧
    (firstEvaluation s).power.offPending = s.power.offPending ∧
    (firstEvaluation s).power.ignitionOrigin = s.power.ignitionOrigin ∧
    (firstEvaluation s).power.offOrigin = s.power.offOrigin ∧
    (firstEvaluation s).power.thermalHold = s.power.thermalHold ∧
    (firstEvaluation s).power.shutter = s.power.shutter ∧
    (firstEvaluation s).power.momentaryMode = s.power.momentaryMode ∧
    (firstEvaluation s).power.strikeTimer = s.power.strikeTimer ∧
    (firstEvaluation s).power.pauseTimer = s.power.pauseTimer ∧
    (firstEvaluation s).power.warmingTimer = s.power.warmingTimer ∧
    (firstEvaluation s).power.coolingTimer = s.power.coolingTimer ∧
    (firstEvaluation s).power.blankDim = s.power.blankDim ∧ (firstEvaluation s).power.dimmed = s.power.dimmed ∧
    (firstEvaluation s).power.reportWait = s.power.reportWait ∧ (firstEvaluation s).link.state = s.link.state ∧
    (firstEvaluation s).link.silence = s.link.silence ∧ (firstEvaluation s).link.outstanding = s.link.outstanding ∧
    (firstEvaluation s).link.answer = s.link.answer ∧ (firstEvaluation s).link.nextTag = s.link.nextTag ∧
    (firstEvaluation s).link.lane = s.link.lane ∧ (firstEvaluation s).link.reportImage = s.link.reportImage ∧
    (firstEvaluation s).link.lastFormat = s.link.lastFormat ∧
    (firstEvaluation s).link.lastRejection = s.link.lastRejection ∧
    (firstEvaluation s).link.lostFor = s.link.lostFor ∧ (firstEvaluation s).link.sinceMessage = s.link.sinceMessage ∧
    (firstEvaluation s).link.lastSet = s.link.lastSet ∧ (firstEvaluation s).link.receiver = s.link.receiver ∧
    (firstEvaluation s).link.transmit = s.link.transmit ∧ (firstEvaluation s).router = s.router ∧
    (firstEvaluation s).geometry = s.geometry ∧ (firstEvaluation s).room = s.room ∧
    (firstEvaluation s).lockout = s.lockout ∧ (firstEvaluation s).store = s.store ∧
    (firstEvaluation s).free = s.free ∧ (firstEvaluation s).pending = s.pending := by
  unfold firstEvaluation; try dsimp only
  all_goals (repeat' split)
  all_goals first | (simp; done) | (simp_all; done) | rfl

@[simp] theorem compareBlankDim_frame (s : State) :
    (compareBlankDim s).ports = s.ports ∧ (compareBlankDim s).lamp.account = s.lamp.account ∧
    (compareBlankDim s).lamp.level = s.lamp.level ∧ (compareBlankDim s).lamp.newest = s.lamp.newest ∧
    (compareBlankDim s).lamp.tally = s.lamp.tally ∧ (compareBlankDim s).lamp.burn = s.lamp.burn ∧
    (compareBlankDim s).lamp.hotWindow = s.lamp.hotWindow ∧ (compareBlankDim s).lamp.cadence = s.lamp.cadence ∧
    (compareBlankDim s).lamp.replaceInFlight = s.lamp.replaceInFlight ∧
    (compareBlankDim s).lamp.history = s.lamp.history ∧ (compareBlankDim s).power.state = s.power.state ∧
    (compareBlankDim s).power.step = s.power.step ∧ (compareBlankDim s).power.attempt = s.power.attempt ∧
    (compareBlankDim s).power.restartPending = s.power.restartPending ∧
    (compareBlankDim s).power.offPending = s.power.offPending ∧
    (compareBlankDim s).power.ignitionOrigin = s.power.ignitionOrigin ∧
    (compareBlankDim s).power.offOrigin = s.power.offOrigin ∧
    (compareBlankDim s).power.thermalHold = s.power.thermalHold ∧
    (compareBlankDim s).power.shutter = s.power.shutter ∧
    (compareBlankDim s).power.momentaryMode = s.power.momentaryMode ∧
    (compareBlankDim s).power.modeEvaluated = s.power.modeEvaluated ∧
    (compareBlankDim s).power.strikeTimer = s.power.strikeTimer ∧
    (compareBlankDim s).power.pauseTimer = s.power.pauseTimer ∧
    (compareBlankDim s).power.warmingTimer = s.power.warmingTimer ∧
    (compareBlankDim s).power.coolingTimer = s.power.coolingTimer ∧
    (compareBlankDim s).power.blankDim = s.power.blankDim ∧
    (compareBlankDim s).power.reportWait = s.power.reportWait ∧ (compareBlankDim s).link.state = s.link.state ∧
    (compareBlankDim s).link.silence = s.link.silence ∧ (compareBlankDim s).link.outstanding = s.link.outstanding ∧
    (compareBlankDim s).link.answer = s.link.answer ∧ (compareBlankDim s).link.nextTag = s.link.nextTag ∧
    (compareBlankDim s).link.lane = s.link.lane ∧ (compareBlankDim s).link.reportImage = s.link.reportImage ∧
    (compareBlankDim s).link.lastFormat = s.link.lastFormat ∧
    (compareBlankDim s).link.lastRejection = s.link.lastRejection ∧
    (compareBlankDim s).link.lostFor = s.link.lostFor ∧ (compareBlankDim s).link.sinceMessage = s.link.sinceMessage ∧
    (compareBlankDim s).link.lastSet = s.link.lastSet ∧ (compareBlankDim s).link.receiver = s.link.receiver ∧
    (compareBlankDim s).link.transmit = s.link.transmit ∧ (compareBlankDim s).router = s.router ∧
    (compareBlankDim s).geometry = s.geometry ∧ (compareBlankDim s).room = s.room ∧
    (compareBlankDim s).lockout = s.lockout ∧ (compareBlankDim s).store = s.store ∧
    (compareBlankDim s).free = s.free ∧ (compareBlankDim s).pending = s.pending := by
  unfold compareBlankDim; try dsimp only
  all_goals (repeat' split)
  all_goals first | (simp; done) | (simp_all; done) | rfl

@[simp] theorem holdClosed_frame (reason : Shutter) (s : State) :
    (holdClosed reason s).ports = s.ports ∧ (holdClosed reason s).lamp = s.lamp ∧
    (holdClosed reason s).power.state = s.power.state ∧ (holdClosed reason s).power.step = s.power.step ∧
    (holdClosed reason s).power.attempt = s.power.attempt ∧
    (holdClosed reason s).power.restartPending = s.power.restartPending ∧
    (holdClosed reason s).power.offPending = s.power.offPending ∧
    (holdClosed reason s).power.ignitionOrigin = s.power.ignitionOrigin ∧
    (holdClosed reason s).power.offOrigin = s.power.offOrigin ∧
    (holdClosed reason s).power.thermalHold = s.power.thermalHold ∧
    (holdClosed reason s).power.momentaryMode = s.power.momentaryMode ∧
    (holdClosed reason s).power.effectiveMode = s.power.effectiveMode ∧
    (holdClosed reason s).power.modeEvaluated = s.power.modeEvaluated ∧
    (holdClosed reason s).power.strikeTimer = s.power.strikeTimer ∧
    (holdClosed reason s).power.pauseTimer = s.power.pauseTimer ∧
    (holdClosed reason s).power.warmingTimer = s.power.warmingTimer ∧
    (holdClosed reason s).power.coolingTimer = s.power.coolingTimer ∧
    (holdClosed reason s).power.reportWait = s.power.reportWait ∧ (holdClosed reason s).link = s.link ∧
    (holdClosed reason s).router = s.router ∧ (holdClosed reason s).geometry = s.geometry ∧
    (holdClosed reason s).room = s.room ∧ (holdClosed reason s).lockout = s.lockout ∧
    (holdClosed reason s).store = s.store ∧ (holdClosed reason s).free = s.free ∧
    (holdClosed reason s).pending = s.pending := by
  unfold holdClosed; try dsimp only
  all_goals (repeat' split)
  all_goals first | (simp; done) | (simp_all; done) | rfl

@[simp] theorem holdOpen_frame (s : State) :
    (holdOpen s).ports = s.ports ∧ (holdOpen s).lamp = s.lamp ∧ (holdOpen s).power.state = s.power.state ∧
    (holdOpen s).power.step = s.power.step ∧ (holdOpen s).power.attempt = s.power.attempt ∧
    (holdOpen s).power.restartPending = s.power.restartPending ∧ (holdOpen s).power.offPending = s.power.offPending ∧
    (holdOpen s).power.ignitionOrigin = s.power.ignitionOrigin ∧ (holdOpen s).power.offOrigin = s.power.offOrigin ∧
    (holdOpen s).power.thermalHold = s.power.thermalHold ∧ (holdOpen s).power.momentaryMode = s.power.momentaryMode ∧
    (holdOpen s).power.effectiveMode = s.power.effectiveMode ∧
    (holdOpen s).power.modeEvaluated = s.power.modeEvaluated ∧ (holdOpen s).power.strikeTimer = s.power.strikeTimer ∧
    (holdOpen s).power.pauseTimer = s.power.pauseTimer ∧ (holdOpen s).power.warmingTimer = s.power.warmingTimer ∧
    (holdOpen s).power.coolingTimer = s.power.coolingTimer ∧ (holdOpen s).power.reportWait = s.power.reportWait ∧
    (holdOpen s).link = s.link ∧ (holdOpen s).router = s.router ∧ (holdOpen s).geometry = s.geometry ∧
    (holdOpen s).room = s.room ∧ (holdOpen s).lockout = s.lockout ∧ (holdOpen s).store = s.store ∧
    (holdOpen s).free = s.free ∧ (holdOpen s).pending = s.pending := by
  unfold holdOpen; try dsimp only
  all_goals (repeat' split)
  all_goals first | (simp; done) | (simp_all; done) | rfl

@[simp] theorem closeManual_frame (s : State) :
    (closeManual s).ports = s.ports ∧ (closeManual s).lamp.account = s.lamp.account ∧
    (closeManual s).lamp.level = s.lamp.level ∧ (closeManual s).lamp.newest = s.lamp.newest ∧
    (closeManual s).lamp.tally = s.lamp.tally ∧ (closeManual s).lamp.burn = s.lamp.burn ∧
    (closeManual s).lamp.hotWindow = s.lamp.hotWindow ∧ (closeManual s).lamp.cadence = s.lamp.cadence ∧
    (closeManual s).lamp.replaceInFlight = s.lamp.replaceInFlight ∧ (closeManual s).lamp.history = s.lamp.history ∧
    (closeManual s).power.state = s.power.state ∧ (closeManual s).power.step = s.power.step ∧
    (closeManual s).power.attempt = s.power.attempt ∧ (closeManual s).power.restartPending = s.power.restartPending ∧
    (closeManual s).power.offPending = s.power.offPending ∧
    (closeManual s).power.ignitionOrigin = s.power.ignitionOrigin ∧
    (closeManual s).power.offOrigin = s.power.offOrigin ∧ (closeManual s).power.thermalHold = s.power.thermalHold ∧
    (closeManual s).power.momentaryMode = s.power.momentaryMode ∧
    (closeManual s).power.modeEvaluated = s.power.modeEvaluated ∧
    (closeManual s).power.strikeTimer = s.power.strikeTimer ∧ (closeManual s).power.pauseTimer = s.power.pauseTimer ∧
    (closeManual s).power.warmingTimer = s.power.warmingTimer ∧
    (closeManual s).power.coolingTimer = s.power.coolingTimer ∧
    (closeManual s).power.reportWait = s.power.reportWait ∧ (closeManual s).link.state = s.link.state ∧
    (closeManual s).link.silence = s.link.silence ∧ (closeManual s).link.outstanding = s.link.outstanding ∧
    (closeManual s).link.answer = s.link.answer ∧ (closeManual s).link.nextTag = s.link.nextTag ∧
    (closeManual s).link.lane = s.link.lane ∧ (closeManual s).link.reportImage = s.link.reportImage ∧
    (closeManual s).link.lastFormat = s.link.lastFormat ∧ (closeManual s).link.lastRejection = s.link.lastRejection ∧
    (closeManual s).link.lostFor = s.link.lostFor ∧ (closeManual s).link.sinceMessage = s.link.sinceMessage ∧
    (closeManual s).link.lastSet = s.link.lastSet ∧ (closeManual s).link.receiver = s.link.receiver ∧
    (closeManual s).link.transmit = s.link.transmit ∧ (closeManual s).router = s.router ∧
    (closeManual s).geometry = s.geometry ∧ (closeManual s).room = s.room ∧ (closeManual s).lockout = s.lockout ∧
    (closeManual s).store = s.store ∧ (closeManual s).free = s.free ∧ (closeManual s).pending = s.pending := by
  unfold closeManual; try dsimp only
  all_goals (repeat' split)
  all_goals first | (simp; done) | (simp_all; done) | rfl

@[simp] theorem openShutter_frame (s : State) :
    (openShutter s).ports = s.ports ∧ (openShutter s).lamp.account = s.lamp.account ∧
    (openShutter s).lamp.level = s.lamp.level ∧ (openShutter s).lamp.newest = s.lamp.newest ∧
    (openShutter s).lamp.tally = s.lamp.tally ∧ (openShutter s).lamp.burn = s.lamp.burn ∧
    (openShutter s).lamp.hotWindow = s.lamp.hotWindow ∧ (openShutter s).lamp.cadence = s.lamp.cadence ∧
    (openShutter s).lamp.replaceInFlight = s.lamp.replaceInFlight ∧ (openShutter s).lamp.history = s.lamp.history ∧
    (openShutter s).power.state = s.power.state ∧ (openShutter s).power.step = s.power.step ∧
    (openShutter s).power.attempt = s.power.attempt ∧ (openShutter s).power.restartPending = s.power.restartPending ∧
    (openShutter s).power.offPending = s.power.offPending ∧
    (openShutter s).power.ignitionOrigin = s.power.ignitionOrigin ∧
    (openShutter s).power.offOrigin = s.power.offOrigin ∧ (openShutter s).power.thermalHold = s.power.thermalHold ∧
    (openShutter s).power.momentaryMode = s.power.momentaryMode ∧
    (openShutter s).power.modeEvaluated = s.power.modeEvaluated ∧
    (openShutter s).power.strikeTimer = s.power.strikeTimer ∧ (openShutter s).power.pauseTimer = s.power.pauseTimer ∧
    (openShutter s).power.warmingTimer = s.power.warmingTimer ∧
    (openShutter s).power.coolingTimer = s.power.coolingTimer ∧
    (openShutter s).power.reportWait = s.power.reportWait ∧ (openShutter s).link.state = s.link.state ∧
    (openShutter s).link.silence = s.link.silence ∧ (openShutter s).link.outstanding = s.link.outstanding ∧
    (openShutter s).link.answer = s.link.answer ∧ (openShutter s).link.nextTag = s.link.nextTag ∧
    (openShutter s).link.lane = s.link.lane ∧ (openShutter s).link.reportImage = s.link.reportImage ∧
    (openShutter s).link.lastFormat = s.link.lastFormat ∧ (openShutter s).link.lastRejection = s.link.lastRejection ∧
    (openShutter s).link.lostFor = s.link.lostFor ∧ (openShutter s).link.sinceMessage = s.link.sinceMessage ∧
    (openShutter s).link.lastSet = s.link.lastSet ∧ (openShutter s).link.receiver = s.link.receiver ∧
    (openShutter s).link.transmit = s.link.transmit ∧ (openShutter s).router = s.router ∧
    (openShutter s).geometry = s.geometry ∧ (openShutter s).room = s.room ∧ (openShutter s).lockout = s.lockout ∧
    (openShutter s).store = s.store ∧ (openShutter s).free = s.free ∧ (openShutter s).pending = s.pending := by
  unfold openShutter; try dsimp only
  all_goals (repeat' split)
  all_goals first | (simp; done) | (simp_all; done) | rfl

@[simp] theorem closeAuto_frame (s : State) :
    (closeAuto s).ports = s.ports ∧ (closeAuto s).lamp.account = s.lamp.account ∧
    (closeAuto s).lamp.level = s.lamp.level ∧ (closeAuto s).lamp.newest = s.lamp.newest ∧
    (closeAuto s).lamp.tally = s.lamp.tally ∧ (closeAuto s).lamp.burn = s.lamp.burn ∧
    (closeAuto s).lamp.hotWindow = s.lamp.hotWindow ∧ (closeAuto s).lamp.cadence = s.lamp.cadence ∧
    (closeAuto s).lamp.replaceInFlight = s.lamp.replaceInFlight ∧ (closeAuto s).lamp.history = s.lamp.history ∧
    (closeAuto s).power.state = s.power.state ∧ (closeAuto s).power.step = s.power.step ∧
    (closeAuto s).power.attempt = s.power.attempt ∧ (closeAuto s).power.restartPending = s.power.restartPending ∧
    (closeAuto s).power.offPending = s.power.offPending ∧
    (closeAuto s).power.ignitionOrigin = s.power.ignitionOrigin ∧ (closeAuto s).power.offOrigin = s.power.offOrigin ∧
    (closeAuto s).power.thermalHold = s.power.thermalHold ∧
    (closeAuto s).power.momentaryMode = s.power.momentaryMode ∧
    (closeAuto s).power.modeEvaluated = s.power.modeEvaluated ∧
    (closeAuto s).power.strikeTimer = s.power.strikeTimer ∧ (closeAuto s).power.pauseTimer = s.power.pauseTimer ∧
    (closeAuto s).power.warmingTimer = s.power.warmingTimer ∧
    (closeAuto s).power.coolingTimer = s.power.coolingTimer ∧ (closeAuto s).power.reportWait = s.power.reportWait ∧
    (closeAuto s).link.state = s.link.state ∧ (closeAuto s).link.silence = s.link.silence ∧
    (closeAuto s).link.outstanding = s.link.outstanding ∧ (closeAuto s).link.answer = s.link.answer ∧
    (closeAuto s).link.nextTag = s.link.nextTag ∧ (closeAuto s).link.lane = s.link.lane ∧
    (closeAuto s).link.reportImage = s.link.reportImage ∧ (closeAuto s).link.lastFormat = s.link.lastFormat ∧
    (closeAuto s).link.lastRejection = s.link.lastRejection ∧ (closeAuto s).link.lostFor = s.link.lostFor ∧
    (closeAuto s).link.sinceMessage = s.link.sinceMessage ∧ (closeAuto s).link.lastSet = s.link.lastSet ∧
    (closeAuto s).link.receiver = s.link.receiver ∧ (closeAuto s).link.transmit = s.link.transmit ∧
    (closeAuto s).router = s.router ∧ (closeAuto s).geometry = s.geometry ∧ (closeAuto s).room = s.room ∧
    (closeAuto s).lockout = s.lockout ∧ (closeAuto s).store = s.store ∧ (closeAuto s).free = s.free ∧
    (closeAuto s).pending = s.pending := by
  unfold closeAuto; try dsimp only
  all_goals (repeat' split)
  all_goals first | (simp; done) | (simp_all; done) | rfl

@[simp] theorem routeStable_frame (s : State) :
    (routeStable s).ports = s.ports ∧ (routeStable s).lamp.account = s.lamp.account ∧
    (routeStable s).lamp.level = s.lamp.level ∧ (routeStable s).lamp.newest = s.lamp.newest ∧
    (routeStable s).lamp.tally = s.lamp.tally ∧ (routeStable s).lamp.burn = s.lamp.burn ∧
    (routeStable s).lamp.hotWindow = s.lamp.hotWindow ∧ (routeStable s).lamp.cadence = s.lamp.cadence ∧
    (routeStable s).lamp.replaceInFlight = s.lamp.replaceInFlight ∧ (routeStable s).lamp.history = s.lamp.history ∧
    (routeStable s).power.state = s.power.state ∧ (routeStable s).power.step = s.power.step ∧
    (routeStable s).power.attempt = s.power.attempt ∧ (routeStable s).power.restartPending = s.power.restartPending ∧
    (routeStable s).power.offPending = s.power.offPending ∧
    (routeStable s).power.ignitionOrigin = s.power.ignitionOrigin ∧
    (routeStable s).power.offOrigin = s.power.offOrigin ∧ (routeStable s).power.thermalHold = s.power.thermalHold ∧
    (routeStable s).power.momentaryMode = s.power.momentaryMode ∧
    (routeStable s).power.modeEvaluated = s.power.modeEvaluated ∧
    (routeStable s).power.strikeTimer = s.power.strikeTimer ∧ (routeStable s).power.pauseTimer = s.power.pauseTimer ∧
    (routeStable s).power.warmingTimer = s.power.warmingTimer ∧
    (routeStable s).power.coolingTimer = s.power.coolingTimer ∧
    (routeStable s).power.reportWait = s.power.reportWait ∧ (routeStable s).link.state = s.link.state ∧
    (routeStable s).link.silence = s.link.silence ∧ (routeStable s).link.outstanding = s.link.outstanding ∧
    (routeStable s).link.answer = s.link.answer ∧ (routeStable s).link.nextTag = s.link.nextTag ∧
    (routeStable s).link.lane = s.link.lane ∧ (routeStable s).link.reportImage = s.link.reportImage ∧
    (routeStable s).link.lastFormat = s.link.lastFormat ∧ (routeStable s).link.lastRejection = s.link.lastRejection ∧
    (routeStable s).link.lostFor = s.link.lostFor ∧ (routeStable s).link.sinceMessage = s.link.sinceMessage ∧
    (routeStable s).link.lastSet = s.link.lastSet ∧ (routeStable s).link.receiver = s.link.receiver ∧
    (routeStable s).link.transmit = s.link.transmit ∧ (routeStable s).router = s.router ∧
    (routeStable s).geometry = s.geometry ∧ (routeStable s).room = s.room ∧ (routeStable s).lockout = s.lockout ∧
    (routeStable s).store = s.store ∧ (routeStable s).free = s.free ∧ (routeStable s).pending = s.pending := by
  unfold routeStable; try dsimp only
  all_goals (repeat' split)
  all_goals first | (simp; done) | (simp_all; done) | rfl

/-! ## Lamp -/

@[simp] theorem checkpointRequest_frame (s : State) :
    quietPorts (checkpointRequest s).ports = quietPorts s.ports ∧
    (checkpointRequest s).lamp.account = s.lamp.account ∧ (checkpointRequest s).lamp.level = s.lamp.level ∧
    (checkpointRequest s).lamp.newest = s.lamp.newest ∧ (checkpointRequest s).lamp.burn = s.lamp.burn ∧
    (checkpointRequest s).lamp.normalSeen = s.lamp.normalSeen ∧
    (checkpointRequest s).lamp.hotWindow = s.lamp.hotWindow ∧
    (checkpointRequest s).lamp.replaceInFlight = s.lamp.replaceInFlight ∧
    (checkpointRequest s).lamp.history = s.lamp.history ∧ (checkpointRequest s).power = s.power ∧
    (checkpointRequest s).link = s.link ∧ (checkpointRequest s).router = s.router ∧
    (checkpointRequest s).geometry = s.geometry ∧ (checkpointRequest s).room = s.room ∧
    (checkpointRequest s).lockout = s.lockout ∧ (checkpointRequest s).store.slots = s.store.slots ∧
    (checkpointRequest s).store.records = s.store.records ∧ (checkpointRequest s).store.loaded = s.store.loaded ∧
    (checkpointRequest s).store.install = s.store.install ∧ (checkpointRequest s).store.room = s.store.room ∧
    (checkpointRequest s).store.protect = s.store.protect ∧ (checkpointRequest s).store.window = s.store.window ∧
    (checkpointRequest s).store.engine = s.store.engine ∧ (checkpointRequest s).store.wipe = s.store.wipe ∧
    (checkpointRequest s).pending = s.pending := by
  unfold checkpointRequest; try dsimp only
  all_goals (repeat' split)
  all_goals first | (simp; done) | (simp_all; done) | rfl

@[simp] theorem postThreshold_frame (v : Level) (wear : Nat) (s : State) :
    quietPorts (postThreshold v wear s).ports = quietPorts s.ports ∧ (postThreshold v wear s).lamp = s.lamp ∧
    (postThreshold v wear s).power = s.power ∧ (postThreshold v wear s).link = s.link ∧
    (postThreshold v wear s).router = s.router ∧ (postThreshold v wear s).geometry = s.geometry ∧
    (postThreshold v wear s).room = s.room ∧ (postThreshold v wear s).lockout = s.lockout ∧
    (postThreshold v wear s).store = s.store ∧ (postThreshold v wear s).pending = s.pending := by
  unfold postThreshold; try dsimp only
  all_goals (repeat' split)
  all_goals first | (simp; done) | (simp_all; done) | rfl

@[simp] theorem levelBecomes_frame (ask : Bool) (old : Option Level) (v : Level) (wear : Nat) (s : State) :
    quietPorts (levelBecomes ask old v wear s).ports = quietPorts s.ports ∧
    (levelBecomes ask old v wear s).lamp.account = s.lamp.account ∧
    (levelBecomes ask old v wear s).lamp.newest = s.lamp.newest ∧
    (levelBecomes ask old v wear s).lamp.burn = s.lamp.burn ∧
    (levelBecomes ask old v wear s).lamp.hotWindow = s.lamp.hotWindow ∧
    (levelBecomes ask old v wear s).lamp.replaceInFlight = s.lamp.replaceInFlight ∧
    (levelBecomes ask old v wear s).lamp.history = s.lamp.history ∧
    (levelBecomes ask old v wear s).power.state = s.power.state ∧
    (levelBecomes ask old v wear s).power.step = s.power.step ∧
    (levelBecomes ask old v wear s).power.attempt = s.power.attempt ∧
    (levelBecomes ask old v wear s).power.restartPending = s.power.restartPending ∧
    (levelBecomes ask old v wear s).power.offPending = s.power.offPending ∧
    (levelBecomes ask old v wear s).power.ignitionOrigin = s.power.ignitionOrigin ∧
    (levelBecomes ask old v wear s).power.offOrigin = s.power.offOrigin ∧
    (levelBecomes ask old v wear s).power.thermalHold = s.power.thermalHold ∧
    (levelBecomes ask old v wear s).power.shutter = s.power.shutter ∧
    (levelBecomes ask old v wear s).power.momentaryMode = s.power.momentaryMode ∧
    (levelBecomes ask old v wear s).power.modeEvaluated = s.power.modeEvaluated ∧
    (levelBecomes ask old v wear s).power.strikeTimer = s.power.strikeTimer ∧
    (levelBecomes ask old v wear s).power.pauseTimer = s.power.pauseTimer ∧
    (levelBecomes ask old v wear s).power.warmingTimer = s.power.warmingTimer ∧
    (levelBecomes ask old v wear s).power.coolingTimer = s.power.coolingTimer ∧
    (levelBecomes ask old v wear s).power.blankDim = s.power.blankDim ∧
    (levelBecomes ask old v wear s).power.dimmed = s.power.dimmed ∧
    (levelBecomes ask old v wear s).power.reportWait = s.power.reportWait ∧
    (levelBecomes ask old v wear s).link.state = s.link.state ∧
    (levelBecomes ask old v wear s).link.silence = s.link.silence ∧
    (levelBecomes ask old v wear s).link.outstanding = s.link.outstanding ∧
    (levelBecomes ask old v wear s).link.answer = s.link.answer ∧
    (levelBecomes ask old v wear s).link.nextTag = s.link.nextTag ∧
    (levelBecomes ask old v wear s).link.lane = s.link.lane ∧
    (levelBecomes ask old v wear s).link.reportImage = s.link.reportImage ∧
    (levelBecomes ask old v wear s).link.lastFormat = s.link.lastFormat ∧
    (levelBecomes ask old v wear s).link.lastRejection = s.link.lastRejection ∧
    (levelBecomes ask old v wear s).link.lostFor = s.link.lostFor ∧
    (levelBecomes ask old v wear s).link.sinceMessage = s.link.sinceMessage ∧
    (levelBecomes ask old v wear s).link.lastSet = s.link.lastSet ∧
    (levelBecomes ask old v wear s).link.receiver = s.link.receiver ∧
    (levelBecomes ask old v wear s).link.transmit = s.link.transmit ∧
    (levelBecomes ask old v wear s).router = s.router ∧ (levelBecomes ask old v wear s).geometry = s.geometry ∧
    (levelBecomes ask old v wear s).room = s.room ∧ (levelBecomes ask old v wear s).lockout = s.lockout ∧
    (levelBecomes ask old v wear s).store.slots = s.store.slots ∧
    (levelBecomes ask old v wear s).store.records = s.store.records ∧
    (levelBecomes ask old v wear s).store.loaded = s.store.loaded ∧
    (levelBecomes ask old v wear s).store.install = s.store.install ∧
    (levelBecomes ask old v wear s).store.room = s.store.room ∧
    (levelBecomes ask old v wear s).store.protect = s.store.protect ∧
    (levelBecomes ask old v wear s).store.window = s.store.window ∧
    (levelBecomes ask old v wear s).store.engine = s.store.engine ∧
    (levelBecomes ask old v wear s).store.wipe = s.store.wipe ∧
    (levelBecomes ask old v wear s).pending = s.pending := by
  unfold levelBecomes; try dsimp only
  all_goals (repeat' split)
  all_goals first | (simp; done) | (simp_all; done) | rfl

@[simp] theorem relevelAsking_frame (ask : Bool) (s : State) :
    quietPorts (relevelAsking ask s).ports = quietPorts s.ports ∧
    (relevelAsking ask s).lamp.account = s.lamp.account ∧ (relevelAsking ask s).lamp.newest = s.lamp.newest ∧
    (relevelAsking ask s).lamp.burn = s.lamp.burn ∧ (relevelAsking ask s).lamp.hotWindow = s.lamp.hotWindow ∧
    (relevelAsking ask s).lamp.replaceInFlight = s.lamp.replaceInFlight ∧
    (relevelAsking ask s).lamp.history = s.lamp.history ∧ (relevelAsking ask s).power.state = s.power.state ∧
    (relevelAsking ask s).power.step = s.power.step ∧ (relevelAsking ask s).power.attempt = s.power.attempt ∧
    (relevelAsking ask s).power.restartPending = s.power.restartPending ∧
    (relevelAsking ask s).power.offPending = s.power.offPending ∧
    (relevelAsking ask s).power.ignitionOrigin = s.power.ignitionOrigin ∧
    (relevelAsking ask s).power.offOrigin = s.power.offOrigin ∧
    (relevelAsking ask s).power.thermalHold = s.power.thermalHold ∧
    (relevelAsking ask s).power.shutter = s.power.shutter ∧
    (relevelAsking ask s).power.momentaryMode = s.power.momentaryMode ∧
    (relevelAsking ask s).power.modeEvaluated = s.power.modeEvaluated ∧
    (relevelAsking ask s).power.strikeTimer = s.power.strikeTimer ∧
    (relevelAsking ask s).power.pauseTimer = s.power.pauseTimer ∧
    (relevelAsking ask s).power.warmingTimer = s.power.warmingTimer ∧
    (relevelAsking ask s).power.coolingTimer = s.power.coolingTimer ∧
    (relevelAsking ask s).power.blankDim = s.power.blankDim ∧ (relevelAsking ask s).power.dimmed = s.power.dimmed ∧
    (relevelAsking ask s).power.reportWait = s.power.reportWait ∧ (relevelAsking ask s).link.state = s.link.state ∧
    (relevelAsking ask s).link.silence = s.link.silence ∧
    (relevelAsking ask s).link.outstanding = s.link.outstanding ∧ (relevelAsking ask s).link.answer = s.link.answer ∧
    (relevelAsking ask s).link.nextTag = s.link.nextTag ∧ (relevelAsking ask s).link.lane = s.link.lane ∧
    (relevelAsking ask s).link.reportImage = s.link.reportImage ∧
    (relevelAsking ask s).link.lastFormat = s.link.lastFormat ∧
    (relevelAsking ask s).link.lastRejection = s.link.lastRejection ∧
    (relevelAsking ask s).link.lostFor = s.link.lostFor ∧
    (relevelAsking ask s).link.sinceMessage = s.link.sinceMessage ∧
    (relevelAsking ask s).link.lastSet = s.link.lastSet ∧ (relevelAsking ask s).link.receiver = s.link.receiver ∧
    (relevelAsking ask s).link.transmit = s.link.transmit ∧ (relevelAsking ask s).router = s.router ∧
    (relevelAsking ask s).geometry = s.geometry ∧ (relevelAsking ask s).room = s.room ∧
    (relevelAsking ask s).lockout = s.lockout ∧ (relevelAsking ask s).store.slots = s.store.slots ∧
    (relevelAsking ask s).store.records = s.store.records ∧ (relevelAsking ask s).store.loaded = s.store.loaded ∧
    (relevelAsking ask s).store.install = s.store.install ∧ (relevelAsking ask s).store.room = s.store.room ∧
    (relevelAsking ask s).store.protect = s.store.protect ∧ (relevelAsking ask s).store.window = s.store.window ∧
    (relevelAsking ask s).store.engine = s.store.engine ∧ (relevelAsking ask s).store.wipe = s.store.wipe ∧
    (relevelAsking ask s).pending = s.pending := by
  unfold relevelAsking; try dsimp only
  all_goals (repeat' split)
  all_goals first | (simp; done) | (simp_all; done) | rfl

@[simp] theorem relevel_frame (s : State) :
    quietPorts (relevel s).ports = quietPorts s.ports ∧ (relevel s).lamp.account = s.lamp.account ∧
    (relevel s).lamp.newest = s.lamp.newest ∧ (relevel s).lamp.burn = s.lamp.burn ∧
    (relevel s).lamp.hotWindow = s.lamp.hotWindow ∧ (relevel s).lamp.replaceInFlight = s.lamp.replaceInFlight ∧
    (relevel s).lamp.history = s.lamp.history ∧ (relevel s).power.state = s.power.state ∧
    (relevel s).power.step = s.power.step ∧ (relevel s).power.attempt = s.power.attempt ∧
    (relevel s).power.restartPending = s.power.restartPending ∧ (relevel s).power.offPending = s.power.offPending ∧
    (relevel s).power.ignitionOrigin = s.power.ignitionOrigin ∧ (relevel s).power.offOrigin = s.power.offOrigin ∧
    (relevel s).power.thermalHold = s.power.thermalHold ∧ (relevel s).power.shutter = s.power.shutter ∧
    (relevel s).power.momentaryMode = s.power.momentaryMode ∧
    (relevel s).power.modeEvaluated = s.power.modeEvaluated ∧ (relevel s).power.strikeTimer = s.power.strikeTimer ∧
    (relevel s).power.pauseTimer = s.power.pauseTimer ∧ (relevel s).power.warmingTimer = s.power.warmingTimer ∧
    (relevel s).power.coolingTimer = s.power.coolingTimer ∧ (relevel s).power.blankDim = s.power.blankDim ∧
    (relevel s).power.dimmed = s.power.dimmed ∧ (relevel s).power.reportWait = s.power.reportWait ∧
    (relevel s).link.state = s.link.state ∧ (relevel s).link.silence = s.link.silence ∧
    (relevel s).link.outstanding = s.link.outstanding ∧ (relevel s).link.answer = s.link.answer ∧
    (relevel s).link.nextTag = s.link.nextTag ∧ (relevel s).link.lane = s.link.lane ∧
    (relevel s).link.reportImage = s.link.reportImage ∧ (relevel s).link.lastFormat = s.link.lastFormat ∧
    (relevel s).link.lastRejection = s.link.lastRejection ∧ (relevel s).link.lostFor = s.link.lostFor ∧
    (relevel s).link.sinceMessage = s.link.sinceMessage ∧ (relevel s).link.lastSet = s.link.lastSet ∧
    (relevel s).link.receiver = s.link.receiver ∧ (relevel s).link.transmit = s.link.transmit ∧
    (relevel s).router = s.router ∧ (relevel s).geometry = s.geometry ∧ (relevel s).room = s.room ∧
    (relevel s).lockout = s.lockout ∧ (relevel s).store.slots = s.store.slots ∧
    (relevel s).store.records = s.store.records ∧ (relevel s).store.loaded = s.store.loaded ∧
    (relevel s).store.install = s.store.install ∧ (relevel s).store.room = s.store.room ∧
    (relevel s).store.protect = s.store.protect ∧ (relevel s).store.window = s.store.window ∧
    (relevel s).store.engine = s.store.engine ∧ (relevel s).store.wipe = s.store.wipe ∧
    (relevel s).pending = s.pending := by
  unfold relevel; try dsimp only
  all_goals (repeat' split)
  all_goals first | (simp; done) | (simp_all; done) | rfl

@[simp] theorem advanceCadence_frame (s : State) :
    quietPorts (advanceCadence s).ports = quietPorts s.ports ∧ (advanceCadence s).lamp.account = s.lamp.account ∧
    (advanceCadence s).lamp.level = s.lamp.level ∧ (advanceCadence s).lamp.newest = s.lamp.newest ∧
    (advanceCadence s).lamp.burn = s.lamp.burn ∧ (advanceCadence s).lamp.normalSeen = s.lamp.normalSeen ∧
    (advanceCadence s).lamp.hotWindow = s.lamp.hotWindow ∧
    (advanceCadence s).lamp.replaceInFlight = s.lamp.replaceInFlight ∧
    (advanceCadence s).lamp.history = s.lamp.history ∧ (advanceCadence s).power = s.power ∧
    (advanceCadence s).link = s.link ∧ (advanceCadence s).router = s.router ∧
    (advanceCadence s).geometry = s.geometry ∧ (advanceCadence s).room = s.room ∧
    (advanceCadence s).lockout = s.lockout ∧ (advanceCadence s).store.slots = s.store.slots ∧
    (advanceCadence s).store.records = s.store.records ∧ (advanceCadence s).store.loaded = s.store.loaded ∧
    (advanceCadence s).store.install = s.store.install ∧ (advanceCadence s).store.room = s.store.room ∧
    (advanceCadence s).store.protect = s.store.protect ∧ (advanceCadence s).store.window = s.store.window ∧
    (advanceCadence s).store.engine = s.store.engine ∧ (advanceCadence s).store.wipe = s.store.wipe ∧
    (advanceCadence s).pending = s.pending := by
  unfold advanceCadence; try dsimp only
  all_goals (repeat' split)
  all_goals first | (simp; done) | (simp_all; done) | rfl

@[simp] theorem chargeSecond_frame (s : State) :
    quietPorts (chargeSecond s).ports = quietPorts s.ports ∧ (chargeSecond s).lamp.newest = s.lamp.newest ∧
    (chargeSecond s).lamp.burn = s.lamp.burn ∧ (chargeSecond s).lamp.hotWindow = s.lamp.hotWindow ∧
    (chargeSecond s).lamp.replaceInFlight = s.lamp.replaceInFlight ∧ (chargeSecond s).lamp.history = s.lamp.history ∧
    (chargeSecond s).power.state = s.power.state ∧ (chargeSecond s).power.step = s.power.step ∧
    (chargeSecond s).power.attempt = s.power.attempt ∧
    (chargeSecond s).power.restartPending = s.power.restartPending ∧
    (chargeSecond s).power.offPending = s.power.offPending ∧
    (chargeSecond s).power.ignitionOrigin = s.power.ignitionOrigin ∧
    (chargeSecond s).power.offOrigin = s.power.offOrigin ∧ (chargeSecond s).power.thermalHold = s.power.thermalHold ∧
    (chargeSecond s).power.shutter = s.power.shutter ∧ (chargeSecond s).power.momentaryMode = s.power.momentaryMode ∧
    (chargeSecond s).power.modeEvaluated = s.power.modeEvaluated ∧
    (chargeSecond s).power.strikeTimer = s.power.strikeTimer ∧
    (chargeSecond s).power.pauseTimer = s.power.pauseTimer ∧
    (chargeSecond s).power.warmingTimer = s.power.warmingTimer ∧
    (chargeSecond s).power.coolingTimer = s.power.coolingTimer ∧ (chargeSecond s).power.blankDim = s.power.blankDim ∧
    (chargeSecond s).power.dimmed = s.power.dimmed ∧ (chargeSecond s).power.reportWait = s.power.reportWait ∧
    (chargeSecond s).link.state = s.link.state ∧ (chargeSecond s).link.silence = s.link.silence ∧
    (chargeSecond s).link.outstanding = s.link.outstanding ∧ (chargeSecond s).link.answer = s.link.answer ∧
    (chargeSecond s).link.nextTag = s.link.nextTag ∧ (chargeSecond s).link.lane = s.link.lane ∧
    (chargeSecond s).link.reportImage = s.link.reportImage ∧ (chargeSecond s).link.lastFormat = s.link.lastFormat ∧
    (chargeSecond s).link.lastRejection = s.link.lastRejection ∧ (chargeSecond s).link.lostFor = s.link.lostFor ∧
    (chargeSecond s).link.sinceMessage = s.link.sinceMessage ∧ (chargeSecond s).link.lastSet = s.link.lastSet ∧
    (chargeSecond s).link.receiver = s.link.receiver ∧ (chargeSecond s).link.transmit = s.link.transmit ∧
    (chargeSecond s).router = s.router ∧ (chargeSecond s).geometry = s.geometry ∧ (chargeSecond s).room = s.room ∧
    (chargeSecond s).lockout = s.lockout ∧ (chargeSecond s).store.slots = s.store.slots ∧
    (chargeSecond s).store.records = s.store.records ∧ (chargeSecond s).store.loaded = s.store.loaded ∧
    (chargeSecond s).store.install = s.store.install ∧ (chargeSecond s).store.room = s.store.room ∧
    (chargeSecond s).store.protect = s.store.protect ∧ (chargeSecond s).store.window = s.store.window ∧
    (chargeSecond s).store.engine = s.store.engine ∧ (chargeSecond s).store.wipe = s.store.wipe ∧
    (chargeSecond s).pending = s.pending := by
  unfold chargeSecond; try dsimp only
  all_goals (repeat' split)
  all_goals first | (simp; done) | (simp_all; done) | rfl

@[simp] theorem beginSecond_frame (s : State) :
    (beginSecond s).ports = s.ports ∧ (beginSecond s).lamp.account = s.lamp.account ∧
    (beginSecond s).lamp.level = s.lamp.level ∧ (beginSecond s).lamp.newest = s.lamp.newest ∧
    (beginSecond s).lamp.tally = s.lamp.tally ∧ (beginSecond s).lamp.hotWindow = s.lamp.hotWindow ∧
    (beginSecond s).lamp.cadence = s.lamp.cadence ∧ (beginSecond s).lamp.replaceInFlight = s.lamp.replaceInFlight ∧
    (beginSecond s).lamp.history = s.lamp.history ∧ (beginSecond s).power = s.power ∧ (beginSecond s).link = s.link ∧
    (beginSecond s).router = s.router ∧ (beginSecond s).geometry = s.geometry ∧ (beginSecond s).room = s.room ∧
    (beginSecond s).lockout = s.lockout ∧ (beginSecond s).store = s.store ∧ (beginSecond s).free = s.free ∧
    (beginSecond s).pending = s.pending := by
  unfold beginSecond; try dsimp only
  all_goals (repeat' split)
  all_goals first | (simp; done) | (simp_all; done) | rfl

@[simp] theorem endBurn_frame (s : State) :
    quietPorts (endBurn s).ports = quietPorts s.ports ∧ (endBurn s).lamp.newest = s.lamp.newest ∧
    (endBurn s).lamp.hotWindow = s.lamp.hotWindow ∧ (endBurn s).lamp.replaceInFlight = s.lamp.replaceInFlight ∧
    (endBurn s).lamp.history = s.lamp.history ∧ (endBurn s).power.state = s.power.state ∧
    (endBurn s).power.step = s.power.step ∧ (endBurn s).power.attempt = s.power.attempt ∧
    (endBurn s).power.restartPending = s.power.restartPending ∧ (endBurn s).power.offPending = s.power.offPending ∧
    (endBurn s).power.ignitionOrigin = s.power.ignitionOrigin ∧ (endBurn s).power.offOrigin = s.power.offOrigin ∧
    (endBurn s).power.thermalHold = s.power.thermalHold ∧ (endBurn s).power.shutter = s.power.shutter ∧
    (endBurn s).power.momentaryMode = s.power.momentaryMode ∧
    (endBurn s).power.modeEvaluated = s.power.modeEvaluated ∧ (endBurn s).power.strikeTimer = s.power.strikeTimer ∧
    (endBurn s).power.pauseTimer = s.power.pauseTimer ∧ (endBurn s).power.warmingTimer = s.power.warmingTimer ∧
    (endBurn s).power.coolingTimer = s.power.coolingTimer ∧ (endBurn s).power.blankDim = s.power.blankDim ∧
    (endBurn s).power.dimmed = s.power.dimmed ∧ (endBurn s).power.reportWait = s.power.reportWait ∧
    (endBurn s).link.state = s.link.state ∧ (endBurn s).link.silence = s.link.silence ∧
    (endBurn s).link.outstanding = s.link.outstanding ∧ (endBurn s).link.answer = s.link.answer ∧
    (endBurn s).link.nextTag = s.link.nextTag ∧ (endBurn s).link.lane = s.link.lane ∧
    (endBurn s).link.reportImage = s.link.reportImage ∧ (endBurn s).link.lastFormat = s.link.lastFormat ∧
    (endBurn s).link.lastRejection = s.link.lastRejection ∧ (endBurn s).link.lostFor = s.link.lostFor ∧
    (endBurn s).link.sinceMessage = s.link.sinceMessage ∧ (endBurn s).link.lastSet = s.link.lastSet ∧
    (endBurn s).link.receiver = s.link.receiver ∧ (endBurn s).link.transmit = s.link.transmit ∧
    (endBurn s).router = s.router ∧ (endBurn s).geometry = s.geometry ∧ (endBurn s).room = s.room ∧
    (endBurn s).lockout = s.lockout ∧ (endBurn s).store.slots = s.store.slots ∧
    (endBurn s).store.records = s.store.records ∧ (endBurn s).store.loaded = s.store.loaded ∧
    (endBurn s).store.install = s.store.install ∧ (endBurn s).store.room = s.store.room ∧
    (endBurn s).store.protect = s.store.protect ∧ (endBurn s).store.window = s.store.window ∧
    (endBurn s).store.engine = s.store.engine ∧ (endBurn s).store.wipe = s.store.wipe ∧
    (endBurn s).pending = s.pending := by
  unfold endBurn; try dsimp only
  all_goals (repeat' split)
  all_goals first | (simp; done) | (simp_all; done) | rfl

@[simp] theorem countStrike_frame (s : State) :
    quietPorts (countStrike s).ports = quietPorts s.ports ∧ (countStrike s).lamp.newest = s.lamp.newest ∧
    (countStrike s).lamp.burn = s.lamp.burn ∧ (countStrike s).lamp.hotWindow = s.lamp.hotWindow ∧
    (countStrike s).lamp.replaceInFlight = s.lamp.replaceInFlight ∧ (countStrike s).lamp.history = s.lamp.history ∧
    (countStrike s).power.state = s.power.state ∧ (countStrike s).power.step = s.power.step ∧
    (countStrike s).power.attempt = s.power.attempt ∧ (countStrike s).power.restartPending = s.power.restartPending ∧
    (countStrike s).power.offPending = s.power.offPending ∧
    (countStrike s).power.ignitionOrigin = s.power.ignitionOrigin ∧
    (countStrike s).power.offOrigin = s.power.offOrigin ∧ (countStrike s).power.thermalHold = s.power.thermalHold ∧
    (countStrike s).power.shutter = s.power.shutter ∧ (countStrike s).power.momentaryMode = s.power.momentaryMode ∧
    (countStrike s).power.modeEvaluated = s.power.modeEvaluated ∧
    (countStrike s).power.strikeTimer = s.power.strikeTimer ∧ (countStrike s).power.pauseTimer = s.power.pauseTimer ∧
    (countStrike s).power.warmingTimer = s.power.warmingTimer ∧
    (countStrike s).power.coolingTimer = s.power.coolingTimer ∧ (countStrike s).power.blankDim = s.power.blankDim ∧
    (countStrike s).power.dimmed = s.power.dimmed ∧ (countStrike s).power.reportWait = s.power.reportWait ∧
    (countStrike s).link.state = s.link.state ∧ (countStrike s).link.silence = s.link.silence ∧
    (countStrike s).link.outstanding = s.link.outstanding ∧ (countStrike s).link.answer = s.link.answer ∧
    (countStrike s).link.nextTag = s.link.nextTag ∧ (countStrike s).link.lane = s.link.lane ∧
    (countStrike s).link.reportImage = s.link.reportImage ∧ (countStrike s).link.lastFormat = s.link.lastFormat ∧
    (countStrike s).link.lastRejection = s.link.lastRejection ∧ (countStrike s).link.lostFor = s.link.lostFor ∧
    (countStrike s).link.sinceMessage = s.link.sinceMessage ∧ (countStrike s).link.lastSet = s.link.lastSet ∧
    (countStrike s).link.receiver = s.link.receiver ∧ (countStrike s).link.transmit = s.link.transmit ∧
    (countStrike s).router = s.router ∧ (countStrike s).geometry = s.geometry ∧ (countStrike s).room = s.room ∧
    (countStrike s).lockout = s.lockout ∧ (countStrike s).store.slots = s.store.slots ∧
    (countStrike s).store.records = s.store.records ∧ (countStrike s).store.loaded = s.store.loaded ∧
    (countStrike s).store.install = s.store.install ∧ (countStrike s).store.room = s.store.room ∧
    (countStrike s).store.protect = s.store.protect ∧ (countStrike s).store.window = s.store.window ∧
    (countStrike s).store.engine = s.store.engine ∧ (countStrike s).store.wipe = s.store.wipe ∧
    (countStrike s).pending = s.pending := by
  unfold countStrike; try dsimp only
  all_goals (repeat' split)
  all_goals first | (simp; done) | (simp_all; done) | rfl

@[simp] theorem countFailed_frame (s : State) :
    quietPorts (countFailed s).ports = quietPorts s.ports ∧ (countFailed s).lamp.newest = s.lamp.newest ∧
    (countFailed s).lamp.burn = s.lamp.burn ∧ (countFailed s).lamp.hotWindow = s.lamp.hotWindow ∧
    (countFailed s).lamp.replaceInFlight = s.lamp.replaceInFlight ∧ (countFailed s).lamp.history = s.lamp.history ∧
    (countFailed s).power.state = s.power.state ∧ (countFailed s).power.step = s.power.step ∧
    (countFailed s).power.attempt = s.power.attempt ∧ (countFailed s).power.restartPending = s.power.restartPending ∧
    (countFailed s).power.offPending = s.power.offPending ∧
    (countFailed s).power.ignitionOrigin = s.power.ignitionOrigin ∧
    (countFailed s).power.offOrigin = s.power.offOrigin ∧ (countFailed s).power.thermalHold = s.power.thermalHold ∧
    (countFailed s).power.shutter = s.power.shutter ∧ (countFailed s).power.momentaryMode = s.power.momentaryMode ∧
    (countFailed s).power.modeEvaluated = s.power.modeEvaluated ∧
    (countFailed s).power.strikeTimer = s.power.strikeTimer ∧ (countFailed s).power.pauseTimer = s.power.pauseTimer ∧
    (countFailed s).power.warmingTimer = s.power.warmingTimer ∧
    (countFailed s).power.coolingTimer = s.power.coolingTimer ∧ (countFailed s).power.blankDim = s.power.blankDim ∧
    (countFailed s).power.dimmed = s.power.dimmed ∧ (countFailed s).power.reportWait = s.power.reportWait ∧
    (countFailed s).link.state = s.link.state ∧ (countFailed s).link.silence = s.link.silence ∧
    (countFailed s).link.outstanding = s.link.outstanding ∧ (countFailed s).link.answer = s.link.answer ∧
    (countFailed s).link.nextTag = s.link.nextTag ∧ (countFailed s).link.lane = s.link.lane ∧
    (countFailed s).link.reportImage = s.link.reportImage ∧ (countFailed s).link.lastFormat = s.link.lastFormat ∧
    (countFailed s).link.lastRejection = s.link.lastRejection ∧ (countFailed s).link.lostFor = s.link.lostFor ∧
    (countFailed s).link.sinceMessage = s.link.sinceMessage ∧ (countFailed s).link.lastSet = s.link.lastSet ∧
    (countFailed s).link.receiver = s.link.receiver ∧ (countFailed s).link.transmit = s.link.transmit ∧
    (countFailed s).router = s.router ∧ (countFailed s).geometry = s.geometry ∧ (countFailed s).room = s.room ∧
    (countFailed s).lockout = s.lockout ∧ (countFailed s).store.slots = s.store.slots ∧
    (countFailed s).store.records = s.store.records ∧ (countFailed s).store.loaded = s.store.loaded ∧
    (countFailed s).store.install = s.store.install ∧ (countFailed s).store.room = s.store.room ∧
    (countFailed s).store.protect = s.store.protect ∧ (countFailed s).store.window = s.store.window ∧
    (countFailed s).store.engine = s.store.engine ∧ (countFailed s).store.wipe = s.store.wipe ∧
    (countFailed s).pending = s.pending := by
  unfold countFailed; try dsimp only
  all_goals (repeat' split)
  all_goals first | (simp; done) | (simp_all; done) | rfl

@[simp] theorem pushHistory_frame (x : Summary) (o : Origin) (s : State) :
    quietPorts (pushHistory x o s).ports = quietPorts s.ports ∧ (pushHistory x o s).lamp.account = s.lamp.account ∧
    (pushHistory x o s).lamp.level = s.lamp.level ∧ (pushHistory x o s).lamp.newest = s.lamp.newest ∧
    (pushHistory x o s).lamp.tally = s.lamp.tally ∧ (pushHistory x o s).lamp.burn = s.lamp.burn ∧
    (pushHistory x o s).lamp.normalSeen = s.lamp.normalSeen ∧ (pushHistory x o s).lamp.hotWindow = s.lamp.hotWindow ∧
    (pushHistory x o s).lamp.cadence = s.lamp.cadence ∧
    (pushHistory x o s).lamp.replaceInFlight = s.lamp.replaceInFlight ∧ (pushHistory x o s).power = s.power ∧
    (pushHistory x o s).link = s.link ∧ (pushHistory x o s).router = s.router ∧
    (pushHistory x o s).geometry = s.geometry ∧ (pushHistory x o s).room = s.room ∧
    (pushHistory x o s).lockout = s.lockout ∧ (pushHistory x o s).store.slots = s.store.slots ∧
    (pushHistory x o s).store.records = s.store.records ∧ (pushHistory x o s).store.loaded = s.store.loaded ∧
    (pushHistory x o s).store.install = s.store.install ∧ (pushHistory x o s).store.room = s.store.room ∧
    (pushHistory x o s).store.protect = s.store.protect ∧ (pushHistory x o s).store.window = s.store.window ∧
    (pushHistory x o s).store.engine = s.store.engine ∧ (pushHistory x o s).store.wipe = s.store.wipe ∧
    (pushHistory x o s).pending = s.pending := by
  unfold pushHistory; try dsimp only
  all_goals (repeat' split)
  all_goals first | (simp; done) | (simp_all; done) | rfl

@[simp] theorem queueSwitch_frame (kind : SwitchKind) (content : Account) (s : State) :
    quietPorts (queueSwitch kind content s).ports = quietPorts s.ports ∧
    (queueSwitch kind content s).lamp.account = s.lamp.account ∧
    (queueSwitch kind content s).lamp.level = s.lamp.level ∧
    (queueSwitch kind content s).lamp.newest = s.lamp.newest ∧
    (queueSwitch kind content s).lamp.tally = s.lamp.tally ∧ (queueSwitch kind content s).lamp.burn = s.lamp.burn ∧
    (queueSwitch kind content s).lamp.normalSeen = s.lamp.normalSeen ∧
    (queueSwitch kind content s).lamp.hotWindow = s.lamp.hotWindow ∧
    (queueSwitch kind content s).lamp.history = s.lamp.history ∧ (queueSwitch kind content s).power = s.power ∧
    (queueSwitch kind content s).link = s.link ∧ (queueSwitch kind content s).router = s.router ∧
    (queueSwitch kind content s).geometry = s.geometry ∧ (queueSwitch kind content s).room = s.room ∧
    (queueSwitch kind content s).lockout = s.lockout ∧ (queueSwitch kind content s).store.slots = s.store.slots ∧
    (queueSwitch kind content s).store.records = s.store.records ∧
    (queueSwitch kind content s).store.loaded = s.store.loaded ∧
    (queueSwitch kind content s).store.install = s.store.install ∧
    (queueSwitch kind content s).store.room = s.store.room ∧
    (queueSwitch kind content s).store.protect = s.store.protect ∧
    (queueSwitch kind content s).store.window = s.store.window ∧
    (queueSwitch kind content s).store.engine = s.store.engine ∧
    (queueSwitch kind content s).store.wipe = s.store.wipe ∧ (queueSwitch kind content s).pending = s.pending := by
  unfold queueSwitch; try dsimp only
  all_goals (repeat' split)
  all_goals first | (simp; done) | (simp_all; done) | rfl

@[simp] theorem makeSwitch_frame (kind : SwitchKind) (a : Account) (s : State) :
    quietPorts (makeSwitch kind a s).ports = quietPorts s.ports ∧ (makeSwitch kind a s).lamp.newest = s.lamp.newest ∧
    (makeSwitch kind a s).lamp.burn = s.lamp.burn ∧ (makeSwitch kind a s).lamp.hotWindow = s.lamp.hotWindow ∧
    (makeSwitch kind a s).power.state = s.power.state ∧ (makeSwitch kind a s).power.step = s.power.step ∧
    (makeSwitch kind a s).power.attempt = s.power.attempt ∧
    (makeSwitch kind a s).power.restartPending = s.power.restartPending ∧
    (makeSwitch kind a s).power.offPending = s.power.offPending ∧
    (makeSwitch kind a s).power.ignitionOrigin = s.power.ignitionOrigin ∧
    (makeSwitch kind a s).power.offOrigin = s.power.offOrigin ∧
    (makeSwitch kind a s).power.thermalHold = s.power.thermalHold ∧
    (makeSwitch kind a s).power.shutter = s.power.shutter ∧
    (makeSwitch kind a s).power.momentaryMode = s.power.momentaryMode ∧
    (makeSwitch kind a s).power.modeEvaluated = s.power.modeEvaluated ∧
    (makeSwitch kind a s).power.strikeTimer = s.power.strikeTimer ∧
    (makeSwitch kind a s).power.pauseTimer = s.power.pauseTimer ∧
    (makeSwitch kind a s).power.warmingTimer = s.power.warmingTimer ∧
    (makeSwitch kind a s).power.coolingTimer = s.power.coolingTimer ∧
    (makeSwitch kind a s).power.blankDim = s.power.blankDim ∧ (makeSwitch kind a s).power.dimmed = s.power.dimmed ∧
    (makeSwitch kind a s).power.reportWait = s.power.reportWait ∧ (makeSwitch kind a s).link.state = s.link.state ∧
    (makeSwitch kind a s).link.silence = s.link.silence ∧
    (makeSwitch kind a s).link.outstanding = s.link.outstanding ∧ (makeSwitch kind a s).link.answer = s.link.answer ∧
    (makeSwitch kind a s).link.nextTag = s.link.nextTag ∧ (makeSwitch kind a s).link.lane = s.link.lane ∧
    (makeSwitch kind a s).link.reportImage = s.link.reportImage ∧
    (makeSwitch kind a s).link.lastFormat = s.link.lastFormat ∧
    (makeSwitch kind a s).link.lastRejection = s.link.lastRejection ∧
    (makeSwitch kind a s).link.lostFor = s.link.lostFor ∧
    (makeSwitch kind a s).link.sinceMessage = s.link.sinceMessage ∧
    (makeSwitch kind a s).link.lastSet = s.link.lastSet ∧ (makeSwitch kind a s).link.receiver = s.link.receiver ∧
    (makeSwitch kind a s).link.transmit = s.link.transmit ∧ (makeSwitch kind a s).router = s.router ∧
    (makeSwitch kind a s).geometry = s.geometry ∧ (makeSwitch kind a s).room = s.room ∧
    (makeSwitch kind a s).lockout = s.lockout ∧ (makeSwitch kind a s).store.slots = s.store.slots ∧
    (makeSwitch kind a s).store.records = s.store.records ∧ (makeSwitch kind a s).store.loaded = s.store.loaded ∧
    (makeSwitch kind a s).store.install = s.store.install ∧ (makeSwitch kind a s).store.room = s.store.room ∧
    (makeSwitch kind a s).store.protect = s.store.protect ∧ (makeSwitch kind a s).store.window = s.store.window ∧
    (makeSwitch kind a s).store.engine = s.store.engine ∧ (makeSwitch kind a s).store.wipe = s.store.wipe ∧
    (makeSwitch kind a s).pending = s.pending := by
  unfold makeSwitch; try dsimp only
  all_goals (repeat' split)
  all_goals first | (simp; done) | (simp_all; done) | rfl

@[simp] theorem loadAccount_frame (s : State) :
    quietPorts (loadAccount s).ports = quietPorts s.ports ∧ (loadAccount s).lamp.tally = s.lamp.tally ∧
    (loadAccount s).lamp.burn = s.lamp.burn ∧ (loadAccount s).lamp.normalSeen = s.lamp.normalSeen ∧
    (loadAccount s).lamp.hotWindow = s.lamp.hotWindow ∧ (loadAccount s).lamp.cadence = s.lamp.cadence ∧
    (loadAccount s).lamp.replaceInFlight = s.lamp.replaceInFlight ∧ (loadAccount s).lamp.history = s.lamp.history ∧
    (loadAccount s).power = s.power ∧ (loadAccount s).link = s.link ∧ (loadAccount s).router = s.router ∧
    (loadAccount s).geometry = s.geometry ∧ (loadAccount s).room = s.room ∧ (loadAccount s).lockout = s.lockout ∧
    (loadAccount s).store = s.store ∧ (loadAccount s).pending = s.pending := by
  unfold loadAccount; try dsimp only
  all_goals (repeat' split)
  all_goals first | (simp; done) | (simp_all; done) | rfl

@[simp] theorem completeHistory_frame (s : State) :
    quietPorts (completeHistory s).ports = quietPorts s.ports ∧ (completeHistory s).lamp.account = s.lamp.account ∧
    (completeHistory s).lamp.level = s.lamp.level ∧ (completeHistory s).lamp.newest = s.lamp.newest ∧
    (completeHistory s).lamp.tally = s.lamp.tally ∧ (completeHistory s).lamp.burn = s.lamp.burn ∧
    (completeHistory s).lamp.normalSeen = s.lamp.normalSeen ∧ (completeHistory s).lamp.hotWindow = s.lamp.hotWindow ∧
    (completeHistory s).lamp.cadence = s.lamp.cadence ∧
    (completeHistory s).lamp.replaceInFlight = s.lamp.replaceInFlight ∧ (completeHistory s).power = s.power ∧
    (completeHistory s).link = s.link ∧ (completeHistory s).router = s.router ∧
    (completeHistory s).geometry = s.geometry ∧ (completeHistory s).room = s.room ∧
    (completeHistory s).lockout = s.lockout ∧ (completeHistory s).store.slots = s.store.slots ∧
    (completeHistory s).store.records = s.store.records ∧ (completeHistory s).store.loaded = s.store.loaded ∧
    (completeHistory s).store.install = s.store.install ∧ (completeHistory s).store.room = s.store.room ∧
    (completeHistory s).store.protect = s.store.protect ∧ (completeHistory s).store.window = s.store.window ∧
    (completeHistory s).store.engine = s.store.engine ∧ (completeHistory s).store.wipe = s.store.wipe ∧
    (completeHistory s).pending = s.pending := by
  unfold completeHistory; try dsimp only
  all_goals (repeat' split)
  all_goals first | (simp; done) | (simp_all; done) | rfl

@[simp] theorem applyTally_frame (s : State) :
    quietPorts (applyTally s).ports = quietPorts s.ports ∧ (applyTally s).lamp.newest = s.lamp.newest ∧
    (applyTally s).lamp.burn = s.lamp.burn ∧ (applyTally s).lamp.hotWindow = s.lamp.hotWindow ∧
    (applyTally s).lamp.replaceInFlight = s.lamp.replaceInFlight ∧ (applyTally s).lamp.history = s.lamp.history ∧
    (applyTally s).power.state = s.power.state ∧ (applyTally s).power.step = s.power.step ∧
    (applyTally s).power.attempt = s.power.attempt ∧ (applyTally s).power.restartPending = s.power.restartPending ∧
    (applyTally s).power.offPending = s.power.offPending ∧
    (applyTally s).power.ignitionOrigin = s.power.ignitionOrigin ∧
    (applyTally s).power.offOrigin = s.power.offOrigin ∧ (applyTally s).power.thermalHold = s.power.thermalHold ∧
    (applyTally s).power.shutter = s.power.shutter ∧ (applyTally s).power.momentaryMode = s.power.momentaryMode ∧
    (applyTally s).power.modeEvaluated = s.power.modeEvaluated ∧
    (applyTally s).power.strikeTimer = s.power.strikeTimer ∧ (applyTally s).power.pauseTimer = s.power.pauseTimer ∧
    (applyTally s).power.warmingTimer = s.power.warmingTimer ∧
    (applyTally s).power.coolingTimer = s.power.coolingTimer ∧ (applyTally s).power.blankDim = s.power.blankDim ∧
    (applyTally s).power.dimmed = s.power.dimmed ∧ (applyTally s).power.reportWait = s.power.reportWait ∧
    (applyTally s).link.state = s.link.state ∧ (applyTally s).link.silence = s.link.silence ∧
    (applyTally s).link.outstanding = s.link.outstanding ∧ (applyTally s).link.answer = s.link.answer ∧
    (applyTally s).link.nextTag = s.link.nextTag ∧ (applyTally s).link.lane = s.link.lane ∧
    (applyTally s).link.reportImage = s.link.reportImage ∧ (applyTally s).link.lastFormat = s.link.lastFormat ∧
    (applyTally s).link.lastRejection = s.link.lastRejection ∧ (applyTally s).link.lostFor = s.link.lostFor ∧
    (applyTally s).link.sinceMessage = s.link.sinceMessage ∧ (applyTally s).link.lastSet = s.link.lastSet ∧
    (applyTally s).link.receiver = s.link.receiver ∧ (applyTally s).link.transmit = s.link.transmit ∧
    (applyTally s).router = s.router ∧ (applyTally s).geometry = s.geometry ∧ (applyTally s).room = s.room ∧
    (applyTally s).lockout = s.lockout ∧ (applyTally s).store.slots = s.store.slots ∧
    (applyTally s).store.records = s.store.records ∧ (applyTally s).store.loaded = s.store.loaded ∧
    (applyTally s).store.install = s.store.install ∧ (applyTally s).store.room = s.store.room ∧
    (applyTally s).store.protect = s.store.protect ∧ (applyTally s).store.window = s.store.window ∧
    (applyTally s).store.engine = s.store.engine ∧ (applyTally s).store.wipe = s.store.wipe ∧
    (applyTally s).pending = s.pending := by
  unfold applyTally; try dsimp only
  all_goals (repeat' split)
  all_goals first | (simp; done) | (simp_all; done) | rfl

@[simp] theorem loadLamp_frame (s : State) :
    quietPorts (loadLamp s).ports = quietPorts s.ports ∧ (loadLamp s).lamp.burn = s.lamp.burn ∧
    (loadLamp s).lamp.hotWindow = s.lamp.hotWindow ∧ (loadLamp s).lamp.replaceInFlight = s.lamp.replaceInFlight ∧
    (loadLamp s).power.state = s.power.state ∧ (loadLamp s).power.step = s.power.step ∧
    (loadLamp s).power.attempt = s.power.attempt ∧ (loadLamp s).power.restartPending = s.power.restartPending ∧
    (loadLamp s).power.offPending = s.power.offPending ∧ (loadLamp s).power.ignitionOrigin = s.power.ignitionOrigin ∧
    (loadLamp s).power.offOrigin = s.power.offOrigin ∧ (loadLamp s).power.thermalHold = s.power.thermalHold ∧
    (loadLamp s).power.shutter = s.power.shutter ∧ (loadLamp s).power.momentaryMode = s.power.momentaryMode ∧
    (loadLamp s).power.modeEvaluated = s.power.modeEvaluated ∧ (loadLamp s).power.strikeTimer = s.power.strikeTimer ∧
    (loadLamp s).power.pauseTimer = s.power.pauseTimer ∧ (loadLamp s).power.warmingTimer = s.power.warmingTimer ∧
    (loadLamp s).power.coolingTimer = s.power.coolingTimer ∧ (loadLamp s).power.blankDim = s.power.blankDim ∧
    (loadLamp s).power.dimmed = s.power.dimmed ∧ (loadLamp s).power.reportWait = s.power.reportWait ∧
    (loadLamp s).link.state = s.link.state ∧ (loadLamp s).link.silence = s.link.silence ∧
    (loadLamp s).link.outstanding = s.link.outstanding ∧ (loadLamp s).link.answer = s.link.answer ∧
    (loadLamp s).link.nextTag = s.link.nextTag ∧ (loadLamp s).link.lane = s.link.lane ∧
    (loadLamp s).link.reportImage = s.link.reportImage ∧ (loadLamp s).link.lastFormat = s.link.lastFormat ∧
    (loadLamp s).link.lastRejection = s.link.lastRejection ∧ (loadLamp s).link.lostFor = s.link.lostFor ∧
    (loadLamp s).link.sinceMessage = s.link.sinceMessage ∧ (loadLamp s).link.lastSet = s.link.lastSet ∧
    (loadLamp s).link.receiver = s.link.receiver ∧ (loadLamp s).link.transmit = s.link.transmit ∧
    (loadLamp s).router = s.router ∧ (loadLamp s).geometry = s.geometry ∧ (loadLamp s).room = s.room ∧
    (loadLamp s).lockout = s.lockout ∧ (loadLamp s).store.slots = s.store.slots ∧
    (loadLamp s).store.records = s.store.records ∧ (loadLamp s).store.loaded = s.store.loaded ∧
    (loadLamp s).store.install = s.store.install ∧ (loadLamp s).store.room = s.store.room ∧
    (loadLamp s).store.protect = s.store.protect ∧ (loadLamp s).store.window = s.store.window ∧
    (loadLamp s).store.engine = s.store.engine ∧ (loadLamp s).store.wipe = s.store.wipe ∧
    (loadLamp s).pending = s.pending := by
  unfold loadLamp; try dsimp only
  all_goals (repeat' split)
  all_goals first | (simp; done) | (simp_all; done) | rfl

/-! ## Power -/

@[simp] theorem syncNoSignal_frame (held : Bool) (s : State) :
    (syncNoSignal held s).ports = s.ports ∧ (syncNoSignal held s).lamp = s.lamp ∧
    (syncNoSignal held s).power = s.power ∧ (syncNoSignal held s).link = s.link ∧
    (syncNoSignal held s).router.sources = s.router.sources ∧ (syncNoSignal held s).router.raw = s.router.raw ∧
    (syncNoSignal held s).router.debounced = s.router.debounced ∧
    (syncNoSignal held s).router.stability = s.router.stability ∧
    (syncNoSignal held s).router.sample = s.router.sample ∧
    (syncNoSignal held s).router.requested = s.router.requested ∧
    (syncNoSignal held s).router.routedInput = s.router.routedInput ∧
    (syncNoSignal held s).router.routedSource = s.router.routedSource ∧
    (syncNoSignal held s).router.state = s.router.state ∧ (syncNoSignal held s).router.format = s.router.format ∧
    (syncNoSignal held s).router.chain = s.router.chain ∧
    (syncNoSignal held s).router.pendingSlot = s.router.pendingSlot ∧
    (syncNoSignal held s).router.deferred = s.router.deferred ∧
    (syncNoSignal held s).router.settle = s.router.settle ∧
    (syncNoSignal held s).router.settleOrigin = s.router.settleOrigin ∧
    (syncNoSignal held s).router.resolved = s.router.resolved ∧ (syncNoSignal held s).geometry = s.geometry ∧
    (syncNoSignal held s).room = s.room ∧ (syncNoSignal held s).lockout = s.lockout ∧
    (syncNoSignal held s).store = s.store ∧ (syncNoSignal held s).free = s.free ∧
    (syncNoSignal held s).pending = s.pending := by
  unfold syncNoSignal; try dsimp only
  all_goals (repeat' split)
  all_goals first | (simp; done) | (simp_all; done) | rfl

@[simp] theorem enteredCooling_frame (s : State) :
    quietPorts (enteredCooling s).ports = quietPorts s.ports ∧ (enteredCooling s).lamp.account = s.lamp.account ∧
    (enteredCooling s).lamp.level = s.lamp.level ∧ (enteredCooling s).lamp.newest = s.lamp.newest ∧
    (enteredCooling s).lamp.burn = s.lamp.burn ∧ (enteredCooling s).lamp.normalSeen = s.lamp.normalSeen ∧
    (enteredCooling s).lamp.replaceInFlight = s.lamp.replaceInFlight ∧
    (enteredCooling s).lamp.history = s.lamp.history ∧ (enteredCooling s).power = s.power ∧
    (enteredCooling s).link = s.link ∧ (enteredCooling s).router = s.router ∧
    (enteredCooling s).geometry = s.geometry ∧ (enteredCooling s).room = s.room ∧
    (enteredCooling s).lockout = s.lockout ∧ (enteredCooling s).store.slots = s.store.slots ∧
    (enteredCooling s).store.records = s.store.records ∧ (enteredCooling s).store.loaded = s.store.loaded ∧
    (enteredCooling s).store.install = s.store.install ∧ (enteredCooling s).store.room = s.store.room ∧
    (enteredCooling s).store.protect = s.store.protect ∧ (enteredCooling s).store.window = s.store.window ∧
    (enteredCooling s).store.engine = s.store.engine ∧ (enteredCooling s).store.wipe = s.store.wipe ∧
    (enteredCooling s).pending = s.pending := by
  unfold enteredCooling; try dsimp only
  all_goals (repeat' split)
  all_goals first | (simp; done) | (simp_all; done) | rfl

@[simp] theorem enterPower_frame (dest : PowerState) (s : State) :
    quietPorts (enterPower dest s).ports = quietPorts s.ports ∧ (enterPower dest s).lamp.newest = s.lamp.newest ∧
    (enterPower dest s).lamp.replaceInFlight = s.lamp.replaceInFlight ∧
    (enterPower dest s).lamp.history = s.lamp.history ∧ (enterPower dest s).link.state = s.link.state ∧
    (enterPower dest s).link.silence = s.link.silence ∧ (enterPower dest s).link.outstanding = s.link.outstanding ∧
    (enterPower dest s).link.answer = s.link.answer ∧ (enterPower dest s).link.nextTag = s.link.nextTag ∧
    (enterPower dest s).link.lane = s.link.lane ∧ (enterPower dest s).link.reportImage = s.link.reportImage ∧
    (enterPower dest s).link.lastFormat = s.link.lastFormat ∧
    (enterPower dest s).link.lastRejection = s.link.lastRejection ∧
    (enterPower dest s).link.lostFor = s.link.lostFor ∧ (enterPower dest s).link.sinceMessage = s.link.sinceMessage ∧
    (enterPower dest s).link.lastSet = s.link.lastSet ∧ (enterPower dest s).link.receiver = s.link.receiver ∧
    (enterPower dest s).link.transmit = s.link.transmit ∧ (enterPower dest s).router.sources = s.router.sources ∧
    (enterPower dest s).router.raw = s.router.raw ∧ (enterPower dest s).router.debounced = s.router.debounced ∧
    (enterPower dest s).router.stability = s.router.stability ∧ (enterPower dest s).router.sample = s.router.sample ∧
    (enterPower dest s).router.requested = s.router.requested ∧
    (enterPower dest s).router.routedInput = s.router.routedInput ∧
    (enterPower dest s).router.routedSource = s.router.routedSource ∧
    (enterPower dest s).router.state = s.router.state ∧ (enterPower dest s).router.format = s.router.format ∧
    (enterPower dest s).router.chain = s.router.chain ∧
    (enterPower dest s).router.pendingSlot = s.router.pendingSlot ∧
    (enterPower dest s).router.deferred = s.router.deferred ∧ (enterPower dest s).router.settle = s.router.settle ∧
    (enterPower dest s).router.settleOrigin = s.router.settleOrigin ∧
    (enterPower dest s).router.resolved = s.router.resolved ∧ (enterPower dest s).geometry = s.geometry ∧
    (enterPower dest s).room = s.room ∧ (enterPower dest s).lockout = s.lockout ∧
    (enterPower dest s).store.slots = s.store.slots ∧ (enterPower dest s).store.records = s.store.records ∧
    (enterPower dest s).store.loaded = s.store.loaded ∧ (enterPower dest s).store.install = s.store.install ∧
    (enterPower dest s).store.room = s.store.room ∧ (enterPower dest s).store.protect = s.store.protect ∧
    (enterPower dest s).store.window = s.store.window ∧ (enterPower dest s).store.engine = s.store.engine ∧
    (enterPower dest s).store.wipe = s.store.wipe ∧ (enterPower dest s).pending = s.pending := by
  unfold enterPower; try dsimp only
  all_goals (repeat' split)
  all_goals first | (simp; done) | (simp_all; done) | rfl

@[simp] theorem setPower_frame (dest : PowerState) (origin : Origin) (reason : Option Reason) (s : State) :
    quietPorts (setPower dest origin reason s).ports = quietPorts s.ports ∧
    (setPower dest origin reason s).lamp.newest = s.lamp.newest ∧
    (setPower dest origin reason s).lamp.replaceInFlight = s.lamp.replaceInFlight ∧
    (setPower dest origin reason s).lamp.history = s.lamp.history ∧
    (setPower dest origin reason s).link.state = s.link.state ∧
    (setPower dest origin reason s).link.silence = s.link.silence ∧
    (setPower dest origin reason s).link.outstanding = s.link.outstanding ∧
    (setPower dest origin reason s).link.answer = s.link.answer ∧
    (setPower dest origin reason s).link.nextTag = s.link.nextTag ∧
    (setPower dest origin reason s).link.lane = s.link.lane ∧
    (setPower dest origin reason s).link.reportImage = s.link.reportImage ∧
    (setPower dest origin reason s).link.lastFormat = s.link.lastFormat ∧
    (setPower dest origin reason s).link.lastRejection = s.link.lastRejection ∧
    (setPower dest origin reason s).link.lostFor = s.link.lostFor ∧
    (setPower dest origin reason s).link.sinceMessage = s.link.sinceMessage ∧
    (setPower dest origin reason s).link.lastSet = s.link.lastSet ∧
    (setPower dest origin reason s).link.receiver = s.link.receiver ∧
    (setPower dest origin reason s).link.transmit = s.link.transmit ∧
    (setPower dest origin reason s).router.sources = s.router.sources ∧
    (setPower dest origin reason s).router.raw = s.router.raw ∧
    (setPower dest origin reason s).router.debounced = s.router.debounced ∧
    (setPower dest origin reason s).router.stability = s.router.stability ∧
    (setPower dest origin reason s).router.sample = s.router.sample ∧
    (setPower dest origin reason s).router.requested = s.router.requested ∧
    (setPower dest origin reason s).router.routedInput = s.router.routedInput ∧
    (setPower dest origin reason s).router.routedSource = s.router.routedSource ∧
    (setPower dest origin reason s).router.state = s.router.state ∧
    (setPower dest origin reason s).router.format = s.router.format ∧
    (setPower dest origin reason s).router.chain = s.router.chain ∧
    (setPower dest origin reason s).router.pendingSlot = s.router.pendingSlot ∧
    (setPower dest origin reason s).router.deferred = s.router.deferred ∧
    (setPower dest origin reason s).router.settle = s.router.settle ∧
    (setPower dest origin reason s).router.settleOrigin = s.router.settleOrigin ∧
    (setPower dest origin reason s).router.resolved = s.router.resolved ∧
    (setPower dest origin reason s).geometry = s.geometry ∧ (setPower dest origin reason s).room = s.room ∧
    (setPower dest origin reason s).lockout = s.lockout ∧
    (setPower dest origin reason s).store.slots = s.store.slots ∧
    (setPower dest origin reason s).store.records = s.store.records ∧
    (setPower dest origin reason s).store.loaded = s.store.loaded ∧
    (setPower dest origin reason s).store.install = s.store.install ∧
    (setPower dest origin reason s).store.room = s.store.room ∧
    (setPower dest origin reason s).store.protect = s.store.protect ∧
    (setPower dest origin reason s).store.window = s.store.window ∧
    (setPower dest origin reason s).store.engine = s.store.engine ∧
    (setPower dest origin reason s).store.wipe = s.store.wipe ∧
    (setPower dest origin reason s).pending = s.pending := by
  unfold setPower; try dsimp only
  all_goals (repeat' split)
  all_goals first | (simp; done) | (simp_all; done) | rfl

@[simp] theorem settleDark_frame (dest : PowerState) (origin : Origin) (reason : Option Reason) (s : State) :
    quietPorts (settleDark dest origin reason s).ports = quietPorts s.ports ∧
    (settleDark dest origin reason s).lamp.newest = s.lamp.newest ∧
    (settleDark dest origin reason s).lamp.replaceInFlight = s.lamp.replaceInFlight ∧
    (settleDark dest origin reason s).lamp.history = s.lamp.history ∧
    (settleDark dest origin reason s).link.state = s.link.state ∧
    (settleDark dest origin reason s).link.silence = s.link.silence ∧
    (settleDark dest origin reason s).link.outstanding = s.link.outstanding ∧
    (settleDark dest origin reason s).link.answer = s.link.answer ∧
    (settleDark dest origin reason s).link.nextTag = s.link.nextTag ∧
    (settleDark dest origin reason s).link.lane = s.link.lane ∧
    (settleDark dest origin reason s).link.reportImage = s.link.reportImage ∧
    (settleDark dest origin reason s).link.lastFormat = s.link.lastFormat ∧
    (settleDark dest origin reason s).link.lastRejection = s.link.lastRejection ∧
    (settleDark dest origin reason s).link.lostFor = s.link.lostFor ∧
    (settleDark dest origin reason s).link.sinceMessage = s.link.sinceMessage ∧
    (settleDark dest origin reason s).link.lastSet = s.link.lastSet ∧
    (settleDark dest origin reason s).link.receiver = s.link.receiver ∧
    (settleDark dest origin reason s).link.transmit = s.link.transmit ∧
    (settleDark dest origin reason s).router.sources = s.router.sources ∧
    (settleDark dest origin reason s).router.raw = s.router.raw ∧
    (settleDark dest origin reason s).router.debounced = s.router.debounced ∧
    (settleDark dest origin reason s).router.stability = s.router.stability ∧
    (settleDark dest origin reason s).router.sample = s.router.sample ∧
    (settleDark dest origin reason s).router.requested = s.router.requested ∧
    (settleDark dest origin reason s).router.routedInput = s.router.routedInput ∧
    (settleDark dest origin reason s).router.routedSource = s.router.routedSource ∧
    (settleDark dest origin reason s).router.state = s.router.state ∧
    (settleDark dest origin reason s).router.format = s.router.format ∧
    (settleDark dest origin reason s).router.chain = s.router.chain ∧
    (settleDark dest origin reason s).router.pendingSlot = s.router.pendingSlot ∧
    (settleDark dest origin reason s).router.deferred = s.router.deferred ∧
    (settleDark dest origin reason s).router.settle = s.router.settle ∧
    (settleDark dest origin reason s).router.settleOrigin = s.router.settleOrigin ∧
    (settleDark dest origin reason s).router.resolved = s.router.resolved ∧
    (settleDark dest origin reason s).geometry = s.geometry ∧ (settleDark dest origin reason s).room = s.room ∧
    (settleDark dest origin reason s).lockout = s.lockout ∧
    (settleDark dest origin reason s).store.slots = s.store.slots ∧
    (settleDark dest origin reason s).store.records = s.store.records ∧
    (settleDark dest origin reason s).store.loaded = s.store.loaded ∧
    (settleDark dest origin reason s).store.install = s.store.install ∧
    (settleDark dest origin reason s).store.room = s.store.room ∧
    (settleDark dest origin reason s).store.protect = s.store.protect ∧
    (settleDark dest origin reason s).store.window = s.store.window ∧
    (settleDark dest origin reason s).store.engine = s.store.engine ∧
    (settleDark dest origin reason s).store.wipe = s.store.wipe ∧
    (settleDark dest origin reason s).pending = s.pending := by
  unfold settleDark; try dsimp only
  all_goals (repeat' split)
  all_goals first | (simp; done) | (simp_all; done) | rfl

@[simp] theorem postPowerRefused_frame (r : Reason) (s : State) :
    quietPorts (postPowerRefused r s).ports = quietPorts s.ports ∧ (postPowerRefused r s).lamp = s.lamp ∧
    (postPowerRefused r s).power = s.power ∧ (postPowerRefused r s).link = s.link ∧
    (postPowerRefused r s).router = s.router ∧ (postPowerRefused r s).geometry = s.geometry ∧
    (postPowerRefused r s).room = s.room ∧ (postPowerRefused r s).lockout = s.lockout ∧
    (postPowerRefused r s).store = s.store ∧ (postPowerRefused r s).pending = s.pending := by
  unfold postPowerRefused; try dsimp only
  all_goals (repeat' split)
  all_goals first | (simp; done) | (simp_all; done) | rfl

@[simp] theorem tellDropped_frame (o : Origin) (r : Reason) (s : State) :
    quietPorts (tellDropped o r s).ports = quietPorts s.ports ∧ (tellDropped o r s).lamp = s.lamp ∧
    (tellDropped o r s).power = s.power ∧ (tellDropped o r s).link = s.link ∧ (tellDropped o r s).router = s.router ∧
    (tellDropped o r s).geometry = s.geometry ∧ (tellDropped o r s).room = s.room ∧
    (tellDropped o r s).lockout = s.lockout ∧ (tellDropped o r s).store = s.store ∧
    (tellDropped o r s).pending = s.pending := by
  unfold tellDropped; try dsimp only
  all_goals (repeat' split)
  all_goals first | (simp; done) | (simp_all; done) | rfl

@[simp] theorem beginAttempt_frame (n : Nat) (s : State) :
    (beginAttempt n s).ports = s.ports ∧ (beginAttempt n s).lamp = s.lamp ∧
    (beginAttempt n s).power.state = s.power.state ∧
    (beginAttempt n s).power.restartPending = s.power.restartPending ∧
    (beginAttempt n s).power.offPending = s.power.offPending ∧
    (beginAttempt n s).power.ignitionOrigin = s.power.ignitionOrigin ∧
    (beginAttempt n s).power.offOrigin = s.power.offOrigin ∧
    (beginAttempt n s).power.thermalHold = s.power.thermalHold ∧ (beginAttempt n s).power.shutter = s.power.shutter ∧
    (beginAttempt n s).power.momentaryMode = s.power.momentaryMode ∧
    (beginAttempt n s).power.effectiveMode = s.power.effectiveMode ∧
    (beginAttempt n s).power.modeEvaluated = s.power.modeEvaluated ∧
    (beginAttempt n s).power.strikeTimer = s.power.strikeTimer ∧
    (beginAttempt n s).power.pauseTimer = s.power.pauseTimer ∧
    (beginAttempt n s).power.warmingTimer = s.power.warmingTimer ∧
    (beginAttempt n s).power.coolingTimer = s.power.coolingTimer ∧
    (beginAttempt n s).power.blankDim = s.power.blankDim ∧ (beginAttempt n s).power.dimmed = s.power.dimmed ∧
    (beginAttempt n s).power.reportWait = s.power.reportWait ∧ (beginAttempt n s).link.state = s.link.state ∧
    (beginAttempt n s).link.silence = s.link.silence ∧ (beginAttempt n s).link.outstanding = s.link.outstanding ∧
    (beginAttempt n s).link.answer = s.link.answer ∧ (beginAttempt n s).link.nextTag = s.link.nextTag ∧
    (beginAttempt n s).link.lane = s.link.lane ∧ (beginAttempt n s).link.reportImage = s.link.reportImage ∧
    (beginAttempt n s).link.lastFormat = s.link.lastFormat ∧
    (beginAttempt n s).link.lastRejection = s.link.lastRejection ∧ (beginAttempt n s).link.lostFor = s.link.lostFor ∧
    (beginAttempt n s).link.sinceMessage = s.link.sinceMessage ∧ (beginAttempt n s).link.lastSet = s.link.lastSet ∧
    (beginAttempt n s).link.receiver = s.link.receiver ∧ (beginAttempt n s).link.transmit = s.link.transmit ∧
    (beginAttempt n s).router = s.router ∧ (beginAttempt n s).geometry = s.geometry ∧
    (beginAttempt n s).room = s.room ∧ (beginAttempt n s).lockout = s.lockout ∧ (beginAttempt n s).store = s.store ∧
    (beginAttempt n s).free = s.free ∧ (beginAttempt n s).pending = s.pending := by
  unfold beginAttempt; try dsimp only
  all_goals (repeat' split)
  all_goals first | (simp; done) | (simp_all; done) | rfl

@[simp] theorem beginSequence_frame (o : Origin) (s : State) :
    quietPorts (beginSequence o s).ports = quietPorts s.ports ∧ (beginSequence o s).lamp.newest = s.lamp.newest ∧
    (beginSequence o s).lamp.replaceInFlight = s.lamp.replaceInFlight ∧
    (beginSequence o s).lamp.history = s.lamp.history ∧ (beginSequence o s).link.state = s.link.state ∧
    (beginSequence o s).link.silence = s.link.silence ∧ (beginSequence o s).link.outstanding = s.link.outstanding ∧
    (beginSequence o s).link.answer = s.link.answer ∧ (beginSequence o s).link.nextTag = s.link.nextTag ∧
    (beginSequence o s).link.lane = s.link.lane ∧ (beginSequence o s).link.reportImage = s.link.reportImage ∧
    (beginSequence o s).link.lastFormat = s.link.lastFormat ∧
    (beginSequence o s).link.lastRejection = s.link.lastRejection ∧
    (beginSequence o s).link.lostFor = s.link.lostFor ∧ (beginSequence o s).link.sinceMessage = s.link.sinceMessage ∧
    (beginSequence o s).link.lastSet = s.link.lastSet ∧ (beginSequence o s).link.receiver = s.link.receiver ∧
    (beginSequence o s).link.transmit = s.link.transmit ∧ (beginSequence o s).router.sources = s.router.sources ∧
    (beginSequence o s).router.raw = s.router.raw ∧ (beginSequence o s).router.debounced = s.router.debounced ∧
    (beginSequence o s).router.stability = s.router.stability ∧ (beginSequence o s).router.sample = s.router.sample ∧
    (beginSequence o s).router.requested = s.router.requested ∧
    (beginSequence o s).router.routedInput = s.router.routedInput ∧
    (beginSequence o s).router.routedSource = s.router.routedSource ∧
    (beginSequence o s).router.state = s.router.state ∧ (beginSequence o s).router.format = s.router.format ∧
    (beginSequence o s).router.chain = s.router.chain ∧
    (beginSequence o s).router.pendingSlot = s.router.pendingSlot ∧
    (beginSequence o s).router.deferred = s.router.deferred ∧ (beginSequence o s).router.settle = s.router.settle ∧
    (beginSequence o s).router.settleOrigin = s.router.settleOrigin ∧
    (beginSequence o s).router.resolved = s.router.resolved ∧ (beginSequence o s).geometry = s.geometry ∧
    (beginSequence o s).room = s.room ∧ (beginSequence o s).lockout = s.lockout ∧
    (beginSequence o s).store.slots = s.store.slots ∧ (beginSequence o s).store.records = s.store.records ∧
    (beginSequence o s).store.loaded = s.store.loaded ∧ (beginSequence o s).store.install = s.store.install ∧
    (beginSequence o s).store.room = s.store.room ∧ (beginSequence o s).store.protect = s.store.protect ∧
    (beginSequence o s).store.window = s.store.window ∧ (beginSequence o s).store.engine = s.store.engine ∧
    (beginSequence o s).store.wipe = s.store.wipe ∧ (beginSequence o s).pending = s.pending := by
  unfold beginSequence; try dsimp only
  all_goals (repeat' split)
  all_goals first | (simp; done) | (simp_all; done) | rfl

@[simp] theorem igniteAccepted_frame (s : State) :
    quietPorts (igniteAccepted s).ports = quietPorts s.ports ∧ (igniteAccepted s).lamp.newest = s.lamp.newest ∧
    (igniteAccepted s).lamp.burn = s.lamp.burn ∧ (igniteAccepted s).lamp.hotWindow = s.lamp.hotWindow ∧
    (igniteAccepted s).lamp.replaceInFlight = s.lamp.replaceInFlight ∧
    (igniteAccepted s).lamp.history = s.lamp.history ∧ (igniteAccepted s).power.state = s.power.state ∧
    (igniteAccepted s).power.attempt = s.power.attempt ∧
    (igniteAccepted s).power.restartPending = s.power.restartPending ∧
    (igniteAccepted s).power.offPending = s.power.offPending ∧
    (igniteAccepted s).power.ignitionOrigin = s.power.ignitionOrigin ∧
    (igniteAccepted s).power.offOrigin = s.power.offOrigin ∧
    (igniteAccepted s).power.thermalHold = s.power.thermalHold ∧ (igniteAccepted s).power.shutter = s.power.shutter ∧
    (igniteAccepted s).power.momentaryMode = s.power.momentaryMode ∧
    (igniteAccepted s).power.modeEvaluated = s.power.modeEvaluated ∧
    (igniteAccepted s).power.pauseTimer = s.power.pauseTimer ∧
    (igniteAccepted s).power.warmingTimer = s.power.warmingTimer ∧
    (igniteAccepted s).power.coolingTimer = s.power.coolingTimer ∧
    (igniteAccepted s).power.blankDim = s.power.blankDim ∧ (igniteAccepted s).power.dimmed = s.power.dimmed ∧
    (igniteAccepted s).power.reportWait = s.power.reportWait ∧ (igniteAccepted s).link.state = s.link.state ∧
    (igniteAccepted s).link.silence = s.link.silence ∧ (igniteAccepted s).link.outstanding = s.link.outstanding ∧
    (igniteAccepted s).link.answer = s.link.answer ∧ (igniteAccepted s).link.nextTag = s.link.nextTag ∧
    (igniteAccepted s).link.lane = s.link.lane ∧ (igniteAccepted s).link.reportImage = s.link.reportImage ∧
    (igniteAccepted s).link.lastFormat = s.link.lastFormat ∧
    (igniteAccepted s).link.lastRejection = s.link.lastRejection ∧ (igniteAccepted s).link.lostFor = s.link.lostFor ∧
    (igniteAccepted s).link.sinceMessage = s.link.sinceMessage ∧ (igniteAccepted s).link.lastSet = s.link.lastSet ∧
    (igniteAccepted s).link.receiver = s.link.receiver ∧ (igniteAccepted s).link.transmit = s.link.transmit ∧
    (igniteAccepted s).router = s.router ∧ (igniteAccepted s).geometry = s.geometry ∧
    (igniteAccepted s).room = s.room ∧ (igniteAccepted s).lockout = s.lockout ∧
    (igniteAccepted s).store.slots = s.store.slots ∧ (igniteAccepted s).store.records = s.store.records ∧
    (igniteAccepted s).store.loaded = s.store.loaded ∧ (igniteAccepted s).store.install = s.store.install ∧
    (igniteAccepted s).store.room = s.store.room ∧ (igniteAccepted s).store.protect = s.store.protect ∧
    (igniteAccepted s).store.window = s.store.window ∧ (igniteAccepted s).store.engine = s.store.engine ∧
    (igniteAccepted s).store.wipe = s.store.wipe ∧ (igniteAccepted s).pending = s.pending := by
  unfold igniteAccepted; try dsimp only
  all_goals (repeat' split)
  all_goals first | (simp; done) | (simp_all; done) | rfl

@[simp] theorem igniteRejected_frame (s : State) :
    quietPorts (igniteRejected s).ports = quietPorts s.ports ∧ (igniteRejected s).lamp.newest = s.lamp.newest ∧
    (igniteRejected s).lamp.replaceInFlight = s.lamp.replaceInFlight ∧
    (igniteRejected s).lamp.history = s.lamp.history ∧ (igniteRejected s).link.state = s.link.state ∧
    (igniteRejected s).link.silence = s.link.silence ∧ (igniteRejected s).link.outstanding = s.link.outstanding ∧
    (igniteRejected s).link.answer = s.link.answer ∧ (igniteRejected s).link.nextTag = s.link.nextTag ∧
    (igniteRejected s).link.lane = s.link.lane ∧ (igniteRejected s).link.reportImage = s.link.reportImage ∧
    (igniteRejected s).link.lastFormat = s.link.lastFormat ∧
    (igniteRejected s).link.lastRejection = s.link.lastRejection ∧ (igniteRejected s).link.lostFor = s.link.lostFor ∧
    (igniteRejected s).link.sinceMessage = s.link.sinceMessage ∧ (igniteRejected s).link.lastSet = s.link.lastSet ∧
    (igniteRejected s).link.receiver = s.link.receiver ∧ (igniteRejected s).link.transmit = s.link.transmit ∧
    (igniteRejected s).router.sources = s.router.sources ∧ (igniteRejected s).router.raw = s.router.raw ∧
    (igniteRejected s).router.debounced = s.router.debounced ∧
    (igniteRejected s).router.stability = s.router.stability ∧ (igniteRejected s).router.sample = s.router.sample ∧
    (igniteRejected s).router.requested = s.router.requested ∧
    (igniteRejected s).router.routedInput = s.router.routedInput ∧
    (igniteRejected s).router.routedSource = s.router.routedSource ∧
    (igniteRejected s).router.state = s.router.state ∧ (igniteRejected s).router.format = s.router.format ∧
    (igniteRejected s).router.chain = s.router.chain ∧ (igniteRejected s).router.pendingSlot = s.router.pendingSlot ∧
    (igniteRejected s).router.deferred = s.router.deferred ∧ (igniteRejected s).router.settle = s.router.settle ∧
    (igniteRejected s).router.settleOrigin = s.router.settleOrigin ∧
    (igniteRejected s).router.resolved = s.router.resolved ∧ (igniteRejected s).geometry = s.geometry ∧
    (igniteRejected s).room = s.room ∧ (igniteRejected s).lockout = s.lockout ∧
    (igniteRejected s).store.slots = s.store.slots ∧ (igniteRejected s).store.records = s.store.records ∧
    (igniteRejected s).store.loaded = s.store.loaded ∧ (igniteRejected s).store.install = s.store.install ∧
    (igniteRejected s).store.room = s.store.room ∧ (igniteRejected s).store.protect = s.store.protect ∧
    (igniteRejected s).store.window = s.store.window ∧ (igniteRejected s).store.engine = s.store.engine ∧
    (igniteRejected s).store.wipe = s.store.wipe ∧ (igniteRejected s).pending = s.pending := by
  unfold igniteRejected; try dsimp only
  all_goals (repeat' split)
  all_goals first | (simp; done) | (simp_all; done) | rfl

@[simp] theorem attemptSucceeds_frame (s : State) :
    quietPorts (attemptSucceeds s).ports = quietPorts s.ports ∧ (attemptSucceeds s).lamp.newest = s.lamp.newest ∧
    (attemptSucceeds s).lamp.replaceInFlight = s.lamp.replaceInFlight ∧
    (attemptSucceeds s).lamp.history = s.lamp.history ∧ (attemptSucceeds s).link.state = s.link.state ∧
    (attemptSucceeds s).link.silence = s.link.silence ∧ (attemptSucceeds s).link.outstanding = s.link.outstanding ∧
    (attemptSucceeds s).link.answer = s.link.answer ∧ (attemptSucceeds s).link.nextTag = s.link.nextTag ∧
    (attemptSucceeds s).link.lane = s.link.lane ∧ (attemptSucceeds s).link.reportImage = s.link.reportImage ∧
    (attemptSucceeds s).link.lastFormat = s.link.lastFormat ∧
    (attemptSucceeds s).link.lastRejection = s.link.lastRejection ∧
    (attemptSucceeds s).link.lostFor = s.link.lostFor ∧ (attemptSucceeds s).link.sinceMessage = s.link.sinceMessage ∧
    (attemptSucceeds s).link.lastSet = s.link.lastSet ∧ (attemptSucceeds s).link.receiver = s.link.receiver ∧
    (attemptSucceeds s).link.transmit = s.link.transmit ∧ (attemptSucceeds s).router.sources = s.router.sources ∧
    (attemptSucceeds s).router.raw = s.router.raw ∧ (attemptSucceeds s).router.debounced = s.router.debounced ∧
    (attemptSucceeds s).router.stability = s.router.stability ∧ (attemptSucceeds s).router.sample = s.router.sample ∧
    (attemptSucceeds s).router.requested = s.router.requested ∧
    (attemptSucceeds s).router.routedInput = s.router.routedInput ∧
    (attemptSucceeds s).router.routedSource = s.router.routedSource ∧
    (attemptSucceeds s).router.state = s.router.state ∧ (attemptSucceeds s).router.format = s.router.format ∧
    (attemptSucceeds s).router.chain = s.router.chain ∧
    (attemptSucceeds s).router.pendingSlot = s.router.pendingSlot ∧
    (attemptSucceeds s).router.deferred = s.router.deferred ∧ (attemptSucceeds s).router.settle = s.router.settle ∧
    (attemptSucceeds s).router.settleOrigin = s.router.settleOrigin ∧
    (attemptSucceeds s).router.resolved = s.router.resolved ∧ (attemptSucceeds s).geometry = s.geometry ∧
    (attemptSucceeds s).room = s.room ∧ (attemptSucceeds s).lockout = s.lockout ∧
    (attemptSucceeds s).store.slots = s.store.slots ∧ (attemptSucceeds s).store.records = s.store.records ∧
    (attemptSucceeds s).store.loaded = s.store.loaded ∧ (attemptSucceeds s).store.install = s.store.install ∧
    (attemptSucceeds s).store.room = s.store.room ∧ (attemptSucceeds s).store.protect = s.store.protect ∧
    (attemptSucceeds s).store.window = s.store.window ∧ (attemptSucceeds s).store.engine = s.store.engine ∧
    (attemptSucceeds s).store.wipe = s.store.wipe ∧ (attemptSucceeds s).pending = s.pending := by
  unfold attemptSucceeds; try dsimp only
  all_goals (repeat' split)
  all_goals first | (simp; done) | (simp_all; done) | rfl

@[simp] theorem enterFault_frame (s : State) :
    quietPorts (enterFault s).ports = quietPorts s.ports ∧ (enterFault s).lamp.newest = s.lamp.newest ∧
    (enterFault s).lamp.replaceInFlight = s.lamp.replaceInFlight ∧ (enterFault s).lamp.history = s.lamp.history ∧
    (enterFault s).link.state = s.link.state ∧ (enterFault s).link.silence = s.link.silence ∧
    (enterFault s).link.outstanding = s.link.outstanding ∧ (enterFault s).link.answer = s.link.answer ∧
    (enterFault s).link.nextTag = s.link.nextTag ∧ (enterFault s).link.lane = s.link.lane ∧
    (enterFault s).link.reportImage = s.link.reportImage ∧ (enterFault s).link.lastFormat = s.link.lastFormat ∧
    (enterFault s).link.lastRejection = s.link.lastRejection ∧ (enterFault s).link.lostFor = s.link.lostFor ∧
    (enterFault s).link.sinceMessage = s.link.sinceMessage ∧ (enterFault s).link.lastSet = s.link.lastSet ∧
    (enterFault s).link.receiver = s.link.receiver ∧ (enterFault s).link.transmit = s.link.transmit ∧
    (enterFault s).router.sources = s.router.sources ∧ (enterFault s).router.raw = s.router.raw ∧
    (enterFault s).router.debounced = s.router.debounced ∧ (enterFault s).router.stability = s.router.stability ∧
    (enterFault s).router.sample = s.router.sample ∧ (enterFault s).router.requested = s.router.requested ∧
    (enterFault s).router.routedInput = s.router.routedInput ∧
    (enterFault s).router.routedSource = s.router.routedSource ∧ (enterFault s).router.state = s.router.state ∧
    (enterFault s).router.format = s.router.format ∧ (enterFault s).router.chain = s.router.chain ∧
    (enterFault s).router.pendingSlot = s.router.pendingSlot ∧ (enterFault s).router.deferred = s.router.deferred ∧
    (enterFault s).router.settle = s.router.settle ∧ (enterFault s).router.settleOrigin = s.router.settleOrigin ∧
    (enterFault s).router.resolved = s.router.resolved ∧ (enterFault s).geometry = s.geometry ∧
    (enterFault s).room = s.room ∧ (enterFault s).lockout = s.lockout ∧ (enterFault s).store.slots = s.store.slots ∧
    (enterFault s).store.records = s.store.records ∧ (enterFault s).store.loaded = s.store.loaded ∧
    (enterFault s).store.install = s.store.install ∧ (enterFault s).store.room = s.store.room ∧
    (enterFault s).store.protect = s.store.protect ∧ (enterFault s).store.window = s.store.window ∧
    (enterFault s).store.engine = s.store.engine ∧ (enterFault s).store.wipe = s.store.wipe ∧
    (enterFault s).pending = s.pending := by
  unfold enterFault; try dsimp only
  all_goals (repeat' split)
  all_goals first | (simp; done) | (simp_all; done) | rfl

@[simp] theorem attemptFails_frame (timeout : Bool) (s : State) :
    quietPorts (attemptFails timeout s).ports = quietPorts s.ports ∧
    (attemptFails timeout s).lamp.newest = s.lamp.newest ∧
    (attemptFails timeout s).lamp.replaceInFlight = s.lamp.replaceInFlight ∧
    (attemptFails timeout s).lamp.history = s.lamp.history ∧ (attemptFails timeout s).link.state = s.link.state ∧
    (attemptFails timeout s).link.silence = s.link.silence ∧
    (attemptFails timeout s).link.outstanding = s.link.outstanding ∧
    (attemptFails timeout s).link.answer = s.link.answer ∧ (attemptFails timeout s).link.nextTag = s.link.nextTag ∧
    (attemptFails timeout s).link.lane = s.link.lane ∧
    (attemptFails timeout s).link.reportImage = s.link.reportImage ∧
    (attemptFails timeout s).link.lastFormat = s.link.lastFormat ∧
    (attemptFails timeout s).link.lastRejection = s.link.lastRejection ∧
    (attemptFails timeout s).link.lostFor = s.link.lostFor ∧
    (attemptFails timeout s).link.sinceMessage = s.link.sinceMessage ∧
    (attemptFails timeout s).link.lastSet = s.link.lastSet ∧
    (attemptFails timeout s).link.receiver = s.link.receiver ∧
    (attemptFails timeout s).link.transmit = s.link.transmit ∧
    (attemptFails timeout s).router.sources = s.router.sources ∧ (attemptFails timeout s).router.raw = s.router.raw ∧
    (attemptFails timeout s).router.debounced = s.router.debounced ∧
    (attemptFails timeout s).router.stability = s.router.stability ∧
    (attemptFails timeout s).router.sample = s.router.sample ∧
    (attemptFails timeout s).router.requested = s.router.requested ∧
    (attemptFails timeout s).router.routedInput = s.router.routedInput ∧
    (attemptFails timeout s).router.routedSource = s.router.routedSource ∧
    (attemptFails timeout s).router.state = s.router.state ∧
    (attemptFails timeout s).router.format = s.router.format ∧
    (attemptFails timeout s).router.chain = s.router.chain ∧
    (attemptFails timeout s).router.pendingSlot = s.router.pendingSlot ∧
    (attemptFails timeout s).router.deferred = s.router.deferred ∧
    (attemptFails timeout s).router.settle = s.router.settle ∧
    (attemptFails timeout s).router.settleOrigin = s.router.settleOrigin ∧
    (attemptFails timeout s).router.resolved = s.router.resolved ∧ (attemptFails timeout s).geometry = s.geometry ∧
    (attemptFails timeout s).room = s.room ∧ (attemptFails timeout s).lockout = s.lockout ∧
    (attemptFails timeout s).store.slots = s.store.slots ∧ (attemptFails timeout s).store.records = s.store.records ∧
    (attemptFails timeout s).store.loaded = s.store.loaded ∧
    (attemptFails timeout s).store.install = s.store.install ∧ (attemptFails timeout s).store.room = s.store.room ∧
    (attemptFails timeout s).store.protect = s.store.protect ∧
    (attemptFails timeout s).store.window = s.store.window ∧ (attemptFails timeout s).store.engine = s.store.engine ∧
    (attemptFails timeout s).store.wipe = s.store.wipe ∧ (attemptFails timeout s).pending = s.pending := by
  unfold attemptFails; try dsimp only
  all_goals (repeat' split)
  all_goals first | (simp; done) | (simp_all; done) | rfl

@[simp] theorem strikeResultTaken_frame (ok : Bool) (s : State) :
    quietPorts (strikeResultTaken ok s).ports = quietPorts s.ports ∧
    (strikeResultTaken ok s).lamp.newest = s.lamp.newest ∧
    (strikeResultTaken ok s).lamp.replaceInFlight = s.lamp.replaceInFlight ∧
    (strikeResultTaken ok s).lamp.history = s.lamp.history ∧ (strikeResultTaken ok s).link.state = s.link.state ∧
    (strikeResultTaken ok s).link.silence = s.link.silence ∧
    (strikeResultTaken ok s).link.outstanding = s.link.outstanding ∧
    (strikeResultTaken ok s).link.answer = s.link.answer ∧ (strikeResultTaken ok s).link.nextTag = s.link.nextTag ∧
    (strikeResultTaken ok s).link.lane = s.link.lane ∧
    (strikeResultTaken ok s).link.reportImage = s.link.reportImage ∧
    (strikeResultTaken ok s).link.lastFormat = s.link.lastFormat ∧
    (strikeResultTaken ok s).link.lastRejection = s.link.lastRejection ∧
    (strikeResultTaken ok s).link.lostFor = s.link.lostFor ∧
    (strikeResultTaken ok s).link.sinceMessage = s.link.sinceMessage ∧
    (strikeResultTaken ok s).link.lastSet = s.link.lastSet ∧
    (strikeResultTaken ok s).link.receiver = s.link.receiver ∧
    (strikeResultTaken ok s).link.transmit = s.link.transmit ∧
    (strikeResultTaken ok s).router.sources = s.router.sources ∧ (strikeResultTaken ok s).router.raw = s.router.raw ∧
    (strikeResultTaken ok s).router.debounced = s.router.debounced ∧
    (strikeResultTaken ok s).router.stability = s.router.stability ∧
    (strikeResultTaken ok s).router.sample = s.router.sample ∧
    (strikeResultTaken ok s).router.requested = s.router.requested ∧
    (strikeResultTaken ok s).router.routedInput = s.router.routedInput ∧
    (strikeResultTaken ok s).router.routedSource = s.router.routedSource ∧
    (strikeResultTaken ok s).router.state = s.router.state ∧
    (strikeResultTaken ok s).router.format = s.router.format ∧
    (strikeResultTaken ok s).router.chain = s.router.chain ∧
    (strikeResultTaken ok s).router.pendingSlot = s.router.pendingSlot ∧
    (strikeResultTaken ok s).router.deferred = s.router.deferred ∧
    (strikeResultTaken ok s).router.settle = s.router.settle ∧
    (strikeResultTaken ok s).router.settleOrigin = s.router.settleOrigin ∧
    (strikeResultTaken ok s).router.resolved = s.router.resolved ∧ (strikeResultTaken ok s).geometry = s.geometry ∧
    (strikeResultTaken ok s).room = s.room ∧ (strikeResultTaken ok s).lockout = s.lockout ∧
    (strikeResultTaken ok s).store.slots = s.store.slots ∧ (strikeResultTaken ok s).store.records = s.store.records ∧
    (strikeResultTaken ok s).store.loaded = s.store.loaded ∧
    (strikeResultTaken ok s).store.install = s.store.install ∧ (strikeResultTaken ok s).store.room = s.store.room ∧
    (strikeResultTaken ok s).store.protect = s.store.protect ∧
    (strikeResultTaken ok s).store.window = s.store.window ∧ (strikeResultTaken ok s).store.engine = s.store.engine ∧
    (strikeResultTaken ok s).store.wipe = s.store.wipe ∧ (strikeResultTaken ok s).pending = s.pending := by
  unfold strikeResultTaken; try dsimp only
  all_goals (repeat' split)
  all_goals first | (simp; done) | (simp_all; done) | rfl

@[simp] theorem pauseEnds_frame (s : State) :
    quietPorts (pauseEnds s).ports = quietPorts s.ports ∧ (pauseEnds s).lamp.newest = s.lamp.newest ∧
    (pauseEnds s).lamp.replaceInFlight = s.lamp.replaceInFlight ∧ (pauseEnds s).lamp.history = s.lamp.history ∧
    (pauseEnds s).link.state = s.link.state ∧ (pauseEnds s).link.silence = s.link.silence ∧
    (pauseEnds s).link.outstanding = s.link.outstanding ∧ (pauseEnds s).link.answer = s.link.answer ∧
    (pauseEnds s).link.nextTag = s.link.nextTag ∧ (pauseEnds s).link.lane = s.link.lane ∧
    (pauseEnds s).link.reportImage = s.link.reportImage ∧ (pauseEnds s).link.lastFormat = s.link.lastFormat ∧
    (pauseEnds s).link.lastRejection = s.link.lastRejection ∧ (pauseEnds s).link.lostFor = s.link.lostFor ∧
    (pauseEnds s).link.sinceMessage = s.link.sinceMessage ∧ (pauseEnds s).link.lastSet = s.link.lastSet ∧
    (pauseEnds s).link.receiver = s.link.receiver ∧ (pauseEnds s).link.transmit = s.link.transmit ∧
    (pauseEnds s).router.sources = s.router.sources ∧ (pauseEnds s).router.raw = s.router.raw ∧
    (pauseEnds s).router.debounced = s.router.debounced ∧ (pauseEnds s).router.stability = s.router.stability ∧
    (pauseEnds s).router.sample = s.router.sample ∧ (pauseEnds s).router.requested = s.router.requested ∧
    (pauseEnds s).router.routedInput = s.router.routedInput ∧
    (pauseEnds s).router.routedSource = s.router.routedSource ∧ (pauseEnds s).router.state = s.router.state ∧
    (pauseEnds s).router.format = s.router.format ∧ (pauseEnds s).router.chain = s.router.chain ∧
    (pauseEnds s).router.pendingSlot = s.router.pendingSlot ∧ (pauseEnds s).router.deferred = s.router.deferred ∧
    (pauseEnds s).router.settle = s.router.settle ∧ (pauseEnds s).router.settleOrigin = s.router.settleOrigin ∧
    (pauseEnds s).router.resolved = s.router.resolved ∧ (pauseEnds s).geometry = s.geometry ∧
    (pauseEnds s).room = s.room ∧ (pauseEnds s).lockout = s.lockout ∧ (pauseEnds s).store.slots = s.store.slots ∧
    (pauseEnds s).store.records = s.store.records ∧ (pauseEnds s).store.loaded = s.store.loaded ∧
    (pauseEnds s).store.install = s.store.install ∧ (pauseEnds s).store.room = s.store.room ∧
    (pauseEnds s).store.protect = s.store.protect ∧ (pauseEnds s).store.window = s.store.window ∧
    (pauseEnds s).store.engine = s.store.engine ∧ (pauseEnds s).store.wipe = s.store.wipe ∧
    (pauseEnds s).pending = s.pending := by
  unfold pauseEnds; try dsimp only
  all_goals (repeat' split)
  all_goals first | (simp; done) | (simp_all; done) | rfl

@[simp] theorem keepLit_frame (o : Origin) (s : State) :
    (keepLit o s).ports = s.ports ∧ (keepLit o s).lamp = s.lamp ∧ (keepLit o s).power.state = s.power.state ∧
    (keepLit o s).power.step = s.power.step ∧ (keepLit o s).power.attempt = s.power.attempt ∧
    (keepLit o s).power.restartPending = s.power.restartPending ∧
    (keepLit o s).power.thermalHold = s.power.thermalHold ∧ (keepLit o s).power.shutter = s.power.shutter ∧
    (keepLit o s).power.momentaryMode = s.power.momentaryMode ∧
    (keepLit o s).power.effectiveMode = s.power.effectiveMode ∧
    (keepLit o s).power.modeEvaluated = s.power.modeEvaluated ∧
    (keepLit o s).power.strikeTimer = s.power.strikeTimer ∧ (keepLit o s).power.pauseTimer = s.power.pauseTimer ∧
    (keepLit o s).power.warmingTimer = s.power.warmingTimer ∧
    (keepLit o s).power.coolingTimer = s.power.coolingTimer ∧ (keepLit o s).power.blankDim = s.power.blankDim ∧
    (keepLit o s).power.dimmed = s.power.dimmed ∧ (keepLit o s).power.reportWait = s.power.reportWait ∧
    (keepLit o s).link = s.link ∧ (keepLit o s).router = s.router ∧ (keepLit o s).geometry = s.geometry ∧
    (keepLit o s).room = s.room ∧ (keepLit o s).lockout = s.lockout ∧ (keepLit o s).store = s.store ∧
    (keepLit o s).free = s.free ∧ (keepLit o s).pending = s.pending := by
  unfold keepLit; try dsimp only
  all_goals (repeat' split)
  all_goals first | (simp; done) | (simp_all; done) | rfl

@[simp] theorem setRestart_frame (o : Origin) (s : State) :
    (setRestart o s).ports = s.ports ∧ (setRestart o s).lamp = s.lamp ∧ (setRestart o s).power.state = s.power.state ∧
    (setRestart o s).power.step = s.power.step ∧ (setRestart o s).power.attempt = s.power.attempt ∧
    (setRestart o s).power.thermalHold = s.power.thermalHold ∧ (setRestart o s).power.shutter = s.power.shutter ∧
    (setRestart o s).power.momentaryMode = s.power.momentaryMode ∧
    (setRestart o s).power.effectiveMode = s.power.effectiveMode ∧
    (setRestart o s).power.modeEvaluated = s.power.modeEvaluated ∧
    (setRestart o s).power.strikeTimer = s.power.strikeTimer ∧
    (setRestart o s).power.pauseTimer = s.power.pauseTimer ∧
    (setRestart o s).power.warmingTimer = s.power.warmingTimer ∧
    (setRestart o s).power.coolingTimer = s.power.coolingTimer ∧ (setRestart o s).power.blankDim = s.power.blankDim ∧
    (setRestart o s).power.dimmed = s.power.dimmed ∧ (setRestart o s).power.reportWait = s.power.reportWait ∧
    (setRestart o s).link = s.link ∧ (setRestart o s).router = s.router ∧ (setRestart o s).geometry = s.geometry ∧
    (setRestart o s).room = s.room ∧ (setRestart o s).lockout = s.lockout ∧ (setRestart o s).store = s.store ∧
    (setRestart o s).free = s.free ∧ (setRestart o s).pending = s.pending := by
  unfold setRestart; try dsimp only
  all_goals (repeat' split)
  all_goals first | (simp; done) | (simp_all; done) | rfl

@[simp] theorem powerOn_frame (o : Origin) (s : State) :
    quietPorts (powerOn o s).2.ports = quietPorts s.ports ∧ (powerOn o s).2.lamp.newest = s.lamp.newest ∧
    (powerOn o s).2.lamp.replaceInFlight = s.lamp.replaceInFlight ∧ (powerOn o s).2.lamp.history = s.lamp.history ∧
    (powerOn o s).2.link.state = s.link.state ∧ (powerOn o s).2.link.silence = s.link.silence ∧
    (powerOn o s).2.link.outstanding = s.link.outstanding ∧ (powerOn o s).2.link.answer = s.link.answer ∧
    (powerOn o s).2.link.nextTag = s.link.nextTag ∧ (powerOn o s).2.link.lane = s.link.lane ∧
    (powerOn o s).2.link.reportImage = s.link.reportImage ∧ (powerOn o s).2.link.lastFormat = s.link.lastFormat ∧
    (powerOn o s).2.link.lastRejection = s.link.lastRejection ∧ (powerOn o s).2.link.lostFor = s.link.lostFor ∧
    (powerOn o s).2.link.sinceMessage = s.link.sinceMessage ∧ (powerOn o s).2.link.lastSet = s.link.lastSet ∧
    (powerOn o s).2.link.receiver = s.link.receiver ∧ (powerOn o s).2.link.transmit = s.link.transmit ∧
    (powerOn o s).2.router.sources = s.router.sources ∧ (powerOn o s).2.router.raw = s.router.raw ∧
    (powerOn o s).2.router.debounced = s.router.debounced ∧ (powerOn o s).2.router.stability = s.router.stability ∧
    (powerOn o s).2.router.sample = s.router.sample ∧ (powerOn o s).2.router.requested = s.router.requested ∧
    (powerOn o s).2.router.routedInput = s.router.routedInput ∧
    (powerOn o s).2.router.routedSource = s.router.routedSource ∧ (powerOn o s).2.router.state = s.router.state ∧
    (powerOn o s).2.router.format = s.router.format ∧ (powerOn o s).2.router.chain = s.router.chain ∧
    (powerOn o s).2.router.pendingSlot = s.router.pendingSlot ∧ (powerOn o s).2.router.deferred = s.router.deferred ∧
    (powerOn o s).2.router.settle = s.router.settle ∧ (powerOn o s).2.router.settleOrigin = s.router.settleOrigin ∧
    (powerOn o s).2.router.resolved = s.router.resolved ∧ (powerOn o s).2.geometry = s.geometry ∧
    (powerOn o s).2.room = s.room ∧ (powerOn o s).2.lockout = s.lockout ∧
    (powerOn o s).2.store.slots = s.store.slots ∧ (powerOn o s).2.store.records = s.store.records ∧
    (powerOn o s).2.store.loaded = s.store.loaded ∧ (powerOn o s).2.store.install = s.store.install ∧
    (powerOn o s).2.store.room = s.store.room ∧ (powerOn o s).2.store.protect = s.store.protect ∧
    (powerOn o s).2.store.window = s.store.window ∧ (powerOn o s).2.store.engine = s.store.engine ∧
    (powerOn o s).2.store.wipe = s.store.wipe ∧ (powerOn o s).2.pending = s.pending := by
  unfold powerOn; try dsimp only
  all_goals (repeat' split)
  all_goals first | (simp; done) | (simp_all; done) | rfl

@[simp] theorem setOff_frame (o : Origin) (s : State) :
    (setOff o s).ports = s.ports ∧ (setOff o s).lamp = s.lamp ∧ (setOff o s).power.state = s.power.state ∧
    (setOff o s).power.step = s.power.step ∧ (setOff o s).power.attempt = s.power.attempt ∧
    (setOff o s).power.restartPending = s.power.restartPending ∧
    (setOff o s).power.ignitionOrigin = s.power.ignitionOrigin ∧
    (setOff o s).power.thermalHold = s.power.thermalHold ∧ (setOff o s).power.shutter = s.power.shutter ∧
    (setOff o s).power.momentaryMode = s.power.momentaryMode ∧
    (setOff o s).power.effectiveMode = s.power.effectiveMode ∧
    (setOff o s).power.modeEvaluated = s.power.modeEvaluated ∧ (setOff o s).power.strikeTimer = s.power.strikeTimer ∧
    (setOff o s).power.pauseTimer = s.power.pauseTimer ∧ (setOff o s).power.warmingTimer = s.power.warmingTimer ∧
    (setOff o s).power.coolingTimer = s.power.coolingTimer ∧ (setOff o s).power.blankDim = s.power.blankDim ∧
    (setOff o s).power.dimmed = s.power.dimmed ∧ (setOff o s).power.reportWait = s.power.reportWait ∧
    (setOff o s).link = s.link ∧ (setOff o s).router = s.router ∧ (setOff o s).geometry = s.geometry ∧
    (setOff o s).room = s.room ∧ (setOff o s).lockout = s.lockout ∧ (setOff o s).store = s.store ∧
    (setOff o s).free = s.free ∧ (setOff o s).pending = s.pending := by
  unfold setOff; try dsimp only
  all_goals (repeat' split)
  all_goals first | (simp; done) | (simp_all; done) | rfl

@[simp] theorem putOut_frame (o : Origin) (s : State) :
    quietPorts (putOut o s).ports = quietPorts s.ports ∧ (putOut o s).lamp.newest = s.lamp.newest ∧
    (putOut o s).lamp.replaceInFlight = s.lamp.replaceInFlight ∧ (putOut o s).lamp.history = s.lamp.history ∧
    (putOut o s).link.state = s.link.state ∧ (putOut o s).link.silence = s.link.silence ∧
    (putOut o s).link.outstanding = s.link.outstanding ∧ (putOut o s).link.answer = s.link.answer ∧
    (putOut o s).link.nextTag = s.link.nextTag ∧ (putOut o s).link.lane = s.link.lane ∧
    (putOut o s).link.reportImage = s.link.reportImage ∧ (putOut o s).link.lastFormat = s.link.lastFormat ∧
    (putOut o s).link.lastRejection = s.link.lastRejection ∧ (putOut o s).link.lostFor = s.link.lostFor ∧
    (putOut o s).link.sinceMessage = s.link.sinceMessage ∧ (putOut o s).link.lastSet = s.link.lastSet ∧
    (putOut o s).link.receiver = s.link.receiver ∧ (putOut o s).link.transmit = s.link.transmit ∧
    (putOut o s).router.sources = s.router.sources ∧ (putOut o s).router.raw = s.router.raw ∧
    (putOut o s).router.debounced = s.router.debounced ∧ (putOut o s).router.stability = s.router.stability ∧
    (putOut o s).router.sample = s.router.sample ∧ (putOut o s).router.requested = s.router.requested ∧
    (putOut o s).router.routedInput = s.router.routedInput ∧
    (putOut o s).router.routedSource = s.router.routedSource ∧ (putOut o s).router.state = s.router.state ∧
    (putOut o s).router.format = s.router.format ∧ (putOut o s).router.chain = s.router.chain ∧
    (putOut o s).router.pendingSlot = s.router.pendingSlot ∧ (putOut o s).router.deferred = s.router.deferred ∧
    (putOut o s).router.settle = s.router.settle ∧ (putOut o s).router.settleOrigin = s.router.settleOrigin ∧
    (putOut o s).router.resolved = s.router.resolved ∧ (putOut o s).geometry = s.geometry ∧
    (putOut o s).room = s.room ∧ (putOut o s).lockout = s.lockout ∧ (putOut o s).store.slots = s.store.slots ∧
    (putOut o s).store.records = s.store.records ∧ (putOut o s).store.loaded = s.store.loaded ∧
    (putOut o s).store.install = s.store.install ∧ (putOut o s).store.room = s.store.room ∧
    (putOut o s).store.protect = s.store.protect ∧ (putOut o s).store.window = s.store.window ∧
    (putOut o s).store.engine = s.store.engine ∧ (putOut o s).store.wipe = s.store.wipe ∧
    (putOut o s).pending = s.pending := by
  unfold putOut; try dsimp only
  all_goals (repeat' split)
  all_goals first | (simp; done) | (simp_all; done) | rfl

@[simp] theorem powerOff_frame (o : Origin) (s : State) :
    quietPorts (powerOff o s).2.ports = quietPorts s.ports ∧ (powerOff o s).2.lamp.newest = s.lamp.newest ∧
    (powerOff o s).2.lamp.replaceInFlight = s.lamp.replaceInFlight ∧ (powerOff o s).2.lamp.history = s.lamp.history ∧
    (powerOff o s).2.link.state = s.link.state ∧ (powerOff o s).2.link.silence = s.link.silence ∧
    (powerOff o s).2.link.outstanding = s.link.outstanding ∧ (powerOff o s).2.link.answer = s.link.answer ∧
    (powerOff o s).2.link.nextTag = s.link.nextTag ∧ (powerOff o s).2.link.lane = s.link.lane ∧
    (powerOff o s).2.link.reportImage = s.link.reportImage ∧ (powerOff o s).2.link.lastFormat = s.link.lastFormat ∧
    (powerOff o s).2.link.lastRejection = s.link.lastRejection ∧ (powerOff o s).2.link.lostFor = s.link.lostFor ∧
    (powerOff o s).2.link.sinceMessage = s.link.sinceMessage ∧ (powerOff o s).2.link.lastSet = s.link.lastSet ∧
    (powerOff o s).2.link.receiver = s.link.receiver ∧ (powerOff o s).2.link.transmit = s.link.transmit ∧
    (powerOff o s).2.router.sources = s.router.sources ∧ (powerOff o s).2.router.raw = s.router.raw ∧
    (powerOff o s).2.router.debounced = s.router.debounced ∧ (powerOff o s).2.router.stability = s.router.stability ∧
    (powerOff o s).2.router.sample = s.router.sample ∧ (powerOff o s).2.router.requested = s.router.requested ∧
    (powerOff o s).2.router.routedInput = s.router.routedInput ∧
    (powerOff o s).2.router.routedSource = s.router.routedSource ∧ (powerOff o s).2.router.state = s.router.state ∧
    (powerOff o s).2.router.format = s.router.format ∧ (powerOff o s).2.router.chain = s.router.chain ∧
    (powerOff o s).2.router.pendingSlot = s.router.pendingSlot ∧
    (powerOff o s).2.router.deferred = s.router.deferred ∧ (powerOff o s).2.router.settle = s.router.settle ∧
    (powerOff o s).2.router.settleOrigin = s.router.settleOrigin ∧
    (powerOff o s).2.router.resolved = s.router.resolved ∧ (powerOff o s).2.geometry = s.geometry ∧
    (powerOff o s).2.room = s.room ∧ (powerOff o s).2.lockout = s.lockout ∧
    (powerOff o s).2.store.slots = s.store.slots ∧ (powerOff o s).2.store.records = s.store.records ∧
    (powerOff o s).2.store.loaded = s.store.loaded ∧ (powerOff o s).2.store.install = s.store.install ∧
    (powerOff o s).2.store.room = s.store.room ∧ (powerOff o s).2.store.protect = s.store.protect ∧
    (powerOff o s).2.store.window = s.store.window ∧ (powerOff o s).2.store.engine = s.store.engine ∧
    (powerOff o s).2.store.wipe = s.store.wipe ∧ (powerOff o s).2.pending = s.pending := by
  unfold powerOff; try dsimp only
  all_goals (repeat' split)
  all_goals first | (simp; done) | (simp_all; done) | rfl

@[simp] theorem schedulePowerOn_frame (s : State) :
    quietPorts (schedulePowerOn s).ports = quietPorts s.ports ∧ (schedulePowerOn s).lamp.newest = s.lamp.newest ∧
    (schedulePowerOn s).lamp.replaceInFlight = s.lamp.replaceInFlight ∧
    (schedulePowerOn s).lamp.history = s.lamp.history ∧ (schedulePowerOn s).link.state = s.link.state ∧
    (schedulePowerOn s).link.silence = s.link.silence ∧ (schedulePowerOn s).link.outstanding = s.link.outstanding ∧
    (schedulePowerOn s).link.answer = s.link.answer ∧ (schedulePowerOn s).link.nextTag = s.link.nextTag ∧
    (schedulePowerOn s).link.lane = s.link.lane ∧ (schedulePowerOn s).link.reportImage = s.link.reportImage ∧
    (schedulePowerOn s).link.lastFormat = s.link.lastFormat ∧
    (schedulePowerOn s).link.lastRejection = s.link.lastRejection ∧
    (schedulePowerOn s).link.lostFor = s.link.lostFor ∧ (schedulePowerOn s).link.sinceMessage = s.link.sinceMessage ∧
    (schedulePowerOn s).link.lastSet = s.link.lastSet ∧ (schedulePowerOn s).link.receiver = s.link.receiver ∧
    (schedulePowerOn s).link.transmit = s.link.transmit ∧ (schedulePowerOn s).router.sources = s.router.sources ∧
    (schedulePowerOn s).router.raw = s.router.raw ∧ (schedulePowerOn s).router.debounced = s.router.debounced ∧
    (schedulePowerOn s).router.stability = s.router.stability ∧ (schedulePowerOn s).router.sample = s.router.sample ∧
    (schedulePowerOn s).router.requested = s.router.requested ∧
    (schedulePowerOn s).router.routedInput = s.router.routedInput ∧
    (schedulePowerOn s).router.routedSource = s.router.routedSource ∧
    (schedulePowerOn s).router.state = s.router.state ∧ (schedulePowerOn s).router.format = s.router.format ∧
    (schedulePowerOn s).router.chain = s.router.chain ∧
    (schedulePowerOn s).router.pendingSlot = s.router.pendingSlot ∧
    (schedulePowerOn s).router.deferred = s.router.deferred ∧ (schedulePowerOn s).router.settle = s.router.settle ∧
    (schedulePowerOn s).router.settleOrigin = s.router.settleOrigin ∧
    (schedulePowerOn s).router.resolved = s.router.resolved ∧ (schedulePowerOn s).geometry = s.geometry ∧
    (schedulePowerOn s).room = s.room ∧ (schedulePowerOn s).lockout = s.lockout ∧
    (schedulePowerOn s).store.slots = s.store.slots ∧ (schedulePowerOn s).store.records = s.store.records ∧
    (schedulePowerOn s).store.loaded = s.store.loaded ∧ (schedulePowerOn s).store.install = s.store.install ∧
    (schedulePowerOn s).store.room = s.store.room ∧ (schedulePowerOn s).store.protect = s.store.protect ∧
    (schedulePowerOn s).store.window = s.store.window ∧ (schedulePowerOn s).store.engine = s.store.engine ∧
    (schedulePowerOn s).store.wipe = s.store.wipe ∧ (schedulePowerOn s).pending = s.pending := by
  unfold schedulePowerOn; try dsimp only
  all_goals (repeat' split)
  all_goals first | (simp; done) | (simp_all; done) | rfl

@[simp] theorem schedulePowerOff_frame (s : State) :
    quietPorts (schedulePowerOff s).ports = quietPorts s.ports ∧ (schedulePowerOff s).lamp.newest = s.lamp.newest ∧
    (schedulePowerOff s).lamp.replaceInFlight = s.lamp.replaceInFlight ∧
    (schedulePowerOff s).lamp.history = s.lamp.history ∧ (schedulePowerOff s).link.state = s.link.state ∧
    (schedulePowerOff s).link.silence = s.link.silence ∧ (schedulePowerOff s).link.outstanding = s.link.outstanding ∧
    (schedulePowerOff s).link.answer = s.link.answer ∧ (schedulePowerOff s).link.nextTag = s.link.nextTag ∧
    (schedulePowerOff s).link.lane = s.link.lane ∧ (schedulePowerOff s).link.reportImage = s.link.reportImage ∧
    (schedulePowerOff s).link.lastFormat = s.link.lastFormat ∧
    (schedulePowerOff s).link.lastRejection = s.link.lastRejection ∧
    (schedulePowerOff s).link.lostFor = s.link.lostFor ∧
    (schedulePowerOff s).link.sinceMessage = s.link.sinceMessage ∧
    (schedulePowerOff s).link.lastSet = s.link.lastSet ∧ (schedulePowerOff s).link.receiver = s.link.receiver ∧
    (schedulePowerOff s).link.transmit = s.link.transmit ∧ (schedulePowerOff s).router.sources = s.router.sources ∧
    (schedulePowerOff s).router.raw = s.router.raw ∧ (schedulePowerOff s).router.debounced = s.router.debounced ∧
    (schedulePowerOff s).router.stability = s.router.stability ∧
    (schedulePowerOff s).router.sample = s.router.sample ∧
    (schedulePowerOff s).router.requested = s.router.requested ∧
    (schedulePowerOff s).router.routedInput = s.router.routedInput ∧
    (schedulePowerOff s).router.routedSource = s.router.routedSource ∧
    (schedulePowerOff s).router.state = s.router.state ∧ (schedulePowerOff s).router.format = s.router.format ∧
    (schedulePowerOff s).router.chain = s.router.chain ∧
    (schedulePowerOff s).router.pendingSlot = s.router.pendingSlot ∧
    (schedulePowerOff s).router.deferred = s.router.deferred ∧ (schedulePowerOff s).router.settle = s.router.settle ∧
    (schedulePowerOff s).router.settleOrigin = s.router.settleOrigin ∧
    (schedulePowerOff s).router.resolved = s.router.resolved ∧ (schedulePowerOff s).geometry = s.geometry ∧
    (schedulePowerOff s).room = s.room ∧ (schedulePowerOff s).lockout = s.lockout ∧
    (schedulePowerOff s).store.slots = s.store.slots ∧ (schedulePowerOff s).store.records = s.store.records ∧
    (schedulePowerOff s).store.loaded = s.store.loaded ∧ (schedulePowerOff s).store.install = s.store.install ∧
    (schedulePowerOff s).store.room = s.store.room ∧ (schedulePowerOff s).store.protect = s.store.protect ∧
    (schedulePowerOff s).store.window = s.store.window ∧ (schedulePowerOff s).store.engine = s.store.engine ∧
    (schedulePowerOff s).store.wipe = s.store.wipe ∧ (schedulePowerOff s).pending = s.pending := by
  unfold schedulePowerOff; try dsimp only
  all_goals (repeat' split)
  all_goals first | (simp; done) | (simp_all; done) | rfl

@[simp] theorem warmingEnds_frame (s : State) :
    quietPorts (warmingEnds s).ports = quietPorts s.ports ∧ (warmingEnds s).lamp.newest = s.lamp.newest ∧
    (warmingEnds s).lamp.replaceInFlight = s.lamp.replaceInFlight ∧ (warmingEnds s).lamp.history = s.lamp.history ∧
    (warmingEnds s).link.state = s.link.state ∧ (warmingEnds s).link.silence = s.link.silence ∧
    (warmingEnds s).link.outstanding = s.link.outstanding ∧ (warmingEnds s).link.answer = s.link.answer ∧
    (warmingEnds s).link.nextTag = s.link.nextTag ∧ (warmingEnds s).link.lane = s.link.lane ∧
    (warmingEnds s).link.reportImage = s.link.reportImage ∧ (warmingEnds s).link.lastFormat = s.link.lastFormat ∧
    (warmingEnds s).link.lastRejection = s.link.lastRejection ∧ (warmingEnds s).link.lostFor = s.link.lostFor ∧
    (warmingEnds s).link.sinceMessage = s.link.sinceMessage ∧ (warmingEnds s).link.lastSet = s.link.lastSet ∧
    (warmingEnds s).link.receiver = s.link.receiver ∧ (warmingEnds s).link.transmit = s.link.transmit ∧
    (warmingEnds s).router.sources = s.router.sources ∧ (warmingEnds s).router.raw = s.router.raw ∧
    (warmingEnds s).router.debounced = s.router.debounced ∧ (warmingEnds s).router.stability = s.router.stability ∧
    (warmingEnds s).router.sample = s.router.sample ∧ (warmingEnds s).router.requested = s.router.requested ∧
    (warmingEnds s).router.routedInput = s.router.routedInput ∧
    (warmingEnds s).router.routedSource = s.router.routedSource ∧ (warmingEnds s).router.state = s.router.state ∧
    (warmingEnds s).router.format = s.router.format ∧ (warmingEnds s).router.chain = s.router.chain ∧
    (warmingEnds s).router.pendingSlot = s.router.pendingSlot ∧ (warmingEnds s).router.deferred = s.router.deferred ∧
    (warmingEnds s).router.settle = s.router.settle ∧ (warmingEnds s).router.settleOrigin = s.router.settleOrigin ∧
    (warmingEnds s).router.resolved = s.router.resolved ∧ (warmingEnds s).geometry = s.geometry ∧
    (warmingEnds s).room = s.room ∧ (warmingEnds s).lockout = s.lockout ∧
    (warmingEnds s).store.slots = s.store.slots ∧ (warmingEnds s).store.records = s.store.records ∧
    (warmingEnds s).store.loaded = s.store.loaded ∧ (warmingEnds s).store.install = s.store.install ∧
    (warmingEnds s).store.room = s.store.room ∧ (warmingEnds s).store.protect = s.store.protect ∧
    (warmingEnds s).store.window = s.store.window ∧ (warmingEnds s).store.engine = s.store.engine ∧
    (warmingEnds s).store.wipe = s.store.wipe ∧ (warmingEnds s).pending = s.pending := by
  unfold warmingEnds; try dsimp only
  all_goals (repeat' split)
  all_goals first | (simp; done) | (simp_all; done) | rfl

@[simp] theorem coolingEnds_frame (s : State) :
    quietPorts (coolingEnds s).ports = quietPorts s.ports ∧ (coolingEnds s).lamp.newest = s.lamp.newest ∧
    (coolingEnds s).lamp.replaceInFlight = s.lamp.replaceInFlight ∧ (coolingEnds s).lamp.history = s.lamp.history ∧
    (coolingEnds s).link.state = s.link.state ∧ (coolingEnds s).link.silence = s.link.silence ∧
    (coolingEnds s).link.outstanding = s.link.outstanding ∧ (coolingEnds s).link.answer = s.link.answer ∧
    (coolingEnds s).link.nextTag = s.link.nextTag ∧ (coolingEnds s).link.lane = s.link.lane ∧
    (coolingEnds s).link.reportImage = s.link.reportImage ∧ (coolingEnds s).link.lastFormat = s.link.lastFormat ∧
    (coolingEnds s).link.lastRejection = s.link.lastRejection ∧ (coolingEnds s).link.lostFor = s.link.lostFor ∧
    (coolingEnds s).link.sinceMessage = s.link.sinceMessage ∧ (coolingEnds s).link.lastSet = s.link.lastSet ∧
    (coolingEnds s).link.receiver = s.link.receiver ∧ (coolingEnds s).link.transmit = s.link.transmit ∧
    (coolingEnds s).router.sources = s.router.sources ∧ (coolingEnds s).router.raw = s.router.raw ∧
    (coolingEnds s).router.debounced = s.router.debounced ∧ (coolingEnds s).router.stability = s.router.stability ∧
    (coolingEnds s).router.sample = s.router.sample ∧ (coolingEnds s).router.requested = s.router.requested ∧
    (coolingEnds s).router.routedInput = s.router.routedInput ∧
    (coolingEnds s).router.routedSource = s.router.routedSource ∧ (coolingEnds s).router.state = s.router.state ∧
    (coolingEnds s).router.format = s.router.format ∧ (coolingEnds s).router.chain = s.router.chain ∧
    (coolingEnds s).router.pendingSlot = s.router.pendingSlot ∧ (coolingEnds s).router.deferred = s.router.deferred ∧
    (coolingEnds s).router.settle = s.router.settle ∧ (coolingEnds s).router.settleOrigin = s.router.settleOrigin ∧
    (coolingEnds s).router.resolved = s.router.resolved ∧ (coolingEnds s).geometry = s.geometry ∧
    (coolingEnds s).room = s.room ∧ (coolingEnds s).lockout = s.lockout ∧
    (coolingEnds s).store.slots = s.store.slots ∧ (coolingEnds s).store.records = s.store.records ∧
    (coolingEnds s).store.loaded = s.store.loaded ∧ (coolingEnds s).store.install = s.store.install ∧
    (coolingEnds s).store.room = s.store.room ∧ (coolingEnds s).store.protect = s.store.protect ∧
    (coolingEnds s).store.window = s.store.window ∧ (coolingEnds s).store.engine = s.store.engine ∧
    (coolingEnds s).store.wipe = s.store.wipe ∧ (coolingEnds s).pending = s.pending := by
  unfold coolingEnds; try dsimp only
  all_goals (repeat' split)
  all_goals first | (simp; done) | (simp_all; done) | rfl

@[simp] theorem markThermal_frame (b : Bool) (s : State) :
    quietPorts (markThermal b s).ports = quietPorts s.ports ∧ (markThermal b s).lamp = s.lamp ∧
    (markThermal b s).power.state = s.power.state ∧ (markThermal b s).power.step = s.power.step ∧
    (markThermal b s).power.attempt = s.power.attempt ∧
    (markThermal b s).power.restartPending = s.power.restartPending ∧
    (markThermal b s).power.offPending = s.power.offPending ∧
    (markThermal b s).power.ignitionOrigin = s.power.ignitionOrigin ∧
    (markThermal b s).power.offOrigin = s.power.offOrigin ∧ (markThermal b s).power.shutter = s.power.shutter ∧
    (markThermal b s).power.momentaryMode = s.power.momentaryMode ∧
    (markThermal b s).power.effectiveMode = s.power.effectiveMode ∧
    (markThermal b s).power.modeEvaluated = s.power.modeEvaluated ∧
    (markThermal b s).power.strikeTimer = s.power.strikeTimer ∧
    (markThermal b s).power.pauseTimer = s.power.pauseTimer ∧
    (markThermal b s).power.warmingTimer = s.power.warmingTimer ∧
    (markThermal b s).power.coolingTimer = s.power.coolingTimer ∧
    (markThermal b s).power.blankDim = s.power.blankDim ∧ (markThermal b s).power.dimmed = s.power.dimmed ∧
    (markThermal b s).power.reportWait = s.power.reportWait ∧ (markThermal b s).link = s.link ∧
    (markThermal b s).router = s.router ∧ (markThermal b s).geometry = s.geometry ∧ (markThermal b s).room = s.room ∧
    (markThermal b s).lockout = s.lockout ∧ (markThermal b s).store = s.store ∧
    (markThermal b s).pending = s.pending := by
  unfold markThermal; try dsimp only
  all_goals (repeat' split)
  all_goals first | (simp; done) | (simp_all; done) | rfl

@[simp] theorem adoptShutter_frame (closed : Bool) (s : State) :
    (adoptShutter closed s).ports = s.ports ∧ (adoptShutter closed s).lamp = s.lamp ∧
    (adoptShutter closed s).power.state = s.power.state ∧ (adoptShutter closed s).power.step = s.power.step ∧
    (adoptShutter closed s).power.attempt = s.power.attempt ∧
    (adoptShutter closed s).power.restartPending = s.power.restartPending ∧
    (adoptShutter closed s).power.offPending = s.power.offPending ∧
    (adoptShutter closed s).power.ignitionOrigin = s.power.ignitionOrigin ∧
    (adoptShutter closed s).power.offOrigin = s.power.offOrigin ∧
    (adoptShutter closed s).power.thermalHold = s.power.thermalHold ∧
    (adoptShutter closed s).power.momentaryMode = s.power.momentaryMode ∧
    (adoptShutter closed s).power.effectiveMode = s.power.effectiveMode ∧
    (adoptShutter closed s).power.modeEvaluated = s.power.modeEvaluated ∧
    (adoptShutter closed s).power.strikeTimer = s.power.strikeTimer ∧
    (adoptShutter closed s).power.pauseTimer = s.power.pauseTimer ∧
    (adoptShutter closed s).power.warmingTimer = s.power.warmingTimer ∧
    (adoptShutter closed s).power.coolingTimer = s.power.coolingTimer ∧
    (adoptShutter closed s).power.reportWait = s.power.reportWait ∧ (adoptShutter closed s).link = s.link ∧
    (adoptShutter closed s).router = s.router ∧ (adoptShutter closed s).geometry = s.geometry ∧
    (adoptShutter closed s).room = s.room ∧ (adoptShutter closed s).lockout = s.lockout ∧
    (adoptShutter closed s).store = s.store ∧ (adoptShutter closed s).free = s.free ∧
    (adoptShutter closed s).pending = s.pending := by
  unfold adoptShutter; try dsimp only
  all_goals (repeat' split)
  all_goals first | (simp; done) | (simp_all; done) | rfl

@[simp] theorem applyOnInStandby_frame (s : State) :
    quietPorts (applyOnInStandby s).ports = quietPorts s.ports ∧ (applyOnInStandby s).lamp.newest = s.lamp.newest ∧
    (applyOnInStandby s).lamp.replaceInFlight = s.lamp.replaceInFlight ∧
    (applyOnInStandby s).lamp.history = s.lamp.history ∧ (applyOnInStandby s).link.state = s.link.state ∧
    (applyOnInStandby s).link.silence = s.link.silence ∧ (applyOnInStandby s).link.outstanding = s.link.outstanding ∧
    (applyOnInStandby s).link.answer = s.link.answer ∧ (applyOnInStandby s).link.nextTag = s.link.nextTag ∧
    (applyOnInStandby s).link.lane = s.link.lane ∧ (applyOnInStandby s).link.reportImage = s.link.reportImage ∧
    (applyOnInStandby s).link.lastFormat = s.link.lastFormat ∧
    (applyOnInStandby s).link.lastRejection = s.link.lastRejection ∧
    (applyOnInStandby s).link.lostFor = s.link.lostFor ∧
    (applyOnInStandby s).link.sinceMessage = s.link.sinceMessage ∧
    (applyOnInStandby s).link.lastSet = s.link.lastSet ∧ (applyOnInStandby s).link.receiver = s.link.receiver ∧
    (applyOnInStandby s).link.transmit = s.link.transmit ∧ (applyOnInStandby s).router.sources = s.router.sources ∧
    (applyOnInStandby s).router.raw = s.router.raw ∧ (applyOnInStandby s).router.debounced = s.router.debounced ∧
    (applyOnInStandby s).router.stability = s.router.stability ∧
    (applyOnInStandby s).router.sample = s.router.sample ∧
    (applyOnInStandby s).router.requested = s.router.requested ∧
    (applyOnInStandby s).router.routedInput = s.router.routedInput ∧
    (applyOnInStandby s).router.routedSource = s.router.routedSource ∧
    (applyOnInStandby s).router.state = s.router.state ∧ (applyOnInStandby s).router.format = s.router.format ∧
    (applyOnInStandby s).router.chain = s.router.chain ∧
    (applyOnInStandby s).router.pendingSlot = s.router.pendingSlot ∧
    (applyOnInStandby s).router.deferred = s.router.deferred ∧ (applyOnInStandby s).router.settle = s.router.settle ∧
    (applyOnInStandby s).router.settleOrigin = s.router.settleOrigin ∧
    (applyOnInStandby s).router.resolved = s.router.resolved ∧ (applyOnInStandby s).geometry = s.geometry ∧
    (applyOnInStandby s).room = s.room ∧ (applyOnInStandby s).lockout = s.lockout ∧
    (applyOnInStandby s).store.slots = s.store.slots ∧ (applyOnInStandby s).store.records = s.store.records ∧
    (applyOnInStandby s).store.loaded = s.store.loaded ∧ (applyOnInStandby s).store.install = s.store.install ∧
    (applyOnInStandby s).store.room = s.store.room ∧ (applyOnInStandby s).store.protect = s.store.protect ∧
    (applyOnInStandby s).store.window = s.store.window ∧ (applyOnInStandby s).store.engine = s.store.engine ∧
    (applyOnInStandby s).store.wipe = s.store.wipe ∧ (applyOnInStandby s).pending = s.pending := by
  unfold applyOnInStandby; try dsimp only
  all_goals (repeat' split)
  all_goals first | (simp; done) | (simp_all; done) | rfl

@[simp] theorem applyIntent_frame (s : State) :
    quietPorts (applyIntent s).ports = quietPorts s.ports ∧ (applyIntent s).lamp.newest = s.lamp.newest ∧
    (applyIntent s).lamp.replaceInFlight = s.lamp.replaceInFlight ∧ (applyIntent s).lamp.history = s.lamp.history ∧
    (applyIntent s).link.state = s.link.state ∧ (applyIntent s).link.silence = s.link.silence ∧
    (applyIntent s).link.outstanding = s.link.outstanding ∧ (applyIntent s).link.answer = s.link.answer ∧
    (applyIntent s).link.nextTag = s.link.nextTag ∧ (applyIntent s).link.lane = s.link.lane ∧
    (applyIntent s).link.reportImage = s.link.reportImage ∧ (applyIntent s).link.lastFormat = s.link.lastFormat ∧
    (applyIntent s).link.lastRejection = s.link.lastRejection ∧ (applyIntent s).link.lostFor = s.link.lostFor ∧
    (applyIntent s).link.sinceMessage = s.link.sinceMessage ∧ (applyIntent s).link.lastSet = s.link.lastSet ∧
    (applyIntent s).link.receiver = s.link.receiver ∧ (applyIntent s).link.transmit = s.link.transmit ∧
    (applyIntent s).router.sources = s.router.sources ∧ (applyIntent s).router.raw = s.router.raw ∧
    (applyIntent s).router.debounced = s.router.debounced ∧ (applyIntent s).router.stability = s.router.stability ∧
    (applyIntent s).router.sample = s.router.sample ∧ (applyIntent s).router.requested = s.router.requested ∧
    (applyIntent s).router.routedInput = s.router.routedInput ∧
    (applyIntent s).router.routedSource = s.router.routedSource ∧ (applyIntent s).router.state = s.router.state ∧
    (applyIntent s).router.format = s.router.format ∧ (applyIntent s).router.chain = s.router.chain ∧
    (applyIntent s).router.pendingSlot = s.router.pendingSlot ∧ (applyIntent s).router.deferred = s.router.deferred ∧
    (applyIntent s).router.settle = s.router.settle ∧ (applyIntent s).router.settleOrigin = s.router.settleOrigin ∧
    (applyIntent s).router.resolved = s.router.resolved ∧ (applyIntent s).geometry = s.geometry ∧
    (applyIntent s).room = s.room ∧ (applyIntent s).lockout = s.lockout ∧
    (applyIntent s).store.slots = s.store.slots ∧ (applyIntent s).store.records = s.store.records ∧
    (applyIntent s).store.loaded = s.store.loaded ∧ (applyIntent s).store.install = s.store.install ∧
    (applyIntent s).store.room = s.store.room ∧ (applyIntent s).store.protect = s.store.protect ∧
    (applyIntent s).store.window = s.store.window ∧ (applyIntent s).store.engine = s.store.engine ∧
    (applyIntent s).store.wipe = s.store.wipe ∧ (applyIntent s).pending = s.pending := by
  unfold applyIntent; try dsimp only
  all_goals (repeat' split)
  all_goals first | (simp; done) | (simp_all; done) | rfl

@[simp] theorem restartSecond_frame (s : State) :
    (restartSecond s).ports = s.ports ∧ (restartSecond s).lamp.account = s.lamp.account ∧
    (restartSecond s).lamp.level = s.lamp.level ∧ (restartSecond s).lamp.newest = s.lamp.newest ∧
    (restartSecond s).lamp.tally = s.lamp.tally ∧ (restartSecond s).lamp.hotWindow = s.lamp.hotWindow ∧
    (restartSecond s).lamp.cadence = s.lamp.cadence ∧
    (restartSecond s).lamp.replaceInFlight = s.lamp.replaceInFlight ∧
    (restartSecond s).lamp.history = s.lamp.history ∧ (restartSecond s).power = s.power ∧
    (restartSecond s).link = s.link ∧ (restartSecond s).router = s.router ∧ (restartSecond s).geometry = s.geometry ∧
    (restartSecond s).room = s.room ∧ (restartSecond s).lockout = s.lockout ∧ (restartSecond s).store = s.store ∧
    (restartSecond s).free = s.free ∧ (restartSecond s).pending = s.pending := by
  unfold restartSecond; try dsimp only
  all_goals (repeat' split)
  all_goals first | (simp; done) | (simp_all; done) | rfl

@[simp] theorem adopt_frame (r : Report) (s : State) :
    quietPorts (adopt r s).ports = quietPorts s.ports ∧ (adopt r s).lamp.newest = s.lamp.newest ∧
    (adopt r s).lamp.replaceInFlight = s.lamp.replaceInFlight ∧ (adopt r s).lamp.history = s.lamp.history ∧
    (adopt r s).link.state = s.link.state ∧ (adopt r s).link.silence = s.link.silence ∧
    (adopt r s).link.outstanding = s.link.outstanding ∧ (adopt r s).link.answer = s.link.answer ∧
    (adopt r s).link.nextTag = s.link.nextTag ∧ (adopt r s).link.lane = s.link.lane ∧
    (adopt r s).link.reportImage = s.link.reportImage ∧ (adopt r s).link.lastFormat = s.link.lastFormat ∧
    (adopt r s).link.lastRejection = s.link.lastRejection ∧ (adopt r s).link.lostFor = s.link.lostFor ∧
    (adopt r s).link.sinceMessage = s.link.sinceMessage ∧ (adopt r s).link.lastSet = s.link.lastSet ∧
    (adopt r s).link.receiver = s.link.receiver ∧ (adopt r s).link.transmit = s.link.transmit ∧
    (adopt r s).router.sources = s.router.sources ∧ (adopt r s).router.raw = s.router.raw ∧
    (adopt r s).router.debounced = s.router.debounced ∧ (adopt r s).router.stability = s.router.stability ∧
    (adopt r s).router.sample = s.router.sample ∧ (adopt r s).router.requested = s.router.requested ∧
    (adopt r s).router.routedInput = s.router.routedInput ∧ (adopt r s).router.routedSource = s.router.routedSource ∧
    (adopt r s).router.state = s.router.state ∧ (adopt r s).router.format = s.router.format ∧
    (adopt r s).router.chain = s.router.chain ∧ (adopt r s).router.pendingSlot = s.router.pendingSlot ∧
    (adopt r s).router.deferred = s.router.deferred ∧ (adopt r s).router.settle = s.router.settle ∧
    (adopt r s).router.settleOrigin = s.router.settleOrigin ∧ (adopt r s).router.resolved = s.router.resolved ∧
    (adopt r s).geometry = s.geometry ∧ (adopt r s).room = s.room ∧ (adopt r s).lockout = s.lockout ∧
    (adopt r s).store.slots = s.store.slots ∧ (adopt r s).store.records = s.store.records ∧
    (adopt r s).store.loaded = s.store.loaded ∧ (adopt r s).store.install = s.store.install ∧
    (adopt r s).store.room = s.store.room ∧ (adopt r s).store.protect = s.store.protect ∧
    (adopt r s).store.window = s.store.window ∧ (adopt r s).store.engine = s.store.engine ∧
    (adopt r s).store.wipe = s.store.wipe ∧ (adopt r s).pending = s.pending := by
  unfold adopt; try dsimp only
  all_goals (repeat' split)
  all_goals first | (simp; done) | (simp_all; done) | rfl

@[simp] theorem reportStrike_frame (r : Report) (s : State) :
    quietPorts (reportStrike r s).ports = quietPorts s.ports ∧ (reportStrike r s).lamp.newest = s.lamp.newest ∧
    (reportStrike r s).lamp.replaceInFlight = s.lamp.replaceInFlight ∧
    (reportStrike r s).lamp.history = s.lamp.history ∧ (reportStrike r s).link.state = s.link.state ∧
    (reportStrike r s).link.silence = s.link.silence ∧ (reportStrike r s).link.outstanding = s.link.outstanding ∧
    (reportStrike r s).link.answer = s.link.answer ∧ (reportStrike r s).link.nextTag = s.link.nextTag ∧
    (reportStrike r s).link.lane = s.link.lane ∧ (reportStrike r s).link.reportImage = s.link.reportImage ∧
    (reportStrike r s).link.lastFormat = s.link.lastFormat ∧
    (reportStrike r s).link.lastRejection = s.link.lastRejection ∧ (reportStrike r s).link.lostFor = s.link.lostFor ∧
    (reportStrike r s).link.sinceMessage = s.link.sinceMessage ∧ (reportStrike r s).link.lastSet = s.link.lastSet ∧
    (reportStrike r s).link.receiver = s.link.receiver ∧ (reportStrike r s).link.transmit = s.link.transmit ∧
    (reportStrike r s).router.sources = s.router.sources ∧ (reportStrike r s).router.raw = s.router.raw ∧
    (reportStrike r s).router.debounced = s.router.debounced ∧
    (reportStrike r s).router.stability = s.router.stability ∧ (reportStrike r s).router.sample = s.router.sample ∧
    (reportStrike r s).router.requested = s.router.requested ∧
    (reportStrike r s).router.routedInput = s.router.routedInput ∧
    (reportStrike r s).router.routedSource = s.router.routedSource ∧
    (reportStrike r s).router.state = s.router.state ∧ (reportStrike r s).router.format = s.router.format ∧
    (reportStrike r s).router.chain = s.router.chain ∧ (reportStrike r s).router.pendingSlot = s.router.pendingSlot ∧
    (reportStrike r s).router.deferred = s.router.deferred ∧ (reportStrike r s).router.settle = s.router.settle ∧
    (reportStrike r s).router.settleOrigin = s.router.settleOrigin ∧
    (reportStrike r s).router.resolved = s.router.resolved ∧ (reportStrike r s).geometry = s.geometry ∧
    (reportStrike r s).room = s.room ∧ (reportStrike r s).lockout = s.lockout ∧
    (reportStrike r s).store.slots = s.store.slots ∧ (reportStrike r s).store.records = s.store.records ∧
    (reportStrike r s).store.loaded = s.store.loaded ∧ (reportStrike r s).store.install = s.store.install ∧
    (reportStrike r s).store.room = s.store.room ∧ (reportStrike r s).store.protect = s.store.protect ∧
    (reportStrike r s).store.window = s.store.window ∧ (reportStrike r s).store.engine = s.store.engine ∧
    (reportStrike r s).store.wipe = s.store.wipe ∧ (reportStrike r s).pending = s.pending := by
  unfold reportStrike; try dsimp only
  all_goals (repeat' split)
  all_goals first | (simp; done) | (simp_all; done) | rfl

@[simp] theorem reportLampOut_frame (r : Report) (s : State) :
    quietPorts (reportLampOut r s).ports = quietPorts s.ports ∧ (reportLampOut r s).lamp.newest = s.lamp.newest ∧
    (reportLampOut r s).lamp.replaceInFlight = s.lamp.replaceInFlight ∧
    (reportLampOut r s).lamp.history = s.lamp.history ∧ (reportLampOut r s).link.state = s.link.state ∧
    (reportLampOut r s).link.silence = s.link.silence ∧ (reportLampOut r s).link.outstanding = s.link.outstanding ∧
    (reportLampOut r s).link.answer = s.link.answer ∧ (reportLampOut r s).link.nextTag = s.link.nextTag ∧
    (reportLampOut r s).link.lane = s.link.lane ∧ (reportLampOut r s).link.reportImage = s.link.reportImage ∧
    (reportLampOut r s).link.lastFormat = s.link.lastFormat ∧
    (reportLampOut r s).link.lastRejection = s.link.lastRejection ∧
    (reportLampOut r s).link.lostFor = s.link.lostFor ∧ (reportLampOut r s).link.sinceMessage = s.link.sinceMessage ∧
    (reportLampOut r s).link.lastSet = s.link.lastSet ∧ (reportLampOut r s).link.receiver = s.link.receiver ∧
    (reportLampOut r s).link.transmit = s.link.transmit ∧ (reportLampOut r s).router.sources = s.router.sources ∧
    (reportLampOut r s).router.raw = s.router.raw ∧ (reportLampOut r s).router.debounced = s.router.debounced ∧
    (reportLampOut r s).router.stability = s.router.stability ∧ (reportLampOut r s).router.sample = s.router.sample ∧
    (reportLampOut r s).router.requested = s.router.requested ∧
    (reportLampOut r s).router.routedInput = s.router.routedInput ∧
    (reportLampOut r s).router.routedSource = s.router.routedSource ∧
    (reportLampOut r s).router.state = s.router.state ∧ (reportLampOut r s).router.format = s.router.format ∧
    (reportLampOut r s).router.chain = s.router.chain ∧
    (reportLampOut r s).router.pendingSlot = s.router.pendingSlot ∧
    (reportLampOut r s).router.deferred = s.router.deferred ∧ (reportLampOut r s).router.settle = s.router.settle ∧
    (reportLampOut r s).router.settleOrigin = s.router.settleOrigin ∧
    (reportLampOut r s).router.resolved = s.router.resolved ∧ (reportLampOut r s).geometry = s.geometry ∧
    (reportLampOut r s).room = s.room ∧ (reportLampOut r s).lockout = s.lockout ∧
    (reportLampOut r s).store.slots = s.store.slots ∧ (reportLampOut r s).store.records = s.store.records ∧
    (reportLampOut r s).store.loaded = s.store.loaded ∧ (reportLampOut r s).store.install = s.store.install ∧
    (reportLampOut r s).store.room = s.store.room ∧ (reportLampOut r s).store.protect = s.store.protect ∧
    (reportLampOut r s).store.window = s.store.window ∧ (reportLampOut r s).store.engine = s.store.engine ∧
    (reportLampOut r s).store.wipe = s.store.wipe ∧ (reportLampOut r s).pending = s.pending := by
  unfold reportLampOut; try dsimp only
  all_goals (repeat' split)
  all_goals first | (simp; done) | (simp_all; done) | rfl

@[simp] theorem reportBurning_frame (r : Report) (s : State) :
    (reportBurning r s).ports = s.ports ∧ (reportBurning r s).lamp = s.lamp ∧ (reportBurning r s).power = s.power ∧
    (reportBurning r s).link.state = s.link.state ∧ (reportBurning r s).link.silence = s.link.silence ∧
    (reportBurning r s).link.outstanding = s.link.outstanding ∧ (reportBurning r s).link.answer = s.link.answer ∧
    (reportBurning r s).link.nextTag = s.link.nextTag ∧ (reportBurning r s).link.lane = s.link.lane ∧
    (reportBurning r s).link.reportImage = s.link.reportImage ∧
    (reportBurning r s).link.lastFormat = s.link.lastFormat ∧
    (reportBurning r s).link.lastRejection = s.link.lastRejection ∧
    (reportBurning r s).link.lostFor = s.link.lostFor ∧ (reportBurning r s).link.sinceMessage = s.link.sinceMessage ∧
    (reportBurning r s).link.lastSet = s.link.lastSet ∧ (reportBurning r s).link.receiver = s.link.receiver ∧
    (reportBurning r s).link.transmit = s.link.transmit ∧ (reportBurning r s).router = s.router ∧
    (reportBurning r s).geometry = s.geometry ∧ (reportBurning r s).room = s.room ∧
    (reportBurning r s).lockout = s.lockout ∧ (reportBurning r s).store = s.store ∧
    (reportBurning r s).free = s.free ∧ (reportBurning r s).pending = s.pending := by
  unfold reportBurning; try dsimp only
  all_goals (repeat' split)
  all_goals first | (simp; done) | (simp_all; done) | rfl

@[simp] theorem overheated_frame (s : State) :
    quietPorts (overheated s).ports = quietPorts s.ports ∧ (overheated s).lamp.newest = s.lamp.newest ∧
    (overheated s).lamp.replaceInFlight = s.lamp.replaceInFlight ∧ (overheated s).lamp.history = s.lamp.history ∧
    (overheated s).link.state = s.link.state ∧ (overheated s).link.silence = s.link.silence ∧
    (overheated s).link.outstanding = s.link.outstanding ∧ (overheated s).link.answer = s.link.answer ∧
    (overheated s).link.nextTag = s.link.nextTag ∧ (overheated s).link.lane = s.link.lane ∧
    (overheated s).link.reportImage = s.link.reportImage ∧ (overheated s).link.lastFormat = s.link.lastFormat ∧
    (overheated s).link.lastRejection = s.link.lastRejection ∧ (overheated s).link.lostFor = s.link.lostFor ∧
    (overheated s).link.sinceMessage = s.link.sinceMessage ∧ (overheated s).link.lastSet = s.link.lastSet ∧
    (overheated s).link.receiver = s.link.receiver ∧ (overheated s).link.transmit = s.link.transmit ∧
    (overheated s).router.sources = s.router.sources ∧ (overheated s).router.raw = s.router.raw ∧
    (overheated s).router.debounced = s.router.debounced ∧ (overheated s).router.stability = s.router.stability ∧
    (overheated s).router.sample = s.router.sample ∧ (overheated s).router.requested = s.router.requested ∧
    (overheated s).router.routedInput = s.router.routedInput ∧
    (overheated s).router.routedSource = s.router.routedSource ∧ (overheated s).router.state = s.router.state ∧
    (overheated s).router.format = s.router.format ∧ (overheated s).router.chain = s.router.chain ∧
    (overheated s).router.pendingSlot = s.router.pendingSlot ∧ (overheated s).router.deferred = s.router.deferred ∧
    (overheated s).router.settle = s.router.settle ∧ (overheated s).router.settleOrigin = s.router.settleOrigin ∧
    (overheated s).router.resolved = s.router.resolved ∧ (overheated s).geometry = s.geometry ∧
    (overheated s).room = s.room ∧ (overheated s).lockout = s.lockout ∧ (overheated s).store.slots = s.store.slots ∧
    (overheated s).store.records = s.store.records ∧ (overheated s).store.loaded = s.store.loaded ∧
    (overheated s).store.install = s.store.install ∧ (overheated s).store.room = s.store.room ∧
    (overheated s).store.protect = s.store.protect ∧ (overheated s).store.window = s.store.window ∧
    (overheated s).store.engine = s.store.engine ∧ (overheated s).store.wipe = s.store.wipe ∧
    (overheated s).pending = s.pending := by
  unfold overheated; try dsimp only
  all_goals (repeat' split)
  all_goals first | (simp; done) | (simp_all; done) | rfl

@[simp] theorem reportThermal_frame (r : Report) (s : State) :
    quietPorts (reportThermal r s).ports = quietPorts s.ports ∧ (reportThermal r s).lamp.newest = s.lamp.newest ∧
    (reportThermal r s).lamp.replaceInFlight = s.lamp.replaceInFlight ∧
    (reportThermal r s).lamp.history = s.lamp.history ∧ (reportThermal r s).link.state = s.link.state ∧
    (reportThermal r s).link.silence = s.link.silence ∧ (reportThermal r s).link.outstanding = s.link.outstanding ∧
    (reportThermal r s).link.answer = s.link.answer ∧ (reportThermal r s).link.nextTag = s.link.nextTag ∧
    (reportThermal r s).link.lane = s.link.lane ∧ (reportThermal r s).link.reportImage = s.link.reportImage ∧
    (reportThermal r s).link.lastFormat = s.link.lastFormat ∧
    (reportThermal r s).link.lastRejection = s.link.lastRejection ∧
    (reportThermal r s).link.lostFor = s.link.lostFor ∧ (reportThermal r s).link.sinceMessage = s.link.sinceMessage ∧
    (reportThermal r s).link.lastSet = s.link.lastSet ∧ (reportThermal r s).link.receiver = s.link.receiver ∧
    (reportThermal r s).link.transmit = s.link.transmit ∧ (reportThermal r s).router.sources = s.router.sources ∧
    (reportThermal r s).router.raw = s.router.raw ∧ (reportThermal r s).router.debounced = s.router.debounced ∧
    (reportThermal r s).router.stability = s.router.stability ∧ (reportThermal r s).router.sample = s.router.sample ∧
    (reportThermal r s).router.requested = s.router.requested ∧
    (reportThermal r s).router.routedInput = s.router.routedInput ∧
    (reportThermal r s).router.routedSource = s.router.routedSource ∧
    (reportThermal r s).router.state = s.router.state ∧ (reportThermal r s).router.format = s.router.format ∧
    (reportThermal r s).router.chain = s.router.chain ∧
    (reportThermal r s).router.pendingSlot = s.router.pendingSlot ∧
    (reportThermal r s).router.deferred = s.router.deferred ∧ (reportThermal r s).router.settle = s.router.settle ∧
    (reportThermal r s).router.settleOrigin = s.router.settleOrigin ∧
    (reportThermal r s).router.resolved = s.router.resolved ∧ (reportThermal r s).geometry = s.geometry ∧
    (reportThermal r s).room = s.room ∧ (reportThermal r s).lockout = s.lockout ∧
    (reportThermal r s).store.slots = s.store.slots ∧ (reportThermal r s).store.records = s.store.records ∧
    (reportThermal r s).store.loaded = s.store.loaded ∧ (reportThermal r s).store.install = s.store.install ∧
    (reportThermal r s).store.room = s.store.room ∧ (reportThermal r s).store.protect = s.store.protect ∧
    (reportThermal r s).store.window = s.store.window ∧ (reportThermal r s).store.engine = s.store.engine ∧
    (reportThermal r s).store.wipe = s.store.wipe ∧ (reportThermal r s).pending = s.pending := by
  unfold reportThermal; try dsimp only
  all_goals (repeat' split)
  all_goals first | (simp; done) | (simp_all; done) | rfl

@[simp] theorem reportDeferred_frame (r : Report) (s : State) :
    quietPorts (reportDeferred r s).ports = quietPorts s.ports ∧ (reportDeferred r s).lamp.newest = s.lamp.newest ∧
    (reportDeferred r s).lamp.replaceInFlight = s.lamp.replaceInFlight ∧
    (reportDeferred r s).lamp.history = s.lamp.history ∧ (reportDeferred r s).link.state = s.link.state ∧
    (reportDeferred r s).link.silence = s.link.silence ∧ (reportDeferred r s).link.outstanding = s.link.outstanding ∧
    (reportDeferred r s).link.answer = s.link.answer ∧ (reportDeferred r s).link.nextTag = s.link.nextTag ∧
    (reportDeferred r s).link.lane = s.link.lane ∧ (reportDeferred r s).link.reportImage = s.link.reportImage ∧
    (reportDeferred r s).link.lastFormat = s.link.lastFormat ∧
    (reportDeferred r s).link.lastRejection = s.link.lastRejection ∧
    (reportDeferred r s).link.lostFor = s.link.lostFor ∧
    (reportDeferred r s).link.sinceMessage = s.link.sinceMessage ∧
    (reportDeferred r s).link.lastSet = s.link.lastSet ∧ (reportDeferred r s).link.receiver = s.link.receiver ∧
    (reportDeferred r s).link.transmit = s.link.transmit ∧ (reportDeferred r s).router.sources = s.router.sources ∧
    (reportDeferred r s).router.raw = s.router.raw ∧ (reportDeferred r s).router.debounced = s.router.debounced ∧
    (reportDeferred r s).router.stability = s.router.stability ∧
    (reportDeferred r s).router.sample = s.router.sample ∧
    (reportDeferred r s).router.requested = s.router.requested ∧
    (reportDeferred r s).router.routedInput = s.router.routedInput ∧
    (reportDeferred r s).router.routedSource = s.router.routedSource ∧
    (reportDeferred r s).router.state = s.router.state ∧ (reportDeferred r s).router.format = s.router.format ∧
    (reportDeferred r s).router.chain = s.router.chain ∧
    (reportDeferred r s).router.pendingSlot = s.router.pendingSlot ∧
    (reportDeferred r s).router.deferred = s.router.deferred ∧ (reportDeferred r s).router.settle = s.router.settle ∧
    (reportDeferred r s).router.settleOrigin = s.router.settleOrigin ∧
    (reportDeferred r s).router.resolved = s.router.resolved ∧ (reportDeferred r s).geometry = s.geometry ∧
    (reportDeferred r s).room = s.room ∧ (reportDeferred r s).lockout = s.lockout ∧
    (reportDeferred r s).store.slots = s.store.slots ∧ (reportDeferred r s).store.records = s.store.records ∧
    (reportDeferred r s).store.loaded = s.store.loaded ∧ (reportDeferred r s).store.install = s.store.install ∧
    (reportDeferred r s).store.room = s.store.room ∧ (reportDeferred r s).store.protect = s.store.protect ∧
    (reportDeferred r s).store.window = s.store.window ∧ (reportDeferred r s).store.engine = s.store.engine ∧
    (reportDeferred r s).store.wipe = s.store.wipe ∧ (reportDeferred r s).pending = s.pending := by
  unfold reportDeferred; try dsimp only
  all_goals (repeat' split)
  all_goals first | (simp; done) | (simp_all; done) | rfl

@[simp] theorem reportShutter_frame (r : Report) (s : State) :
    (reportShutter r s).ports = s.ports ∧ (reportShutter r s).lamp = s.lamp ∧ (reportShutter r s).power = s.power ∧
    (reportShutter r s).link.state = s.link.state ∧ (reportShutter r s).link.silence = s.link.silence ∧
    (reportShutter r s).link.outstanding = s.link.outstanding ∧ (reportShutter r s).link.answer = s.link.answer ∧
    (reportShutter r s).link.nextTag = s.link.nextTag ∧ (reportShutter r s).link.lane = s.link.lane ∧
    (reportShutter r s).link.reportImage = s.link.reportImage ∧
    (reportShutter r s).link.lastFormat = s.link.lastFormat ∧
    (reportShutter r s).link.lastRejection = s.link.lastRejection ∧
    (reportShutter r s).link.lostFor = s.link.lostFor ∧ (reportShutter r s).link.sinceMessage = s.link.sinceMessage ∧
    (reportShutter r s).link.lastSet = s.link.lastSet ∧ (reportShutter r s).link.receiver = s.link.receiver ∧
    (reportShutter r s).link.transmit = s.link.transmit ∧ (reportShutter r s).router = s.router ∧
    (reportShutter r s).geometry = s.geometry ∧ (reportShutter r s).room = s.room ∧
    (reportShutter r s).lockout = s.lockout ∧ (reportShutter r s).store = s.store ∧
    (reportShutter r s).free = s.free ∧ (reportShutter r s).pending = s.pending := by
  unfold reportShutter; try dsimp only
  all_goals (repeat' split)
  all_goals first | (simp; done) | (simp_all; done) | rfl

@[simp] theorem powerReport_frame (r : Report) (s : State) :
    quietPorts (powerReport r s).ports = quietPorts s.ports ∧ (powerReport r s).lamp.newest = s.lamp.newest ∧
    (powerReport r s).lamp.replaceInFlight = s.lamp.replaceInFlight ∧
    (powerReport r s).lamp.history = s.lamp.history ∧ (powerReport r s).link.state = s.link.state ∧
    (powerReport r s).link.silence = s.link.silence ∧ (powerReport r s).link.outstanding = s.link.outstanding ∧
    (powerReport r s).link.answer = s.link.answer ∧ (powerReport r s).link.nextTag = s.link.nextTag ∧
    (powerReport r s).link.lane = s.link.lane ∧ (powerReport r s).link.reportImage = s.link.reportImage ∧
    (powerReport r s).link.lastFormat = s.link.lastFormat ∧
    (powerReport r s).link.lastRejection = s.link.lastRejection ∧ (powerReport r s).link.lostFor = s.link.lostFor ∧
    (powerReport r s).link.sinceMessage = s.link.sinceMessage ∧ (powerReport r s).link.lastSet = s.link.lastSet ∧
    (powerReport r s).link.receiver = s.link.receiver ∧ (powerReport r s).link.transmit = s.link.transmit ∧
    (powerReport r s).router.sources = s.router.sources ∧ (powerReport r s).router.raw = s.router.raw ∧
    (powerReport r s).router.debounced = s.router.debounced ∧
    (powerReport r s).router.stability = s.router.stability ∧ (powerReport r s).router.sample = s.router.sample ∧
    (powerReport r s).router.requested = s.router.requested ∧
    (powerReport r s).router.routedInput = s.router.routedInput ∧
    (powerReport r s).router.routedSource = s.router.routedSource ∧ (powerReport r s).router.state = s.router.state ∧
    (powerReport r s).router.format = s.router.format ∧ (powerReport r s).router.chain = s.router.chain ∧
    (powerReport r s).router.pendingSlot = s.router.pendingSlot ∧
    (powerReport r s).router.deferred = s.router.deferred ∧ (powerReport r s).router.settle = s.router.settle ∧
    (powerReport r s).router.settleOrigin = s.router.settleOrigin ∧
    (powerReport r s).router.resolved = s.router.resolved ∧ (powerReport r s).geometry = s.geometry ∧
    (powerReport r s).room = s.room ∧ (powerReport r s).lockout = s.lockout ∧
    (powerReport r s).store.slots = s.store.slots ∧ (powerReport r s).store.records = s.store.records ∧
    (powerReport r s).store.loaded = s.store.loaded ∧ (powerReport r s).store.install = s.store.install ∧
    (powerReport r s).store.room = s.store.room ∧ (powerReport r s).store.protect = s.store.protect ∧
    (powerReport r s).store.window = s.store.window ∧ (powerReport r s).store.engine = s.store.engine ∧
    (powerReport r s).store.wipe = s.store.wipe ∧ (powerReport r s).pending = s.pending := by
  unfold powerReport; try dsimp only
  all_goals (repeat' split)
  all_goals first | (simp; done) | (simp_all; done) | rfl

@[simp] theorem countLost_frame (s : State) :
    quietPorts (countLost s).ports = quietPorts s.ports ∧ (countLost s).lamp.newest = s.lamp.newest ∧
    (countLost s).lamp.burn = s.lamp.burn ∧ (countLost s).lamp.hotWindow = s.lamp.hotWindow ∧
    (countLost s).lamp.replaceInFlight = s.lamp.replaceInFlight ∧ (countLost s).lamp.history = s.lamp.history ∧
    (countLost s).power.state = s.power.state ∧ (countLost s).power.step = s.power.step ∧
    (countLost s).power.attempt = s.power.attempt ∧ (countLost s).power.restartPending = s.power.restartPending ∧
    (countLost s).power.offPending = s.power.offPending ∧
    (countLost s).power.ignitionOrigin = s.power.ignitionOrigin ∧ (countLost s).power.offOrigin = s.power.offOrigin ∧
    (countLost s).power.thermalHold = s.power.thermalHold ∧ (countLost s).power.shutter = s.power.shutter ∧
    (countLost s).power.momentaryMode = s.power.momentaryMode ∧
    (countLost s).power.modeEvaluated = s.power.modeEvaluated ∧
    (countLost s).power.strikeTimer = s.power.strikeTimer ∧ (countLost s).power.pauseTimer = s.power.pauseTimer ∧
    (countLost s).power.warmingTimer = s.power.warmingTimer ∧
    (countLost s).power.coolingTimer = s.power.coolingTimer ∧ (countLost s).power.blankDim = s.power.blankDim ∧
    (countLost s).power.dimmed = s.power.dimmed ∧ (countLost s).power.reportWait = s.power.reportWait ∧
    (countLost s).link.state = s.link.state ∧ (countLost s).link.silence = s.link.silence ∧
    (countLost s).link.outstanding = s.link.outstanding ∧ (countLost s).link.answer = s.link.answer ∧
    (countLost s).link.nextTag = s.link.nextTag ∧ (countLost s).link.lane = s.link.lane ∧
    (countLost s).link.reportImage = s.link.reportImage ∧ (countLost s).link.lastFormat = s.link.lastFormat ∧
    (countLost s).link.lastRejection = s.link.lastRejection ∧ (countLost s).link.lostFor = s.link.lostFor ∧
    (countLost s).link.sinceMessage = s.link.sinceMessage ∧ (countLost s).link.lastSet = s.link.lastSet ∧
    (countLost s).link.receiver = s.link.receiver ∧ (countLost s).link.transmit = s.link.transmit ∧
    (countLost s).router = s.router ∧ (countLost s).geometry = s.geometry ∧ (countLost s).room = s.room ∧
    (countLost s).lockout = s.lockout ∧ (countLost s).store.slots = s.store.slots ∧
    (countLost s).store.records = s.store.records ∧ (countLost s).store.loaded = s.store.loaded ∧
    (countLost s).store.install = s.store.install ∧ (countLost s).store.room = s.store.room ∧
    (countLost s).store.protect = s.store.protect ∧ (countLost s).store.window = s.store.window ∧
    (countLost s).store.engine = s.store.engine ∧ (countLost s).store.wipe = s.store.wipe ∧
    (countLost s).pending = s.pending := by
  unfold countLost; try dsimp only
  all_goals (repeat' split)
  all_goals first | (simp; done) | (simp_all; done) | rfl

@[simp] theorem powerLinkLost_frame (s : State) :
    quietPorts (powerLinkLost s).ports = quietPorts s.ports ∧ (powerLinkLost s).lamp.newest = s.lamp.newest ∧
    (powerLinkLost s).lamp.replaceInFlight = s.lamp.replaceInFlight ∧
    (powerLinkLost s).lamp.history = s.lamp.history ∧ (powerLinkLost s).link.state = s.link.state ∧
    (powerLinkLost s).link.silence = s.link.silence ∧ (powerLinkLost s).link.outstanding = s.link.outstanding ∧
    (powerLinkLost s).link.answer = s.link.answer ∧ (powerLinkLost s).link.nextTag = s.link.nextTag ∧
    (powerLinkLost s).link.lane = s.link.lane ∧ (powerLinkLost s).link.reportImage = s.link.reportImage ∧
    (powerLinkLost s).link.lastFormat = s.link.lastFormat ∧
    (powerLinkLost s).link.lastRejection = s.link.lastRejection ∧ (powerLinkLost s).link.lostFor = s.link.lostFor ∧
    (powerLinkLost s).link.sinceMessage = s.link.sinceMessage ∧ (powerLinkLost s).link.lastSet = s.link.lastSet ∧
    (powerLinkLost s).link.receiver = s.link.receiver ∧ (powerLinkLost s).link.transmit = s.link.transmit ∧
    (powerLinkLost s).router.sources = s.router.sources ∧ (powerLinkLost s).router.raw = s.router.raw ∧
    (powerLinkLost s).router.debounced = s.router.debounced ∧
    (powerLinkLost s).router.stability = s.router.stability ∧ (powerLinkLost s).router.sample = s.router.sample ∧
    (powerLinkLost s).router.requested = s.router.requested ∧
    (powerLinkLost s).router.routedInput = s.router.routedInput ∧
    (powerLinkLost s).router.routedSource = s.router.routedSource ∧ (powerLinkLost s).router.state = s.router.state ∧
    (powerLinkLost s).router.format = s.router.format ∧ (powerLinkLost s).router.chain = s.router.chain ∧
    (powerLinkLost s).router.pendingSlot = s.router.pendingSlot ∧
    (powerLinkLost s).router.deferred = s.router.deferred ∧ (powerLinkLost s).router.settle = s.router.settle ∧
    (powerLinkLost s).router.settleOrigin = s.router.settleOrigin ∧
    (powerLinkLost s).router.resolved = s.router.resolved ∧ (powerLinkLost s).geometry = s.geometry ∧
    (powerLinkLost s).room = s.room ∧ (powerLinkLost s).lockout = s.lockout ∧
    (powerLinkLost s).store.slots = s.store.slots ∧ (powerLinkLost s).store.records = s.store.records ∧
    (powerLinkLost s).store.loaded = s.store.loaded ∧ (powerLinkLost s).store.install = s.store.install ∧
    (powerLinkLost s).store.room = s.store.room ∧ (powerLinkLost s).store.protect = s.store.protect ∧
    (powerLinkLost s).store.window = s.store.window ∧ (powerLinkLost s).store.engine = s.store.engine ∧
    (powerLinkLost s).store.wipe = s.store.wipe ∧ (powerLinkLost s).pending = s.pending := by
  unfold powerLinkLost; try dsimp only
  all_goals (repeat' split)
  all_goals first | (simp; done) | (simp_all; done) | rfl

@[simp] theorem noSignalActs_frame (s : State) :
    quietPorts (noSignalActs s).ports = quietPorts s.ports ∧ (noSignalActs s).lamp.newest = s.lamp.newest ∧
    (noSignalActs s).lamp.replaceInFlight = s.lamp.replaceInFlight ∧ (noSignalActs s).lamp.history = s.lamp.history ∧
    (noSignalActs s).link.state = s.link.state ∧ (noSignalActs s).link.silence = s.link.silence ∧
    (noSignalActs s).link.outstanding = s.link.outstanding ∧ (noSignalActs s).link.answer = s.link.answer ∧
    (noSignalActs s).link.nextTag = s.link.nextTag ∧ (noSignalActs s).link.lane = s.link.lane ∧
    (noSignalActs s).link.reportImage = s.link.reportImage ∧ (noSignalActs s).link.lastFormat = s.link.lastFormat ∧
    (noSignalActs s).link.lastRejection = s.link.lastRejection ∧ (noSignalActs s).link.lostFor = s.link.lostFor ∧
    (noSignalActs s).link.sinceMessage = s.link.sinceMessage ∧ (noSignalActs s).link.lastSet = s.link.lastSet ∧
    (noSignalActs s).link.receiver = s.link.receiver ∧ (noSignalActs s).link.transmit = s.link.transmit ∧
    (noSignalActs s).router.sources = s.router.sources ∧ (noSignalActs s).router.raw = s.router.raw ∧
    (noSignalActs s).router.debounced = s.router.debounced ∧ (noSignalActs s).router.stability = s.router.stability ∧
    (noSignalActs s).router.sample = s.router.sample ∧ (noSignalActs s).router.requested = s.router.requested ∧
    (noSignalActs s).router.routedInput = s.router.routedInput ∧
    (noSignalActs s).router.routedSource = s.router.routedSource ∧ (noSignalActs s).router.state = s.router.state ∧
    (noSignalActs s).router.format = s.router.format ∧ (noSignalActs s).router.chain = s.router.chain ∧
    (noSignalActs s).router.pendingSlot = s.router.pendingSlot ∧
    (noSignalActs s).router.deferred = s.router.deferred ∧ (noSignalActs s).router.settle = s.router.settle ∧
    (noSignalActs s).router.settleOrigin = s.router.settleOrigin ∧
    (noSignalActs s).router.resolved = s.router.resolved ∧ (noSignalActs s).geometry = s.geometry ∧
    (noSignalActs s).room = s.room ∧ (noSignalActs s).lockout = s.lockout ∧
    (noSignalActs s).store.slots = s.store.slots ∧ (noSignalActs s).store.records = s.store.records ∧
    (noSignalActs s).store.loaded = s.store.loaded ∧ (noSignalActs s).store.install = s.store.install ∧
    (noSignalActs s).store.room = s.store.room ∧ (noSignalActs s).store.protect = s.store.protect ∧
    (noSignalActs s).store.window = s.store.window ∧ (noSignalActs s).store.engine = s.store.engine ∧
    (noSignalActs s).store.wipe = s.store.wipe ∧ (noSignalActs s).pending = s.pending := by
  unfold noSignalActs; try dsimp only
  all_goals (repeat' split)
  all_goals first | (simp; done) | (simp_all; done) | rfl

/-! ## Geometry -/

@[simp] theorem makeSet_frame (s : State) :
    (makeSet s).ports = s.ports ∧ (makeSet s).lamp = s.lamp ∧ (makeSet s).power = s.power ∧
    (makeSet s).link.state = s.link.state ∧ (makeSet s).link.silence = s.link.silence ∧
    (makeSet s).link.answer = s.link.answer ∧ (makeSet s).link.nextTag = s.link.nextTag ∧
    (makeSet s).link.control = s.link.control ∧ (makeSet s).link.reportImage = s.link.reportImage ∧
    (makeSet s).link.lastFormat = s.link.lastFormat ∧ (makeSet s).link.lastRejection = s.link.lastRejection ∧
    (makeSet s).link.lostFor = s.link.lostFor ∧ (makeSet s).link.sinceMessage = s.link.sinceMessage ∧
    (makeSet s).link.receiver = s.link.receiver ∧ (makeSet s).link.transmit = s.link.transmit ∧
    (makeSet s).router = s.router ∧ (makeSet s).geometry.presets = s.geometry.presets ∧
    (makeSet s).geometry.overlay = s.geometry.overlay ∧ (makeSet s).geometry.momentary = s.geometry.momentary ∧
    (makeSet s).geometry.routed = s.geometry.routed ∧ (makeSet s).geometry.format = s.geometry.format ∧
    (makeSet s).geometry.started = s.geometry.started ∧ (makeSet s).geometry.active = s.geometry.active ∧
    (makeSet s).room = s.room ∧ (makeSet s).lockout = s.lockout ∧ (makeSet s).store = s.store ∧
    (makeSet s).free = s.free ∧ (makeSet s).pending = s.pending := by
  unfold makeSet; try dsimp only
  all_goals (repeat' split)
  all_goals first | (simp; done) | (simp_all; done) | rfl

@[simp] theorem recordActive_frame (s : State) :
    (recordActive s).ports = s.ports ∧ (recordActive s).lamp = s.lamp ∧ (recordActive s).power = s.power ∧
    (recordActive s).link = s.link ∧ (recordActive s).router = s.router ∧
    (recordActive s).geometry.presets = s.geometry.presets ∧ (recordActive s).geometry.overlay = s.geometry.overlay ∧
    (recordActive s).geometry.momentary = s.geometry.momentary ∧
    (recordActive s).geometry.routed = s.geometry.routed ∧ (recordActive s).geometry.format = s.geometry.format ∧
    (recordActive s).geometry.started = s.geometry.started ∧ (recordActive s).geometry.current = s.geometry.current ∧
    (recordActive s).geometry.setNumber = s.geometry.setNumber ∧
    (recordActive s).geometry.status = s.geometry.status ∧
    (recordActive s).geometry.commitAcked = s.geometry.commitAcked ∧
    (recordActive s).geometry.keptResend = s.geometry.keptResend ∧ (recordActive s).room = s.room ∧
    (recordActive s).lockout = s.lockout ∧ (recordActive s).store = s.store ∧ (recordActive s).free = s.free ∧
    (recordActive s).pending = s.pending := by
  unfold recordActive; try dsimp only
  all_goals (repeat' split)
  all_goals first | (simp; done) | (simp_all; done) | rfl

@[simp] theorem triggerEval_frame (s : State) :
    (triggerEval s).ports = s.ports ∧ (triggerEval s).lamp = s.lamp ∧ (triggerEval s).power = s.power ∧
    (triggerEval s).link.state = s.link.state ∧ (triggerEval s).link.silence = s.link.silence ∧
    (triggerEval s).link.answer = s.link.answer ∧ (triggerEval s).link.nextTag = s.link.nextTag ∧
    (triggerEval s).link.control = s.link.control ∧ (triggerEval s).link.reportImage = s.link.reportImage ∧
    (triggerEval s).link.lastFormat = s.link.lastFormat ∧ (triggerEval s).link.lastRejection = s.link.lastRejection ∧
    (triggerEval s).link.lostFor = s.link.lostFor ∧ (triggerEval s).link.sinceMessage = s.link.sinceMessage ∧
    (triggerEval s).link.receiver = s.link.receiver ∧ (triggerEval s).link.transmit = s.link.transmit ∧
    (triggerEval s).router = s.router ∧ (triggerEval s).geometry.presets = s.geometry.presets ∧
    (triggerEval s).geometry.overlay = s.geometry.overlay ∧
    (triggerEval s).geometry.momentary = s.geometry.momentary ∧ (triggerEval s).geometry.routed = s.geometry.routed ∧
    (triggerEval s).geometry.format = s.geometry.format ∧ (triggerEval s).geometry.started = s.geometry.started ∧
    (triggerEval s).room = s.room ∧ (triggerEval s).lockout = s.lockout ∧ (triggerEval s).store = s.store ∧
    (triggerEval s).free = s.free ∧ (triggerEval s).pending = s.pending := by
  unfold triggerEval; try dsimp only
  all_goals (repeat' split)
  all_goals first | (simp; done) | (simp_all; done) | rfl

@[simp] theorem askResend_frame (s : State) :
    (askResend s).ports = s.ports ∧ (askResend s).lamp = s.lamp ∧ (askResend s).power = s.power ∧
    (askResend s).link.state = s.link.state ∧ (askResend s).link.silence = s.link.silence ∧
    (askResend s).link.answer = s.link.answer ∧ (askResend s).link.nextTag = s.link.nextTag ∧
    (askResend s).link.control = s.link.control ∧ (askResend s).link.reportImage = s.link.reportImage ∧
    (askResend s).link.lastFormat = s.link.lastFormat ∧ (askResend s).link.lastRejection = s.link.lastRejection ∧
    (askResend s).link.lostFor = s.link.lostFor ∧ (askResend s).link.sinceMessage = s.link.sinceMessage ∧
    (askResend s).link.receiver = s.link.receiver ∧ (askResend s).link.transmit = s.link.transmit ∧
    (askResend s).router = s.router ∧ (askResend s).geometry.presets = s.geometry.presets ∧
    (askResend s).geometry.overlay = s.geometry.overlay ∧ (askResend s).geometry.momentary = s.geometry.momentary ∧
    (askResend s).geometry.routed = s.geometry.routed ∧ (askResend s).geometry.format = s.geometry.format ∧
    (askResend s).geometry.started = s.geometry.started ∧ (askResend s).room = s.room ∧
    (askResend s).lockout = s.lockout ∧ (askResend s).store = s.store ∧ (askResend s).free = s.free ∧
    (askResend s).pending = s.pending := by
  unfold askResend; try dsimp only
  all_goals (repeat' split)
  all_goals first | (simp; done) | (simp_all; done) | rfl

@[simp] theorem clearAtRoute_frame (dest : Option (Fin 8)) (s : State) :
    (clearAtRoute dest s).ports = s.ports ∧ (clearAtRoute dest s).lamp = s.lamp ∧
    (clearAtRoute dest s).power = s.power ∧ (clearAtRoute dest s).link = s.link ∧
    (clearAtRoute dest s).router = s.router ∧ (clearAtRoute dest s).geometry.presets = s.geometry.presets ∧
    (clearAtRoute dest s).geometry.overlay = s.geometry.overlay ∧
    (clearAtRoute dest s).geometry.routed = s.geometry.routed ∧
    (clearAtRoute dest s).geometry.format = s.geometry.format ∧
    (clearAtRoute dest s).geometry.started = s.geometry.started ∧
    (clearAtRoute dest s).geometry.active = s.geometry.active ∧
    (clearAtRoute dest s).geometry.current = s.geometry.current ∧
    (clearAtRoute dest s).geometry.setNumber = s.geometry.setNumber ∧
    (clearAtRoute dest s).geometry.status = s.geometry.status ∧
    (clearAtRoute dest s).geometry.commitAcked = s.geometry.commitAcked ∧
    (clearAtRoute dest s).geometry.keptResend = s.geometry.keptResend ∧ (clearAtRoute dest s).room = s.room ∧
    (clearAtRoute dest s).lockout = s.lockout ∧ (clearAtRoute dest s).store = s.store ∧
    (clearAtRoute dest s).free = s.free ∧ (clearAtRoute dest s).pending = s.pending := by
  unfold clearAtRoute; try dsimp only
  all_goals (repeat' split)
  all_goals first | (simp; done) | (simp_all; done) | rfl

@[simp] theorem handRoute_frame (dest : Option (Fin 8)) (f : FormatImage) (s : State) :
    (handRoute dest f s).ports = s.ports ∧ (handRoute dest f s).lamp = s.lamp ∧ (handRoute dest f s).power = s.power ∧
    (handRoute dest f s).link.state = s.link.state ∧ (handRoute dest f s).link.silence = s.link.silence ∧
    (handRoute dest f s).link.answer = s.link.answer ∧ (handRoute dest f s).link.nextTag = s.link.nextTag ∧
    (handRoute dest f s).link.control = s.link.control ∧ (handRoute dest f s).link.reportImage = s.link.reportImage ∧
    (handRoute dest f s).link.lastFormat = s.link.lastFormat ∧
    (handRoute dest f s).link.lastRejection = s.link.lastRejection ∧
    (handRoute dest f s).link.lostFor = s.link.lostFor ∧
    (handRoute dest f s).link.sinceMessage = s.link.sinceMessage ∧
    (handRoute dest f s).link.receiver = s.link.receiver ∧ (handRoute dest f s).link.transmit = s.link.transmit ∧
    (handRoute dest f s).router = s.router ∧ (handRoute dest f s).geometry.presets = s.geometry.presets ∧
    (handRoute dest f s).geometry.overlay = s.geometry.overlay ∧ (handRoute dest f s).room = s.room ∧
    (handRoute dest f s).lockout = s.lockout ∧ (handRoute dest f s).store = s.store ∧
    (handRoute dest f s).free = s.free ∧ (handRoute dest f s).pending = s.pending := by
  unfold handRoute; try dsimp only
  all_goals (repeat' split)
  all_goals first | (simp; done) | (simp_all; done) | rfl

@[simp] theorem handSource_frame (dest : Option (Fin 8)) (s : State) :
    (handSource dest s).ports = s.ports ∧ (handSource dest s).lamp = s.lamp ∧ (handSource dest s).power = s.power ∧
    (handSource dest s).link.state = s.link.state ∧ (handSource dest s).link.silence = s.link.silence ∧
    (handSource dest s).link.answer = s.link.answer ∧ (handSource dest s).link.nextTag = s.link.nextTag ∧
    (handSource dest s).link.control = s.link.control ∧ (handSource dest s).link.reportImage = s.link.reportImage ∧
    (handSource dest s).link.lastFormat = s.link.lastFormat ∧
    (handSource dest s).link.lastRejection = s.link.lastRejection ∧
    (handSource dest s).link.lostFor = s.link.lostFor ∧ (handSource dest s).link.sinceMessage = s.link.sinceMessage ∧
    (handSource dest s).link.receiver = s.link.receiver ∧ (handSource dest s).link.transmit = s.link.transmit ∧
    (handSource dest s).router = s.router ∧ (handSource dest s).geometry.presets = s.geometry.presets ∧
    (handSource dest s).geometry.overlay = s.geometry.overlay ∧
    (handSource dest s).geometry.format = s.geometry.format ∧
    (handSource dest s).geometry.started = s.geometry.started ∧ (handSource dest s).room = s.room ∧
    (handSource dest s).lockout = s.lockout ∧ (handSource dest s).store = s.store ∧
    (handSource dest s).free = s.free ∧ (handSource dest s).pending = s.pending := by
  unfold handSource; try dsimp only
  all_goals (repeat' split)
  all_goals first | (simp; done) | (simp_all; done) | rfl

@[simp] theorem handFormat_frame (f : FormatImage) (s : State) :
    (handFormat f s).ports = s.ports ∧ (handFormat f s).lamp = s.lamp ∧ (handFormat f s).power = s.power ∧
    (handFormat f s).link.state = s.link.state ∧ (handFormat f s).link.silence = s.link.silence ∧
    (handFormat f s).link.answer = s.link.answer ∧ (handFormat f s).link.nextTag = s.link.nextTag ∧
    (handFormat f s).link.control = s.link.control ∧ (handFormat f s).link.reportImage = s.link.reportImage ∧
    (handFormat f s).link.lastFormat = s.link.lastFormat ∧
    (handFormat f s).link.lastRejection = s.link.lastRejection ∧ (handFormat f s).link.lostFor = s.link.lostFor ∧
    (handFormat f s).link.sinceMessage = s.link.sinceMessage ∧ (handFormat f s).link.receiver = s.link.receiver ∧
    (handFormat f s).link.transmit = s.link.transmit ∧ (handFormat f s).router = s.router ∧
    (handFormat f s).geometry.presets = s.geometry.presets ∧ (handFormat f s).geometry.overlay = s.geometry.overlay ∧
    (handFormat f s).geometry.momentary = s.geometry.momentary ∧
    (handFormat f s).geometry.routed = s.geometry.routed ∧ (handFormat f s).geometry.started = s.geometry.started ∧
    (handFormat f s).room = s.room ∧ (handFormat f s).lockout = s.lockout ∧ (handFormat f s).store = s.store ∧
    (handFormat f s).free = s.free ∧ (handFormat f s).pending = s.pending := by
  unfold handFormat; try dsimp only
  all_goals (repeat' split)
  all_goals first | (simp; done) | (simp_all; done) | rfl

@[simp] theorem commitAccepted_frame (s : State) :
    (commitAccepted s).ports = s.ports ∧ (commitAccepted s).lamp = s.lamp ∧ (commitAccepted s).power = s.power ∧
    (commitAccepted s).link = s.link ∧ (commitAccepted s).router = s.router ∧
    (commitAccepted s).geometry.presets = s.geometry.presets ∧
    (commitAccepted s).geometry.overlay = s.geometry.overlay ∧
    (commitAccepted s).geometry.momentary = s.geometry.momentary ∧
    (commitAccepted s).geometry.routed = s.geometry.routed ∧ (commitAccepted s).geometry.format = s.geometry.format ∧
    (commitAccepted s).geometry.started = s.geometry.started ∧
    (commitAccepted s).geometry.active = s.geometry.active ∧
    (commitAccepted s).geometry.current = s.geometry.current ∧
    (commitAccepted s).geometry.setNumber = s.geometry.setNumber ∧
    (commitAccepted s).geometry.status = s.geometry.status ∧
    (commitAccepted s).geometry.keptResend = s.geometry.keptResend ∧ (commitAccepted s).room = s.room ∧
    (commitAccepted s).lockout = s.lockout ∧ (commitAccepted s).store = s.store ∧ (commitAccepted s).free = s.free ∧
    (commitAccepted s).pending = s.pending := by
  unfold commitAccepted; try dsimp only
  all_goals (repeat' split)
  all_goals first | (simp; done) | (simp_all; done) | rfl

@[simp] theorem setRejected_frame (index : Nat) (s : State) :
    quietPorts (setRejected index s).ports = quietPorts s.ports ∧ (setRejected index s).lamp = s.lamp ∧
    (setRejected index s).power = s.power ∧ (setRejected index s).link = s.link ∧
    (setRejected index s).router = s.router ∧ (setRejected index s).geometry.presets = s.geometry.presets ∧
    (setRejected index s).geometry.overlay = s.geometry.overlay ∧
    (setRejected index s).geometry.momentary = s.geometry.momentary ∧
    (setRejected index s).geometry.routed = s.geometry.routed ∧
    (setRejected index s).geometry.format = s.geometry.format ∧
    (setRejected index s).geometry.started = s.geometry.started ∧
    (setRejected index s).geometry.active = s.geometry.active ∧
    (setRejected index s).geometry.current = s.geometry.current ∧
    (setRejected index s).geometry.setNumber = s.geometry.setNumber ∧
    (setRejected index s).geometry.commitAcked = s.geometry.commitAcked ∧
    (setRejected index s).geometry.keptResend = s.geometry.keptResend ∧ (setRejected index s).room = s.room ∧
    (setRejected index s).lockout = s.lockout ∧ (setRejected index s).store = s.store ∧
    (setRejected index s).pending = s.pending := by
  unfold setRejected; try dsimp only
  all_goals (repeat' split)
  all_goals first | (simp; done) | (simp_all; done) | rfl

@[simp] theorem geometryLinkLost_frame (s : State) :
    quietPorts (geometryLinkLost s).ports = quietPorts s.ports ∧ (geometryLinkLost s).lamp = s.lamp ∧
    (geometryLinkLost s).power = s.power ∧ (geometryLinkLost s).link = s.link ∧
    (geometryLinkLost s).router = s.router ∧ (geometryLinkLost s).geometry.presets = s.geometry.presets ∧
    (geometryLinkLost s).geometry.overlay = s.geometry.overlay ∧
    (geometryLinkLost s).geometry.momentary = s.geometry.momentary ∧
    (geometryLinkLost s).geometry.routed = s.geometry.routed ∧
    (geometryLinkLost s).geometry.format = s.geometry.format ∧
    (geometryLinkLost s).geometry.started = s.geometry.started ∧
    (geometryLinkLost s).geometry.active = s.geometry.active ∧
    (geometryLinkLost s).geometry.current = s.geometry.current ∧
    (geometryLinkLost s).geometry.setNumber = s.geometry.setNumber ∧
    (geometryLinkLost s).geometry.commitAcked = s.geometry.commitAcked ∧
    (geometryLinkLost s).geometry.keptResend = s.geometry.keptResend ∧ (geometryLinkLost s).room = s.room ∧
    (geometryLinkLost s).lockout = s.lockout ∧ (geometryLinkLost s).store = s.store ∧
    (geometryLinkLost s).pending = s.pending := by
  unfold geometryLinkLost; try dsimp only
  all_goals (repeat' split)
  all_goals first | (simp; done) | (simp_all; done) | rfl

@[simp] theorem geometryReport_frame (committed : Option (BitVec 8)) (s : State) :
    quietPorts (geometryReport committed s).ports = quietPorts s.ports ∧ (geometryReport committed s).lamp = s.lamp ∧
    (geometryReport committed s).power = s.power ∧ (geometryReport committed s).link = s.link ∧
    (geometryReport committed s).router = s.router ∧
    (geometryReport committed s).geometry.presets = s.geometry.presets ∧
    (geometryReport committed s).geometry.overlay = s.geometry.overlay ∧
    (geometryReport committed s).geometry.momentary = s.geometry.momentary ∧
    (geometryReport committed s).geometry.routed = s.geometry.routed ∧
    (geometryReport committed s).geometry.format = s.geometry.format ∧
    (geometryReport committed s).geometry.started = s.geometry.started ∧
    (geometryReport committed s).geometry.active = s.geometry.active ∧
    (geometryReport committed s).geometry.current = s.geometry.current ∧
    (geometryReport committed s).geometry.setNumber = s.geometry.setNumber ∧
    (geometryReport committed s).geometry.commitAcked = s.geometry.commitAcked ∧
    (geometryReport committed s).geometry.keptResend = s.geometry.keptResend ∧
    (geometryReport committed s).room = s.room ∧ (geometryReport committed s).lockout = s.lockout ∧
    (geometryReport committed s).store = s.store ∧ (geometryReport committed s).pending = s.pending := by
  unfold geometryReport; try dsimp only
  all_goals (repeat' split)
  all_goals first | (simp; done) | (simp_all; done) | rfl

/-! ## Lockout -/

@[simp] theorem postProfile_frame (a : ActiveProfile) (o : Origin) (s : State) :
    quietPorts (postProfile a o s).ports = quietPorts s.ports ∧ (postProfile a o s).lamp = s.lamp ∧
    (postProfile a o s).power = s.power ∧ (postProfile a o s).link = s.link ∧ (postProfile a o s).router = s.router ∧
    (postProfile a o s).geometry = s.geometry ∧ (postProfile a o s).room = s.room ∧
    (postProfile a o s).lockout = s.lockout ∧ (postProfile a o s).store = s.store ∧
    (postProfile a o s).pending = s.pending := by
  unfold postProfile; try dsimp only
  all_goals (repeat' split)
  all_goals first | (simp; done) | (simp_all; done) | rfl

@[simp] theorem setProfileActive_frame (tell : Bool) (o : Origin) (s : State) :
    quietPorts (setProfileActive tell o s).ports = quietPorts s.ports ∧ (setProfileActive tell o s).lamp = s.lamp ∧
    (setProfileActive tell o s).power = s.power ∧ (setProfileActive tell o s).link = s.link ∧
    (setProfileActive tell o s).router = s.router ∧ (setProfileActive tell o s).geometry = s.geometry ∧
    (setProfileActive tell o s).room = s.room ∧ (setProfileActive tell o s).lockout.profiles = s.lockout.profiles ∧
    (setProfileActive tell o s).lockout.hold = s.lockout.hold ∧
    (setProfileActive tell o s).lockout.serviceEnabled = s.lockout.serviceEnabled ∧
    (setProfileActive tell o s).lockout.locked = s.lockout.locked ∧
    (setProfileActive tell o s).lockout.mismatch = s.lockout.mismatch ∧
    (setProfileActive tell o s).lockout.mode = s.lockout.mode ∧
    (setProfileActive tell o s).lockout.effective = s.lockout.effective ∧
    (setProfileActive tell o s).store = s.store ∧ (setProfileActive tell o s).pending = s.pending := by
  unfold setProfileActive; try dsimp only
  all_goals (repeat' split)
  all_goals first | (simp; done) | (simp_all; done) | rfl

@[simp] theorem postOverride_frame (e : Option EffectiveOverride) (o : Origin) (s : State) :
    quietPorts (postOverride e o s).ports = quietPorts s.ports ∧ (postOverride e o s).lamp = s.lamp ∧
    (postOverride e o s).power = s.power ∧ (postOverride e o s).link = s.link ∧
    (postOverride e o s).router = s.router ∧ (postOverride e o s).geometry = s.geometry ∧
    (postOverride e o s).room = s.room ∧ (postOverride e o s).lockout = s.lockout ∧
    (postOverride e o s).store = s.store ∧ (postOverride e o s).pending = s.pending := by
  unfold postOverride; try dsimp only
  all_goals (repeat' split)
  all_goals first | (simp; done) | (simp_all; done) | rfl

@[simp] theorem setOverrideActive_frame (tell : Bool) (o : Origin) (s : State) :
    quietPorts (setOverrideActive tell o s).ports = quietPorts s.ports ∧ (setOverrideActive tell o s).lamp = s.lamp ∧
    (setOverrideActive tell o s).power = s.power ∧ (setOverrideActive tell o s).link = s.link ∧
    (setOverrideActive tell o s).router = s.router ∧ (setOverrideActive tell o s).geometry = s.geometry ∧
    (setOverrideActive tell o s).room = s.room ∧ (setOverrideActive tell o s).lockout.profiles = s.lockout.profiles ∧
    (setOverrideActive tell o s).lockout.hold = s.lockout.hold ∧
    (setOverrideActive tell o s).lockout.serviceEnabled = s.lockout.serviceEnabled ∧
    (setOverrideActive tell o s).lockout.locked = s.lockout.locked ∧
    (setOverrideActive tell o s).lockout.mismatch = s.lockout.mismatch ∧
    (setOverrideActive tell o s).lockout.mode = s.lockout.mode ∧
    (setOverrideActive tell o s).lockout.active = s.lockout.active ∧ (setOverrideActive tell o s).store = s.store ∧
    (setOverrideActive tell o s).pending = s.pending := by
  unfold setOverrideActive; try dsimp only
  all_goals (repeat' split)
  all_goals first | (simp; done) | (simp_all; done) | rfl

@[simp] theorem refreshProfile_frame (o : Origin) (s : State) :
    quietPorts (refreshProfile o s).ports = quietPorts s.ports ∧ (refreshProfile o s).lamp = s.lamp ∧
    (refreshProfile o s).power = s.power ∧ (refreshProfile o s).link = s.link ∧
    (refreshProfile o s).router = s.router ∧ (refreshProfile o s).geometry = s.geometry ∧
    (refreshProfile o s).room = s.room ∧ (refreshProfile o s).lockout.profiles = s.lockout.profiles ∧
    (refreshProfile o s).lockout.hold = s.lockout.hold ∧
    (refreshProfile o s).lockout.serviceEnabled = s.lockout.serviceEnabled ∧
    (refreshProfile o s).lockout.locked = s.lockout.locked ∧
    (refreshProfile o s).lockout.mismatch = s.lockout.mismatch ∧ (refreshProfile o s).lockout.mode = s.lockout.mode ∧
    (refreshProfile o s).lockout.effective = s.lockout.effective ∧ (refreshProfile o s).store = s.store ∧
    (refreshProfile o s).pending = s.pending := by
  unfold refreshProfile; try dsimp only
  all_goals (repeat' split)
  all_goals first | (simp; done) | (simp_all; done) | rfl

@[simp] theorem refreshOverride_frame (o : Origin) (s : State) :
    quietPorts (refreshOverride o s).ports = quietPorts s.ports ∧ (refreshOverride o s).lamp = s.lamp ∧
    (refreshOverride o s).power = s.power ∧ (refreshOverride o s).link = s.link ∧
    (refreshOverride o s).router = s.router ∧ (refreshOverride o s).geometry = s.geometry ∧
    (refreshOverride o s).room = s.room ∧ (refreshOverride o s).lockout.profiles = s.lockout.profiles ∧
    (refreshOverride o s).lockout.hold = s.lockout.hold ∧
    (refreshOverride o s).lockout.serviceEnabled = s.lockout.serviceEnabled ∧
    (refreshOverride o s).lockout.locked = s.lockout.locked ∧
    (refreshOverride o s).lockout.mismatch = s.lockout.mismatch ∧
    (refreshOverride o s).lockout.mode = s.lockout.mode ∧ (refreshOverride o s).lockout.active = s.lockout.active ∧
    (refreshOverride o s).store = s.store ∧ (refreshOverride o s).pending = s.pending := by
  unfold refreshOverride; try dsimp only
  all_goals (repeat' split)
  all_goals first | (simp; done) | (simp_all; done) | rfl

@[simp] theorem refreshLockout_frame (o : Origin) (s : State) :
    quietPorts (refreshLockout o s).ports = quietPorts s.ports ∧ (refreshLockout o s).lamp = s.lamp ∧
    (refreshLockout o s).power = s.power ∧ (refreshLockout o s).link = s.link ∧
    (refreshLockout o s).router = s.router ∧ (refreshLockout o s).geometry = s.geometry ∧
    (refreshLockout o s).room = s.room ∧ (refreshLockout o s).lockout.profiles = s.lockout.profiles ∧
    (refreshLockout o s).lockout.hold = s.lockout.hold ∧
    (refreshLockout o s).lockout.serviceEnabled = s.lockout.serviceEnabled ∧
    (refreshLockout o s).lockout.locked = s.lockout.locked ∧
    (refreshLockout o s).lockout.mismatch = s.lockout.mismatch ∧ (refreshLockout o s).lockout.mode = s.lockout.mode ∧
    (refreshLockout o s).store = s.store ∧ (refreshLockout o s).pending = s.pending := by
  unfold refreshLockout; try dsimp only
  all_goals (repeat' split)
  all_goals first | (simp; done) | (simp_all; done) | rfl

@[simp] theorem firstLockout_frame (s : State) :
    (firstLockout s).ports = s.ports ∧ (firstLockout s).lamp = s.lamp ∧ (firstLockout s).power = s.power ∧
    (firstLockout s).link = s.link ∧ (firstLockout s).router = s.router ∧ (firstLockout s).geometry = s.geometry ∧
    (firstLockout s).room = s.room ∧ (firstLockout s).lockout.profiles = s.lockout.profiles ∧
    (firstLockout s).lockout.hold = s.lockout.hold ∧
    (firstLockout s).lockout.serviceEnabled = s.lockout.serviceEnabled ∧
    (firstLockout s).lockout.locked = s.lockout.locked ∧ (firstLockout s).lockout.mismatch = s.lockout.mismatch ∧
    (firstLockout s).lockout.mode = s.lockout.mode ∧ (firstLockout s).store = s.store ∧
    (firstLockout s).free = s.free ∧ (firstLockout s).pending = s.pending :=
  ⟨rfl, rfl, rfl, rfl, rfl, rfl, rfl, rfl, rfl, rfl, rfl, rfl, rfl, rfl, rfl, rfl⟩

@[simp] theorem releaseOverride_frame (s : State) :
    (releaseOverride s).ports = s.ports ∧ (releaseOverride s).lamp = s.lamp ∧ (releaseOverride s).power = s.power ∧
    (releaseOverride s).link = s.link ∧ (releaseOverride s).router = s.router ∧
    (releaseOverride s).geometry = s.geometry ∧ (releaseOverride s).room = s.room ∧
    (releaseOverride s).lockout.profiles = s.lockout.profiles ∧
    (releaseOverride s).lockout.serviceEnabled = s.lockout.serviceEnabled ∧
    (releaseOverride s).lockout.locked = s.lockout.locked ∧
    (releaseOverride s).lockout.mismatch = s.lockout.mismatch ∧ (releaseOverride s).lockout.mode = s.lockout.mode ∧
    (releaseOverride s).lockout.active = s.lockout.active ∧
    (releaseOverride s).lockout.effective = s.lockout.effective ∧ (releaseOverride s).store = s.store ∧
    (releaseOverride s).free = s.free ∧ (releaseOverride s).pending = s.pending := by
  unfold releaseOverride; try dsimp only
  all_goals (repeat' split)
  all_goals first | (simp; done) | (simp_all; done) | rfl

@[simp] theorem setServiceEnable_frame (on : Bool) (p : Port) (s : State) :
    quietPorts (setServiceEnable on p s).ports = quietPorts s.ports ∧ (setServiceEnable on p s).lamp = s.lamp ∧
    (setServiceEnable on p s).power = s.power ∧ (setServiceEnable on p s).link = s.link ∧
    (setServiceEnable on p s).router = s.router ∧ (setServiceEnable on p s).geometry = s.geometry ∧
    (setServiceEnable on p s).room = s.room ∧ (setServiceEnable on p s).lockout.profiles = s.lockout.profiles ∧
    (setServiceEnable on p s).lockout.hold = s.lockout.hold ∧
    (setServiceEnable on p s).lockout.locked = s.lockout.locked ∧
    (setServiceEnable on p s).lockout.mismatch = s.lockout.mismatch ∧
    (setServiceEnable on p s).lockout.mode = s.lockout.mode ∧
    (setServiceEnable on p s).lockout.active = s.lockout.active ∧
    (setServiceEnable on p s).lockout.effective = s.lockout.effective ∧ (setServiceEnable on p s).store = s.store ∧
    (setServiceEnable on p s).pending = s.pending := by
  unfold setServiceEnable; try dsimp only
  all_goals (repeat' split)
  all_goals first | (simp; done) | (simp_all; done) | rfl

/-! ## Router -/

@[simp] theorem postRoute_frame (o : Origin) (s : State) :
    quietPorts (postRoute o s).ports = quietPorts s.ports ∧ (postRoute o s).lamp = s.lamp ∧
    (postRoute o s).power = s.power ∧ (postRoute o s).link = s.link ∧ (postRoute o s).router = s.router ∧
    (postRoute o s).geometry = s.geometry ∧ (postRoute o s).room = s.room ∧ (postRoute o s).lockout = s.lockout ∧
    (postRoute o s).store = s.store ∧ (postRoute o s).pending = s.pending := by
  unfold postRoute; try dsimp only
  all_goals (repeat' split)
  all_goals first | (simp; done) | (simp_all; done) | rfl

@[simp] theorem startSettle_frame (o : Origin) (dest : Option (Fin 8) × Option (Fin 6)) (s : State) :
    (startSettle o dest s).ports = s.ports ∧ (startSettle o dest s).lamp = s.lamp ∧
    (startSettle o dest s).power = s.power ∧ (startSettle o dest s).link = s.link ∧
    (startSettle o dest s).router.sources = s.router.sources ∧ (startSettle o dest s).router.raw = s.router.raw ∧
    (startSettle o dest s).router.debounced = s.router.debounced ∧
    (startSettle o dest s).router.stability = s.router.stability ∧
    (startSettle o dest s).router.sample = s.router.sample ∧
    (startSettle o dest s).router.requested = s.router.requested ∧
    (startSettle o dest s).router.chain = s.router.chain ∧
    (startSettle o dest s).router.pendingSlot = s.router.pendingSlot ∧
    (startSettle o dest s).router.deferred = s.router.deferred ∧
    (startSettle o dest s).router.resolved = s.router.resolved ∧ (startSettle o dest s).geometry = s.geometry ∧
    (startSettle o dest s).room = s.room ∧ (startSettle o dest s).lockout = s.lockout ∧
    (startSettle o dest s).store = s.store ∧ (startSettle o dest s).free = s.free ∧
    (startSettle o dest s).pending = s.pending := by
  unfold startSettle; try dsimp only
  all_goals (repeat' split)
  all_goals first | (simp; done) | (simp_all; done) | rfl

@[simp] theorem resolve_frame (o : Origin) (tell : Bool) (s : State) :
    quietPorts (resolve o tell s).2.ports = quietPorts s.ports ∧ (resolve o tell s).2.lamp = s.lamp ∧
    (resolve o tell s).2.power = s.power ∧ (resolve o tell s).2.link.state = s.link.state ∧
    (resolve o tell s).2.link.silence = s.link.silence ∧ (resolve o tell s).2.link.answer = s.link.answer ∧
    (resolve o tell s).2.link.nextTag = s.link.nextTag ∧ (resolve o tell s).2.link.control = s.link.control ∧
    (resolve o tell s).2.link.reportImage = s.link.reportImage ∧
    (resolve o tell s).2.link.lastFormat = s.link.lastFormat ∧
    (resolve o tell s).2.link.lastRejection = s.link.lastRejection ∧
    (resolve o tell s).2.link.lostFor = s.link.lostFor ∧
    (resolve o tell s).2.link.sinceMessage = s.link.sinceMessage ∧
    (resolve o tell s).2.link.receiver = s.link.receiver ∧ (resolve o tell s).2.link.transmit = s.link.transmit ∧
    (resolve o tell s).2.router.sources = s.router.sources ∧ (resolve o tell s).2.router.raw = s.router.raw ∧
    (resolve o tell s).2.router.debounced = s.router.debounced ∧
    (resolve o tell s).2.router.stability = s.router.stability ∧
    (resolve o tell s).2.router.sample = s.router.sample ∧
    (resolve o tell s).2.router.requested = s.router.requested ∧
    (resolve o tell s).2.router.pendingSlot = s.router.pendingSlot ∧
    (resolve o tell s).2.router.resolved = s.router.resolved ∧
    (resolve o tell s).2.geometry.presets = s.geometry.presets ∧
    (resolve o tell s).2.geometry.overlay = s.geometry.overlay ∧
    (resolve o tell s).2.geometry.format = s.geometry.format ∧
    (resolve o tell s).2.geometry.started = s.geometry.started ∧ (resolve o tell s).2.room = s.room ∧
    (resolve o tell s).2.lockout = s.lockout ∧ (resolve o tell s).2.store = s.store ∧
    (resolve o tell s).2.pending = s.pending := by
  unfold resolve; try dsimp only
  all_goals (repeat' split)
  all_goals first | (simp; done) | (simp_all; done) | rfl

@[simp] theorem reResolve_frame (s : State) :
    quietPorts (reResolve s).ports = quietPorts s.ports ∧ (reResolve s).lamp = s.lamp ∧
    (reResolve s).power = s.power ∧ (reResolve s).link.state = s.link.state ∧
    (reResolve s).link.silence = s.link.silence ∧ (reResolve s).link.answer = s.link.answer ∧
    (reResolve s).link.nextTag = s.link.nextTag ∧ (reResolve s).link.control = s.link.control ∧
    (reResolve s).link.reportImage = s.link.reportImage ∧ (reResolve s).link.lastFormat = s.link.lastFormat ∧
    (reResolve s).link.lastRejection = s.link.lastRejection ∧ (reResolve s).link.lostFor = s.link.lostFor ∧
    (reResolve s).link.sinceMessage = s.link.sinceMessage ∧ (reResolve s).link.receiver = s.link.receiver ∧
    (reResolve s).link.transmit = s.link.transmit ∧ (reResolve s).router.sources = s.router.sources ∧
    (reResolve s).router.raw = s.router.raw ∧ (reResolve s).router.debounced = s.router.debounced ∧
    (reResolve s).router.stability = s.router.stability ∧ (reResolve s).router.sample = s.router.sample ∧
    (reResolve s).router.requested = s.router.requested ∧ (reResolve s).router.pendingSlot = s.router.pendingSlot ∧
    (reResolve s).router.resolved = s.router.resolved ∧ (reResolve s).geometry.presets = s.geometry.presets ∧
    (reResolve s).geometry.overlay = s.geometry.overlay ∧ (reResolve s).geometry.format = s.geometry.format ∧
    (reResolve s).geometry.started = s.geometry.started ∧ (reResolve s).room = s.room ∧
    (reResolve s).lockout = s.lockout ∧ (reResolve s).store = s.store ∧ (reResolve s).pending = s.pending := by
  unfold reResolve; try dsimp only
  all_goals (repeat' split)
  all_goals first | (simp; done) | (simp_all; done) | rfl

@[simp] theorem applyRoute_frame (o : Origin) (x : Fin 8) (always : Bool) (s : State) :
    quietPorts (applyRoute o x always s).2.ports = quietPorts s.ports ∧ (applyRoute o x always s).2.lamp = s.lamp ∧
    (applyRoute o x always s).2.power = s.power ∧ (applyRoute o x always s).2.link.state = s.link.state ∧
    (applyRoute o x always s).2.link.silence = s.link.silence ∧
    (applyRoute o x always s).2.link.answer = s.link.answer ∧
    (applyRoute o x always s).2.link.nextTag = s.link.nextTag ∧
    (applyRoute o x always s).2.link.control = s.link.control ∧
    (applyRoute o x always s).2.link.reportImage = s.link.reportImage ∧
    (applyRoute o x always s).2.link.lastFormat = s.link.lastFormat ∧
    (applyRoute o x always s).2.link.lastRejection = s.link.lastRejection ∧
    (applyRoute o x always s).2.link.lostFor = s.link.lostFor ∧
    (applyRoute o x always s).2.link.sinceMessage = s.link.sinceMessage ∧
    (applyRoute o x always s).2.link.receiver = s.link.receiver ∧
    (applyRoute o x always s).2.link.transmit = s.link.transmit ∧
    (applyRoute o x always s).2.router.sources = s.router.sources ∧
    (applyRoute o x always s).2.router.raw = s.router.raw ∧
    (applyRoute o x always s).2.router.debounced = s.router.debounced ∧
    (applyRoute o x always s).2.router.stability = s.router.stability ∧
    (applyRoute o x always s).2.router.sample = s.router.sample ∧
    (applyRoute o x always s).2.router.pendingSlot = s.router.pendingSlot ∧
    (applyRoute o x always s).2.router.resolved = s.router.resolved ∧
    (applyRoute o x always s).2.geometry.presets = s.geometry.presets ∧
    (applyRoute o x always s).2.geometry.overlay = s.geometry.overlay ∧
    (applyRoute o x always s).2.geometry.format = s.geometry.format ∧
    (applyRoute o x always s).2.geometry.started = s.geometry.started ∧ (applyRoute o x always s).2.room = s.room ∧
    (applyRoute o x always s).2.lockout = s.lockout ∧ (applyRoute o x always s).2.store = s.store ∧
    (applyRoute o x always s).2.pending = s.pending := by
  unfold applyRoute; try dsimp only
  all_goals (repeat' split)
  all_goals first | (simp; done) | (simp_all; done) | rfl

@[simp] theorem postDisplaced_frame (held : RouteRequest) (r : Reason) (displacer : Nat) (s : State) :
    quietPorts (postDisplaced held r displacer s).ports = quietPorts s.ports ∧
    (postDisplaced held r displacer s).lamp = s.lamp ∧ (postDisplaced held r displacer s).power = s.power ∧
    (postDisplaced held r displacer s).link = s.link ∧ (postDisplaced held r displacer s).router = s.router ∧
    (postDisplaced held r displacer s).geometry = s.geometry ∧ (postDisplaced held r displacer s).room = s.room ∧
    (postDisplaced held r displacer s).lockout = s.lockout ∧ (postDisplaced held r displacer s).store = s.store ∧
    (postDisplaced held r displacer s).pending = s.pending := by
  unfold postDisplaced; try dsimp only
  all_goals (repeat' split)
  all_goals first | (simp; done) | (simp_all; done) | rfl

@[simp] theorem holdRoute_frame (q : RouteRequest) (s : State) :
    quietPorts (holdRoute q s).2.ports = quietPorts s.ports ∧ (holdRoute q s).2.lamp = s.lamp ∧
    (holdRoute q s).2.power = s.power ∧ (holdRoute q s).2.link = s.link ∧
    (holdRoute q s).2.router.sources = s.router.sources ∧ (holdRoute q s).2.router.raw = s.router.raw ∧
    (holdRoute q s).2.router.debounced = s.router.debounced ∧
    (holdRoute q s).2.router.stability = s.router.stability ∧ (holdRoute q s).2.router.sample = s.router.sample ∧
    (holdRoute q s).2.router.requested = s.router.requested ∧
    (holdRoute q s).2.router.routedInput = s.router.routedInput ∧
    (holdRoute q s).2.router.routedSource = s.router.routedSource ∧ (holdRoute q s).2.router.state = s.router.state ∧
    (holdRoute q s).2.router.format = s.router.format ∧ (holdRoute q s).2.router.chain = s.router.chain ∧
    (holdRoute q s).2.router.deferred = s.router.deferred ∧ (holdRoute q s).2.router.settle = s.router.settle ∧
    (holdRoute q s).2.router.settleOrigin = s.router.settleOrigin ∧
    (holdRoute q s).2.router.noSignal = s.router.noSignal ∧ (holdRoute q s).2.router.resolved = s.router.resolved ∧
    (holdRoute q s).2.geometry = s.geometry ∧ (holdRoute q s).2.room = s.room ∧
    (holdRoute q s).2.lockout = s.lockout ∧ (holdRoute q s).2.store = s.store ∧
    (holdRoute q s).2.pending = s.pending := by
  unfold holdRoute; try dsimp only
  all_goals (repeat' split)
  all_goals first | (simp; done) | (simp_all; done) | rfl

@[simp] theorem routeRequest_frame (q : RouteRequest) (s : State) :
    quietPorts (routeRequest q s).2.ports = quietPorts s.ports ∧ (routeRequest q s).2.lamp = s.lamp ∧
    (routeRequest q s).2.power = s.power ∧ (routeRequest q s).2.link.state = s.link.state ∧
    (routeRequest q s).2.link.silence = s.link.silence ∧ (routeRequest q s).2.link.answer = s.link.answer ∧
    (routeRequest q s).2.link.nextTag = s.link.nextTag ∧ (routeRequest q s).2.link.control = s.link.control ∧
    (routeRequest q s).2.link.reportImage = s.link.reportImage ∧
    (routeRequest q s).2.link.lastFormat = s.link.lastFormat ∧
    (routeRequest q s).2.link.lastRejection = s.link.lastRejection ∧
    (routeRequest q s).2.link.lostFor = s.link.lostFor ∧
    (routeRequest q s).2.link.sinceMessage = s.link.sinceMessage ∧
    (routeRequest q s).2.link.receiver = s.link.receiver ∧ (routeRequest q s).2.link.transmit = s.link.transmit ∧
    (routeRequest q s).2.router.sources = s.router.sources ∧ (routeRequest q s).2.router.raw = s.router.raw ∧
    (routeRequest q s).2.router.debounced = s.router.debounced ∧
    (routeRequest q s).2.router.stability = s.router.stability ∧
    (routeRequest q s).2.router.sample = s.router.sample ∧ (routeRequest q s).2.router.resolved = s.router.resolved ∧
    (routeRequest q s).2.geometry.presets = s.geometry.presets ∧
    (routeRequest q s).2.geometry.overlay = s.geometry.overlay ∧
    (routeRequest q s).2.geometry.format = s.geometry.format ∧
    (routeRequest q s).2.geometry.started = s.geometry.started ∧ (routeRequest q s).2.room = s.room ∧
    (routeRequest q s).2.lockout = s.lockout ∧ (routeRequest q s).2.store = s.store ∧
    (routeRequest q s).2.pending = s.pending := by
  unfold routeRequest; try dsimp only
  all_goals (repeat' split)
  all_goals first | (simp; done) | (simp_all; done) | rfl

@[simp] theorem scheduleRoute_frame (x : Fin 8) (s : State) :
    quietPorts (scheduleRoute x s).ports = quietPorts s.ports ∧ (scheduleRoute x s).lamp = s.lamp ∧
    (scheduleRoute x s).power = s.power ∧ (scheduleRoute x s).link.state = s.link.state ∧
    (scheduleRoute x s).link.silence = s.link.silence ∧ (scheduleRoute x s).link.answer = s.link.answer ∧
    (scheduleRoute x s).link.nextTag = s.link.nextTag ∧ (scheduleRoute x s).link.control = s.link.control ∧
    (scheduleRoute x s).link.reportImage = s.link.reportImage ∧
    (scheduleRoute x s).link.lastFormat = s.link.lastFormat ∧
    (scheduleRoute x s).link.lastRejection = s.link.lastRejection ∧
    (scheduleRoute x s).link.lostFor = s.link.lostFor ∧ (scheduleRoute x s).link.sinceMessage = s.link.sinceMessage ∧
    (scheduleRoute x s).link.receiver = s.link.receiver ∧ (scheduleRoute x s).link.transmit = s.link.transmit ∧
    (scheduleRoute x s).router.sources = s.router.sources ∧ (scheduleRoute x s).router.raw = s.router.raw ∧
    (scheduleRoute x s).router.debounced = s.router.debounced ∧
    (scheduleRoute x s).router.stability = s.router.stability ∧ (scheduleRoute x s).router.sample = s.router.sample ∧
    (scheduleRoute x s).router.resolved = s.router.resolved ∧
    (scheduleRoute x s).geometry.presets = s.geometry.presets ∧
    (scheduleRoute x s).geometry.overlay = s.geometry.overlay ∧
    (scheduleRoute x s).geometry.format = s.geometry.format ∧
    (scheduleRoute x s).geometry.started = s.geometry.started ∧ (scheduleRoute x s).room = s.room ∧
    (scheduleRoute x s).lockout = s.lockout ∧ (scheduleRoute x s).store = s.store ∧
    (scheduleRoute x s).pending = s.pending := by
  unfold scheduleRoute; try dsimp only
  all_goals (repeat' split)
  all_goals first | (simp; done) | (simp_all; done) | rfl

@[simp] theorem applyHeld_frame (q : RouteRequest) (deferred : Bool) (s : State) :
    quietPorts (applyHeld q deferred s).ports = quietPorts s.ports ∧ (applyHeld q deferred s).lamp = s.lamp ∧
    (applyHeld q deferred s).power = s.power ∧ (applyHeld q deferred s).link.state = s.link.state ∧
    (applyHeld q deferred s).link.silence = s.link.silence ∧ (applyHeld q deferred s).link.answer = s.link.answer ∧
    (applyHeld q deferred s).link.nextTag = s.link.nextTag ∧ (applyHeld q deferred s).link.control = s.link.control ∧
    (applyHeld q deferred s).link.reportImage = s.link.reportImage ∧
    (applyHeld q deferred s).link.lastFormat = s.link.lastFormat ∧
    (applyHeld q deferred s).link.lastRejection = s.link.lastRejection ∧
    (applyHeld q deferred s).link.lostFor = s.link.lostFor ∧
    (applyHeld q deferred s).link.sinceMessage = s.link.sinceMessage ∧
    (applyHeld q deferred s).link.receiver = s.link.receiver ∧
    (applyHeld q deferred s).link.transmit = s.link.transmit ∧
    (applyHeld q deferred s).router.sources = s.router.sources ∧ (applyHeld q deferred s).router.raw = s.router.raw ∧
    (applyHeld q deferred s).router.debounced = s.router.debounced ∧
    (applyHeld q deferred s).router.stability = s.router.stability ∧
    (applyHeld q deferred s).router.sample = s.router.sample ∧
    (applyHeld q deferred s).router.pendingSlot = s.router.pendingSlot ∧
    (applyHeld q deferred s).router.resolved = s.router.resolved ∧
    (applyHeld q deferred s).geometry.presets = s.geometry.presets ∧
    (applyHeld q deferred s).geometry.overlay = s.geometry.overlay ∧
    (applyHeld q deferred s).geometry.format = s.geometry.format ∧
    (applyHeld q deferred s).geometry.started = s.geometry.started ∧ (applyHeld q deferred s).room = s.room ∧
    (applyHeld q deferred s).lockout = s.lockout ∧ (applyHeld q deferred s).store = s.store ∧
    (applyHeld q deferred s).pending = s.pending := by
  unfold applyHeld; try dsimp only
  all_goals (repeat' split)
  all_goals first | (simp; done) | (simp_all; done) | rfl

@[simp] theorem settleTail_frame (s : State) :
    quietPorts (settleTail s).ports = quietPorts s.ports ∧ (settleTail s).lamp = s.lamp ∧
    (settleTail s).power = s.power ∧ (settleTail s).link.state = s.link.state ∧
    (settleTail s).link.silence = s.link.silence ∧ (settleTail s).link.answer = s.link.answer ∧
    (settleTail s).link.nextTag = s.link.nextTag ∧ (settleTail s).link.control = s.link.control ∧
    (settleTail s).link.reportImage = s.link.reportImage ∧ (settleTail s).link.lastFormat = s.link.lastFormat ∧
    (settleTail s).link.lastRejection = s.link.lastRejection ∧ (settleTail s).link.lostFor = s.link.lostFor ∧
    (settleTail s).link.sinceMessage = s.link.sinceMessage ∧ (settleTail s).link.receiver = s.link.receiver ∧
    (settleTail s).link.transmit = s.link.transmit ∧ (settleTail s).router.sources = s.router.sources ∧
    (settleTail s).router.raw = s.router.raw ∧ (settleTail s).router.debounced = s.router.debounced ∧
    (settleTail s).router.stability = s.router.stability ∧ (settleTail s).router.sample = s.router.sample ∧
    (settleTail s).router.resolved = s.router.resolved ∧ (settleTail s).geometry.presets = s.geometry.presets ∧
    (settleTail s).geometry.overlay = s.geometry.overlay ∧ (settleTail s).geometry.format = s.geometry.format ∧
    (settleTail s).geometry.started = s.geometry.started ∧ (settleTail s).room = s.room ∧
    (settleTail s).lockout = s.lockout ∧ (settleTail s).store = s.store ∧ (settleTail s).pending = s.pending := by
  unfold settleTail; try dsimp only
  all_goals (repeat' split)
  all_goals first | (simp; done) | (simp_all; done) | rfl

@[simp] theorem endSettle_frame (dest : RouteState) (f : FormatImage) (s : State) :
    quietPorts (endSettle dest f s).ports = quietPorts s.ports ∧ (endSettle dest f s).lamp.account = s.lamp.account ∧
    (endSettle dest f s).lamp.level = s.lamp.level ∧ (endSettle dest f s).lamp.newest = s.lamp.newest ∧
    (endSettle dest f s).lamp.tally = s.lamp.tally ∧ (endSettle dest f s).lamp.burn = s.lamp.burn ∧
    (endSettle dest f s).lamp.hotWindow = s.lamp.hotWindow ∧ (endSettle dest f s).lamp.cadence = s.lamp.cadence ∧
    (endSettle dest f s).lamp.replaceInFlight = s.lamp.replaceInFlight ∧
    (endSettle dest f s).lamp.history = s.lamp.history ∧ (endSettle dest f s).power.state = s.power.state ∧
    (endSettle dest f s).power.step = s.power.step ∧ (endSettle dest f s).power.attempt = s.power.attempt ∧
    (endSettle dest f s).power.restartPending = s.power.restartPending ∧
    (endSettle dest f s).power.offPending = s.power.offPending ∧
    (endSettle dest f s).power.ignitionOrigin = s.power.ignitionOrigin ∧
    (endSettle dest f s).power.offOrigin = s.power.offOrigin ∧
    (endSettle dest f s).power.thermalHold = s.power.thermalHold ∧
    (endSettle dest f s).power.momentaryMode = s.power.momentaryMode ∧
    (endSettle dest f s).power.modeEvaluated = s.power.modeEvaluated ∧
    (endSettle dest f s).power.strikeTimer = s.power.strikeTimer ∧
    (endSettle dest f s).power.pauseTimer = s.power.pauseTimer ∧
    (endSettle dest f s).power.warmingTimer = s.power.warmingTimer ∧
    (endSettle dest f s).power.coolingTimer = s.power.coolingTimer ∧
    (endSettle dest f s).power.reportWait = s.power.reportWait ∧ (endSettle dest f s).link.state = s.link.state ∧
    (endSettle dest f s).link.silence = s.link.silence ∧ (endSettle dest f s).link.answer = s.link.answer ∧
    (endSettle dest f s).link.nextTag = s.link.nextTag ∧ (endSettle dest f s).link.reportImage = s.link.reportImage ∧
    (endSettle dest f s).link.lastFormat = s.link.lastFormat ∧
    (endSettle dest f s).link.lastRejection = s.link.lastRejection ∧
    (endSettle dest f s).link.lostFor = s.link.lostFor ∧
    (endSettle dest f s).link.sinceMessage = s.link.sinceMessage ∧
    (endSettle dest f s).link.receiver = s.link.receiver ∧ (endSettle dest f s).link.transmit = s.link.transmit ∧
    (endSettle dest f s).router.sources = s.router.sources ∧ (endSettle dest f s).router.raw = s.router.raw ∧
    (endSettle dest f s).router.debounced = s.router.debounced ∧
    (endSettle dest f s).router.stability = s.router.stability ∧
    (endSettle dest f s).router.sample = s.router.sample ∧ (endSettle dest f s).router.resolved = s.router.resolved ∧
    (endSettle dest f s).geometry.presets = s.geometry.presets ∧
    (endSettle dest f s).geometry.overlay = s.geometry.overlay ∧ (endSettle dest f s).room = s.room ∧
    (endSettle dest f s).lockout = s.lockout ∧ (endSettle dest f s).store = s.store ∧
    (endSettle dest f s).pending = s.pending := by
  unfold endSettle; try dsimp only
  all_goals (repeat' split)
  all_goals first | (simp; done) | (simp_all; done) | rfl

@[simp] theorem formatMoves_frame (f : Option SignalFormat) (s : State) :
    quietPorts (formatMoves f s).ports = quietPorts s.ports ∧ (formatMoves f s).lamp.account = s.lamp.account ∧
    (formatMoves f s).lamp.level = s.lamp.level ∧ (formatMoves f s).lamp.newest = s.lamp.newest ∧
    (formatMoves f s).lamp.tally = s.lamp.tally ∧ (formatMoves f s).lamp.burn = s.lamp.burn ∧
    (formatMoves f s).lamp.hotWindow = s.lamp.hotWindow ∧ (formatMoves f s).lamp.cadence = s.lamp.cadence ∧
    (formatMoves f s).lamp.replaceInFlight = s.lamp.replaceInFlight ∧
    (formatMoves f s).lamp.history = s.lamp.history ∧ (formatMoves f s).power.state = s.power.state ∧
    (formatMoves f s).power.step = s.power.step ∧ (formatMoves f s).power.attempt = s.power.attempt ∧
    (formatMoves f s).power.restartPending = s.power.restartPending ∧
    (formatMoves f s).power.offPending = s.power.offPending ∧
    (formatMoves f s).power.ignitionOrigin = s.power.ignitionOrigin ∧
    (formatMoves f s).power.offOrigin = s.power.offOrigin ∧
    (formatMoves f s).power.thermalHold = s.power.thermalHold ∧
    (formatMoves f s).power.momentaryMode = s.power.momentaryMode ∧
    (formatMoves f s).power.modeEvaluated = s.power.modeEvaluated ∧
    (formatMoves f s).power.strikeTimer = s.power.strikeTimer ∧
    (formatMoves f s).power.pauseTimer = s.power.pauseTimer ∧
    (formatMoves f s).power.warmingTimer = s.power.warmingTimer ∧
    (formatMoves f s).power.coolingTimer = s.power.coolingTimer ∧
    (formatMoves f s).power.reportWait = s.power.reportWait ∧ (formatMoves f s).link.state = s.link.state ∧
    (formatMoves f s).link.silence = s.link.silence ∧ (formatMoves f s).link.answer = s.link.answer ∧
    (formatMoves f s).link.nextTag = s.link.nextTag ∧ (formatMoves f s).link.reportImage = s.link.reportImage ∧
    (formatMoves f s).link.lastFormat = s.link.lastFormat ∧
    (formatMoves f s).link.lastRejection = s.link.lastRejection ∧ (formatMoves f s).link.lostFor = s.link.lostFor ∧
    (formatMoves f s).link.sinceMessage = s.link.sinceMessage ∧ (formatMoves f s).link.receiver = s.link.receiver ∧
    (formatMoves f s).link.transmit = s.link.transmit ∧ (formatMoves f s).router.sources = s.router.sources ∧
    (formatMoves f s).router.raw = s.router.raw ∧ (formatMoves f s).router.debounced = s.router.debounced ∧
    (formatMoves f s).router.stability = s.router.stability ∧ (formatMoves f s).router.sample = s.router.sample ∧
    (formatMoves f s).router.requested = s.router.requested ∧
    (formatMoves f s).router.routedInput = s.router.routedInput ∧
    (formatMoves f s).router.routedSource = s.router.routedSource ∧ (formatMoves f s).router.chain = s.router.chain ∧
    (formatMoves f s).router.pendingSlot = s.router.pendingSlot ∧
    (formatMoves f s).router.deferred = s.router.deferred ∧ (formatMoves f s).router.settle = s.router.settle ∧
    (formatMoves f s).router.settleOrigin = s.router.settleOrigin ∧
    (formatMoves f s).router.resolved = s.router.resolved ∧ (formatMoves f s).geometry.presets = s.geometry.presets ∧
    (formatMoves f s).geometry.overlay = s.geometry.overlay ∧
    (formatMoves f s).geometry.momentary = s.geometry.momentary ∧
    (formatMoves f s).geometry.routed = s.geometry.routed ∧ (formatMoves f s).geometry.started = s.geometry.started ∧
    (formatMoves f s).room = s.room ∧ (formatMoves f s).lockout = s.lockout ∧ (formatMoves f s).store = s.store ∧
    (formatMoves f s).pending = s.pending := by
  unfold formatMoves; try dsimp only
  all_goals (repeat' split)
  all_goals first | (simp; done) | (simp_all; done) | rfl

@[simp] theorem routerFormat_frame (f : Option SignalFormat) (s : State) :
    quietPorts (routerFormat f s).ports = quietPorts s.ports ∧ (routerFormat f s).lamp.account = s.lamp.account ∧
    (routerFormat f s).lamp.level = s.lamp.level ∧ (routerFormat f s).lamp.newest = s.lamp.newest ∧
    (routerFormat f s).lamp.tally = s.lamp.tally ∧ (routerFormat f s).lamp.burn = s.lamp.burn ∧
    (routerFormat f s).lamp.hotWindow = s.lamp.hotWindow ∧ (routerFormat f s).lamp.cadence = s.lamp.cadence ∧
    (routerFormat f s).lamp.replaceInFlight = s.lamp.replaceInFlight ∧
    (routerFormat f s).lamp.history = s.lamp.history ∧ (routerFormat f s).power.state = s.power.state ∧
    (routerFormat f s).power.step = s.power.step ∧ (routerFormat f s).power.attempt = s.power.attempt ∧
    (routerFormat f s).power.restartPending = s.power.restartPending ∧
    (routerFormat f s).power.offPending = s.power.offPending ∧
    (routerFormat f s).power.ignitionOrigin = s.power.ignitionOrigin ∧
    (routerFormat f s).power.offOrigin = s.power.offOrigin ∧
    (routerFormat f s).power.thermalHold = s.power.thermalHold ∧
    (routerFormat f s).power.momentaryMode = s.power.momentaryMode ∧
    (routerFormat f s).power.modeEvaluated = s.power.modeEvaluated ∧
    (routerFormat f s).power.strikeTimer = s.power.strikeTimer ∧
    (routerFormat f s).power.pauseTimer = s.power.pauseTimer ∧
    (routerFormat f s).power.warmingTimer = s.power.warmingTimer ∧
    (routerFormat f s).power.coolingTimer = s.power.coolingTimer ∧
    (routerFormat f s).power.reportWait = s.power.reportWait ∧ (routerFormat f s).link.state = s.link.state ∧
    (routerFormat f s).link.silence = s.link.silence ∧ (routerFormat f s).link.answer = s.link.answer ∧
    (routerFormat f s).link.nextTag = s.link.nextTag ∧ (routerFormat f s).link.reportImage = s.link.reportImage ∧
    (routerFormat f s).link.lastFormat = s.link.lastFormat ∧
    (routerFormat f s).link.lastRejection = s.link.lastRejection ∧ (routerFormat f s).link.lostFor = s.link.lostFor ∧
    (routerFormat f s).link.sinceMessage = s.link.sinceMessage ∧ (routerFormat f s).link.receiver = s.link.receiver ∧
    (routerFormat f s).link.transmit = s.link.transmit ∧ (routerFormat f s).router.sources = s.router.sources ∧
    (routerFormat f s).router.raw = s.router.raw ∧ (routerFormat f s).router.debounced = s.router.debounced ∧
    (routerFormat f s).router.stability = s.router.stability ∧ (routerFormat f s).router.sample = s.router.sample ∧
    (routerFormat f s).router.resolved = s.router.resolved ∧
    (routerFormat f s).geometry.presets = s.geometry.presets ∧
    (routerFormat f s).geometry.overlay = s.geometry.overlay ∧ (routerFormat f s).room = s.room ∧
    (routerFormat f s).lockout = s.lockout ∧ (routerFormat f s).store = s.store ∧
    (routerFormat f s).pending = s.pending := by
  unfold routerFormat; try dsimp only
  all_goals (repeat' split)
  all_goals first | (simp; done) | (simp_all; done) | rfl

@[simp] theorem settleExpires_frame (s : State) :
    quietPorts (settleExpires s).ports = quietPorts s.ports ∧ (settleExpires s).lamp.account = s.lamp.account ∧
    (settleExpires s).lamp.level = s.lamp.level ∧ (settleExpires s).lamp.newest = s.lamp.newest ∧
    (settleExpires s).lamp.tally = s.lamp.tally ∧ (settleExpires s).lamp.burn = s.lamp.burn ∧
    (settleExpires s).lamp.hotWindow = s.lamp.hotWindow ∧ (settleExpires s).lamp.cadence = s.lamp.cadence ∧
    (settleExpires s).lamp.replaceInFlight = s.lamp.replaceInFlight ∧
    (settleExpires s).lamp.history = s.lamp.history ∧ (settleExpires s).power.state = s.power.state ∧
    (settleExpires s).power.step = s.power.step ∧ (settleExpires s).power.attempt = s.power.attempt ∧
    (settleExpires s).power.restartPending = s.power.restartPending ∧
    (settleExpires s).power.offPending = s.power.offPending ∧
    (settleExpires s).power.ignitionOrigin = s.power.ignitionOrigin ∧
    (settleExpires s).power.offOrigin = s.power.offOrigin ∧
    (settleExpires s).power.thermalHold = s.power.thermalHold ∧
    (settleExpires s).power.momentaryMode = s.power.momentaryMode ∧
    (settleExpires s).power.modeEvaluated = s.power.modeEvaluated ∧
    (settleExpires s).power.strikeTimer = s.power.strikeTimer ∧
    (settleExpires s).power.pauseTimer = s.power.pauseTimer ∧
    (settleExpires s).power.warmingTimer = s.power.warmingTimer ∧
    (settleExpires s).power.coolingTimer = s.power.coolingTimer ∧
    (settleExpires s).power.reportWait = s.power.reportWait ∧ (settleExpires s).link.state = s.link.state ∧
    (settleExpires s).link.silence = s.link.silence ∧ (settleExpires s).link.answer = s.link.answer ∧
    (settleExpires s).link.nextTag = s.link.nextTag ∧ (settleExpires s).link.reportImage = s.link.reportImage ∧
    (settleExpires s).link.lastFormat = s.link.lastFormat ∧
    (settleExpires s).link.lastRejection = s.link.lastRejection ∧ (settleExpires s).link.lostFor = s.link.lostFor ∧
    (settleExpires s).link.sinceMessage = s.link.sinceMessage ∧ (settleExpires s).link.receiver = s.link.receiver ∧
    (settleExpires s).link.transmit = s.link.transmit ∧ (settleExpires s).router.sources = s.router.sources ∧
    (settleExpires s).router.raw = s.router.raw ∧ (settleExpires s).router.debounced = s.router.debounced ∧
    (settleExpires s).router.stability = s.router.stability ∧ (settleExpires s).router.sample = s.router.sample ∧
    (settleExpires s).router.resolved = s.router.resolved ∧ (settleExpires s).geometry.presets = s.geometry.presets ∧
    (settleExpires s).geometry.overlay = s.geometry.overlay ∧ (settleExpires s).room = s.room ∧
    (settleExpires s).lockout = s.lockout ∧ (settleExpires s).store = s.store ∧
    (settleExpires s).pending = s.pending := by
  unfold settleExpires; try dsimp only
  all_goals (repeat' split)
  all_goals first | (simp; done) | (simp_all; done) | rfl

@[simp] theorem firstResolution_frame (s : State) :
    (firstResolution s).ports = s.ports ∧ (firstResolution s).lamp = s.lamp ∧ (firstResolution s).power = s.power ∧
    (firstResolution s).link = s.link ∧ (firstResolution s).router.sources = s.router.sources ∧
    (firstResolution s).router.raw = s.router.raw ∧ (firstResolution s).router.debounced = s.router.debounced ∧
    (firstResolution s).router.stability = s.router.stability ∧ (firstResolution s).router.sample = s.router.sample ∧
    (firstResolution s).router.requested = s.router.requested ∧
    (firstResolution s).router.pendingSlot = s.router.pendingSlot ∧
    (firstResolution s).router.deferred = s.router.deferred ∧ (firstResolution s).geometry = s.geometry ∧
    (firstResolution s).room = s.room ∧ (firstResolution s).lockout = s.lockout ∧
    (firstResolution s).store = s.store ∧ (firstResolution s).free = s.free ∧
    (firstResolution s).pending = s.pending := by
  unfold firstResolution; try dsimp only
  all_goals (repeat' split)
  all_goals first | (simp; done) | (simp_all; done) | rfl

@[simp] theorem rawChange_frame (n : Fin 6) (present : Bool) (s : State) :
    (rawChange n present s).ports = s.ports ∧ (rawChange n present s).lamp = s.lamp ∧
    (rawChange n present s).power = s.power ∧ (rawChange n present s).link = s.link ∧
    (rawChange n present s).router.sources = s.router.sources ∧
    (rawChange n present s).router.debounced = s.router.debounced ∧
    (rawChange n present s).router.sample = s.router.sample ∧
    (rawChange n present s).router.requested = s.router.requested ∧
    (rawChange n present s).router.routedInput = s.router.routedInput ∧
    (rawChange n present s).router.routedSource = s.router.routedSource ∧
    (rawChange n present s).router.state = s.router.state ∧ (rawChange n present s).router.format = s.router.format ∧
    (rawChange n present s).router.chain = s.router.chain ∧
    (rawChange n present s).router.pendingSlot = s.router.pendingSlot ∧
    (rawChange n present s).router.deferred = s.router.deferred ∧
    (rawChange n present s).router.settle = s.router.settle ∧
    (rawChange n present s).router.settleOrigin = s.router.settleOrigin ∧
    (rawChange n present s).router.noSignal = s.router.noSignal ∧
    (rawChange n present s).router.resolved = s.router.resolved ∧ (rawChange n present s).geometry = s.geometry ∧
    (rawChange n present s).room = s.room ∧ (rawChange n present s).lockout = s.lockout ∧
    (rawChange n present s).store = s.store ∧ (rawChange n present s).free = s.free ∧
    (rawChange n present s).pending = s.pending := by
  unfold rawChange; try dsimp only
  all_goals (repeat' split)
  all_goals first | (simp; done) | (simp_all; done) | rfl

@[simp] theorem takeSample_frame (s : State) :
    (takeSample s).ports = s.ports ∧ (takeSample s).lamp = s.lamp ∧ (takeSample s).power = s.power ∧
    (takeSample s).link = s.link ∧ (takeSample s).router.sources = s.router.sources ∧
    (takeSample s).router.raw = s.router.raw ∧ (takeSample s).router.stability = s.router.stability ∧
    (takeSample s).router.requested = s.router.requested ∧ (takeSample s).router.pendingSlot = s.router.pendingSlot ∧
    (takeSample s).router.deferred = s.router.deferred ∧ (takeSample s).geometry = s.geometry ∧
    (takeSample s).room = s.room ∧ (takeSample s).lockout = s.lockout ∧ (takeSample s).store = s.store ∧
    (takeSample s).free = s.free ∧ (takeSample s).pending = s.pending := by
  unfold takeSample; try dsimp only
  all_goals (repeat' split)
  all_goals first | (simp; done) | (simp_all; done) | rfl

@[simp] theorem presenceActs_frame (n : Fin 6) (rise : Bool) (s : State) :
    quietPorts (presenceActs n rise s).ports = quietPorts s.ports ∧ (presenceActs n rise s).lamp = s.lamp ∧
    (presenceActs n rise s).power = s.power ∧ (presenceActs n rise s).link.state = s.link.state ∧
    (presenceActs n rise s).link.silence = s.link.silence ∧ (presenceActs n rise s).link.answer = s.link.answer ∧
    (presenceActs n rise s).link.nextTag = s.link.nextTag ∧ (presenceActs n rise s).link.control = s.link.control ∧
    (presenceActs n rise s).link.reportImage = s.link.reportImage ∧
    (presenceActs n rise s).link.lastFormat = s.link.lastFormat ∧
    (presenceActs n rise s).link.lastRejection = s.link.lastRejection ∧
    (presenceActs n rise s).link.lostFor = s.link.lostFor ∧
    (presenceActs n rise s).link.sinceMessage = s.link.sinceMessage ∧
    (presenceActs n rise s).link.receiver = s.link.receiver ∧
    (presenceActs n rise s).link.transmit = s.link.transmit ∧
    (presenceActs n rise s).router.sources = s.router.sources ∧ (presenceActs n rise s).router.raw = s.router.raw ∧
    (presenceActs n rise s).router.debounced = s.router.debounced ∧
    (presenceActs n rise s).router.stability = s.router.stability ∧
    (presenceActs n rise s).router.sample = s.router.sample ∧
    (presenceActs n rise s).router.resolved = s.router.resolved ∧
    (presenceActs n rise s).geometry.presets = s.geometry.presets ∧
    (presenceActs n rise s).geometry.overlay = s.geometry.overlay ∧
    (presenceActs n rise s).geometry.format = s.geometry.format ∧
    (presenceActs n rise s).geometry.started = s.geometry.started ∧ (presenceActs n rise s).room = s.room ∧
    (presenceActs n rise s).lockout = s.lockout ∧ (presenceActs n rise s).store = s.store ∧
    (presenceActs n rise s).pending = s.pending := by
  unfold presenceActs; try dsimp only
  all_goals (repeat' split)
  all_goals first | (simp; done) | (simp_all; done) | rfl

@[simp] theorem stabilityExpires_frame (n : Fin 6) (s : State) :
    quietPorts (stabilityExpires n s).ports = quietPorts s.ports ∧ (stabilityExpires n s).lamp = s.lamp ∧
    (stabilityExpires n s).power = s.power ∧ (stabilityExpires n s).link.state = s.link.state ∧
    (stabilityExpires n s).link.silence = s.link.silence ∧ (stabilityExpires n s).link.answer = s.link.answer ∧
    (stabilityExpires n s).link.nextTag = s.link.nextTag ∧ (stabilityExpires n s).link.control = s.link.control ∧
    (stabilityExpires n s).link.reportImage = s.link.reportImage ∧
    (stabilityExpires n s).link.lastFormat = s.link.lastFormat ∧
    (stabilityExpires n s).link.lastRejection = s.link.lastRejection ∧
    (stabilityExpires n s).link.lostFor = s.link.lostFor ∧
    (stabilityExpires n s).link.sinceMessage = s.link.sinceMessage ∧
    (stabilityExpires n s).link.receiver = s.link.receiver ∧ (stabilityExpires n s).link.transmit = s.link.transmit ∧
    (stabilityExpires n s).router.sources = s.router.sources ∧ (stabilityExpires n s).router.raw = s.router.raw ∧
    (stabilityExpires n s).router.sample = s.router.sample ∧
    (stabilityExpires n s).router.resolved = s.router.resolved ∧
    (stabilityExpires n s).geometry.presets = s.geometry.presets ∧
    (stabilityExpires n s).geometry.overlay = s.geometry.overlay ∧
    (stabilityExpires n s).geometry.format = s.geometry.format ∧
    (stabilityExpires n s).geometry.started = s.geometry.started ∧ (stabilityExpires n s).room = s.room ∧
    (stabilityExpires n s).lockout = s.lockout ∧ (stabilityExpires n s).store = s.store ∧
    (stabilityExpires n s).pending = s.pending := by
  unfold stabilityExpires; try dsimp only
  all_goals (repeat' split)
  all_goals first | (simp; done) | (simp_all; done) | rfl

@[simp] theorem editSources_frame (new : Vector SourceEntry 8) (edited : List (Fin 8)) (s : State) :
    quietPorts (editSources new edited s).ports = quietPorts s.ports ∧ (editSources new edited s).lamp = s.lamp ∧
    (editSources new edited s).power = s.power ∧ (editSources new edited s).link.state = s.link.state ∧
    (editSources new edited s).link.silence = s.link.silence ∧
    (editSources new edited s).link.answer = s.link.answer ∧
    (editSources new edited s).link.nextTag = s.link.nextTag ∧
    (editSources new edited s).link.control = s.link.control ∧
    (editSources new edited s).link.reportImage = s.link.reportImage ∧
    (editSources new edited s).link.lastFormat = s.link.lastFormat ∧
    (editSources new edited s).link.lastRejection = s.link.lastRejection ∧
    (editSources new edited s).link.lostFor = s.link.lostFor ∧
    (editSources new edited s).link.sinceMessage = s.link.sinceMessage ∧
    (editSources new edited s).link.receiver = s.link.receiver ∧
    (editSources new edited s).link.transmit = s.link.transmit ∧
    (editSources new edited s).router.raw = s.router.raw ∧
    (editSources new edited s).router.debounced = s.router.debounced ∧
    (editSources new edited s).router.stability = s.router.stability ∧
    (editSources new edited s).router.sample = s.router.sample ∧
    (editSources new edited s).router.requested = s.router.requested ∧
    (editSources new edited s).router.pendingSlot = s.router.pendingSlot ∧
    (editSources new edited s).router.resolved = s.router.resolved ∧
    (editSources new edited s).geometry.presets = s.geometry.presets ∧
    (editSources new edited s).geometry.overlay = s.geometry.overlay ∧
    (editSources new edited s).geometry.format = s.geometry.format ∧
    (editSources new edited s).geometry.started = s.geometry.started ∧ (editSources new edited s).room = s.room ∧
    (editSources new edited s).lockout = s.lockout ∧ (editSources new edited s).store = s.store ∧
    (editSources new edited s).pending = s.pending := by
  unfold editSources; try dsimp only
  all_goals (repeat' split)
  all_goals first | (simp; done) | (simp_all; done) | rfl

@[simp] theorem noSignalExpires_frame (s : State) :
    quietPorts (noSignalExpires s).ports = quietPorts s.ports ∧ (noSignalExpires s).lamp.newest = s.lamp.newest ∧
    (noSignalExpires s).lamp.replaceInFlight = s.lamp.replaceInFlight ∧
    (noSignalExpires s).lamp.history = s.lamp.history ∧ (noSignalExpires s).link.state = s.link.state ∧
    (noSignalExpires s).link.silence = s.link.silence ∧ (noSignalExpires s).link.outstanding = s.link.outstanding ∧
    (noSignalExpires s).link.answer = s.link.answer ∧ (noSignalExpires s).link.nextTag = s.link.nextTag ∧
    (noSignalExpires s).link.lane = s.link.lane ∧ (noSignalExpires s).link.reportImage = s.link.reportImage ∧
    (noSignalExpires s).link.lastFormat = s.link.lastFormat ∧
    (noSignalExpires s).link.lastRejection = s.link.lastRejection ∧
    (noSignalExpires s).link.lostFor = s.link.lostFor ∧ (noSignalExpires s).link.sinceMessage = s.link.sinceMessage ∧
    (noSignalExpires s).link.lastSet = s.link.lastSet ∧ (noSignalExpires s).link.receiver = s.link.receiver ∧
    (noSignalExpires s).link.transmit = s.link.transmit ∧ (noSignalExpires s).router.sources = s.router.sources ∧
    (noSignalExpires s).router.raw = s.router.raw ∧ (noSignalExpires s).router.debounced = s.router.debounced ∧
    (noSignalExpires s).router.stability = s.router.stability ∧ (noSignalExpires s).router.sample = s.router.sample ∧
    (noSignalExpires s).router.requested = s.router.requested ∧
    (noSignalExpires s).router.routedInput = s.router.routedInput ∧
    (noSignalExpires s).router.routedSource = s.router.routedSource ∧
    (noSignalExpires s).router.state = s.router.state ∧ (noSignalExpires s).router.format = s.router.format ∧
    (noSignalExpires s).router.chain = s.router.chain ∧
    (noSignalExpires s).router.pendingSlot = s.router.pendingSlot ∧
    (noSignalExpires s).router.deferred = s.router.deferred ∧ (noSignalExpires s).router.settle = s.router.settle ∧
    (noSignalExpires s).router.settleOrigin = s.router.settleOrigin ∧
    (noSignalExpires s).router.resolved = s.router.resolved ∧ (noSignalExpires s).geometry = s.geometry ∧
    (noSignalExpires s).room = s.room ∧ (noSignalExpires s).lockout = s.lockout ∧
    (noSignalExpires s).store.slots = s.store.slots ∧ (noSignalExpires s).store.records = s.store.records ∧
    (noSignalExpires s).store.loaded = s.store.loaded ∧ (noSignalExpires s).store.install = s.store.install ∧
    (noSignalExpires s).store.room = s.store.room ∧ (noSignalExpires s).store.protect = s.store.protect ∧
    (noSignalExpires s).store.window = s.store.window ∧ (noSignalExpires s).store.engine = s.store.engine ∧
    (noSignalExpires s).store.wipe = s.store.wipe ∧ (noSignalExpires s).pending = s.pending := by
  unfold noSignalExpires; try dsimp only
  all_goals (repeat' split)
  all_goals first | (simp; done) | (simp_all; done) | rfl

@[simp] theorem timeoutChanged_frame (old : Nat) (s : State) :
    quietPorts (timeoutChanged old s).ports = quietPorts s.ports ∧
    (timeoutChanged old s).lamp.newest = s.lamp.newest ∧
    (timeoutChanged old s).lamp.replaceInFlight = s.lamp.replaceInFlight ∧
    (timeoutChanged old s).lamp.history = s.lamp.history ∧ (timeoutChanged old s).link.state = s.link.state ∧
    (timeoutChanged old s).link.silence = s.link.silence ∧
    (timeoutChanged old s).link.outstanding = s.link.outstanding ∧
    (timeoutChanged old s).link.answer = s.link.answer ∧ (timeoutChanged old s).link.nextTag = s.link.nextTag ∧
    (timeoutChanged old s).link.lane = s.link.lane ∧ (timeoutChanged old s).link.reportImage = s.link.reportImage ∧
    (timeoutChanged old s).link.lastFormat = s.link.lastFormat ∧
    (timeoutChanged old s).link.lastRejection = s.link.lastRejection ∧
    (timeoutChanged old s).link.lostFor = s.link.lostFor ∧
    (timeoutChanged old s).link.sinceMessage = s.link.sinceMessage ∧
    (timeoutChanged old s).link.lastSet = s.link.lastSet ∧ (timeoutChanged old s).link.receiver = s.link.receiver ∧
    (timeoutChanged old s).link.transmit = s.link.transmit ∧
    (timeoutChanged old s).router.sources = s.router.sources ∧ (timeoutChanged old s).router.raw = s.router.raw ∧
    (timeoutChanged old s).router.debounced = s.router.debounced ∧
    (timeoutChanged old s).router.stability = s.router.stability ∧
    (timeoutChanged old s).router.sample = s.router.sample ∧
    (timeoutChanged old s).router.requested = s.router.requested ∧
    (timeoutChanged old s).router.routedInput = s.router.routedInput ∧
    (timeoutChanged old s).router.routedSource = s.router.routedSource ∧
    (timeoutChanged old s).router.state = s.router.state ∧ (timeoutChanged old s).router.format = s.router.format ∧
    (timeoutChanged old s).router.chain = s.router.chain ∧
    (timeoutChanged old s).router.pendingSlot = s.router.pendingSlot ∧
    (timeoutChanged old s).router.deferred = s.router.deferred ∧
    (timeoutChanged old s).router.settle = s.router.settle ∧
    (timeoutChanged old s).router.settleOrigin = s.router.settleOrigin ∧
    (timeoutChanged old s).router.resolved = s.router.resolved ∧ (timeoutChanged old s).geometry = s.geometry ∧
    (timeoutChanged old s).room = s.room ∧ (timeoutChanged old s).lockout = s.lockout ∧
    (timeoutChanged old s).store.slots = s.store.slots ∧ (timeoutChanged old s).store.records = s.store.records ∧
    (timeoutChanged old s).store.loaded = s.store.loaded ∧ (timeoutChanged old s).store.install = s.store.install ∧
    (timeoutChanged old s).store.room = s.store.room ∧ (timeoutChanged old s).store.protect = s.store.protect ∧
    (timeoutChanged old s).store.window = s.store.window ∧ (timeoutChanged old s).store.engine = s.store.engine ∧
    (timeoutChanged old s).store.wipe = s.store.wipe ∧ (timeoutChanged old s).pending = s.pending := by
  unfold timeoutChanged; try dsimp only
  all_goals (repeat' split)
  all_goals first | (simp; done) | (simp_all; done) | rfl

/-! ## Room -/

@[simp] theorem clearMomentary_frame (s : State) :
    (clearMomentary s).ports = s.ports ∧ (clearMomentary s).lamp = s.lamp ∧
    (clearMomentary s).power.state = s.power.state ∧ (clearMomentary s).power.step = s.power.step ∧
    (clearMomentary s).power.attempt = s.power.attempt ∧
    (clearMomentary s).power.restartPending = s.power.restartPending ∧
    (clearMomentary s).power.offPending = s.power.offPending ∧
    (clearMomentary s).power.ignitionOrigin = s.power.ignitionOrigin ∧
    (clearMomentary s).power.offOrigin = s.power.offOrigin ∧
    (clearMomentary s).power.thermalHold = s.power.thermalHold ∧ (clearMomentary s).power.shutter = s.power.shutter ∧
    (clearMomentary s).power.effectiveMode = s.power.effectiveMode ∧
    (clearMomentary s).power.modeEvaluated = s.power.modeEvaluated ∧
    (clearMomentary s).power.strikeTimer = s.power.strikeTimer ∧
    (clearMomentary s).power.pauseTimer = s.power.pauseTimer ∧
    (clearMomentary s).power.warmingTimer = s.power.warmingTimer ∧
    (clearMomentary s).power.coolingTimer = s.power.coolingTimer ∧
    (clearMomentary s).power.blankDim = s.power.blankDim ∧ (clearMomentary s).power.dimmed = s.power.dimmed ∧
    (clearMomentary s).power.reportWait = s.power.reportWait ∧ (clearMomentary s).link = s.link ∧
    (clearMomentary s).router = s.router ∧ (clearMomentary s).geometry.presets = s.geometry.presets ∧
    (clearMomentary s).geometry.routed = s.geometry.routed ∧ (clearMomentary s).geometry.format = s.geometry.format ∧
    (clearMomentary s).geometry.started = s.geometry.started ∧
    (clearMomentary s).geometry.active = s.geometry.active ∧
    (clearMomentary s).geometry.current = s.geometry.current ∧
    (clearMomentary s).geometry.setNumber = s.geometry.setNumber ∧
    (clearMomentary s).geometry.status = s.geometry.status ∧
    (clearMomentary s).geometry.commitAcked = s.geometry.commitAcked ∧
    (clearMomentary s).geometry.keptResend = s.geometry.keptResend ∧ (clearMomentary s).room = s.room ∧
    (clearMomentary s).lockout = s.lockout ∧ (clearMomentary s).store = s.store ∧ (clearMomentary s).free = s.free ∧
    (clearMomentary s).pending = s.pending := by
  unfold clearMomentary; try dsimp only
  all_goals (repeat' split)
  all_goals first | (simp; done) | (simp_all; done) | rfl

@[simp] theorem placeRoom_frame (dest : RoomState) (occ : Option Occurrence) (s : State) :
    (placeRoom dest occ s).ports = s.ports ∧ (placeRoom dest occ s).lamp = s.lamp ∧
    (placeRoom dest occ s).power = s.power ∧ (placeRoom dest occ s).link = s.link ∧
    (placeRoom dest occ s).router = s.router ∧ (placeRoom dest occ s).geometry = s.geometry ∧
    (placeRoom dest occ s).room.clock = s.room.clock ∧ (placeRoom dest occ s).room.phase = s.room.phase ∧
    (placeRoom dest occ s).room.bookings = s.room.bookings ∧
    (placeRoom dest occ s).room.exceptions = s.room.exceptions ∧
    (placeRoom dest occ s).room.scheduleBlank = s.room.scheduleBlank ∧ (placeRoom dest occ s).lockout = s.lockout ∧
    (placeRoom dest occ s).store = s.store ∧ (placeRoom dest occ s).free = s.free ∧
    (placeRoom dest occ s).pending = s.pending := by
  unfold placeRoom; try dsimp only
  all_goals (repeat' split)
  all_goals first | (simp; done) | (simp_all; done) | rfl

@[simp] theorem roomChange_frame (dest : RoomState) (occ : Option Occurrence) (cause : RoomCause) (origin : Origin) (id : Fin 64) (s : State) :
    quietPorts (roomChange dest occ cause origin id s).ports = quietPorts s.ports ∧
    (roomChange dest occ cause origin id s).lamp.account = s.lamp.account ∧
    (roomChange dest occ cause origin id s).lamp.level = s.lamp.level ∧
    (roomChange dest occ cause origin id s).lamp.newest = s.lamp.newest ∧
    (roomChange dest occ cause origin id s).lamp.tally = s.lamp.tally ∧
    (roomChange dest occ cause origin id s).lamp.burn = s.lamp.burn ∧
    (roomChange dest occ cause origin id s).lamp.hotWindow = s.lamp.hotWindow ∧
    (roomChange dest occ cause origin id s).lamp.cadence = s.lamp.cadence ∧
    (roomChange dest occ cause origin id s).lamp.replaceInFlight = s.lamp.replaceInFlight ∧
    (roomChange dest occ cause origin id s).lamp.history = s.lamp.history ∧
    (roomChange dest occ cause origin id s).power.state = s.power.state ∧
    (roomChange dest occ cause origin id s).power.step = s.power.step ∧
    (roomChange dest occ cause origin id s).power.attempt = s.power.attempt ∧
    (roomChange dest occ cause origin id s).power.restartPending = s.power.restartPending ∧
    (roomChange dest occ cause origin id s).power.offPending = s.power.offPending ∧
    (roomChange dest occ cause origin id s).power.ignitionOrigin = s.power.ignitionOrigin ∧
    (roomChange dest occ cause origin id s).power.offOrigin = s.power.offOrigin ∧
    (roomChange dest occ cause origin id s).power.thermalHold = s.power.thermalHold ∧
    (roomChange dest occ cause origin id s).power.shutter = s.power.shutter ∧
    (roomChange dest occ cause origin id s).power.modeEvaluated = s.power.modeEvaluated ∧
    (roomChange dest occ cause origin id s).power.strikeTimer = s.power.strikeTimer ∧
    (roomChange dest occ cause origin id s).power.pauseTimer = s.power.pauseTimer ∧
    (roomChange dest occ cause origin id s).power.warmingTimer = s.power.warmingTimer ∧
    (roomChange dest occ cause origin id s).power.coolingTimer = s.power.coolingTimer ∧
    (roomChange dest occ cause origin id s).power.blankDim = s.power.blankDim ∧
    (roomChange dest occ cause origin id s).power.dimmed = s.power.dimmed ∧
    (roomChange dest occ cause origin id s).power.reportWait = s.power.reportWait ∧
    (roomChange dest occ cause origin id s).link.state = s.link.state ∧
    (roomChange dest occ cause origin id s).link.silence = s.link.silence ∧
    (roomChange dest occ cause origin id s).link.answer = s.link.answer ∧
    (roomChange dest occ cause origin id s).link.nextTag = s.link.nextTag ∧
    (roomChange dest occ cause origin id s).link.reportImage = s.link.reportImage ∧
    (roomChange dest occ cause origin id s).link.lastFormat = s.link.lastFormat ∧
    (roomChange dest occ cause origin id s).link.lastRejection = s.link.lastRejection ∧
    (roomChange dest occ cause origin id s).link.lostFor = s.link.lostFor ∧
    (roomChange dest occ cause origin id s).link.sinceMessage = s.link.sinceMessage ∧
    (roomChange dest occ cause origin id s).link.receiver = s.link.receiver ∧
    (roomChange dest occ cause origin id s).link.transmit = s.link.transmit ∧
    (roomChange dest occ cause origin id s).router = s.router ∧
    (roomChange dest occ cause origin id s).geometry.presets = s.geometry.presets ∧
    (roomChange dest occ cause origin id s).geometry.routed = s.geometry.routed ∧
    (roomChange dest occ cause origin id s).geometry.format = s.geometry.format ∧
    (roomChange dest occ cause origin id s).geometry.started = s.geometry.started ∧
    (roomChange dest occ cause origin id s).room.clock = s.room.clock ∧
    (roomChange dest occ cause origin id s).room.phase = s.room.phase ∧
    (roomChange dest occ cause origin id s).room.bookings = s.room.bookings ∧
    (roomChange dest occ cause origin id s).room.exceptions = s.room.exceptions ∧
    (roomChange dest occ cause origin id s).room.scheduleBlank = s.room.scheduleBlank ∧
    (roomChange dest occ cause origin id s).lockout.profiles = s.lockout.profiles ∧
    (roomChange dest occ cause origin id s).lockout.serviceEnabled = s.lockout.serviceEnabled ∧
    (roomChange dest occ cause origin id s).lockout.locked = s.lockout.locked ∧
    (roomChange dest occ cause origin id s).lockout.mismatch = s.lockout.mismatch ∧
    (roomChange dest occ cause origin id s).lockout.mode = s.lockout.mode ∧
    (roomChange dest occ cause origin id s).store = s.store ∧
    (roomChange dest occ cause origin id s).pending = s.pending := by
  unfold roomChange; try dsimp only
  all_goals (repeat' split)
  all_goals first | (simp; done) | (simp_all; done) | rfl

@[simp] theorem occupiedActions_frame (b : Booking) (s : State) :
    quietPorts (occupiedActions b s).ports = quietPorts s.ports ∧ (occupiedActions b s).lamp.newest = s.lamp.newest ∧
    (occupiedActions b s).lamp.replaceInFlight = s.lamp.replaceInFlight ∧
    (occupiedActions b s).lamp.history = s.lamp.history ∧ (occupiedActions b s).link.state = s.link.state ∧
    (occupiedActions b s).link.silence = s.link.silence ∧ (occupiedActions b s).link.answer = s.link.answer ∧
    (occupiedActions b s).link.nextTag = s.link.nextTag ∧
    (occupiedActions b s).link.reportImage = s.link.reportImage ∧
    (occupiedActions b s).link.lastFormat = s.link.lastFormat ∧
    (occupiedActions b s).link.lastRejection = s.link.lastRejection ∧
    (occupiedActions b s).link.lostFor = s.link.lostFor ∧
    (occupiedActions b s).link.sinceMessage = s.link.sinceMessage ∧
    (occupiedActions b s).link.receiver = s.link.receiver ∧ (occupiedActions b s).link.transmit = s.link.transmit ∧
    (occupiedActions b s).router.sources = s.router.sources ∧ (occupiedActions b s).router.raw = s.router.raw ∧
    (occupiedActions b s).router.debounced = s.router.debounced ∧
    (occupiedActions b s).router.stability = s.router.stability ∧
    (occupiedActions b s).router.sample = s.router.sample ∧
    (occupiedActions b s).router.resolved = s.router.resolved ∧
    (occupiedActions b s).geometry.presets = s.geometry.presets ∧
    (occupiedActions b s).geometry.overlay = s.geometry.overlay ∧
    (occupiedActions b s).geometry.format = s.geometry.format ∧
    (occupiedActions b s).geometry.started = s.geometry.started ∧ (occupiedActions b s).room.clock = s.room.clock ∧
    (occupiedActions b s).room.phase = s.room.phase ∧ (occupiedActions b s).room.bookings = s.room.bookings ∧
    (occupiedActions b s).room.exceptions = s.room.exceptions ∧ (occupiedActions b s).room.state = s.room.state ∧
    (occupiedActions b s).room.current = s.room.current ∧ (occupiedActions b s).room.extension = s.room.extension ∧
    (occupiedActions b s).room.taken = s.room.taken ∧ (occupiedActions b s).lockout = s.lockout ∧
    (occupiedActions b s).store.slots = s.store.slots ∧ (occupiedActions b s).store.records = s.store.records ∧
    (occupiedActions b s).store.loaded = s.store.loaded ∧ (occupiedActions b s).store.install = s.store.install ∧
    (occupiedActions b s).store.room = s.store.room ∧ (occupiedActions b s).store.protect = s.store.protect ∧
    (occupiedActions b s).store.window = s.store.window ∧ (occupiedActions b s).store.engine = s.store.engine ∧
    (occupiedActions b s).store.wipe = s.store.wipe ∧ (occupiedActions b s).pending = s.pending := by
  unfold occupiedActions; try dsimp only
  all_goals (repeat' split)
  all_goals first | (simp; done) | (simp_all; done) | rfl

@[simp] theorem enterRoom_frame (o : Occurrence) (b : Booking) (cause : RoomCause) (origin : Origin) (s : State) :
    quietPorts (enterRoom o b cause origin s).ports = quietPorts s.ports ∧
    (enterRoom o b cause origin s).lamp.newest = s.lamp.newest ∧
    (enterRoom o b cause origin s).lamp.replaceInFlight = s.lamp.replaceInFlight ∧
    (enterRoom o b cause origin s).lamp.history = s.lamp.history ∧
    (enterRoom o b cause origin s).link.state = s.link.state ∧
    (enterRoom o b cause origin s).link.silence = s.link.silence ∧
    (enterRoom o b cause origin s).link.answer = s.link.answer ∧
    (enterRoom o b cause origin s).link.nextTag = s.link.nextTag ∧
    (enterRoom o b cause origin s).link.reportImage = s.link.reportImage ∧
    (enterRoom o b cause origin s).link.lastFormat = s.link.lastFormat ∧
    (enterRoom o b cause origin s).link.lastRejection = s.link.lastRejection ∧
    (enterRoom o b cause origin s).link.lostFor = s.link.lostFor ∧
    (enterRoom o b cause origin s).link.sinceMessage = s.link.sinceMessage ∧
    (enterRoom o b cause origin s).link.receiver = s.link.receiver ∧
    (enterRoom o b cause origin s).link.transmit = s.link.transmit ∧
    (enterRoom o b cause origin s).router.sources = s.router.sources ∧
    (enterRoom o b cause origin s).router.raw = s.router.raw ∧
    (enterRoom o b cause origin s).router.debounced = s.router.debounced ∧
    (enterRoom o b cause origin s).router.stability = s.router.stability ∧
    (enterRoom o b cause origin s).router.sample = s.router.sample ∧
    (enterRoom o b cause origin s).router.resolved = s.router.resolved ∧
    (enterRoom o b cause origin s).geometry.presets = s.geometry.presets ∧
    (enterRoom o b cause origin s).geometry.format = s.geometry.format ∧
    (enterRoom o b cause origin s).geometry.started = s.geometry.started ∧
    (enterRoom o b cause origin s).room.clock = s.room.clock ∧
    (enterRoom o b cause origin s).room.phase = s.room.phase ∧
    (enterRoom o b cause origin s).room.bookings = s.room.bookings ∧
    (enterRoom o b cause origin s).room.exceptions = s.room.exceptions ∧
    (enterRoom o b cause origin s).lockout.profiles = s.lockout.profiles ∧
    (enterRoom o b cause origin s).lockout.serviceEnabled = s.lockout.serviceEnabled ∧
    (enterRoom o b cause origin s).lockout.locked = s.lockout.locked ∧
    (enterRoom o b cause origin s).lockout.mismatch = s.lockout.mismatch ∧
    (enterRoom o b cause origin s).lockout.mode = s.lockout.mode ∧
    (enterRoom o b cause origin s).store.slots = s.store.slots ∧
    (enterRoom o b cause origin s).store.records = s.store.records ∧
    (enterRoom o b cause origin s).store.loaded = s.store.loaded ∧
    (enterRoom o b cause origin s).store.install = s.store.install ∧
    (enterRoom o b cause origin s).store.room = s.store.room ∧
    (enterRoom o b cause origin s).store.protect = s.store.protect ∧
    (enterRoom o b cause origin s).store.window = s.store.window ∧
    (enterRoom o b cause origin s).store.engine = s.store.engine ∧
    (enterRoom o b cause origin s).store.wipe = s.store.wipe ∧ (enterRoom o b cause origin s).pending = s.pending := by
  unfold enterRoom; try dsimp only
  all_goals (repeat' split)
  all_goals first | (simp; done) | (simp_all; done) | rfl

@[simp] theorem blankAtEnd_frame (s : State) :
    (blankAtEnd s).ports = s.ports ∧ (blankAtEnd s).lamp.account = s.lamp.account ∧
    (blankAtEnd s).lamp.level = s.lamp.level ∧ (blankAtEnd s).lamp.newest = s.lamp.newest ∧
    (blankAtEnd s).lamp.tally = s.lamp.tally ∧ (blankAtEnd s).lamp.burn = s.lamp.burn ∧
    (blankAtEnd s).lamp.hotWindow = s.lamp.hotWindow ∧ (blankAtEnd s).lamp.cadence = s.lamp.cadence ∧
    (blankAtEnd s).lamp.replaceInFlight = s.lamp.replaceInFlight ∧ (blankAtEnd s).lamp.history = s.lamp.history ∧
    (blankAtEnd s).power.state = s.power.state ∧ (blankAtEnd s).power.step = s.power.step ∧
    (blankAtEnd s).power.attempt = s.power.attempt ∧ (blankAtEnd s).power.restartPending = s.power.restartPending ∧
    (blankAtEnd s).power.offPending = s.power.offPending ∧
    (blankAtEnd s).power.ignitionOrigin = s.power.ignitionOrigin ∧
    (blankAtEnd s).power.offOrigin = s.power.offOrigin ∧ (blankAtEnd s).power.thermalHold = s.power.thermalHold ∧
    (blankAtEnd s).power.momentaryMode = s.power.momentaryMode ∧
    (blankAtEnd s).power.modeEvaluated = s.power.modeEvaluated ∧
    (blankAtEnd s).power.strikeTimer = s.power.strikeTimer ∧ (blankAtEnd s).power.pauseTimer = s.power.pauseTimer ∧
    (blankAtEnd s).power.warmingTimer = s.power.warmingTimer ∧
    (blankAtEnd s).power.coolingTimer = s.power.coolingTimer ∧ (blankAtEnd s).power.reportWait = s.power.reportWait ∧
    (blankAtEnd s).link.state = s.link.state ∧ (blankAtEnd s).link.silence = s.link.silence ∧
    (blankAtEnd s).link.outstanding = s.link.outstanding ∧ (blankAtEnd s).link.answer = s.link.answer ∧
    (blankAtEnd s).link.nextTag = s.link.nextTag ∧ (blankAtEnd s).link.lane = s.link.lane ∧
    (blankAtEnd s).link.reportImage = s.link.reportImage ∧ (blankAtEnd s).link.lastFormat = s.link.lastFormat ∧
    (blankAtEnd s).link.lastRejection = s.link.lastRejection ∧ (blankAtEnd s).link.lostFor = s.link.lostFor ∧
    (blankAtEnd s).link.sinceMessage = s.link.sinceMessage ∧ (blankAtEnd s).link.lastSet = s.link.lastSet ∧
    (blankAtEnd s).link.receiver = s.link.receiver ∧ (blankAtEnd s).link.transmit = s.link.transmit ∧
    (blankAtEnd s).router = s.router ∧ (blankAtEnd s).geometry = s.geometry ∧
    (blankAtEnd s).room.clock = s.room.clock ∧ (blankAtEnd s).room.phase = s.room.phase ∧
    (blankAtEnd s).room.bookings = s.room.bookings ∧ (blankAtEnd s).room.exceptions = s.room.exceptions ∧
    (blankAtEnd s).room.state = s.room.state ∧ (blankAtEnd s).room.current = s.room.current ∧
    (blankAtEnd s).room.extension = s.room.extension ∧ (blankAtEnd s).room.taken = s.room.taken ∧
    (blankAtEnd s).lockout = s.lockout ∧ (blankAtEnd s).store = s.store ∧ (blankAtEnd s).free = s.free ∧
    (blankAtEnd s).pending = s.pending := by
  unfold blankAtEnd; try dsimp only
  all_goals (repeat' split)
  all_goals first | (simp; done) | (simp_all; done) | rfl

@[simp] theorem endAction_frame (b : Booking) (s : State) :
    quietPorts (endAction b s).ports = quietPorts s.ports ∧ (endAction b s).lamp.newest = s.lamp.newest ∧
    (endAction b s).lamp.replaceInFlight = s.lamp.replaceInFlight ∧ (endAction b s).lamp.history = s.lamp.history ∧
    (endAction b s).link.state = s.link.state ∧ (endAction b s).link.silence = s.link.silence ∧
    (endAction b s).link.answer = s.link.answer ∧ (endAction b s).link.nextTag = s.link.nextTag ∧
    (endAction b s).link.reportImage = s.link.reportImage ∧ (endAction b s).link.lastFormat = s.link.lastFormat ∧
    (endAction b s).link.lastRejection = s.link.lastRejection ∧ (endAction b s).link.lostFor = s.link.lostFor ∧
    (endAction b s).link.sinceMessage = s.link.sinceMessage ∧ (endAction b s).link.receiver = s.link.receiver ∧
    (endAction b s).link.transmit = s.link.transmit ∧ (endAction b s).router.sources = s.router.sources ∧
    (endAction b s).router.raw = s.router.raw ∧ (endAction b s).router.debounced = s.router.debounced ∧
    (endAction b s).router.stability = s.router.stability ∧ (endAction b s).router.sample = s.router.sample ∧
    (endAction b s).router.resolved = s.router.resolved ∧ (endAction b s).geometry.presets = s.geometry.presets ∧
    (endAction b s).geometry.overlay = s.geometry.overlay ∧ (endAction b s).geometry.format = s.geometry.format ∧
    (endAction b s).geometry.started = s.geometry.started ∧ (endAction b s).room.clock = s.room.clock ∧
    (endAction b s).room.phase = s.room.phase ∧ (endAction b s).room.bookings = s.room.bookings ∧
    (endAction b s).room.exceptions = s.room.exceptions ∧ (endAction b s).room.state = s.room.state ∧
    (endAction b s).room.current = s.room.current ∧ (endAction b s).room.extension = s.room.extension ∧
    (endAction b s).room.taken = s.room.taken ∧ (endAction b s).lockout = s.lockout ∧
    (endAction b s).store.slots = s.store.slots ∧ (endAction b s).store.records = s.store.records ∧
    (endAction b s).store.loaded = s.store.loaded ∧ (endAction b s).store.install = s.store.install ∧
    (endAction b s).store.room = s.store.room ∧ (endAction b s).store.protect = s.store.protect ∧
    (endAction b s).store.window = s.store.window ∧ (endAction b s).store.engine = s.store.engine ∧
    (endAction b s).store.wipe = s.store.wipe ∧ (endAction b s).pending = s.pending := by
  unfold endAction; try dsimp only
  all_goals (repeat' split)
  all_goals first | (simp; done) | (simp_all; done) | rfl

@[simp] theorem endOccurrence_frame (o : Occurrence) (held : Option Booking) (cause : RoomCause) (origin : Origin) (s : State) :
    quietPorts (endOccurrence o held cause origin s).ports = quietPorts s.ports ∧
    (endOccurrence o held cause origin s).lamp.newest = s.lamp.newest ∧
    (endOccurrence o held cause origin s).lamp.replaceInFlight = s.lamp.replaceInFlight ∧
    (endOccurrence o held cause origin s).lamp.history = s.lamp.history ∧
    (endOccurrence o held cause origin s).link.state = s.link.state ∧
    (endOccurrence o held cause origin s).link.silence = s.link.silence ∧
    (endOccurrence o held cause origin s).link.answer = s.link.answer ∧
    (endOccurrence o held cause origin s).link.nextTag = s.link.nextTag ∧
    (endOccurrence o held cause origin s).link.reportImage = s.link.reportImage ∧
    (endOccurrence o held cause origin s).link.lastFormat = s.link.lastFormat ∧
    (endOccurrence o held cause origin s).link.lastRejection = s.link.lastRejection ∧
    (endOccurrence o held cause origin s).link.lostFor = s.link.lostFor ∧
    (endOccurrence o held cause origin s).link.sinceMessage = s.link.sinceMessage ∧
    (endOccurrence o held cause origin s).link.receiver = s.link.receiver ∧
    (endOccurrence o held cause origin s).link.transmit = s.link.transmit ∧
    (endOccurrence o held cause origin s).router.sources = s.router.sources ∧
    (endOccurrence o held cause origin s).router.raw = s.router.raw ∧
    (endOccurrence o held cause origin s).router.debounced = s.router.debounced ∧
    (endOccurrence o held cause origin s).router.stability = s.router.stability ∧
    (endOccurrence o held cause origin s).router.sample = s.router.sample ∧
    (endOccurrence o held cause origin s).router.resolved = s.router.resolved ∧
    (endOccurrence o held cause origin s).geometry.presets = s.geometry.presets ∧
    (endOccurrence o held cause origin s).geometry.format = s.geometry.format ∧
    (endOccurrence o held cause origin s).geometry.started = s.geometry.started ∧
    (endOccurrence o held cause origin s).room.clock = s.room.clock ∧
    (endOccurrence o held cause origin s).room.phase = s.room.phase ∧
    (endOccurrence o held cause origin s).room.bookings = s.room.bookings ∧
    (endOccurrence o held cause origin s).room.exceptions = s.room.exceptions ∧
    (endOccurrence o held cause origin s).lockout.profiles = s.lockout.profiles ∧
    (endOccurrence o held cause origin s).lockout.serviceEnabled = s.lockout.serviceEnabled ∧
    (endOccurrence o held cause origin s).lockout.locked = s.lockout.locked ∧
    (endOccurrence o held cause origin s).lockout.mismatch = s.lockout.mismatch ∧
    (endOccurrence o held cause origin s).lockout.mode = s.lockout.mode ∧
    (endOccurrence o held cause origin s).store.slots = s.store.slots ∧
    (endOccurrence o held cause origin s).store.records = s.store.records ∧
    (endOccurrence o held cause origin s).store.loaded = s.store.loaded ∧
    (endOccurrence o held cause origin s).store.install = s.store.install ∧
    (endOccurrence o held cause origin s).store.room = s.store.room ∧
    (endOccurrence o held cause origin s).store.protect = s.store.protect ∧
    (endOccurrence o held cause origin s).store.window = s.store.window ∧
    (endOccurrence o held cause origin s).store.engine = s.store.engine ∧
    (endOccurrence o held cause origin s).store.wipe = s.store.wipe ∧
    (endOccurrence o held cause origin s).pending = s.pending := by
  unfold endOccurrence; try dsimp only
  all_goals (repeat' split)
  all_goals first | (simp; done) | (simp_all; done) | rfl

@[simp] theorem evaluate_frame (held : Option Booking) (cause : RoomCause) (origin : Origin) (s : State) :
    quietPorts (evaluate held cause origin s).ports = quietPorts s.ports ∧
    (evaluate held cause origin s).lamp.newest = s.lamp.newest ∧
    (evaluate held cause origin s).lamp.replaceInFlight = s.lamp.replaceInFlight ∧
    (evaluate held cause origin s).lamp.history = s.lamp.history ∧
    (evaluate held cause origin s).link.state = s.link.state ∧
    (evaluate held cause origin s).link.silence = s.link.silence ∧
    (evaluate held cause origin s).link.answer = s.link.answer ∧
    (evaluate held cause origin s).link.nextTag = s.link.nextTag ∧
    (evaluate held cause origin s).link.reportImage = s.link.reportImage ∧
    (evaluate held cause origin s).link.lastFormat = s.link.lastFormat ∧
    (evaluate held cause origin s).link.lastRejection = s.link.lastRejection ∧
    (evaluate held cause origin s).link.lostFor = s.link.lostFor ∧
    (evaluate held cause origin s).link.sinceMessage = s.link.sinceMessage ∧
    (evaluate held cause origin s).link.receiver = s.link.receiver ∧
    (evaluate held cause origin s).link.transmit = s.link.transmit ∧
    (evaluate held cause origin s).router.sources = s.router.sources ∧
    (evaluate held cause origin s).router.raw = s.router.raw ∧
    (evaluate held cause origin s).router.debounced = s.router.debounced ∧
    (evaluate held cause origin s).router.stability = s.router.stability ∧
    (evaluate held cause origin s).router.sample = s.router.sample ∧
    (evaluate held cause origin s).router.resolved = s.router.resolved ∧
    (evaluate held cause origin s).geometry.presets = s.geometry.presets ∧
    (evaluate held cause origin s).geometry.format = s.geometry.format ∧
    (evaluate held cause origin s).geometry.started = s.geometry.started ∧
    (evaluate held cause origin s).room.clock = s.room.clock ∧
    (evaluate held cause origin s).room.phase = s.room.phase ∧
    (evaluate held cause origin s).room.bookings = s.room.bookings ∧
    (evaluate held cause origin s).room.exceptions = s.room.exceptions ∧
    (evaluate held cause origin s).lockout.profiles = s.lockout.profiles ∧
    (evaluate held cause origin s).lockout.serviceEnabled = s.lockout.serviceEnabled ∧
    (evaluate held cause origin s).lockout.locked = s.lockout.locked ∧
    (evaluate held cause origin s).lockout.mismatch = s.lockout.mismatch ∧
    (evaluate held cause origin s).lockout.mode = s.lockout.mode ∧
    (evaluate held cause origin s).store.slots = s.store.slots ∧
    (evaluate held cause origin s).store.records = s.store.records ∧
    (evaluate held cause origin s).store.loaded = s.store.loaded ∧
    (evaluate held cause origin s).store.install = s.store.install ∧
    (evaluate held cause origin s).store.room = s.store.room ∧
    (evaluate held cause origin s).store.protect = s.store.protect ∧
    (evaluate held cause origin s).store.window = s.store.window ∧
    (evaluate held cause origin s).store.engine = s.store.engine ∧
    (evaluate held cause origin s).store.wipe = s.store.wipe ∧ (evaluate held cause origin s).pending = s.pending := by
  unfold evaluate; try dsimp only
  all_goals (repeat' split)
  all_goals first | (simp; done) | (simp_all; done) | rfl

@[simp] theorem pruneExceptions_frame (s : State) :
    quietPorts (pruneExceptions s).ports = quietPorts s.ports ∧ (pruneExceptions s).lamp = s.lamp ∧
    (pruneExceptions s).power = s.power ∧ (pruneExceptions s).link = s.link ∧ (pruneExceptions s).router = s.router ∧
    (pruneExceptions s).geometry = s.geometry ∧ (pruneExceptions s).room.clock = s.room.clock ∧
    (pruneExceptions s).room.phase = s.room.phase ∧ (pruneExceptions s).room.bookings = s.room.bookings ∧
    (pruneExceptions s).room.state = s.room.state ∧ (pruneExceptions s).room.current = s.room.current ∧
    (pruneExceptions s).room.extension = s.room.extension ∧ (pruneExceptions s).room.taken = s.room.taken ∧
    (pruneExceptions s).room.scheduleBlank = s.room.scheduleBlank ∧ (pruneExceptions s).lockout = s.lockout ∧
    (pruneExceptions s).store.slots = s.store.slots ∧ (pruneExceptions s).store.records = s.store.records ∧
    (pruneExceptions s).store.loaded = s.store.loaded ∧ (pruneExceptions s).store.install = s.store.install ∧
    (pruneExceptions s).store.room = s.store.room ∧ (pruneExceptions s).store.protect = s.store.protect ∧
    (pruneExceptions s).store.window = s.store.window ∧ (pruneExceptions s).store.engine = s.store.engine ∧
    (pruneExceptions s).store.wipe = s.store.wipe ∧ (pruneExceptions s).pending = s.pending := by
  unfold pruneExceptions; try dsimp only
  all_goals (repeat' split)
  all_goals first | (simp; done) | (simp_all; done) | rfl

@[simp] theorem postClockNeeded_frame (s : State) :
    quietPorts (postClockNeeded s).ports = quietPorts s.ports ∧ (postClockNeeded s).lamp = s.lamp ∧
    (postClockNeeded s).power = s.power ∧ (postClockNeeded s).link = s.link ∧ (postClockNeeded s).router = s.router ∧
    (postClockNeeded s).geometry = s.geometry ∧ (postClockNeeded s).room = s.room ∧
    (postClockNeeded s).lockout = s.lockout ∧ (postClockNeeded s).store = s.store ∧
    (postClockNeeded s).pending = s.pending := by
  unfold postClockNeeded; try dsimp only
  all_goals (repeat' split)
  all_goals first | (simp; done) | (simp_all; done) | rfl

@[simp] theorem evaluateStep_frame (cause : RoomCause) (s : State) :
    quietPorts (evaluateStep cause s).ports = quietPorts s.ports ∧
    (evaluateStep cause s).lamp.newest = s.lamp.newest ∧
    (evaluateStep cause s).lamp.replaceInFlight = s.lamp.replaceInFlight ∧
    (evaluateStep cause s).lamp.history = s.lamp.history ∧ (evaluateStep cause s).link.state = s.link.state ∧
    (evaluateStep cause s).link.silence = s.link.silence ∧ (evaluateStep cause s).link.answer = s.link.answer ∧
    (evaluateStep cause s).link.nextTag = s.link.nextTag ∧
    (evaluateStep cause s).link.reportImage = s.link.reportImage ∧
    (evaluateStep cause s).link.lastFormat = s.link.lastFormat ∧
    (evaluateStep cause s).link.lastRejection = s.link.lastRejection ∧
    (evaluateStep cause s).link.lostFor = s.link.lostFor ∧
    (evaluateStep cause s).link.sinceMessage = s.link.sinceMessage ∧
    (evaluateStep cause s).link.receiver = s.link.receiver ∧ (evaluateStep cause s).link.transmit = s.link.transmit ∧
    (evaluateStep cause s).router.sources = s.router.sources ∧ (evaluateStep cause s).router.raw = s.router.raw ∧
    (evaluateStep cause s).router.debounced = s.router.debounced ∧
    (evaluateStep cause s).router.stability = s.router.stability ∧
    (evaluateStep cause s).router.sample = s.router.sample ∧
    (evaluateStep cause s).router.resolved = s.router.resolved ∧
    (evaluateStep cause s).geometry.presets = s.geometry.presets ∧
    (evaluateStep cause s).geometry.format = s.geometry.format ∧
    (evaluateStep cause s).geometry.started = s.geometry.started ∧ (evaluateStep cause s).room.clock = s.room.clock ∧
    (evaluateStep cause s).room.phase = s.room.phase ∧ (evaluateStep cause s).room.bookings = s.room.bookings ∧
    (evaluateStep cause s).room.exceptions = s.room.exceptions ∧
    (evaluateStep cause s).lockout.profiles = s.lockout.profiles ∧
    (evaluateStep cause s).lockout.serviceEnabled = s.lockout.serviceEnabled ∧
    (evaluateStep cause s).lockout.locked = s.lockout.locked ∧
    (evaluateStep cause s).lockout.mismatch = s.lockout.mismatch ∧
    (evaluateStep cause s).lockout.mode = s.lockout.mode ∧ (evaluateStep cause s).store.slots = s.store.slots ∧
    (evaluateStep cause s).store.records = s.store.records ∧ (evaluateStep cause s).store.loaded = s.store.loaded ∧
    (evaluateStep cause s).store.install = s.store.install ∧ (evaluateStep cause s).store.room = s.store.room ∧
    (evaluateStep cause s).store.protect = s.store.protect ∧ (evaluateStep cause s).store.window = s.store.window ∧
    (evaluateStep cause s).store.engine = s.store.engine ∧ (evaluateStep cause s).store.wipe = s.store.wipe ∧
    (evaluateStep cause s).pending = s.pending := by
  unfold evaluateStep; try dsimp only
  all_goals (repeat' split)
  all_goals first | (simp; done) | (simp_all; done) | rfl

@[simp] theorem minuteStep_frame (s : State) :
    quietPorts (minuteStep s).ports = quietPorts s.ports ∧ (minuteStep s).lamp.newest = s.lamp.newest ∧
    (minuteStep s).lamp.replaceInFlight = s.lamp.replaceInFlight ∧ (minuteStep s).lamp.history = s.lamp.history ∧
    (minuteStep s).link.state = s.link.state ∧ (minuteStep s).link.silence = s.link.silence ∧
    (minuteStep s).link.answer = s.link.answer ∧ (minuteStep s).link.nextTag = s.link.nextTag ∧
    (minuteStep s).link.reportImage = s.link.reportImage ∧ (minuteStep s).link.lastFormat = s.link.lastFormat ∧
    (minuteStep s).link.lastRejection = s.link.lastRejection ∧ (minuteStep s).link.lostFor = s.link.lostFor ∧
    (minuteStep s).link.sinceMessage = s.link.sinceMessage ∧ (minuteStep s).link.receiver = s.link.receiver ∧
    (minuteStep s).link.transmit = s.link.transmit ∧ (minuteStep s).router.sources = s.router.sources ∧
    (minuteStep s).router.raw = s.router.raw ∧ (minuteStep s).router.debounced = s.router.debounced ∧
    (minuteStep s).router.stability = s.router.stability ∧ (minuteStep s).router.sample = s.router.sample ∧
    (minuteStep s).router.resolved = s.router.resolved ∧ (minuteStep s).geometry.presets = s.geometry.presets ∧
    (minuteStep s).geometry.format = s.geometry.format ∧ (minuteStep s).geometry.started = s.geometry.started ∧
    (minuteStep s).room.phase = s.room.phase ∧ (minuteStep s).room.bookings = s.room.bookings ∧
    (minuteStep s).lockout.profiles = s.lockout.profiles ∧
    (minuteStep s).lockout.serviceEnabled = s.lockout.serviceEnabled ∧
    (minuteStep s).lockout.locked = s.lockout.locked ∧ (minuteStep s).lockout.mismatch = s.lockout.mismatch ∧
    (minuteStep s).lockout.mode = s.lockout.mode ∧ (minuteStep s).store.slots = s.store.slots ∧
    (minuteStep s).store.records = s.store.records ∧ (minuteStep s).store.loaded = s.store.loaded ∧
    (minuteStep s).store.install = s.store.install ∧ (minuteStep s).store.room = s.store.room ∧
    (minuteStep s).store.protect = s.store.protect ∧ (minuteStep s).store.window = s.store.window ∧
    (minuteStep s).store.engine = s.store.engine ∧ (minuteStep s).store.wipe = s.store.wipe ∧
    (minuteStep s).pending = s.pending := by
  unfold minuteStep; try dsimp only
  all_goals (repeat' split)
  all_goals first | (simp; done) | (simp_all; done) | rfl

@[simp] theorem clockTicks_frame (s : State) :
    quietPorts (clockTicks s).ports = quietPorts s.ports ∧ (clockTicks s).lamp.newest = s.lamp.newest ∧
    (clockTicks s).lamp.replaceInFlight = s.lamp.replaceInFlight ∧ (clockTicks s).lamp.history = s.lamp.history ∧
    (clockTicks s).link.state = s.link.state ∧ (clockTicks s).link.silence = s.link.silence ∧
    (clockTicks s).link.answer = s.link.answer ∧ (clockTicks s).link.nextTag = s.link.nextTag ∧
    (clockTicks s).link.reportImage = s.link.reportImage ∧ (clockTicks s).link.lastFormat = s.link.lastFormat ∧
    (clockTicks s).link.lastRejection = s.link.lastRejection ∧ (clockTicks s).link.lostFor = s.link.lostFor ∧
    (clockTicks s).link.sinceMessage = s.link.sinceMessage ∧ (clockTicks s).link.receiver = s.link.receiver ∧
    (clockTicks s).link.transmit = s.link.transmit ∧ (clockTicks s).router.sources = s.router.sources ∧
    (clockTicks s).router.raw = s.router.raw ∧ (clockTicks s).router.debounced = s.router.debounced ∧
    (clockTicks s).router.stability = s.router.stability ∧ (clockTicks s).router.sample = s.router.sample ∧
    (clockTicks s).router.resolved = s.router.resolved ∧ (clockTicks s).geometry.presets = s.geometry.presets ∧
    (clockTicks s).geometry.format = s.geometry.format ∧ (clockTicks s).geometry.started = s.geometry.started ∧
    (clockTicks s).room.phase = s.room.phase ∧ (clockTicks s).room.bookings = s.room.bookings ∧
    (clockTicks s).lockout.profiles = s.lockout.profiles ∧
    (clockTicks s).lockout.serviceEnabled = s.lockout.serviceEnabled ∧
    (clockTicks s).lockout.locked = s.lockout.locked ∧ (clockTicks s).lockout.mismatch = s.lockout.mismatch ∧
    (clockTicks s).lockout.mode = s.lockout.mode ∧ (clockTicks s).store.slots = s.store.slots ∧
    (clockTicks s).store.records = s.store.records ∧ (clockTicks s).store.loaded = s.store.loaded ∧
    (clockTicks s).store.install = s.store.install ∧ (clockTicks s).store.room = s.store.room ∧
    (clockTicks s).store.protect = s.store.protect ∧ (clockTicks s).store.window = s.store.window ∧
    (clockTicks s).store.engine = s.store.engine ∧ (clockTicks s).store.wipe = s.store.wipe ∧
    (clockTicks s).pending = s.pending := by
  unfold clockTicks; try dsimp only
  all_goals (repeat' split)
  all_goals first | (simp; done) | (simp_all; done) | rfl

@[simp] theorem missOccurrence_frame (origin : Origin) (s : State) (o : Occurrence) :
    quietPorts (missOccurrence origin s o).ports = quietPorts s.ports ∧ (missOccurrence origin s o).lamp = s.lamp ∧
    (missOccurrence origin s o).power = s.power ∧ (missOccurrence origin s o).link = s.link ∧
    (missOccurrence origin s o).router = s.router ∧ (missOccurrence origin s o).geometry = s.geometry ∧
    (missOccurrence origin s o).room.clock = s.room.clock ∧ (missOccurrence origin s o).room.phase = s.room.phase ∧
    (missOccurrence origin s o).room.bookings = s.room.bookings ∧
    (missOccurrence origin s o).room.exceptions = s.room.exceptions ∧
    (missOccurrence origin s o).room.state = s.room.state ∧
    (missOccurrence origin s o).room.current = s.room.current ∧
    (missOccurrence origin s o).room.extension = s.room.extension ∧
    (missOccurrence origin s o).room.scheduleBlank = s.room.scheduleBlank ∧
    (missOccurrence origin s o).lockout = s.lockout ∧ (missOccurrence origin s o).store = s.store ∧
    (missOccurrence origin s o).pending = s.pending := by
  unfold missOccurrence; try dsimp only
  all_goals (repeat' split)
  all_goals first | (simp; done) | (simp_all; done) | rfl

@[simp] theorem missFold_frame (o : Origin) (l : List Occurrence) (s : State) : quietPorts (List.foldl (missOccurrence o) s l).ports = quietPorts s.ports ∧
    (List.foldl (missOccurrence o) s l).lamp = s.lamp ∧ (List.foldl (missOccurrence o) s l).power = s.power ∧
    (List.foldl (missOccurrence o) s l).link = s.link ∧ (List.foldl (missOccurrence o) s l).router = s.router ∧
    (List.foldl (missOccurrence o) s l).geometry = s.geometry ∧
    (List.foldl (missOccurrence o) s l).lockout = s.lockout ∧ (List.foldl (missOccurrence o) s l).store = s.store ∧
    (List.foldl (missOccurrence o) s l).room.clock = s.room.clock ∧
    (List.foldl (missOccurrence o) s l).room.phase = s.room.phase ∧
    (List.foldl (missOccurrence o) s l).room.bookings = s.room.bookings ∧
    (List.foldl (missOccurrence o) s l).room.exceptions = s.room.exceptions ∧
    (List.foldl (missOccurrence o) s l).room.state = s.room.state ∧
    (List.foldl (missOccurrence o) s l).room.current = s.room.current ∧
    (List.foldl (missOccurrence o) s l).room.extension = s.room.extension ∧
    (List.foldl (missOccurrence o) s l).room.scheduleBlank = s.room.scheduleBlank ∧
    (List.foldl (missOccurrence o) s l).pending = s.pending := by
  induction l generalizing s with
  | nil => simp
  | cons a r ih => simp [ih]

@[simp] theorem jumpClock_frame (c : Clock) (origin : Origin) (s : State) :
    quietPorts (jumpClock c origin s).ports = quietPorts s.ports ∧
    (jumpClock c origin s).lamp.newest = s.lamp.newest ∧
    (jumpClock c origin s).lamp.replaceInFlight = s.lamp.replaceInFlight ∧
    (jumpClock c origin s).lamp.history = s.lamp.history ∧ (jumpClock c origin s).link.state = s.link.state ∧
    (jumpClock c origin s).link.silence = s.link.silence ∧ (jumpClock c origin s).link.answer = s.link.answer ∧
    (jumpClock c origin s).link.nextTag = s.link.nextTag ∧
    (jumpClock c origin s).link.reportImage = s.link.reportImage ∧
    (jumpClock c origin s).link.lastFormat = s.link.lastFormat ∧
    (jumpClock c origin s).link.lastRejection = s.link.lastRejection ∧
    (jumpClock c origin s).link.lostFor = s.link.lostFor ∧
    (jumpClock c origin s).link.sinceMessage = s.link.sinceMessage ∧
    (jumpClock c origin s).link.receiver = s.link.receiver ∧ (jumpClock c origin s).link.transmit = s.link.transmit ∧
    (jumpClock c origin s).router.sources = s.router.sources ∧ (jumpClock c origin s).router.raw = s.router.raw ∧
    (jumpClock c origin s).router.debounced = s.router.debounced ∧
    (jumpClock c origin s).router.stability = s.router.stability ∧
    (jumpClock c origin s).router.sample = s.router.sample ∧
    (jumpClock c origin s).router.resolved = s.router.resolved ∧
    (jumpClock c origin s).geometry.presets = s.geometry.presets ∧
    (jumpClock c origin s).geometry.format = s.geometry.format ∧
    (jumpClock c origin s).geometry.started = s.geometry.started ∧ (jumpClock c origin s).room.phase = s.room.phase ∧
    (jumpClock c origin s).room.bookings = s.room.bookings ∧
    (jumpClock c origin s).lockout.profiles = s.lockout.profiles ∧
    (jumpClock c origin s).lockout.serviceEnabled = s.lockout.serviceEnabled ∧
    (jumpClock c origin s).lockout.locked = s.lockout.locked ∧
    (jumpClock c origin s).lockout.mismatch = s.lockout.mismatch ∧
    (jumpClock c origin s).lockout.mode = s.lockout.mode ∧ (jumpClock c origin s).store.slots = s.store.slots ∧
    (jumpClock c origin s).store.records = s.store.records ∧ (jumpClock c origin s).store.loaded = s.store.loaded ∧
    (jumpClock c origin s).store.install = s.store.install ∧ (jumpClock c origin s).store.room = s.store.room ∧
    (jumpClock c origin s).store.protect = s.store.protect ∧ (jumpClock c origin s).store.window = s.store.window ∧
    (jumpClock c origin s).store.engine = s.store.engine ∧ (jumpClock c origin s).store.wipe = s.store.wipe ∧
    (jumpClock c origin s).pending = s.pending := by
  unfold jumpClock; try dsimp only
  all_goals (repeat' split)
  all_goals first | (simp; done) | (simp_all; done) | rfl

@[simp] theorem cleanSlot_frame (s : State) (id : Fin 64) :
    quietPorts (cleanSlot s id).ports = quietPorts s.ports ∧ (cleanSlot s id).lamp = s.lamp ∧
    (cleanSlot s id).power = s.power ∧ (cleanSlot s id).link = s.link ∧ (cleanSlot s id).router = s.router ∧
    (cleanSlot s id).geometry = s.geometry ∧ (cleanSlot s id).room.clock = s.room.clock ∧
    (cleanSlot s id).room.phase = s.room.phase ∧ (cleanSlot s id).room.exceptions = s.room.exceptions ∧
    (cleanSlot s id).room.state = s.room.state ∧ (cleanSlot s id).room.current = s.room.current ∧
    (cleanSlot s id).room.extension = s.room.extension ∧ (cleanSlot s id).room.taken = s.room.taken ∧
    (cleanSlot s id).room.scheduleBlank = s.room.scheduleBlank ∧ (cleanSlot s id).lockout = s.lockout ∧
    (cleanSlot s id).store.slots = s.store.slots ∧ (cleanSlot s id).store.records = s.store.records ∧
    (cleanSlot s id).store.loaded = s.store.loaded ∧ (cleanSlot s id).store.install = s.store.install ∧
    (cleanSlot s id).store.room = s.store.room ∧ (cleanSlot s id).store.protect = s.store.protect ∧
    (cleanSlot s id).store.window = s.store.window ∧ (cleanSlot s id).store.engine = s.store.engine ∧
    (cleanSlot s id).store.wipe = s.store.wipe ∧ (cleanSlot s id).pending = s.pending := by
  unfold cleanSlot; try dsimp only
  all_goals (repeat' split)
  all_goals first | (simp; done) | (simp_all; done) | rfl

@[simp] theorem cleanFold_frame  (l : List (Fin 64)) (s : State) : quietPorts (List.foldl cleanSlot s l).ports = quietPorts s.ports ∧
    (List.foldl cleanSlot s l).lamp = s.lamp ∧ (List.foldl cleanSlot s l).power = s.power ∧
    (List.foldl cleanSlot s l).link = s.link ∧ (List.foldl cleanSlot s l).router = s.router ∧
    (List.foldl cleanSlot s l).geometry = s.geometry ∧ (List.foldl cleanSlot s l).lockout = s.lockout ∧
    (List.foldl cleanSlot s l).room.clock = s.room.clock ∧ (List.foldl cleanSlot s l).room.phase = s.room.phase ∧
    (List.foldl cleanSlot s l).room.exceptions = s.room.exceptions ∧
    (List.foldl cleanSlot s l).room.state = s.room.state ∧ (List.foldl cleanSlot s l).room.current = s.room.current ∧
    (List.foldl cleanSlot s l).room.extension = s.room.extension ∧
    (List.foldl cleanSlot s l).room.taken = s.room.taken ∧
    (List.foldl cleanSlot s l).room.scheduleBlank = s.room.scheduleBlank ∧
    (List.foldl cleanSlot s l).store.slots = s.store.slots ∧
    (List.foldl cleanSlot s l).store.records = s.store.records ∧
    (List.foldl cleanSlot s l).store.loaded = s.store.loaded ∧
    (List.foldl cleanSlot s l).store.install = s.store.install ∧
    (List.foldl cleanSlot s l).store.room = s.store.room ∧
    (List.foldl cleanSlot s l).store.protect = s.store.protect ∧
    (List.foldl cleanSlot s l).store.window = s.store.window ∧
    (List.foldl cleanSlot s l).store.engine = s.store.engine ∧ (List.foldl cleanSlot s l).store.wipe = s.store.wipe ∧
    (List.foldl cleanSlot s l).pending = s.pending := by
  induction l generalizing s with
  | nil => simp
  | cons a r ih => simp [ih]

@[simp] theorem cleanTable_frame (s : State) :
    quietPorts (cleanTable s).ports = quietPorts s.ports ∧ (cleanTable s).lamp = s.lamp ∧
    (cleanTable s).power = s.power ∧ (cleanTable s).link = s.link ∧ (cleanTable s).router = s.router ∧
    (cleanTable s).geometry = s.geometry ∧ (cleanTable s).room.clock = s.room.clock ∧
    (cleanTable s).room.phase = s.room.phase ∧ (cleanTable s).room.state = s.room.state ∧
    (cleanTable s).room.current = s.room.current ∧ (cleanTable s).room.extension = s.room.extension ∧
    (cleanTable s).room.taken = s.room.taken ∧ (cleanTable s).room.scheduleBlank = s.room.scheduleBlank ∧
    (cleanTable s).lockout = s.lockout ∧ (cleanTable s).store.slots = s.store.slots ∧
    (cleanTable s).store.records = s.store.records ∧ (cleanTable s).store.loaded = s.store.loaded ∧
    (cleanTable s).store.install = s.store.install ∧ (cleanTable s).store.room = s.store.room ∧
    (cleanTable s).store.protect = s.store.protect ∧ (cleanTable s).store.window = s.store.window ∧
    (cleanTable s).store.engine = s.store.engine ∧ (cleanTable s).store.wipe = s.store.wipe ∧
    (cleanTable s).pending = s.pending := by
  unfold cleanTable; try dsimp only
  all_goals (repeat' split)
  all_goals first | (simp; done) | (simp_all; done) | rfl

@[simp] theorem loadRoom_frame (s : State) :
    quietPorts (loadRoom s).ports = quietPorts s.ports ∧ (loadRoom s).lamp.newest = s.lamp.newest ∧
    (loadRoom s).lamp.replaceInFlight = s.lamp.replaceInFlight ∧ (loadRoom s).lamp.history = s.lamp.history ∧
    (loadRoom s).link.state = s.link.state ∧ (loadRoom s).link.silence = s.link.silence ∧
    (loadRoom s).link.answer = s.link.answer ∧ (loadRoom s).link.nextTag = s.link.nextTag ∧
    (loadRoom s).link.reportImage = s.link.reportImage ∧ (loadRoom s).link.lastFormat = s.link.lastFormat ∧
    (loadRoom s).link.lastRejection = s.link.lastRejection ∧ (loadRoom s).link.lostFor = s.link.lostFor ∧
    (loadRoom s).link.sinceMessage = s.link.sinceMessage ∧ (loadRoom s).link.receiver = s.link.receiver ∧
    (loadRoom s).link.transmit = s.link.transmit ∧ (loadRoom s).router.sources = s.router.sources ∧
    (loadRoom s).router.raw = s.router.raw ∧ (loadRoom s).router.debounced = s.router.debounced ∧
    (loadRoom s).router.stability = s.router.stability ∧ (loadRoom s).router.sample = s.router.sample ∧
    (loadRoom s).router.resolved = s.router.resolved ∧ (loadRoom s).geometry.presets = s.geometry.presets ∧
    (loadRoom s).geometry.format = s.geometry.format ∧ (loadRoom s).geometry.started = s.geometry.started ∧
    (loadRoom s).room.clock = s.room.clock ∧ (loadRoom s).room.phase = s.room.phase ∧
    (loadRoom s).lockout.profiles = s.lockout.profiles ∧
    (loadRoom s).lockout.serviceEnabled = s.lockout.serviceEnabled ∧ (loadRoom s).lockout.locked = s.lockout.locked ∧
    (loadRoom s).lockout.mismatch = s.lockout.mismatch ∧ (loadRoom s).lockout.mode = s.lockout.mode ∧
    (loadRoom s).store.slots = s.store.slots ∧ (loadRoom s).store.records = s.store.records ∧
    (loadRoom s).store.loaded = s.store.loaded ∧ (loadRoom s).store.install = s.store.install ∧
    (loadRoom s).store.room = s.store.room ∧ (loadRoom s).store.protect = s.store.protect ∧
    (loadRoom s).store.window = s.store.window ∧ (loadRoom s).store.engine = s.store.engine ∧
    (loadRoom s).store.wipe = s.store.wipe ∧ (loadRoom s).pending = s.pending := by
  unfold loadRoom; try dsimp only
  all_goals (repeat' split)
  all_goals first | (simp; done) | (simp_all; done) | rfl

@[simp] theorem headReturnedRoom_frame (s : State) :
    quietPorts (headReturnedRoom s).ports = quietPorts s.ports ∧ (headReturnedRoom s).lamp.newest = s.lamp.newest ∧
    (headReturnedRoom s).lamp.replaceInFlight = s.lamp.replaceInFlight ∧
    (headReturnedRoom s).lamp.history = s.lamp.history ∧ (headReturnedRoom s).link.state = s.link.state ∧
    (headReturnedRoom s).link.silence = s.link.silence ∧ (headReturnedRoom s).link.outstanding = s.link.outstanding ∧
    (headReturnedRoom s).link.answer = s.link.answer ∧ (headReturnedRoom s).link.nextTag = s.link.nextTag ∧
    (headReturnedRoom s).link.lane = s.link.lane ∧ (headReturnedRoom s).link.reportImage = s.link.reportImage ∧
    (headReturnedRoom s).link.lastFormat = s.link.lastFormat ∧
    (headReturnedRoom s).link.lastRejection = s.link.lastRejection ∧
    (headReturnedRoom s).link.lostFor = s.link.lostFor ∧
    (headReturnedRoom s).link.sinceMessage = s.link.sinceMessage ∧
    (headReturnedRoom s).link.lastSet = s.link.lastSet ∧ (headReturnedRoom s).link.receiver = s.link.receiver ∧
    (headReturnedRoom s).link.transmit = s.link.transmit ∧ (headReturnedRoom s).router.sources = s.router.sources ∧
    (headReturnedRoom s).router.raw = s.router.raw ∧ (headReturnedRoom s).router.debounced = s.router.debounced ∧
    (headReturnedRoom s).router.stability = s.router.stability ∧
    (headReturnedRoom s).router.sample = s.router.sample ∧
    (headReturnedRoom s).router.requested = s.router.requested ∧
    (headReturnedRoom s).router.routedInput = s.router.routedInput ∧
    (headReturnedRoom s).router.routedSource = s.router.routedSource ∧
    (headReturnedRoom s).router.state = s.router.state ∧ (headReturnedRoom s).router.format = s.router.format ∧
    (headReturnedRoom s).router.chain = s.router.chain ∧
    (headReturnedRoom s).router.pendingSlot = s.router.pendingSlot ∧
    (headReturnedRoom s).router.deferred = s.router.deferred ∧ (headReturnedRoom s).router.settle = s.router.settle ∧
    (headReturnedRoom s).router.settleOrigin = s.router.settleOrigin ∧
    (headReturnedRoom s).router.resolved = s.router.resolved ∧ (headReturnedRoom s).geometry = s.geometry ∧
    (headReturnedRoom s).room = s.room ∧ (headReturnedRoom s).lockout = s.lockout ∧
    (headReturnedRoom s).store.slots = s.store.slots ∧ (headReturnedRoom s).store.records = s.store.records ∧
    (headReturnedRoom s).store.loaded = s.store.loaded ∧ (headReturnedRoom s).store.install = s.store.install ∧
    (headReturnedRoom s).store.room = s.store.room ∧ (headReturnedRoom s).store.protect = s.store.protect ∧
    (headReturnedRoom s).store.window = s.store.window ∧ (headReturnedRoom s).store.engine = s.store.engine ∧
    (headReturnedRoom s).store.wipe = s.store.wipe ∧ (headReturnedRoom s).pending = s.pending := by
  unfold headReturnedRoom; try dsimp only
  all_goals (repeat' split)
  all_goals first | (simp; done) | (simp_all; done) | rfl

/-! ## Link -/

@[simp] theorem linkPresent_frame (s : State) :
    (linkPresent s).ports = s.ports ∧ (linkPresent s).lamp = s.lamp ∧ (linkPresent s).power = s.power ∧
    (linkPresent s).link.outstanding = s.link.outstanding ∧ (linkPresent s).link.answer = s.link.answer ∧
    (linkPresent s).link.nextTag = s.link.nextTag ∧ (linkPresent s).link.control = s.link.control ∧
    (linkPresent s).link.lane = s.link.lane ∧ (linkPresent s).link.reportImage = s.link.reportImage ∧
    (linkPresent s).link.lastFormat = s.link.lastFormat ∧ (linkPresent s).link.lastRejection = s.link.lastRejection ∧
    (linkPresent s).link.sinceMessage = s.link.sinceMessage ∧ (linkPresent s).link.lastSet = s.link.lastSet ∧
    (linkPresent s).link.receiver = s.link.receiver ∧ (linkPresent s).link.transmit = s.link.transmit ∧
    (linkPresent s).router = s.router ∧ (linkPresent s).geometry = s.geometry ∧ (linkPresent s).room = s.room ∧
    (linkPresent s).lockout = s.lockout ∧ (linkPresent s).store = s.store ∧ (linkPresent s).free = s.free ∧
    (linkPresent s).pending = s.pending := by
  unfold linkPresent; try dsimp only
  all_goals (repeat' split)
  all_goals first | (simp; done) | (simp_all; done) | rfl

@[simp] theorem handMode_frame (s : State) :
    (handMode s).ports = s.ports ∧ (handMode s).lamp = s.lamp ∧ (handMode s).power = s.power ∧
    (handMode s).link.state = s.link.state ∧ (handMode s).link.silence = s.link.silence ∧
    (handMode s).link.outstanding = s.link.outstanding ∧ (handMode s).link.answer = s.link.answer ∧
    (handMode s).link.nextTag = s.link.nextTag ∧ (handMode s).link.lane = s.link.lane ∧
    (handMode s).link.reportImage = s.link.reportImage ∧ (handMode s).link.lastFormat = s.link.lastFormat ∧
    (handMode s).link.lastRejection = s.link.lastRejection ∧ (handMode s).link.lostFor = s.link.lostFor ∧
    (handMode s).link.sinceMessage = s.link.sinceMessage ∧ (handMode s).link.lastSet = s.link.lastSet ∧
    (handMode s).link.receiver = s.link.receiver ∧ (handMode s).link.transmit = s.link.transmit ∧
    (handMode s).router = s.router ∧ (handMode s).geometry = s.geometry ∧ (handMode s).room = s.room ∧
    (handMode s).lockout = s.lockout ∧ (handMode s).store = s.store ∧ (handMode s).free = s.free ∧
    (handMode s).pending = s.pending := by
  unfold handMode; try dsimp only
  all_goals (repeat' split)
  all_goals first | (simp; done) | (simp_all; done) | rfl

@[simp] theorem askStatus_frame (t : HeadType) (s : State) :
    (askStatus t s).ports = s.ports ∧ (askStatus t s).lamp = s.lamp ∧ (askStatus t s).power = s.power ∧
    (askStatus t s).link.state = s.link.state ∧ (askStatus t s).link.silence = s.link.silence ∧
    (askStatus t s).link.outstanding = s.link.outstanding ∧ (askStatus t s).link.answer = s.link.answer ∧
    (askStatus t s).link.nextTag = s.link.nextTag ∧ (askStatus t s).link.lane = s.link.lane ∧
    (askStatus t s).link.reportImage = s.link.reportImage ∧ (askStatus t s).link.lastFormat = s.link.lastFormat ∧
    (askStatus t s).link.lastRejection = s.link.lastRejection ∧ (askStatus t s).link.lostFor = s.link.lostFor ∧
    (askStatus t s).link.sinceMessage = s.link.sinceMessage ∧ (askStatus t s).link.lastSet = s.link.lastSet ∧
    (askStatus t s).link.receiver = s.link.receiver ∧ (askStatus t s).link.transmit = s.link.transmit ∧
    (askStatus t s).router = s.router ∧ (askStatus t s).geometry = s.geometry ∧ (askStatus t s).room = s.room ∧
    (askStatus t s).lockout = s.lockout ∧ (askStatus t s).store = s.store ∧ (askStatus t s).free = s.free ∧
    (askStatus t s).pending = s.pending := by
  unfold askStatus; try dsimp only
  all_goals (repeat' split)
  all_goals first | (simp; done) | (simp_all; done) | rfl

@[simp] theorem headReturns_frame (t : HeadType) (s : State) :
    quietPorts (headReturns t s).ports = quietPorts s.ports ∧ (headReturns t s).lamp.newest = s.lamp.newest ∧
    (headReturns t s).lamp.replaceInFlight = s.lamp.replaceInFlight ∧
    (headReturns t s).lamp.history = s.lamp.history ∧ (headReturns t s).link.answer = s.link.answer ∧
    (headReturns t s).link.nextTag = s.link.nextTag ∧ (headReturns t s).link.reportImage = s.link.reportImage ∧
    (headReturns t s).link.lastFormat = s.link.lastFormat ∧
    (headReturns t s).link.lastRejection = s.link.lastRejection ∧
    (headReturns t s).link.sinceMessage = s.link.sinceMessage ∧ (headReturns t s).link.receiver = s.link.receiver ∧
    (headReturns t s).link.transmit = s.link.transmit ∧ (headReturns t s).router.sources = s.router.sources ∧
    (headReturns t s).router.raw = s.router.raw ∧ (headReturns t s).router.debounced = s.router.debounced ∧
    (headReturns t s).router.stability = s.router.stability ∧ (headReturns t s).router.sample = s.router.sample ∧
    (headReturns t s).router.requested = s.router.requested ∧
    (headReturns t s).router.routedInput = s.router.routedInput ∧
    (headReturns t s).router.routedSource = s.router.routedSource ∧ (headReturns t s).router.state = s.router.state ∧
    (headReturns t s).router.format = s.router.format ∧ (headReturns t s).router.chain = s.router.chain ∧
    (headReturns t s).router.pendingSlot = s.router.pendingSlot ∧
    (headReturns t s).router.deferred = s.router.deferred ∧ (headReturns t s).router.settle = s.router.settle ∧
    (headReturns t s).router.settleOrigin = s.router.settleOrigin ∧
    (headReturns t s).router.resolved = s.router.resolved ∧ (headReturns t s).geometry.presets = s.geometry.presets ∧
    (headReturns t s).geometry.overlay = s.geometry.overlay ∧
    (headReturns t s).geometry.momentary = s.geometry.momentary ∧
    (headReturns t s).geometry.routed = s.geometry.routed ∧ (headReturns t s).geometry.format = s.geometry.format ∧
    (headReturns t s).geometry.started = s.geometry.started ∧ (headReturns t s).room = s.room ∧
    (headReturns t s).lockout = s.lockout ∧ (headReturns t s).store.slots = s.store.slots ∧
    (headReturns t s).store.records = s.store.records ∧ (headReturns t s).store.loaded = s.store.loaded ∧
    (headReturns t s).store.install = s.store.install ∧ (headReturns t s).store.room = s.store.room ∧
    (headReturns t s).store.protect = s.store.protect ∧ (headReturns t s).store.window = s.store.window ∧
    (headReturns t s).store.engine = s.store.engine ∧ (headReturns t s).store.wipe = s.store.wipe ∧
    (headReturns t s).pending = s.pending := by
  unfold headReturns; try dsimp only
  all_goals (repeat' split)
  all_goals first | (simp; done) | (simp_all; done) | rfl

@[simp] theorem headArrives_frame (t : HeadType) (s : State) :
    quietPorts (headArrives t s).ports = quietPorts s.ports ∧ (headArrives t s).lamp.newest = s.lamp.newest ∧
    (headArrives t s).lamp.replaceInFlight = s.lamp.replaceInFlight ∧
    (headArrives t s).lamp.history = s.lamp.history ∧ (headArrives t s).link.answer = s.link.answer ∧
    (headArrives t s).link.nextTag = s.link.nextTag ∧ (headArrives t s).link.reportImage = s.link.reportImage ∧
    (headArrives t s).link.lastFormat = s.link.lastFormat ∧
    (headArrives t s).link.lastRejection = s.link.lastRejection ∧ (headArrives t s).link.receiver = s.link.receiver ∧
    (headArrives t s).link.transmit = s.link.transmit ∧ (headArrives t s).router.sources = s.router.sources ∧
    (headArrives t s).router.raw = s.router.raw ∧ (headArrives t s).router.debounced = s.router.debounced ∧
    (headArrives t s).router.stability = s.router.stability ∧ (headArrives t s).router.sample = s.router.sample ∧
    (headArrives t s).router.requested = s.router.requested ∧
    (headArrives t s).router.routedInput = s.router.routedInput ∧
    (headArrives t s).router.routedSource = s.router.routedSource ∧ (headArrives t s).router.state = s.router.state ∧
    (headArrives t s).router.format = s.router.format ∧ (headArrives t s).router.chain = s.router.chain ∧
    (headArrives t s).router.pendingSlot = s.router.pendingSlot ∧
    (headArrives t s).router.deferred = s.router.deferred ∧ (headArrives t s).router.settle = s.router.settle ∧
    (headArrives t s).router.settleOrigin = s.router.settleOrigin ∧
    (headArrives t s).router.resolved = s.router.resolved ∧ (headArrives t s).geometry.presets = s.geometry.presets ∧
    (headArrives t s).geometry.overlay = s.geometry.overlay ∧
    (headArrives t s).geometry.momentary = s.geometry.momentary ∧
    (headArrives t s).geometry.routed = s.geometry.routed ∧ (headArrives t s).geometry.format = s.geometry.format ∧
    (headArrives t s).geometry.started = s.geometry.started ∧ (headArrives t s).room = s.room ∧
    (headArrives t s).lockout = s.lockout ∧ (headArrives t s).store.slots = s.store.slots ∧
    (headArrives t s).store.records = s.store.records ∧ (headArrives t s).store.loaded = s.store.loaded ∧
    (headArrives t s).store.install = s.store.install ∧ (headArrives t s).store.room = s.store.room ∧
    (headArrives t s).store.protect = s.store.protect ∧ (headArrives t s).store.window = s.store.window ∧
    (headArrives t s).store.engine = s.store.engine ∧ (headArrives t s).store.wipe = s.store.wipe ∧
    (headArrives t s).pending = s.pending := by
  unfold headArrives; try dsimp only
  all_goals (repeat' split)
  all_goals first | (simp; done) | (simp_all; done) | rfl

@[simp] theorem headRestarts_frame (r : Report) (lastSet : Option (BitVec 8)) (returned : Bool) (s : State) :
    quietPorts (headRestarts r lastSet returned s).ports = quietPorts s.ports ∧
    (headRestarts r lastSet returned s).lamp = s.lamp ∧ (headRestarts r lastSet returned s).power = s.power ∧
    (headRestarts r lastSet returned s).link.state = s.link.state ∧
    (headRestarts r lastSet returned s).link.silence = s.link.silence ∧
    (headRestarts r lastSet returned s).link.answer = s.link.answer ∧
    (headRestarts r lastSet returned s).link.nextTag = s.link.nextTag ∧
    (headRestarts r lastSet returned s).link.reportImage = s.link.reportImage ∧
    (headRestarts r lastSet returned s).link.lastFormat = s.link.lastFormat ∧
    (headRestarts r lastSet returned s).link.lastRejection = s.link.lastRejection ∧
    (headRestarts r lastSet returned s).link.lostFor = s.link.lostFor ∧
    (headRestarts r lastSet returned s).link.sinceMessage = s.link.sinceMessage ∧
    (headRestarts r lastSet returned s).link.receiver = s.link.receiver ∧
    (headRestarts r lastSet returned s).link.transmit = s.link.transmit ∧
    (headRestarts r lastSet returned s).router = s.router ∧
    (headRestarts r lastSet returned s).geometry.presets = s.geometry.presets ∧
    (headRestarts r lastSet returned s).geometry.overlay = s.geometry.overlay ∧
    (headRestarts r lastSet returned s).geometry.momentary = s.geometry.momentary ∧
    (headRestarts r lastSet returned s).geometry.routed = s.geometry.routed ∧
    (headRestarts r lastSet returned s).geometry.format = s.geometry.format ∧
    (headRestarts r lastSet returned s).geometry.started = s.geometry.started ∧
    (headRestarts r lastSet returned s).room = s.room ∧ (headRestarts r lastSet returned s).lockout = s.lockout ∧
    (headRestarts r lastSet returned s).store = s.store ∧ (headRestarts r lastSet returned s).pending = s.pending := by
  unfold headRestarts; try dsimp only
  all_goals (repeat' split)
  all_goals first | (simp; done) | (simp_all; done) | rfl

@[simp] theorem linkLost_frame (c : LossCause) (s : State) :
    quietPorts (linkLost c s).ports = quietPorts s.ports ∧ (linkLost c s).lamp.newest = s.lamp.newest ∧
    (linkLost c s).lamp.replaceInFlight = s.lamp.replaceInFlight ∧ (linkLost c s).lamp.history = s.lamp.history ∧
    (linkLost c s).router.sources = s.router.sources ∧ (linkLost c s).router.raw = s.router.raw ∧
    (linkLost c s).router.debounced = s.router.debounced ∧ (linkLost c s).router.stability = s.router.stability ∧
    (linkLost c s).router.sample = s.router.sample ∧ (linkLost c s).router.requested = s.router.requested ∧
    (linkLost c s).router.routedInput = s.router.routedInput ∧
    (linkLost c s).router.routedSource = s.router.routedSource ∧ (linkLost c s).router.state = s.router.state ∧
    (linkLost c s).router.format = s.router.format ∧ (linkLost c s).router.chain = s.router.chain ∧
    (linkLost c s).router.pendingSlot = s.router.pendingSlot ∧ (linkLost c s).router.deferred = s.router.deferred ∧
    (linkLost c s).router.settle = s.router.settle ∧ (linkLost c s).router.settleOrigin = s.router.settleOrigin ∧
    (linkLost c s).router.resolved = s.router.resolved ∧ (linkLost c s).geometry.presets = s.geometry.presets ∧
    (linkLost c s).geometry.overlay = s.geometry.overlay ∧ (linkLost c s).geometry.momentary = s.geometry.momentary ∧
    (linkLost c s).geometry.routed = s.geometry.routed ∧ (linkLost c s).geometry.format = s.geometry.format ∧
    (linkLost c s).geometry.started = s.geometry.started ∧ (linkLost c s).geometry.active = s.geometry.active ∧
    (linkLost c s).geometry.current = s.geometry.current ∧ (linkLost c s).geometry.setNumber = s.geometry.setNumber ∧
    (linkLost c s).geometry.commitAcked = s.geometry.commitAcked ∧
    (linkLost c s).geometry.keptResend = s.geometry.keptResend ∧ (linkLost c s).room = s.room ∧
    (linkLost c s).lockout = s.lockout ∧ (linkLost c s).store.slots = s.store.slots ∧
    (linkLost c s).store.records = s.store.records ∧ (linkLost c s).store.loaded = s.store.loaded ∧
    (linkLost c s).store.install = s.store.install ∧ (linkLost c s).store.room = s.store.room ∧
    (linkLost c s).store.protect = s.store.protect ∧ (linkLost c s).store.window = s.store.window ∧
    (linkLost c s).store.engine = s.store.engine ∧ (linkLost c s).store.wipe = s.store.wipe ∧
    (linkLost c s).pending = s.pending := by
  unfold linkLost; try dsimp only
  all_goals (repeat' split)
  all_goals first | (simp; done) | (simp_all; done) | rfl

@[simp] theorem endExchange_frame (s : State) :
    (endExchange s).ports = s.ports ∧ (endExchange s).lamp = s.lamp ∧ (endExchange s).power = s.power ∧
    (endExchange s).link.state = s.link.state ∧ (endExchange s).link.silence = s.link.silence ∧
    (endExchange s).link.nextTag = s.link.nextTag ∧ (endExchange s).link.control = s.link.control ∧
    (endExchange s).link.lane = s.link.lane ∧ (endExchange s).link.reportImage = s.link.reportImage ∧
    (endExchange s).link.lastFormat = s.link.lastFormat ∧ (endExchange s).link.lastRejection = s.link.lastRejection ∧
    (endExchange s).link.lostFor = s.link.lostFor ∧ (endExchange s).link.sinceMessage = s.link.sinceMessage ∧
    (endExchange s).link.lastSet = s.link.lastSet ∧ (endExchange s).link.receiver = s.link.receiver ∧
    (endExchange s).link.transmit = s.link.transmit ∧ (endExchange s).router = s.router ∧
    (endExchange s).geometry = s.geometry ∧ (endExchange s).room = s.room ∧ (endExchange s).lockout = s.lockout ∧
    (endExchange s).store = s.store ∧ (endExchange s).free = s.free ∧ (endExchange s).pending = s.pending := by
  unfold endExchange; try dsimp only
  all_goals (repeat' split)
  all_goals first | (simp; done) | (simp_all; done) | rfl

@[simp] theorem advanceLane_frame (s : State) :
    (advanceLane s).ports = s.ports ∧ (advanceLane s).lamp = s.lamp ∧ (advanceLane s).power = s.power ∧
    (advanceLane s).link.state = s.link.state ∧ (advanceLane s).link.silence = s.link.silence ∧
    (advanceLane s).link.outstanding = s.link.outstanding ∧ (advanceLane s).link.answer = s.link.answer ∧
    (advanceLane s).link.nextTag = s.link.nextTag ∧ (advanceLane s).link.control = s.link.control ∧
    (advanceLane s).link.reportImage = s.link.reportImage ∧ (advanceLane s).link.lastFormat = s.link.lastFormat ∧
    (advanceLane s).link.lastRejection = s.link.lastRejection ∧ (advanceLane s).link.lostFor = s.link.lostFor ∧
    (advanceLane s).link.sinceMessage = s.link.sinceMessage ∧ (advanceLane s).link.lastSet = s.link.lastSet ∧
    (advanceLane s).link.receiver = s.link.receiver ∧ (advanceLane s).link.transmit = s.link.transmit ∧
    (advanceLane s).router = s.router ∧ (advanceLane s).geometry = s.geometry ∧ (advanceLane s).room = s.room ∧
    (advanceLane s).lockout = s.lockout ∧ (advanceLane s).store = s.store ∧ (advanceLane s).free = s.free ∧
    (advanceLane s).pending = s.pending := by
  unfold advanceLane; try dsimp only
  all_goals (repeat' split)
  all_goals first | (simp; done) | (simp_all; done) | rfl

@[simp] theorem emptyLane_frame (s : State) :
    (emptyLane s).ports = s.ports ∧ (emptyLane s).lamp = s.lamp ∧ (emptyLane s).power = s.power ∧
    (emptyLane s).link.state = s.link.state ∧ (emptyLane s).link.silence = s.link.silence ∧
    (emptyLane s).link.outstanding = s.link.outstanding ∧ (emptyLane s).link.answer = s.link.answer ∧
    (emptyLane s).link.nextTag = s.link.nextTag ∧ (emptyLane s).link.control = s.link.control ∧
    (emptyLane s).link.reportImage = s.link.reportImage ∧ (emptyLane s).link.lastFormat = s.link.lastFormat ∧
    (emptyLane s).link.lastRejection = s.link.lastRejection ∧ (emptyLane s).link.lostFor = s.link.lostFor ∧
    (emptyLane s).link.sinceMessage = s.link.sinceMessage ∧ (emptyLane s).link.lastSet = s.link.lastSet ∧
    (emptyLane s).link.receiver = s.link.receiver ∧ (emptyLane s).link.transmit = s.link.transmit ∧
    (emptyLane s).router = s.router ∧ (emptyLane s).geometry = s.geometry ∧ (emptyLane s).room = s.room ∧
    (emptyLane s).lockout = s.lockout ∧ (emptyLane s).store = s.store ∧ (emptyLane s).free = s.free ∧
    (emptyLane s).pending = s.pending := by
  unfold emptyLane; try dsimp only
  all_goals (repeat' split)
  all_goals first | (simp; done) | (simp_all; done) | rfl

@[simp] theorem ackOk_frame (o : Outstanding) (s : State) :
    quietPorts (ackOk o s).ports = quietPorts s.ports ∧ (ackOk o s).lamp.newest = s.lamp.newest ∧
    (ackOk o s).lamp.burn = s.lamp.burn ∧ (ackOk o s).lamp.hotWindow = s.lamp.hotWindow ∧
    (ackOk o s).lamp.replaceInFlight = s.lamp.replaceInFlight ∧ (ackOk o s).lamp.history = s.lamp.history ∧
    (ackOk o s).power.state = s.power.state ∧ (ackOk o s).power.attempt = s.power.attempt ∧
    (ackOk o s).power.restartPending = s.power.restartPending ∧ (ackOk o s).power.offPending = s.power.offPending ∧
    (ackOk o s).power.ignitionOrigin = s.power.ignitionOrigin ∧ (ackOk o s).power.offOrigin = s.power.offOrigin ∧
    (ackOk o s).power.thermalHold = s.power.thermalHold ∧ (ackOk o s).power.shutter = s.power.shutter ∧
    (ackOk o s).power.momentaryMode = s.power.momentaryMode ∧
    (ackOk o s).power.modeEvaluated = s.power.modeEvaluated ∧ (ackOk o s).power.pauseTimer = s.power.pauseTimer ∧
    (ackOk o s).power.warmingTimer = s.power.warmingTimer ∧ (ackOk o s).power.coolingTimer = s.power.coolingTimer ∧
    (ackOk o s).power.blankDim = s.power.blankDim ∧ (ackOk o s).power.dimmed = s.power.dimmed ∧
    (ackOk o s).power.reportWait = s.power.reportWait ∧ (ackOk o s).link.state = s.link.state ∧
    (ackOk o s).link.silence = s.link.silence ∧ (ackOk o s).link.outstanding = s.link.outstanding ∧
    (ackOk o s).link.answer = s.link.answer ∧ (ackOk o s).link.nextTag = s.link.nextTag ∧
    (ackOk o s).link.reportImage = s.link.reportImage ∧ (ackOk o s).link.lastFormat = s.link.lastFormat ∧
    (ackOk o s).link.lastRejection = s.link.lastRejection ∧ (ackOk o s).link.lostFor = s.link.lostFor ∧
    (ackOk o s).link.sinceMessage = s.link.sinceMessage ∧ (ackOk o s).link.lastSet = s.link.lastSet ∧
    (ackOk o s).link.receiver = s.link.receiver ∧ (ackOk o s).link.transmit = s.link.transmit ∧
    (ackOk o s).router = s.router ∧ (ackOk o s).geometry.presets = s.geometry.presets ∧
    (ackOk o s).geometry.overlay = s.geometry.overlay ∧ (ackOk o s).geometry.momentary = s.geometry.momentary ∧
    (ackOk o s).geometry.routed = s.geometry.routed ∧ (ackOk o s).geometry.format = s.geometry.format ∧
    (ackOk o s).geometry.started = s.geometry.started ∧ (ackOk o s).geometry.active = s.geometry.active ∧
    (ackOk o s).geometry.current = s.geometry.current ∧ (ackOk o s).geometry.setNumber = s.geometry.setNumber ∧
    (ackOk o s).geometry.status = s.geometry.status ∧ (ackOk o s).geometry.keptResend = s.geometry.keptResend ∧
    (ackOk o s).room = s.room ∧ (ackOk o s).lockout = s.lockout ∧ (ackOk o s).store.slots = s.store.slots ∧
    (ackOk o s).store.records = s.store.records ∧ (ackOk o s).store.loaded = s.store.loaded ∧
    (ackOk o s).store.install = s.store.install ∧ (ackOk o s).store.room = s.store.room ∧
    (ackOk o s).store.protect = s.store.protect ∧ (ackOk o s).store.window = s.store.window ∧
    (ackOk o s).store.engine = s.store.engine ∧ (ackOk o s).store.wipe = s.store.wipe ∧
    (ackOk o s).pending = s.pending := by
  unfold ackOk; try dsimp only
  all_goals (repeat' split)
  all_goals first | (simp; done) | (simp_all; done) | rfl

@[simp] theorem ackReject_frame (o : Outstanding) (s : State) :
    quietPorts (ackReject o s).ports = quietPorts s.ports ∧ (ackReject o s).lamp.newest = s.lamp.newest ∧
    (ackReject o s).lamp.replaceInFlight = s.lamp.replaceInFlight ∧ (ackReject o s).lamp.history = s.lamp.history ∧
    (ackReject o s).link.state = s.link.state ∧ (ackReject o s).link.silence = s.link.silence ∧
    (ackReject o s).link.outstanding = s.link.outstanding ∧ (ackReject o s).link.answer = s.link.answer ∧
    (ackReject o s).link.nextTag = s.link.nextTag ∧ (ackReject o s).link.reportImage = s.link.reportImage ∧
    (ackReject o s).link.lastFormat = s.link.lastFormat ∧ (ackReject o s).link.lostFor = s.link.lostFor ∧
    (ackReject o s).link.sinceMessage = s.link.sinceMessage ∧ (ackReject o s).link.lastSet = s.link.lastSet ∧
    (ackReject o s).link.receiver = s.link.receiver ∧ (ackReject o s).link.transmit = s.link.transmit ∧
    (ackReject o s).router.sources = s.router.sources ∧ (ackReject o s).router.raw = s.router.raw ∧
    (ackReject o s).router.debounced = s.router.debounced ∧ (ackReject o s).router.stability = s.router.stability ∧
    (ackReject o s).router.sample = s.router.sample ∧ (ackReject o s).router.requested = s.router.requested ∧
    (ackReject o s).router.routedInput = s.router.routedInput ∧
    (ackReject o s).router.routedSource = s.router.routedSource ∧ (ackReject o s).router.state = s.router.state ∧
    (ackReject o s).router.format = s.router.format ∧ (ackReject o s).router.chain = s.router.chain ∧
    (ackReject o s).router.pendingSlot = s.router.pendingSlot ∧ (ackReject o s).router.deferred = s.router.deferred ∧
    (ackReject o s).router.settle = s.router.settle ∧ (ackReject o s).router.settleOrigin = s.router.settleOrigin ∧
    (ackReject o s).router.resolved = s.router.resolved ∧ (ackReject o s).geometry.presets = s.geometry.presets ∧
    (ackReject o s).geometry.overlay = s.geometry.overlay ∧
    (ackReject o s).geometry.momentary = s.geometry.momentary ∧ (ackReject o s).geometry.routed = s.geometry.routed ∧
    (ackReject o s).geometry.format = s.geometry.format ∧ (ackReject o s).geometry.started = s.geometry.started ∧
    (ackReject o s).geometry.active = s.geometry.active ∧ (ackReject o s).geometry.current = s.geometry.current ∧
    (ackReject o s).geometry.setNumber = s.geometry.setNumber ∧
    (ackReject o s).geometry.commitAcked = s.geometry.commitAcked ∧
    (ackReject o s).geometry.keptResend = s.geometry.keptResend ∧ (ackReject o s).room = s.room ∧
    (ackReject o s).lockout = s.lockout ∧ (ackReject o s).store.slots = s.store.slots ∧
    (ackReject o s).store.records = s.store.records ∧ (ackReject o s).store.loaded = s.store.loaded ∧
    (ackReject o s).store.install = s.store.install ∧ (ackReject o s).store.room = s.store.room ∧
    (ackReject o s).store.protect = s.store.protect ∧ (ackReject o s).store.window = s.store.window ∧
    (ackReject o s).store.engine = s.store.engine ∧ (ackReject o s).store.wipe = s.store.wipe ∧
    (ackReject o s).pending = s.pending := by
  unfold ackReject; try dsimp only
  all_goals (repeat' split)
  all_goals first | (simp; done) | (simp_all; done) | rfl

@[simp] theorem ackTaken_frame (tag : BitVec 3) (ok : Bool) (s : State) :
    quietPorts (ackTaken tag ok s).ports = quietPorts s.ports ∧ (ackTaken tag ok s).lamp.newest = s.lamp.newest ∧
    (ackTaken tag ok s).lamp.replaceInFlight = s.lamp.replaceInFlight ∧
    (ackTaken tag ok s).lamp.history = s.lamp.history ∧ (ackTaken tag ok s).link.state = s.link.state ∧
    (ackTaken tag ok s).link.silence = s.link.silence ∧ (ackTaken tag ok s).link.nextTag = s.link.nextTag ∧
    (ackTaken tag ok s).link.reportImage = s.link.reportImage ∧
    (ackTaken tag ok s).link.lastFormat = s.link.lastFormat ∧ (ackTaken tag ok s).link.lostFor = s.link.lostFor ∧
    (ackTaken tag ok s).link.sinceMessage = s.link.sinceMessage ∧ (ackTaken tag ok s).link.lastSet = s.link.lastSet ∧
    (ackTaken tag ok s).link.receiver = s.link.receiver ∧ (ackTaken tag ok s).link.transmit = s.link.transmit ∧
    (ackTaken tag ok s).router.sources = s.router.sources ∧ (ackTaken tag ok s).router.raw = s.router.raw ∧
    (ackTaken tag ok s).router.debounced = s.router.debounced ∧
    (ackTaken tag ok s).router.stability = s.router.stability ∧ (ackTaken tag ok s).router.sample = s.router.sample ∧
    (ackTaken tag ok s).router.requested = s.router.requested ∧
    (ackTaken tag ok s).router.routedInput = s.router.routedInput ∧
    (ackTaken tag ok s).router.routedSource = s.router.routedSource ∧
    (ackTaken tag ok s).router.state = s.router.state ∧ (ackTaken tag ok s).router.format = s.router.format ∧
    (ackTaken tag ok s).router.chain = s.router.chain ∧
    (ackTaken tag ok s).router.pendingSlot = s.router.pendingSlot ∧
    (ackTaken tag ok s).router.deferred = s.router.deferred ∧ (ackTaken tag ok s).router.settle = s.router.settle ∧
    (ackTaken tag ok s).router.settleOrigin = s.router.settleOrigin ∧
    (ackTaken tag ok s).router.resolved = s.router.resolved ∧
    (ackTaken tag ok s).geometry.presets = s.geometry.presets ∧
    (ackTaken tag ok s).geometry.overlay = s.geometry.overlay ∧
    (ackTaken tag ok s).geometry.momentary = s.geometry.momentary ∧
    (ackTaken tag ok s).geometry.routed = s.geometry.routed ∧
    (ackTaken tag ok s).geometry.format = s.geometry.format ∧
    (ackTaken tag ok s).geometry.started = s.geometry.started ∧
    (ackTaken tag ok s).geometry.active = s.geometry.active ∧
    (ackTaken tag ok s).geometry.current = s.geometry.current ∧
    (ackTaken tag ok s).geometry.setNumber = s.geometry.setNumber ∧
    (ackTaken tag ok s).geometry.keptResend = s.geometry.keptResend ∧ (ackTaken tag ok s).room = s.room ∧
    (ackTaken tag ok s).lockout = s.lockout ∧ (ackTaken tag ok s).store.slots = s.store.slots ∧
    (ackTaken tag ok s).store.records = s.store.records ∧ (ackTaken tag ok s).store.loaded = s.store.loaded ∧
    (ackTaken tag ok s).store.install = s.store.install ∧ (ackTaken tag ok s).store.room = s.store.room ∧
    (ackTaken tag ok s).store.protect = s.store.protect ∧ (ackTaken tag ok s).store.window = s.store.window ∧
    (ackTaken tag ok s).store.engine = s.store.engine ∧ (ackTaken tag ok s).store.wipe = s.store.wipe ∧
    (ackTaken tag ok s).pending = s.pending := by
  unfold ackTaken; try dsimp only
  all_goals (repeat' split)
  all_goals first | (simp; done) | (simp_all; done) | rfl

@[simp] theorem resend_frame (o : Outstanding) (s : State) :
    (resend o s).ports = s.ports ∧ (resend o s).lamp = s.lamp ∧ (resend o s).power = s.power ∧
    (resend o s).link.state = s.link.state ∧ (resend o s).link.silence = s.link.silence ∧
    (resend o s).link.nextTag = s.link.nextTag ∧ (resend o s).link.control = s.link.control ∧
    (resend o s).link.lane = s.link.lane ∧ (resend o s).link.reportImage = s.link.reportImage ∧
    (resend o s).link.lastFormat = s.link.lastFormat ∧ (resend o s).link.lastRejection = s.link.lastRejection ∧
    (resend o s).link.lostFor = s.link.lostFor ∧ (resend o s).link.sinceMessage = s.link.sinceMessage ∧
    (resend o s).link.lastSet = s.link.lastSet ∧ (resend o s).link.receiver = s.link.receiver ∧
    (resend o s).router = s.router ∧ (resend o s).geometry = s.geometry ∧ (resend o s).room = s.room ∧
    (resend o s).lockout = s.lockout ∧ (resend o s).store = s.store ∧ (resend o s).free = s.free ∧
    (resend o s).pending = s.pending := by
  unfold resend; try dsimp only
  all_goals (repeat' split)
  all_goals first | (simp; done) | (simp_all; done) | rfl

@[simp] theorem answerExpires_frame (s : State) :
    quietPorts (answerExpires s).ports = quietPorts s.ports ∧ (answerExpires s).lamp.newest = s.lamp.newest ∧
    (answerExpires s).lamp.replaceInFlight = s.lamp.replaceInFlight ∧
    (answerExpires s).lamp.history = s.lamp.history ∧ (answerExpires s).router.sources = s.router.sources ∧
    (answerExpires s).router.raw = s.router.raw ∧ (answerExpires s).router.debounced = s.router.debounced ∧
    (answerExpires s).router.stability = s.router.stability ∧ (answerExpires s).router.sample = s.router.sample ∧
    (answerExpires s).router.requested = s.router.requested ∧
    (answerExpires s).router.routedInput = s.router.routedInput ∧
    (answerExpires s).router.routedSource = s.router.routedSource ∧ (answerExpires s).router.state = s.router.state ∧
    (answerExpires s).router.format = s.router.format ∧ (answerExpires s).router.chain = s.router.chain ∧
    (answerExpires s).router.pendingSlot = s.router.pendingSlot ∧
    (answerExpires s).router.deferred = s.router.deferred ∧ (answerExpires s).router.settle = s.router.settle ∧
    (answerExpires s).router.settleOrigin = s.router.settleOrigin ∧
    (answerExpires s).router.resolved = s.router.resolved ∧ (answerExpires s).geometry.presets = s.geometry.presets ∧
    (answerExpires s).geometry.overlay = s.geometry.overlay ∧
    (answerExpires s).geometry.momentary = s.geometry.momentary ∧
    (answerExpires s).geometry.routed = s.geometry.routed ∧ (answerExpires s).geometry.format = s.geometry.format ∧
    (answerExpires s).geometry.started = s.geometry.started ∧ (answerExpires s).geometry.active = s.geometry.active ∧
    (answerExpires s).geometry.current = s.geometry.current ∧
    (answerExpires s).geometry.setNumber = s.geometry.setNumber ∧
    (answerExpires s).geometry.commitAcked = s.geometry.commitAcked ∧
    (answerExpires s).geometry.keptResend = s.geometry.keptResend ∧ (answerExpires s).room = s.room ∧
    (answerExpires s).lockout = s.lockout ∧ (answerExpires s).store.slots = s.store.slots ∧
    (answerExpires s).store.records = s.store.records ∧ (answerExpires s).store.loaded = s.store.loaded ∧
    (answerExpires s).store.install = s.store.install ∧ (answerExpires s).store.room = s.store.room ∧
    (answerExpires s).store.protect = s.store.protect ∧ (answerExpires s).store.window = s.store.window ∧
    (answerExpires s).store.engine = s.store.engine ∧ (answerExpires s).store.wipe = s.store.wipe ∧
    (answerExpires s).pending = s.pending := by
  unfold answerExpires; try dsimp only
  all_goals (repeat' split)
  all_goals first | (simp; done) | (simp_all; done) | rfl

@[simp] theorem messageLeaves_frame (s : State) :
    (messageLeaves s).ports = s.ports ∧ (messageLeaves s).lamp = s.lamp ∧ (messageLeaves s).power = s.power ∧
    (messageLeaves s).link.state = s.link.state ∧ (messageLeaves s).link.silence = s.link.silence ∧
    (messageLeaves s).link.outstanding = s.link.outstanding ∧ (messageLeaves s).link.nextTag = s.link.nextTag ∧
    (messageLeaves s).link.control = s.link.control ∧ (messageLeaves s).link.lane = s.link.lane ∧
    (messageLeaves s).link.reportImage = s.link.reportImage ∧ (messageLeaves s).link.lastFormat = s.link.lastFormat ∧
    (messageLeaves s).link.lastRejection = s.link.lastRejection ∧ (messageLeaves s).link.lostFor = s.link.lostFor ∧
    (messageLeaves s).link.sinceMessage = s.link.sinceMessage ∧ (messageLeaves s).link.lastSet = s.link.lastSet ∧
    (messageLeaves s).link.receiver = s.link.receiver ∧
    (messageLeaves s).router = s.router ∧ (messageLeaves s).geometry = s.geometry ∧ (messageLeaves s).room = s.room ∧
    (messageLeaves s).lockout = s.lockout ∧ (messageLeaves s).store = s.store ∧ (messageLeaves s).free = s.free ∧
    (messageLeaves s).pending = s.pending := by
  unfold messageLeaves; try dsimp only
  all_goals (repeat' split)
  all_goals first | (simp; done) | (simp_all; done) | rfl

@[simp] theorem silenceExpires_frame (s : State) :
    quietPorts (silenceExpires s).ports = quietPorts s.ports ∧ (silenceExpires s).lamp.newest = s.lamp.newest ∧
    (silenceExpires s).lamp.replaceInFlight = s.lamp.replaceInFlight ∧
    (silenceExpires s).lamp.history = s.lamp.history ∧ (silenceExpires s).router.sources = s.router.sources ∧
    (silenceExpires s).router.raw = s.router.raw ∧ (silenceExpires s).router.debounced = s.router.debounced ∧
    (silenceExpires s).router.stability = s.router.stability ∧ (silenceExpires s).router.sample = s.router.sample ∧
    (silenceExpires s).router.requested = s.router.requested ∧
    (silenceExpires s).router.routedInput = s.router.routedInput ∧
    (silenceExpires s).router.routedSource = s.router.routedSource ∧
    (silenceExpires s).router.state = s.router.state ∧ (silenceExpires s).router.format = s.router.format ∧
    (silenceExpires s).router.chain = s.router.chain ∧ (silenceExpires s).router.pendingSlot = s.router.pendingSlot ∧
    (silenceExpires s).router.deferred = s.router.deferred ∧ (silenceExpires s).router.settle = s.router.settle ∧
    (silenceExpires s).router.settleOrigin = s.router.settleOrigin ∧
    (silenceExpires s).router.resolved = s.router.resolved ∧
    (silenceExpires s).geometry.presets = s.geometry.presets ∧
    (silenceExpires s).geometry.overlay = s.geometry.overlay ∧
    (silenceExpires s).geometry.momentary = s.geometry.momentary ∧
    (silenceExpires s).geometry.routed = s.geometry.routed ∧ (silenceExpires s).geometry.format = s.geometry.format ∧
    (silenceExpires s).geometry.started = s.geometry.started ∧
    (silenceExpires s).geometry.active = s.geometry.active ∧
    (silenceExpires s).geometry.current = s.geometry.current ∧
    (silenceExpires s).geometry.setNumber = s.geometry.setNumber ∧
    (silenceExpires s).geometry.commitAcked = s.geometry.commitAcked ∧
    (silenceExpires s).geometry.keptResend = s.geometry.keptResend ∧ (silenceExpires s).room = s.room ∧
    (silenceExpires s).lockout = s.lockout ∧ (silenceExpires s).store.slots = s.store.slots ∧
    (silenceExpires s).store.records = s.store.records ∧ (silenceExpires s).store.loaded = s.store.loaded ∧
    (silenceExpires s).store.install = s.store.install ∧ (silenceExpires s).store.room = s.store.room ∧
    (silenceExpires s).store.protect = s.store.protect ∧ (silenceExpires s).store.window = s.store.window ∧
    (silenceExpires s).store.engine = s.store.engine ∧ (silenceExpires s).store.wipe = s.store.wipe ∧
    (silenceExpires s).pending = s.pending := by
  unfold silenceExpires; try dsimp only
  all_goals (repeat' split)
  all_goals first | (simp; done) | (simp_all; done) | rfl

@[simp] theorem reportTaken_frame (r : Report) (s : State) :
    quietPorts (reportTaken r s).ports = quietPorts s.ports ∧ (reportTaken r s).lamp.newest = s.lamp.newest ∧
    (reportTaken r s).lamp.replaceInFlight = s.lamp.replaceInFlight ∧
    (reportTaken r s).lamp.history = s.lamp.history ∧ (reportTaken r s).link.answer = s.link.answer ∧
    (reportTaken r s).link.nextTag = s.link.nextTag ∧ (reportTaken r s).link.lastFormat = s.link.lastFormat ∧
    (reportTaken r s).link.lastRejection = s.link.lastRejection ∧ (reportTaken r s).link.receiver = s.link.receiver ∧
    (reportTaken r s).link.transmit = s.link.transmit ∧ (reportTaken r s).router.sources = s.router.sources ∧
    (reportTaken r s).router.raw = s.router.raw ∧ (reportTaken r s).router.debounced = s.router.debounced ∧
    (reportTaken r s).router.stability = s.router.stability ∧ (reportTaken r s).router.sample = s.router.sample ∧
    (reportTaken r s).router.requested = s.router.requested ∧
    (reportTaken r s).router.routedInput = s.router.routedInput ∧
    (reportTaken r s).router.routedSource = s.router.routedSource ∧ (reportTaken r s).router.state = s.router.state ∧
    (reportTaken r s).router.format = s.router.format ∧ (reportTaken r s).router.chain = s.router.chain ∧
    (reportTaken r s).router.pendingSlot = s.router.pendingSlot ∧
    (reportTaken r s).router.deferred = s.router.deferred ∧ (reportTaken r s).router.settle = s.router.settle ∧
    (reportTaken r s).router.settleOrigin = s.router.settleOrigin ∧
    (reportTaken r s).router.resolved = s.router.resolved ∧ (reportTaken r s).geometry.presets = s.geometry.presets ∧
    (reportTaken r s).geometry.overlay = s.geometry.overlay ∧
    (reportTaken r s).geometry.momentary = s.geometry.momentary ∧
    (reportTaken r s).geometry.routed = s.geometry.routed ∧ (reportTaken r s).geometry.format = s.geometry.format ∧
    (reportTaken r s).geometry.started = s.geometry.started ∧ (reportTaken r s).room = s.room ∧
    (reportTaken r s).lockout = s.lockout ∧ (reportTaken r s).store.slots = s.store.slots ∧
    (reportTaken r s).store.records = s.store.records ∧ (reportTaken r s).store.loaded = s.store.loaded ∧
    (reportTaken r s).store.install = s.store.install ∧ (reportTaken r s).store.room = s.store.room ∧
    (reportTaken r s).store.protect = s.store.protect ∧ (reportTaken r s).store.window = s.store.window ∧
    (reportTaken r s).store.engine = s.store.engine ∧ (reportTaken r s).store.wipe = s.store.wipe ∧
    (reportTaken r s).pending = s.pending := by
  unfold reportTaken; try dsimp only
  all_goals (repeat' split)
  all_goals first | (simp; done) | (simp_all; done) | rfl

@[simp] theorem strikeResultArrives_frame (ok : Bool) (s : State) :
    quietPorts (strikeResultArrives ok s).ports = quietPorts s.ports ∧
    (strikeResultArrives ok s).lamp.newest = s.lamp.newest ∧
    (strikeResultArrives ok s).lamp.replaceInFlight = s.lamp.replaceInFlight ∧
    (strikeResultArrives ok s).lamp.history = s.lamp.history ∧
    (strikeResultArrives ok s).link.answer = s.link.answer ∧
    (strikeResultArrives ok s).link.nextTag = s.link.nextTag ∧
    (strikeResultArrives ok s).link.reportImage = s.link.reportImage ∧
    (strikeResultArrives ok s).link.lastFormat = s.link.lastFormat ∧
    (strikeResultArrives ok s).link.lastRejection = s.link.lastRejection ∧
    (strikeResultArrives ok s).link.receiver = s.link.receiver ∧
    (strikeResultArrives ok s).link.transmit = s.link.transmit ∧
    (strikeResultArrives ok s).router.sources = s.router.sources ∧
    (strikeResultArrives ok s).router.raw = s.router.raw ∧
    (strikeResultArrives ok s).router.debounced = s.router.debounced ∧
    (strikeResultArrives ok s).router.stability = s.router.stability ∧
    (strikeResultArrives ok s).router.sample = s.router.sample ∧
    (strikeResultArrives ok s).router.requested = s.router.requested ∧
    (strikeResultArrives ok s).router.routedInput = s.router.routedInput ∧
    (strikeResultArrives ok s).router.routedSource = s.router.routedSource ∧
    (strikeResultArrives ok s).router.state = s.router.state ∧
    (strikeResultArrives ok s).router.format = s.router.format ∧
    (strikeResultArrives ok s).router.chain = s.router.chain ∧
    (strikeResultArrives ok s).router.pendingSlot = s.router.pendingSlot ∧
    (strikeResultArrives ok s).router.deferred = s.router.deferred ∧
    (strikeResultArrives ok s).router.settle = s.router.settle ∧
    (strikeResultArrives ok s).router.settleOrigin = s.router.settleOrigin ∧
    (strikeResultArrives ok s).router.resolved = s.router.resolved ∧
    (strikeResultArrives ok s).geometry.presets = s.geometry.presets ∧
    (strikeResultArrives ok s).geometry.overlay = s.geometry.overlay ∧
    (strikeResultArrives ok s).geometry.momentary = s.geometry.momentary ∧
    (strikeResultArrives ok s).geometry.routed = s.geometry.routed ∧
    (strikeResultArrives ok s).geometry.format = s.geometry.format ∧
    (strikeResultArrives ok s).geometry.started = s.geometry.started ∧ (strikeResultArrives ok s).room = s.room ∧
    (strikeResultArrives ok s).lockout = s.lockout ∧ (strikeResultArrives ok s).store.slots = s.store.slots ∧
    (strikeResultArrives ok s).store.records = s.store.records ∧
    (strikeResultArrives ok s).store.loaded = s.store.loaded ∧
    (strikeResultArrives ok s).store.install = s.store.install ∧
    (strikeResultArrives ok s).store.room = s.store.room ∧
    (strikeResultArrives ok s).store.protect = s.store.protect ∧
    (strikeResultArrives ok s).store.window = s.store.window ∧
    (strikeResultArrives ok s).store.engine = s.store.engine ∧ (strikeResultArrives ok s).store.wipe = s.store.wipe ∧
    (strikeResultArrives ok s).pending = s.pending := by
  unfold strikeResultArrives; try dsimp only
  all_goals (repeat' split)
  all_goals first | (simp; done) | (simp_all; done) | rfl

@[simp] theorem formatTaken_frame (f : Option SignalFormat) (s : State) :
    quietPorts (formatTaken f s).ports = quietPorts s.ports ∧ (formatTaken f s).lamp.newest = s.lamp.newest ∧
    (formatTaken f s).lamp.replaceInFlight = s.lamp.replaceInFlight ∧
    (formatTaken f s).lamp.history = s.lamp.history ∧ (formatTaken f s).link.answer = s.link.answer ∧
    (formatTaken f s).link.nextTag = s.link.nextTag ∧ (formatTaken f s).link.reportImage = s.link.reportImage ∧
    (formatTaken f s).link.lastRejection = s.link.lastRejection ∧ (formatTaken f s).link.receiver = s.link.receiver ∧
    (formatTaken f s).link.transmit = s.link.transmit ∧ (formatTaken f s).router.sources = s.router.sources ∧
    (formatTaken f s).router.raw = s.router.raw ∧ (formatTaken f s).router.debounced = s.router.debounced ∧
    (formatTaken f s).router.stability = s.router.stability ∧ (formatTaken f s).router.sample = s.router.sample ∧
    (formatTaken f s).router.resolved = s.router.resolved ∧ (formatTaken f s).geometry.presets = s.geometry.presets ∧
    (formatTaken f s).geometry.overlay = s.geometry.overlay ∧ (formatTaken f s).room = s.room ∧
    (formatTaken f s).lockout = s.lockout ∧ (formatTaken f s).store.slots = s.store.slots ∧
    (formatTaken f s).store.records = s.store.records ∧ (formatTaken f s).store.loaded = s.store.loaded ∧
    (formatTaken f s).store.install = s.store.install ∧ (formatTaken f s).store.room = s.store.room ∧
    (formatTaken f s).store.protect = s.store.protect ∧ (formatTaken f s).store.window = s.store.window ∧
    (formatTaken f s).store.engine = s.store.engine ∧ (formatTaken f s).store.wipe = s.store.wipe ∧
    (formatTaken f s).pending = s.pending := by
  unfold formatTaken; try dsimp only
  all_goals (repeat' split)
  all_goals first | (simp; done) | (simp_all; done) | rfl

/-! ## Store -/

@[simp] theorem loadNotice_frame (s : State) (k : Key) :
    quietPorts (loadNotice s k).ports = quietPorts s.ports ∧ (loadNotice s k).lamp = s.lamp ∧
    (loadNotice s k).power = s.power ∧ (loadNotice s k).link = s.link ∧ (loadNotice s k).router = s.router ∧
    (loadNotice s k).geometry = s.geometry ∧ (loadNotice s k).room = s.room ∧ (loadNotice s k).lockout = s.lockout ∧
    (loadNotice s k).store = s.store ∧ (loadNotice s k).pending = s.pending := by
  unfold loadNotice; try dsimp only
  all_goals (repeat' split)
  all_goals first | (simp; done) | (simp_all; done) | rfl

@[simp] theorem loadRecords_frame (s : State) :
    (loadRecords s).ports = s.ports ∧ (loadRecords s).lamp.account = s.lamp.account ∧
    (loadRecords s).lamp.level = s.lamp.level ∧ (loadRecords s).lamp.newest = s.lamp.newest ∧
    (loadRecords s).lamp.tally = s.lamp.tally ∧ (loadRecords s).lamp.burn = s.lamp.burn ∧
    (loadRecords s).lamp.normalSeen = s.lamp.normalSeen ∧ (loadRecords s).lamp.hotWindow = s.lamp.hotWindow ∧
    (loadRecords s).lamp.cadence = s.lamp.cadence ∧ (loadRecords s).lamp.replaceInFlight = s.lamp.replaceInFlight ∧
    (loadRecords s).power = s.power ∧ (loadRecords s).link = s.link ∧ (loadRecords s).router.raw = s.router.raw ∧
    (loadRecords s).router.debounced = s.router.debounced ∧ (loadRecords s).router.stability = s.router.stability ∧
    (loadRecords s).router.sample = s.router.sample ∧ (loadRecords s).router.routedInput = s.router.routedInput ∧
    (loadRecords s).router.routedSource = s.router.routedSource ∧ (loadRecords s).router.state = s.router.state ∧
    (loadRecords s).router.format = s.router.format ∧ (loadRecords s).router.chain = s.router.chain ∧
    (loadRecords s).router.pendingSlot = s.router.pendingSlot ∧ (loadRecords s).router.deferred = s.router.deferred ∧
    (loadRecords s).router.settle = s.router.settle ∧ (loadRecords s).router.settleOrigin = s.router.settleOrigin ∧
    (loadRecords s).router.noSignal = s.router.noSignal ∧ (loadRecords s).router.resolved = s.router.resolved ∧
    (loadRecords s).geometry.overlay = s.geometry.overlay ∧
    (loadRecords s).geometry.momentary = s.geometry.momentary ∧ (loadRecords s).geometry.routed = s.geometry.routed ∧
    (loadRecords s).geometry.format = s.geometry.format ∧ (loadRecords s).geometry.started = s.geometry.started ∧
    (loadRecords s).geometry.active = s.geometry.active ∧ (loadRecords s).geometry.current = s.geometry.current ∧
    (loadRecords s).geometry.setNumber = s.geometry.setNumber ∧ (loadRecords s).geometry.status = s.geometry.status ∧
    (loadRecords s).geometry.commitAcked = s.geometry.commitAcked ∧
    (loadRecords s).geometry.keptResend = s.geometry.keptResend ∧ (loadRecords s).room.clock = s.room.clock ∧
    (loadRecords s).room.phase = s.room.phase ∧ (loadRecords s).room.state = s.room.state ∧
    (loadRecords s).room.current = s.room.current ∧ (loadRecords s).room.extension = s.room.extension ∧
    (loadRecords s).room.taken = s.room.taken ∧ (loadRecords s).room.scheduleBlank = s.room.scheduleBlank ∧
    (loadRecords s).lockout.hold = s.lockout.hold ∧ (loadRecords s).lockout.mode = s.lockout.mode ∧
    (loadRecords s).lockout.active = s.lockout.active ∧ (loadRecords s).lockout.effective = s.lockout.effective ∧
    (loadRecords s).store.slots = s.store.slots ∧ (loadRecords s).store.records = s.store.records ∧
    (loadRecords s).store.protect = s.store.protect ∧ (loadRecords s).store.queue = s.store.queue ∧
    (loadRecords s).store.engine = s.store.engine ∧ (loadRecords s).store.wipe = s.store.wipe ∧
    (loadRecords s).free = s.free ∧ (loadRecords s).pending = s.pending := by
  unfold loadRecords; try dsimp only
  all_goals (repeat' split)
  all_goals first | (simp; done) | (simp_all; done) | rfl

@[simp] theorem loadFold_frame  (l : List Key) (s : State) : quietPorts (List.foldl loadNotice s l).ports = quietPorts s.ports ∧
    (List.foldl loadNotice s l).lamp = s.lamp ∧ (List.foldl loadNotice s l).power = s.power ∧
    (List.foldl loadNotice s l).link = s.link ∧ (List.foldl loadNotice s l).router = s.router ∧
    (List.foldl loadNotice s l).geometry = s.geometry ∧ (List.foldl loadNotice s l).room = s.room ∧
    (List.foldl loadNotice s l).lockout = s.lockout ∧ (List.foldl loadNotice s l).store = s.store ∧
    (List.foldl loadNotice s l).pending = s.pending := by
  induction l generalizing s with
  | nil => simp
  | cons a r ih => simp [ih]

@[simp] theorem completeLoad_frame (s : State) :
    quietPorts (completeLoad s).ports = quietPorts s.ports ∧
    (completeLoad s).lamp.replaceInFlight = s.lamp.replaceInFlight ∧ (completeLoad s).link.state = s.link.state ∧
    (completeLoad s).link.silence = s.link.silence ∧ (completeLoad s).link.answer = s.link.answer ∧
    (completeLoad s).link.nextTag = s.link.nextTag ∧ (completeLoad s).link.reportImage = s.link.reportImage ∧
    (completeLoad s).link.lastFormat = s.link.lastFormat ∧
    (completeLoad s).link.lastRejection = s.link.lastRejection ∧ (completeLoad s).link.lostFor = s.link.lostFor ∧
    (completeLoad s).link.sinceMessage = s.link.sinceMessage ∧ (completeLoad s).link.receiver = s.link.receiver ∧
    (completeLoad s).link.transmit = s.link.transmit ∧ (completeLoad s).router.raw = s.router.raw ∧
    (completeLoad s).router.debounced = s.router.debounced ∧ (completeLoad s).router.stability = s.router.stability ∧
    (completeLoad s).router.sample = s.router.sample ∧ (completeLoad s).geometry.format = s.geometry.format ∧
    (completeLoad s).geometry.started = s.geometry.started ∧ (completeLoad s).room.clock = s.room.clock ∧
    (completeLoad s).room.phase = s.room.phase ∧ (completeLoad s).lockout.mode = s.lockout.mode ∧
    (completeLoad s).store.slots = s.store.slots ∧ (completeLoad s).store.records = s.store.records ∧
    (completeLoad s).store.protect = s.store.protect ∧ (completeLoad s).store.engine = s.store.engine ∧
    (completeLoad s).store.wipe = s.store.wipe ∧ (completeLoad s).pending = s.pending := by
  unfold completeLoad; try dsimp only
  all_goals (repeat' split)
  all_goals first | (simp; done) | (simp_all; done) | rfl

@[simp] theorem storeEntry_frame (e : Entry) (slot : Fin 4) (s : State) :
    (storeEntry e slot s).ports = s.ports ∧ (storeEntry e slot s).lamp.account = s.lamp.account ∧
    (storeEntry e slot s).lamp.level = s.lamp.level ∧ (storeEntry e slot s).lamp.tally = s.lamp.tally ∧
    (storeEntry e slot s).lamp.burn = s.lamp.burn ∧ (storeEntry e slot s).lamp.normalSeen = s.lamp.normalSeen ∧
    (storeEntry e slot s).lamp.hotWindow = s.lamp.hotWindow ∧ (storeEntry e slot s).lamp.cadence = s.lamp.cadence ∧
    (storeEntry e slot s).lamp.replaceInFlight = s.lamp.replaceInFlight ∧
    (storeEntry e slot s).lamp.history = s.lamp.history ∧ (storeEntry e slot s).power = s.power ∧
    (storeEntry e slot s).link = s.link ∧ (storeEntry e slot s).router = s.router ∧
    (storeEntry e slot s).geometry = s.geometry ∧ (storeEntry e slot s).room = s.room ∧
    (storeEntry e slot s).lockout = s.lockout ∧ (storeEntry e slot s).store.loaded = s.store.loaded ∧
    (storeEntry e slot s).store.install = s.store.install ∧ (storeEntry e slot s).store.room = s.store.room ∧
    (storeEntry e slot s).store.protect = s.store.protect ∧ (storeEntry e slot s).store.window = s.store.window ∧
    (storeEntry e slot s).store.queue = s.store.queue ∧ (storeEntry e slot s).store.engine = s.store.engine ∧
    (storeEntry e slot s).store.wipe = s.store.wipe ∧ (storeEntry e slot s).free = s.free ∧
    (storeEntry e slot s).pending = s.pending := by
  unfold storeEntry; try dsimp only
  all_goals (repeat' split)
  all_goals first | (simp; done) | (simp_all; done) | rfl

@[simp] theorem completeWrite_frame (s : State) :
    quietPorts (completeWrite s).ports = quietPorts s.ports ∧ (completeWrite s).lamp.burn = s.lamp.burn ∧
    (completeWrite s).lamp.hotWindow = s.lamp.hotWindow ∧ (completeWrite s).power.state = s.power.state ∧
    (completeWrite s).power.step = s.power.step ∧ (completeWrite s).power.attempt = s.power.attempt ∧
    (completeWrite s).power.restartPending = s.power.restartPending ∧
    (completeWrite s).power.offPending = s.power.offPending ∧
    (completeWrite s).power.ignitionOrigin = s.power.ignitionOrigin ∧
    (completeWrite s).power.offOrigin = s.power.offOrigin ∧
    (completeWrite s).power.thermalHold = s.power.thermalHold ∧ (completeWrite s).power.shutter = s.power.shutter ∧
    (completeWrite s).power.momentaryMode = s.power.momentaryMode ∧
    (completeWrite s).power.modeEvaluated = s.power.modeEvaluated ∧
    (completeWrite s).power.strikeTimer = s.power.strikeTimer ∧
    (completeWrite s).power.pauseTimer = s.power.pauseTimer ∧
    (completeWrite s).power.warmingTimer = s.power.warmingTimer ∧
    (completeWrite s).power.coolingTimer = s.power.coolingTimer ∧
    (completeWrite s).power.blankDim = s.power.blankDim ∧ (completeWrite s).power.dimmed = s.power.dimmed ∧
    (completeWrite s).power.reportWait = s.power.reportWait ∧ (completeWrite s).link.state = s.link.state ∧
    (completeWrite s).link.silence = s.link.silence ∧ (completeWrite s).link.outstanding = s.link.outstanding ∧
    (completeWrite s).link.answer = s.link.answer ∧ (completeWrite s).link.nextTag = s.link.nextTag ∧
    (completeWrite s).link.lane = s.link.lane ∧ (completeWrite s).link.reportImage = s.link.reportImage ∧
    (completeWrite s).link.lastFormat = s.link.lastFormat ∧
    (completeWrite s).link.lastRejection = s.link.lastRejection ∧ (completeWrite s).link.lostFor = s.link.lostFor ∧
    (completeWrite s).link.sinceMessage = s.link.sinceMessage ∧ (completeWrite s).link.lastSet = s.link.lastSet ∧
    (completeWrite s).link.receiver = s.link.receiver ∧ (completeWrite s).link.transmit = s.link.transmit ∧
    (completeWrite s).router = s.router ∧ (completeWrite s).geometry = s.geometry ∧ (completeWrite s).room = s.room ∧
    (completeWrite s).lockout = s.lockout ∧ (completeWrite s).store.loaded = s.store.loaded ∧
    (completeWrite s).store.install = s.store.install ∧ (completeWrite s).store.room = s.store.room ∧
    (completeWrite s).store.protect = s.store.protect ∧ (completeWrite s).store.window = s.store.window ∧
    (completeWrite s).store.wipe = s.store.wipe ∧ (completeWrite s).pending = s.pending := by
  unfold completeWrite; try dsimp only
  all_goals (repeat' split)
  all_goals first | (simp; done) | (simp_all; done) | rfl

@[simp] theorem wipeLive_frame (s : State) :
    (wipeLive s).ports = s.ports ∧ (wipeLive s).lamp = s.lamp ∧ (wipeLive s).power = s.power ∧
    (wipeLive s).link = s.link ∧ (wipeLive s).router = s.router ∧ (wipeLive s).geometry.overlay = s.geometry.overlay ∧
    (wipeLive s).geometry.momentary = s.geometry.momentary ∧ (wipeLive s).geometry.routed = s.geometry.routed ∧
    (wipeLive s).geometry.format = s.geometry.format ∧ (wipeLive s).geometry.started = s.geometry.started ∧
    (wipeLive s).geometry.active = s.geometry.active ∧ (wipeLive s).geometry.current = s.geometry.current ∧
    (wipeLive s).geometry.setNumber = s.geometry.setNumber ∧ (wipeLive s).geometry.status = s.geometry.status ∧
    (wipeLive s).geometry.commitAcked = s.geometry.commitAcked ∧
    (wipeLive s).geometry.keptResend = s.geometry.keptResend ∧ (wipeLive s).room.clock = s.room.clock ∧
    (wipeLive s).room.phase = s.room.phase ∧ (wipeLive s).room.state = s.room.state ∧
    (wipeLive s).room.current = s.room.current ∧ (wipeLive s).room.extension = s.room.extension ∧
    (wipeLive s).room.taken = s.room.taken ∧ (wipeLive s).room.scheduleBlank = s.room.scheduleBlank ∧
    (wipeLive s).lockout.hold = s.lockout.hold ∧ (wipeLive s).lockout.serviceEnabled = s.lockout.serviceEnabled ∧
    (wipeLive s).lockout.mode = s.lockout.mode ∧ (wipeLive s).lockout.active = s.lockout.active ∧
    (wipeLive s).lockout.effective = s.lockout.effective ∧ (wipeLive s).store.slots = s.store.slots ∧
    (wipeLive s).store.records = s.store.records ∧ (wipeLive s).store.loaded = s.store.loaded ∧
    (wipeLive s).store.protect = s.store.protect ∧ (wipeLive s).store.window = s.store.window ∧
    (wipeLive s).store.queue = s.store.queue ∧ (wipeLive s).store.engine = s.store.engine ∧
    (wipeLive s).store.wipe = s.store.wipe ∧ (wipeLive s).free = s.free ∧ (wipeLive s).pending = s.pending := by
  unfold wipeLive; try dsimp only
  all_goals (repeat' split)
  all_goals first | (simp; done) | (simp_all; done) | rfl

@[simp] theorem wipeActs_frame (old : State) (o : Origin) (s : State) :
    quietPorts (wipeActs old o s).ports = quietPorts s.ports ∧ (wipeActs old o s).lamp.newest = s.lamp.newest ∧
    (wipeActs old o s).lamp.replaceInFlight = s.lamp.replaceInFlight ∧
    (wipeActs old o s).lamp.history = s.lamp.history ∧ (wipeActs old o s).link.state = s.link.state ∧
    (wipeActs old o s).link.silence = s.link.silence ∧ (wipeActs old o s).link.answer = s.link.answer ∧
    (wipeActs old o s).link.nextTag = s.link.nextTag ∧ (wipeActs old o s).link.reportImage = s.link.reportImage ∧
    (wipeActs old o s).link.lastFormat = s.link.lastFormat ∧
    (wipeActs old o s).link.lastRejection = s.link.lastRejection ∧ (wipeActs old o s).link.lostFor = s.link.lostFor ∧
    (wipeActs old o s).link.sinceMessage = s.link.sinceMessage ∧ (wipeActs old o s).link.receiver = s.link.receiver ∧
    (wipeActs old o s).link.transmit = s.link.transmit ∧ (wipeActs old o s).router.raw = s.router.raw ∧
    (wipeActs old o s).router.debounced = s.router.debounced ∧
    (wipeActs old o s).router.stability = s.router.stability ∧ (wipeActs old o s).router.sample = s.router.sample ∧
    (wipeActs old o s).router.resolved = s.router.resolved ∧
    (wipeActs old o s).geometry.presets = s.geometry.presets ∧
    (wipeActs old o s).geometry.format = s.geometry.format ∧
    (wipeActs old o s).geometry.started = s.geometry.started ∧ (wipeActs old o s).room.clock = s.room.clock ∧
    (wipeActs old o s).room.phase = s.room.phase ∧ (wipeActs old o s).room.bookings = s.room.bookings ∧
    (wipeActs old o s).room.exceptions = s.room.exceptions ∧
    (wipeActs old o s).lockout.profiles = s.lockout.profiles ∧
    (wipeActs old o s).lockout.serviceEnabled = s.lockout.serviceEnabled ∧
    (wipeActs old o s).lockout.locked = s.lockout.locked ∧ (wipeActs old o s).lockout.mismatch = s.lockout.mismatch ∧
    (wipeActs old o s).lockout.mode = s.lockout.mode ∧ (wipeActs old o s).store.slots = s.store.slots ∧
    (wipeActs old o s).store.records = s.store.records ∧ (wipeActs old o s).store.loaded = s.store.loaded ∧
    (wipeActs old o s).store.install = s.store.install ∧ (wipeActs old o s).store.room = s.store.room ∧
    (wipeActs old o s).store.protect = s.store.protect ∧ (wipeActs old o s).store.window = s.store.window ∧
    (wipeActs old o s).store.engine = s.store.engine ∧ (wipeActs old o s).store.wipe = s.store.wipe ∧
    (wipeActs old o s).pending = s.pending := by
  unfold wipeActs; try dsimp only
  all_goals (repeat' split)
  all_goals first | (simp; done) | (simp_all; done) | rfl

@[simp] theorem completeWipe_frame (s : State) :
    quietPorts (completeWipe s).ports = quietPorts s.ports ∧ (completeWipe s).lamp.newest = s.lamp.newest ∧
    (completeWipe s).lamp.replaceInFlight = s.lamp.replaceInFlight ∧ (completeWipe s).lamp.history = s.lamp.history ∧
    (completeWipe s).link.state = s.link.state ∧ (completeWipe s).link.silence = s.link.silence ∧
    (completeWipe s).link.answer = s.link.answer ∧ (completeWipe s).link.nextTag = s.link.nextTag ∧
    (completeWipe s).link.reportImage = s.link.reportImage ∧ (completeWipe s).link.lastFormat = s.link.lastFormat ∧
    (completeWipe s).link.lastRejection = s.link.lastRejection ∧ (completeWipe s).link.lostFor = s.link.lostFor ∧
    (completeWipe s).link.sinceMessage = s.link.sinceMessage ∧ (completeWipe s).link.receiver = s.link.receiver ∧
    (completeWipe s).link.transmit = s.link.transmit ∧ (completeWipe s).router.raw = s.router.raw ∧
    (completeWipe s).router.debounced = s.router.debounced ∧ (completeWipe s).router.stability = s.router.stability ∧
    (completeWipe s).router.sample = s.router.sample ∧ (completeWipe s).router.resolved = s.router.resolved ∧
    (completeWipe s).geometry.format = s.geometry.format ∧ (completeWipe s).geometry.started = s.geometry.started ∧
    (completeWipe s).room.clock = s.room.clock ∧ (completeWipe s).room.phase = s.room.phase ∧
    (completeWipe s).lockout.serviceEnabled = s.lockout.serviceEnabled ∧
    (completeWipe s).lockout.mode = s.lockout.mode ∧ (completeWipe s).store.slots = s.store.slots ∧
    (completeWipe s).store.loaded = s.store.loaded ∧ (completeWipe s).store.protect = s.store.protect ∧
    (completeWipe s).store.window = s.store.window ∧ (completeWipe s).pending = s.pending := by
  unfold completeWipe; try dsimp only
  all_goals (repeat' split)
  all_goals first | (simp; done) | (simp_all; done) | rfl

@[simp] theorem closeWindowFor_frame (c : WindowCause) (dest : Option Port) (origin : Origin) (s : State) :
    quietPorts (closeWindowFor c dest origin s).ports = quietPorts s.ports ∧
    (closeWindowFor c dest origin s).lamp = s.lamp ∧ (closeWindowFor c dest origin s).power = s.power ∧
    (closeWindowFor c dest origin s).link = s.link ∧ (closeWindowFor c dest origin s).router = s.router ∧
    (closeWindowFor c dest origin s).geometry = s.geometry ∧ (closeWindowFor c dest origin s).room = s.room ∧
    (closeWindowFor c dest origin s).lockout = s.lockout ∧
    (closeWindowFor c dest origin s).store.slots = s.store.slots ∧
    (closeWindowFor c dest origin s).store.records = s.store.records ∧
    (closeWindowFor c dest origin s).store.loaded = s.store.loaded ∧
    (closeWindowFor c dest origin s).store.install = s.store.install ∧
    (closeWindowFor c dest origin s).store.room = s.store.room ∧
    (closeWindowFor c dest origin s).store.protect = s.store.protect ∧
    (closeWindowFor c dest origin s).store.queue = s.store.queue ∧
    (closeWindowFor c dest origin s).store.engine = s.store.engine ∧
    (closeWindowFor c dest origin s).store.wipe = s.store.wipe ∧
    (closeWindowFor c dest origin s).pending = s.pending := by
  unfold closeWindowFor; try dsimp only
  all_goals (repeat' split)
  all_goals first | (simp; done) | (simp_all; done) | rfl

/-! ## EventCommands -/

@[simp] theorem blankDimPasses_frame (t : Nat) (s : State) :
    (blankDimPasses t s).ports = s.ports ∧ (blankDimPasses t s).lamp.account = s.lamp.account ∧
    (blankDimPasses t s).lamp.level = s.lamp.level ∧ (blankDimPasses t s).lamp.newest = s.lamp.newest ∧
    (blankDimPasses t s).lamp.tally = s.lamp.tally ∧ (blankDimPasses t s).lamp.burn = s.lamp.burn ∧
    (blankDimPasses t s).lamp.hotWindow = s.lamp.hotWindow ∧ (blankDimPasses t s).lamp.cadence = s.lamp.cadence ∧
    (blankDimPasses t s).lamp.replaceInFlight = s.lamp.replaceInFlight ∧
    (blankDimPasses t s).lamp.history = s.lamp.history ∧ (blankDimPasses t s).power.state = s.power.state ∧
    (blankDimPasses t s).power.step = s.power.step ∧ (blankDimPasses t s).power.attempt = s.power.attempt ∧
    (blankDimPasses t s).power.restartPending = s.power.restartPending ∧
    (blankDimPasses t s).power.offPending = s.power.offPending ∧
    (blankDimPasses t s).power.ignitionOrigin = s.power.ignitionOrigin ∧
    (blankDimPasses t s).power.offOrigin = s.power.offOrigin ∧
    (blankDimPasses t s).power.thermalHold = s.power.thermalHold ∧
    (blankDimPasses t s).power.shutter = s.power.shutter ∧
    (blankDimPasses t s).power.momentaryMode = s.power.momentaryMode ∧
    (blankDimPasses t s).power.modeEvaluated = s.power.modeEvaluated ∧
    (blankDimPasses t s).power.strikeTimer = s.power.strikeTimer ∧
    (blankDimPasses t s).power.pauseTimer = s.power.pauseTimer ∧
    (blankDimPasses t s).power.warmingTimer = s.power.warmingTimer ∧
    (blankDimPasses t s).power.coolingTimer = s.power.coolingTimer ∧
    (blankDimPasses t s).power.reportWait = s.power.reportWait ∧ (blankDimPasses t s).link.state = s.link.state ∧
    (blankDimPasses t s).link.silence = s.link.silence ∧ (blankDimPasses t s).link.outstanding = s.link.outstanding ∧
    (blankDimPasses t s).link.answer = s.link.answer ∧ (blankDimPasses t s).link.nextTag = s.link.nextTag ∧
    (blankDimPasses t s).link.lane = s.link.lane ∧ (blankDimPasses t s).link.reportImage = s.link.reportImage ∧
    (blankDimPasses t s).link.lastFormat = s.link.lastFormat ∧
    (blankDimPasses t s).link.lastRejection = s.link.lastRejection ∧
    (blankDimPasses t s).link.lostFor = s.link.lostFor ∧
    (blankDimPasses t s).link.sinceMessage = s.link.sinceMessage ∧
    (blankDimPasses t s).link.lastSet = s.link.lastSet ∧ (blankDimPasses t s).link.receiver = s.link.receiver ∧
    (blankDimPasses t s).link.transmit = s.link.transmit ∧ (blankDimPasses t s).router = s.router ∧
    (blankDimPasses t s).geometry = s.geometry ∧ (blankDimPasses t s).room = s.room ∧
    (blankDimPasses t s).lockout = s.lockout ∧ (blankDimPasses t s).store = s.store ∧
    (blankDimPasses t s).free = s.free ∧ (blankDimPasses t s).pending = s.pending := by
  unfold blankDimPasses; try dsimp only
  all_goals (repeat' split)
  all_goals first | (simp; done) | (simp_all; done) | rfl

@[simp] theorem takeUnknown_frame (p : Port) (code : Byte) (f : Frame) (s : State) :
    (takeUnknown p code f s).lamp = s.lamp ∧ (takeUnknown p code f s).power = s.power ∧
    (takeUnknown p code f s).link = s.link ∧ (takeUnknown p code f s).router = s.router ∧
    (takeUnknown p code f s).geometry = s.geometry ∧ (takeUnknown p code f s).room = s.room ∧
    (takeUnknown p code f s).lockout = s.lockout ∧ (takeUnknown p code f s).store = s.store ∧
    (takeUnknown p code f s).free = s.free ∧ (takeUnknown p code f s).pending = s.pending := by
  unfold takeUnknown; try dsimp only
  all_goals (repeat' split)
  all_goals first | (simp; done) | (simp_all; done) | rfl

/-! ## ReadCommands -/

@[simp] theorem ownReadNotices_frame (p : Port) (s : State) :
    (ownReadNotices p s).2.lamp = s.lamp ∧ (ownReadNotices p s).2.power = s.power ∧
    (ownReadNotices p s).2.link = s.link ∧ (ownReadNotices p s).2.router = s.router ∧
    (ownReadNotices p s).2.geometry = s.geometry ∧ (ownReadNotices p s).2.room = s.room ∧
    (ownReadNotices p s).2.lockout = s.lockout ∧ (ownReadNotices p s).2.store = s.store ∧
    (ownReadNotices p s).2.free = s.free ∧ (ownReadNotices p s).2.pending = s.pending := by
  unfold ownReadNotices; try dsimp only
  all_goals (repeat' split)
  all_goals first | (simp; done) | (simp_all; done) | rfl

@[simp] theorem ownReadSourceMap_frame (ps : List Word) (s : State) :
    (ownReadSourceMap ps s).2.ports = s.ports ∧ (ownReadSourceMap ps s).2.lamp = s.lamp ∧
    (ownReadSourceMap ps s).2.power = s.power ∧ (ownReadSourceMap ps s).2.link = s.link ∧
    (ownReadSourceMap ps s).2.router = s.router ∧ (ownReadSourceMap ps s).2.geometry = s.geometry ∧
    (ownReadSourceMap ps s).2.room = s.room ∧ (ownReadSourceMap ps s).2.lockout = s.lockout ∧
    (ownReadSourceMap ps s).2.store = s.store ∧ (ownReadSourceMap ps s).2.free = s.free ∧
    (ownReadSourceMap ps s).2.pending = s.pending := by
  unfold ownReadSourceMap; try dsimp only
  all_goals (repeat' split)
  all_goals first | (simp; done) | (simp_all; done) | rfl

@[simp] theorem ownReadGeometry_frame (s : State) :
    (ownReadGeometry s).2.ports = s.ports ∧ (ownReadGeometry s).2.lamp = s.lamp ∧
    (ownReadGeometry s).2.power = s.power ∧ (ownReadGeometry s).2.link = s.link ∧
    (ownReadGeometry s).2.router = s.router ∧ (ownReadGeometry s).2.geometry = s.geometry ∧
    (ownReadGeometry s).2.room = s.room ∧ (ownReadGeometry s).2.lockout = s.lockout ∧
    (ownReadGeometry s).2.store = s.store ∧ (ownReadGeometry s).2.pending = s.pending := by
  unfold ownReadGeometry; try dsimp only
  all_goals (repeat' split)
  all_goals first | (simp; done) | (simp_all; done) | rfl

@[simp] theorem ownReadPreset_frame (ps : List Word) (s : State) :
    (ownReadPreset ps s).2.ports = s.ports ∧ (ownReadPreset ps s).2.lamp = s.lamp ∧
    (ownReadPreset ps s).2.power = s.power ∧ (ownReadPreset ps s).2.link = s.link ∧
    (ownReadPreset ps s).2.router = s.router ∧ (ownReadPreset ps s).2.geometry = s.geometry ∧
    (ownReadPreset ps s).2.room = s.room ∧ (ownReadPreset ps s).2.lockout = s.lockout ∧
    (ownReadPreset ps s).2.store = s.store ∧ (ownReadPreset ps s).2.free = s.free ∧
    (ownReadPreset ps s).2.pending = s.pending := by
  unfold ownReadPreset; try dsimp only
  all_goals (repeat' split)
  all_goals first | (simp; done) | (simp_all; done) | rfl

@[simp] theorem ownReadGeometryTable_frame (ps : List Word) (s : State) :
    (ownReadGeometryTable ps s).2.ports = s.ports ∧ (ownReadGeometryTable ps s).2.lamp = s.lamp ∧
    (ownReadGeometryTable ps s).2.power = s.power ∧ (ownReadGeometryTable ps s).2.link = s.link ∧
    (ownReadGeometryTable ps s).2.router = s.router ∧ (ownReadGeometryTable ps s).2.geometry = s.geometry ∧
    (ownReadGeometryTable ps s).2.room = s.room ∧ (ownReadGeometryTable ps s).2.lockout = s.lockout ∧
    (ownReadGeometryTable ps s).2.store = s.store ∧ (ownReadGeometryTable ps s).2.free = s.free ∧
    (ownReadGeometryTable ps s).2.pending = s.pending := by
  unfold ownReadGeometryTable; try dsimp only
  all_goals (repeat' split)
  all_goals first | (simp; done) | (simp_all; done) | rfl

@[simp] theorem ownReadBooking_frame (ps : List Word) (s : State) :
    (ownReadBooking ps s).2.ports = s.ports ∧ (ownReadBooking ps s).2.lamp = s.lamp ∧
    (ownReadBooking ps s).2.power = s.power ∧ (ownReadBooking ps s).2.link = s.link ∧
    (ownReadBooking ps s).2.router = s.router ∧ (ownReadBooking ps s).2.geometry = s.geometry ∧
    (ownReadBooking ps s).2.room = s.room ∧ (ownReadBooking ps s).2.lockout = s.lockout ∧
    (ownReadBooking ps s).2.store = s.store ∧ (ownReadBooking ps s).2.free = s.free ∧
    (ownReadBooking ps s).2.pending = s.pending := by
  unfold ownReadBooking; try dsimp only
  all_goals (repeat' split)
  all_goals first | (simp; done) | (simp_all; done) | rfl

@[simp] theorem ownReadExceptions_frame (ps : List Word) (s : State) :
    (ownReadExceptions ps s).2.ports = s.ports ∧ (ownReadExceptions ps s).2.lamp = s.lamp ∧
    (ownReadExceptions ps s).2.power = s.power ∧ (ownReadExceptions ps s).2.link = s.link ∧
    (ownReadExceptions ps s).2.router = s.router ∧ (ownReadExceptions ps s).2.geometry = s.geometry ∧
    (ownReadExceptions ps s).2.room = s.room ∧ (ownReadExceptions ps s).2.lockout = s.lockout ∧
    (ownReadExceptions ps s).2.store = s.store ∧ (ownReadExceptions ps s).2.free = s.free ∧
    (ownReadExceptions ps s).2.pending = s.pending := by
  unfold ownReadExceptions; try dsimp only
  all_goals (repeat' split)
  all_goals first | (simp; done) | (simp_all; done) | rfl

@[simp] theorem ownReadOccurrences_frame (ps : List Word) (s : State) :
    (ownReadOccurrences ps s).2.ports = s.ports ∧ (ownReadOccurrences ps s).2.lamp = s.lamp ∧
    (ownReadOccurrences ps s).2.power = s.power ∧ (ownReadOccurrences ps s).2.link = s.link ∧
    (ownReadOccurrences ps s).2.router = s.router ∧ (ownReadOccurrences ps s).2.geometry = s.geometry ∧
    (ownReadOccurrences ps s).2.room = s.room ∧ (ownReadOccurrences ps s).2.lockout = s.lockout ∧
    (ownReadOccurrences ps s).2.store = s.store ∧ (ownReadOccurrences ps s).2.free = s.free ∧
    (ownReadOccurrences ps s).2.pending = s.pending := by
  unfold ownReadOccurrences; try dsimp only
  all_goals (repeat' split)
  all_goals first | (simp; done) | (simp_all; done) | rfl

@[simp] theorem ownDigest_frame (ps : List Word) (s : State) :
    (ownDigest ps s).2.ports = s.ports ∧ (ownDigest ps s).2.lamp = s.lamp ∧ (ownDigest ps s).2.power = s.power ∧
    (ownDigest ps s).2.link = s.link ∧ (ownDigest ps s).2.router = s.router ∧
    (ownDigest ps s).2.geometry = s.geometry ∧ (ownDigest ps s).2.room = s.room ∧
    (ownDigest ps s).2.lockout = s.lockout ∧ (ownDigest ps s).2.store = s.store ∧ (ownDigest ps s).2.free = s.free ∧
    (ownDigest ps s).2.pending = s.pending := by
  unfold ownDigest; try dsimp only
  all_goals (repeat' split)
  all_goals first | (simp; done) | (simp_all; done) | rfl

/-! ## PowerCommands -/

@[simp] theorem finished_frame (r : Answer × State) :
    quietPorts (finished r).2.ports = quietPorts r.2.ports ∧ (finished r).2.lamp = r.2.lamp ∧
    (finished r).2.power = r.2.power ∧ (finished r).2.link.state = r.2.link.state ∧
    (finished r).2.link.silence = r.2.link.silence ∧ (finished r).2.link.lane = r.2.link.lane ∧
    (finished r).2.link.reportImage = r.2.link.reportImage ∧ (finished r).2.link.lastFormat = r.2.link.lastFormat ∧
    (finished r).2.link.lastRejection = r.2.link.lastRejection ∧ (finished r).2.link.lostFor = r.2.link.lostFor ∧
    (finished r).2.link.sinceMessage = r.2.link.sinceMessage ∧ (finished r).2.link.lastSet = r.2.link.lastSet ∧
    (finished r).2.link.receiver = r.2.link.receiver ∧ (finished r).2.router = r.2.router ∧
    (finished r).2.geometry = r.2.geometry ∧ (finished r).2.room = r.2.room ∧ (finished r).2.lockout = r.2.lockout ∧
    (finished r).2.store.slots = r.2.store.slots ∧ (finished r).2.store.records = r.2.store.records ∧
    (finished r).2.store.loaded = r.2.store.loaded ∧ (finished r).2.store.install = r.2.store.install ∧
    (finished r).2.store.room = r.2.store.room ∧ (finished r).2.store.protect = r.2.store.protect ∧
    (finished r).2.store.window = r.2.store.window ∧ (finished r).2.store.wipe = r.2.store.wipe ∧
    (finished r).2.pending = r.2.pending := by
  unfold finished; try dsimp only
  all_goals (repeat' split)
  all_goals first | (simp; done) | (simp_all; done) | rfl

@[simp] theorem accept_frame (a : Answer) (s : State) :
    quietPorts (accept a s).2.ports = quietPorts s.ports ∧ (accept a s).2.lamp = s.lamp ∧
    (accept a s).2.power = s.power ∧ (accept a s).2.link.state = s.link.state ∧
    (accept a s).2.link.silence = s.link.silence ∧ (accept a s).2.link.lane = s.link.lane ∧
    (accept a s).2.link.reportImage = s.link.reportImage ∧ (accept a s).2.link.lastFormat = s.link.lastFormat ∧
    (accept a s).2.link.lastRejection = s.link.lastRejection ∧ (accept a s).2.link.lostFor = s.link.lostFor ∧
    (accept a s).2.link.sinceMessage = s.link.sinceMessage ∧ (accept a s).2.link.lastSet = s.link.lastSet ∧
    (accept a s).2.link.receiver = s.link.receiver ∧ (accept a s).2.router = s.router ∧
    (accept a s).2.geometry = s.geometry ∧ (accept a s).2.room = s.room ∧ (accept a s).2.lockout = s.lockout ∧
    (accept a s).2.store.slots = s.store.slots ∧ (accept a s).2.store.records = s.store.records ∧
    (accept a s).2.store.loaded = s.store.loaded ∧ (accept a s).2.store.install = s.store.install ∧
    (accept a s).2.store.room = s.store.room ∧ (accept a s).2.store.protect = s.store.protect ∧
    (accept a s).2.store.window = s.store.window ∧ (accept a s).2.store.wipe = s.store.wipe ∧
    (accept a s).2.pending = s.pending := by
  unfold accept; try dsimp only
  all_goals (repeat' split)
  all_goals first | (simp; done) | (simp_all; done) | rfl

@[simp] theorem ownSetPortMode_frame (p : Port) (ps : List Word) (s : State) :
    (ownSetPortMode p ps s).2.lamp = s.lamp ∧ (ownSetPortMode p ps s).2.power = s.power ∧
    (ownSetPortMode p ps s).2.link = s.link ∧ (ownSetPortMode p ps s).2.router = s.router ∧
    (ownSetPortMode p ps s).2.geometry = s.geometry ∧ (ownSetPortMode p ps s).2.room = s.room ∧
    (ownSetPortMode p ps s).2.lockout = s.lockout ∧ (ownSetPortMode p ps s).2.store = s.store ∧
    (ownSetPortMode p ps s).2.free = s.free ∧ (ownSetPortMode p ps s).2.pending = s.pending := by
  unfold ownSetPortMode; try dsimp only
  all_goals (repeat' split)
  all_goals first | (simp; done) | (simp_all; done) | rfl

@[simp] theorem ownSetDayBase_frame (p : Port) (ps : List Word) (s : State) :
    (ownSetDayBase p ps s).2.lamp = s.lamp ∧ (ownSetDayBase p ps s).2.power = s.power ∧
    (ownSetDayBase p ps s).2.link = s.link ∧ (ownSetDayBase p ps s).2.router = s.router ∧
    (ownSetDayBase p ps s).2.geometry = s.geometry ∧ (ownSetDayBase p ps s).2.room = s.room ∧
    (ownSetDayBase p ps s).2.lockout = s.lockout ∧ (ownSetDayBase p ps s).2.store = s.store ∧
    (ownSetDayBase p ps s).2.free = s.free ∧ (ownSetDayBase p ps s).2.pending = s.pending := by
  unfold ownSetDayBase; try dsimp only
  all_goals (repeat' split)
  all_goals first | (simp; done) | (simp_all; done) | rfl

@[simp] theorem ownPowerOn_frame (p : Port) (s : State) :
    quietPorts (ownPowerOn p s).2.ports = quietPorts s.ports ∧ (ownPowerOn p s).2.lamp.newest = s.lamp.newest ∧
    (ownPowerOn p s).2.lamp.replaceInFlight = s.lamp.replaceInFlight ∧
    (ownPowerOn p s).2.lamp.history = s.lamp.history ∧ (ownPowerOn p s).2.link.state = s.link.state ∧
    (ownPowerOn p s).2.link.silence = s.link.silence ∧ (ownPowerOn p s).2.link.lane = s.link.lane ∧
    (ownPowerOn p s).2.link.reportImage = s.link.reportImage ∧
    (ownPowerOn p s).2.link.lastFormat = s.link.lastFormat ∧
    (ownPowerOn p s).2.link.lastRejection = s.link.lastRejection ∧ (ownPowerOn p s).2.link.lostFor = s.link.lostFor ∧
    (ownPowerOn p s).2.link.sinceMessage = s.link.sinceMessage ∧ (ownPowerOn p s).2.link.lastSet = s.link.lastSet ∧
    (ownPowerOn p s).2.link.receiver = s.link.receiver ∧ (ownPowerOn p s).2.router.sources = s.router.sources ∧
    (ownPowerOn p s).2.router.raw = s.router.raw ∧ (ownPowerOn p s).2.router.debounced = s.router.debounced ∧
    (ownPowerOn p s).2.router.stability = s.router.stability ∧ (ownPowerOn p s).2.router.sample = s.router.sample ∧
    (ownPowerOn p s).2.router.requested = s.router.requested ∧
    (ownPowerOn p s).2.router.routedInput = s.router.routedInput ∧
    (ownPowerOn p s).2.router.routedSource = s.router.routedSource ∧
    (ownPowerOn p s).2.router.state = s.router.state ∧ (ownPowerOn p s).2.router.format = s.router.format ∧
    (ownPowerOn p s).2.router.chain = s.router.chain ∧ (ownPowerOn p s).2.router.pendingSlot = s.router.pendingSlot ∧
    (ownPowerOn p s).2.router.deferred = s.router.deferred ∧ (ownPowerOn p s).2.router.settle = s.router.settle ∧
    (ownPowerOn p s).2.router.settleOrigin = s.router.settleOrigin ∧
    (ownPowerOn p s).2.router.resolved = s.router.resolved ∧ (ownPowerOn p s).2.geometry = s.geometry ∧
    (ownPowerOn p s).2.room = s.room ∧ (ownPowerOn p s).2.lockout = s.lockout ∧
    (ownPowerOn p s).2.store.slots = s.store.slots ∧ (ownPowerOn p s).2.store.records = s.store.records ∧
    (ownPowerOn p s).2.store.loaded = s.store.loaded ∧ (ownPowerOn p s).2.store.install = s.store.install ∧
    (ownPowerOn p s).2.store.room = s.store.room ∧ (ownPowerOn p s).2.store.protect = s.store.protect ∧
    (ownPowerOn p s).2.store.window = s.store.window ∧ (ownPowerOn p s).2.store.wipe = s.store.wipe ∧
    (ownPowerOn p s).2.pending = s.pending := by
  unfold ownPowerOn; try dsimp only
  all_goals (repeat' split)
  all_goals first | (simp; done) | (simp_all; done) | rfl

@[simp] theorem ownPowerOff_frame (p : Port) (s : State) :
    quietPorts (ownPowerOff p s).2.ports = quietPorts s.ports ∧ (ownPowerOff p s).2.lamp.newest = s.lamp.newest ∧
    (ownPowerOff p s).2.lamp.replaceInFlight = s.lamp.replaceInFlight ∧
    (ownPowerOff p s).2.lamp.history = s.lamp.history ∧ (ownPowerOff p s).2.link.state = s.link.state ∧
    (ownPowerOff p s).2.link.silence = s.link.silence ∧ (ownPowerOff p s).2.link.lane = s.link.lane ∧
    (ownPowerOff p s).2.link.reportImage = s.link.reportImage ∧
    (ownPowerOff p s).2.link.lastFormat = s.link.lastFormat ∧
    (ownPowerOff p s).2.link.lastRejection = s.link.lastRejection ∧
    (ownPowerOff p s).2.link.lostFor = s.link.lostFor ∧ (ownPowerOff p s).2.link.sinceMessage = s.link.sinceMessage ∧
    (ownPowerOff p s).2.link.lastSet = s.link.lastSet ∧ (ownPowerOff p s).2.link.receiver = s.link.receiver ∧
    (ownPowerOff p s).2.router.sources = s.router.sources ∧ (ownPowerOff p s).2.router.raw = s.router.raw ∧
    (ownPowerOff p s).2.router.debounced = s.router.debounced ∧
    (ownPowerOff p s).2.router.stability = s.router.stability ∧ (ownPowerOff p s).2.router.sample = s.router.sample ∧
    (ownPowerOff p s).2.router.requested = s.router.requested ∧
    (ownPowerOff p s).2.router.routedInput = s.router.routedInput ∧
    (ownPowerOff p s).2.router.routedSource = s.router.routedSource ∧
    (ownPowerOff p s).2.router.state = s.router.state ∧ (ownPowerOff p s).2.router.format = s.router.format ∧
    (ownPowerOff p s).2.router.chain = s.router.chain ∧
    (ownPowerOff p s).2.router.pendingSlot = s.router.pendingSlot ∧
    (ownPowerOff p s).2.router.deferred = s.router.deferred ∧ (ownPowerOff p s).2.router.settle = s.router.settle ∧
    (ownPowerOff p s).2.router.settleOrigin = s.router.settleOrigin ∧
    (ownPowerOff p s).2.router.resolved = s.router.resolved ∧ (ownPowerOff p s).2.geometry = s.geometry ∧
    (ownPowerOff p s).2.room = s.room ∧ (ownPowerOff p s).2.lockout = s.lockout ∧
    (ownPowerOff p s).2.store.slots = s.store.slots ∧ (ownPowerOff p s).2.store.records = s.store.records ∧
    (ownPowerOff p s).2.store.loaded = s.store.loaded ∧ (ownPowerOff p s).2.store.install = s.store.install ∧
    (ownPowerOff p s).2.store.room = s.store.room ∧ (ownPowerOff p s).2.store.protect = s.store.protect ∧
    (ownPowerOff p s).2.store.window = s.store.window ∧ (ownPowerOff p s).2.store.wipe = s.store.wipe ∧
    (ownPowerOff p s).2.pending = s.pending := by
  unfold ownPowerOff; try dsimp only
  all_goals (repeat' split)
  all_goals first | (simp; done) | (simp_all; done) | rfl

@[simp] theorem ownBlank_frame (ps : List Word) (s : State) :
    quietPorts (ownBlank ps s).2.ports = quietPorts s.ports ∧ (ownBlank ps s).2.lamp.account = s.lamp.account ∧
    (ownBlank ps s).2.lamp.level = s.lamp.level ∧ (ownBlank ps s).2.lamp.newest = s.lamp.newest ∧
    (ownBlank ps s).2.lamp.tally = s.lamp.tally ∧ (ownBlank ps s).2.lamp.burn = s.lamp.burn ∧
    (ownBlank ps s).2.lamp.hotWindow = s.lamp.hotWindow ∧ (ownBlank ps s).2.lamp.cadence = s.lamp.cadence ∧
    (ownBlank ps s).2.lamp.replaceInFlight = s.lamp.replaceInFlight ∧
    (ownBlank ps s).2.lamp.history = s.lamp.history ∧ (ownBlank ps s).2.power.state = s.power.state ∧
    (ownBlank ps s).2.power.step = s.power.step ∧ (ownBlank ps s).2.power.attempt = s.power.attempt ∧
    (ownBlank ps s).2.power.restartPending = s.power.restartPending ∧
    (ownBlank ps s).2.power.offPending = s.power.offPending ∧
    (ownBlank ps s).2.power.ignitionOrigin = s.power.ignitionOrigin ∧
    (ownBlank ps s).2.power.offOrigin = s.power.offOrigin ∧
    (ownBlank ps s).2.power.thermalHold = s.power.thermalHold ∧
    (ownBlank ps s).2.power.momentaryMode = s.power.momentaryMode ∧
    (ownBlank ps s).2.power.modeEvaluated = s.power.modeEvaluated ∧
    (ownBlank ps s).2.power.strikeTimer = s.power.strikeTimer ∧
    (ownBlank ps s).2.power.pauseTimer = s.power.pauseTimer ∧
    (ownBlank ps s).2.power.warmingTimer = s.power.warmingTimer ∧
    (ownBlank ps s).2.power.coolingTimer = s.power.coolingTimer ∧
    (ownBlank ps s).2.power.reportWait = s.power.reportWait ∧ (ownBlank ps s).2.link.state = s.link.state ∧
    (ownBlank ps s).2.link.silence = s.link.silence ∧ (ownBlank ps s).2.link.lane = s.link.lane ∧
    (ownBlank ps s).2.link.reportImage = s.link.reportImage ∧ (ownBlank ps s).2.link.lastFormat = s.link.lastFormat ∧
    (ownBlank ps s).2.link.lastRejection = s.link.lastRejection ∧ (ownBlank ps s).2.link.lostFor = s.link.lostFor ∧
    (ownBlank ps s).2.link.sinceMessage = s.link.sinceMessage ∧ (ownBlank ps s).2.link.lastSet = s.link.lastSet ∧
    (ownBlank ps s).2.link.receiver = s.link.receiver ∧ (ownBlank ps s).2.router = s.router ∧
    (ownBlank ps s).2.geometry = s.geometry ∧ (ownBlank ps s).2.room = s.room ∧
    (ownBlank ps s).2.lockout = s.lockout ∧ (ownBlank ps s).2.store.slots = s.store.slots ∧
    (ownBlank ps s).2.store.records = s.store.records ∧ (ownBlank ps s).2.store.loaded = s.store.loaded ∧
    (ownBlank ps s).2.store.install = s.store.install ∧ (ownBlank ps s).2.store.room = s.store.room ∧
    (ownBlank ps s).2.store.protect = s.store.protect ∧ (ownBlank ps s).2.store.window = s.store.window ∧
    (ownBlank ps s).2.store.wipe = s.store.wipe ∧ (ownBlank ps s).2.pending = s.pending := by
  unfold ownBlank; try dsimp only
  all_goals (repeat' split)
  all_goals first | (simp; done) | (simp_all; done) | rfl

@[simp] theorem writeRoom_frame (r : RoomDefaults) (o : Origin) (s : State) :
    quietPorts (writeRoom r o s).ports = quietPorts s.ports ∧ (writeRoom r o s).lamp = s.lamp ∧
    (writeRoom r o s).power = s.power ∧ (writeRoom r o s).link = s.link ∧ (writeRoom r o s).router = s.router ∧
    (writeRoom r o s).geometry = s.geometry ∧ (writeRoom r o s).room = s.room ∧
    (writeRoom r o s).lockout = s.lockout ∧ (writeRoom r o s).store.slots = s.store.slots ∧
    (writeRoom r o s).store.records = s.store.records ∧ (writeRoom r o s).store.loaded = s.store.loaded ∧
    (writeRoom r o s).store.install = s.store.install ∧ (writeRoom r o s).store.protect = s.store.protect ∧
    (writeRoom r o s).store.window = s.store.window ∧ (writeRoom r o s).store.engine = s.store.engine ∧
    (writeRoom r o s).store.wipe = s.store.wipe ∧ (writeRoom r o s).pending = s.pending := by
  unfold writeRoom; try dsimp only
  all_goals (repeat' split)
  all_goals first | (simp; done) | (simp_all; done) | rfl

@[simp] theorem setMomentaryMode_frame (m : Option LampMode) (s : State) :
    (setMomentaryMode m s).ports = s.ports ∧ (setMomentaryMode m s).lamp = s.lamp ∧
    (setMomentaryMode m s).power.state = s.power.state ∧ (setMomentaryMode m s).power.step = s.power.step ∧
    (setMomentaryMode m s).power.attempt = s.power.attempt ∧
    (setMomentaryMode m s).power.restartPending = s.power.restartPending ∧
    (setMomentaryMode m s).power.offPending = s.power.offPending ∧
    (setMomentaryMode m s).power.ignitionOrigin = s.power.ignitionOrigin ∧
    (setMomentaryMode m s).power.offOrigin = s.power.offOrigin ∧
    (setMomentaryMode m s).power.thermalHold = s.power.thermalHold ∧
    (setMomentaryMode m s).power.shutter = s.power.shutter ∧
    (setMomentaryMode m s).power.effectiveMode = s.power.effectiveMode ∧
    (setMomentaryMode m s).power.modeEvaluated = s.power.modeEvaluated ∧
    (setMomentaryMode m s).power.strikeTimer = s.power.strikeTimer ∧
    (setMomentaryMode m s).power.pauseTimer = s.power.pauseTimer ∧
    (setMomentaryMode m s).power.warmingTimer = s.power.warmingTimer ∧
    (setMomentaryMode m s).power.coolingTimer = s.power.coolingTimer ∧
    (setMomentaryMode m s).power.blankDim = s.power.blankDim ∧ (setMomentaryMode m s).power.dimmed = s.power.dimmed ∧
    (setMomentaryMode m s).power.reportWait = s.power.reportWait ∧ (setMomentaryMode m s).link = s.link ∧
    (setMomentaryMode m s).router = s.router ∧ (setMomentaryMode m s).geometry = s.geometry ∧
    (setMomentaryMode m s).room = s.room ∧ (setMomentaryMode m s).lockout = s.lockout ∧
    (setMomentaryMode m s).store = s.store ∧ (setMomentaryMode m s).free = s.free ∧
    (setMomentaryMode m s).pending = s.pending := by
  unfold setMomentaryMode; try dsimp only
  all_goals (repeat' split)
  all_goals first | (simp; done) | (simp_all; done) | rfl

@[simp] theorem ownSetLampMode_frame (p : Port) (q : Qualifier) (ps : List Word) (s : State) :
    quietPorts (ownSetLampMode p q ps s).2.ports = quietPorts s.ports ∧
    (ownSetLampMode p q ps s).2.lamp.account = s.lamp.account ∧
    (ownSetLampMode p q ps s).2.lamp.level = s.lamp.level ∧ (ownSetLampMode p q ps s).2.lamp.newest = s.lamp.newest ∧
    (ownSetLampMode p q ps s).2.lamp.tally = s.lamp.tally ∧ (ownSetLampMode p q ps s).2.lamp.burn = s.lamp.burn ∧
    (ownSetLampMode p q ps s).2.lamp.hotWindow = s.lamp.hotWindow ∧
    (ownSetLampMode p q ps s).2.lamp.cadence = s.lamp.cadence ∧
    (ownSetLampMode p q ps s).2.lamp.replaceInFlight = s.lamp.replaceInFlight ∧
    (ownSetLampMode p q ps s).2.lamp.history = s.lamp.history ∧
    (ownSetLampMode p q ps s).2.power.state = s.power.state ∧ (ownSetLampMode p q ps s).2.power.step = s.power.step ∧
    (ownSetLampMode p q ps s).2.power.attempt = s.power.attempt ∧
    (ownSetLampMode p q ps s).2.power.restartPending = s.power.restartPending ∧
    (ownSetLampMode p q ps s).2.power.offPending = s.power.offPending ∧
    (ownSetLampMode p q ps s).2.power.ignitionOrigin = s.power.ignitionOrigin ∧
    (ownSetLampMode p q ps s).2.power.offOrigin = s.power.offOrigin ∧
    (ownSetLampMode p q ps s).2.power.thermalHold = s.power.thermalHold ∧
    (ownSetLampMode p q ps s).2.power.shutter = s.power.shutter ∧
    (ownSetLampMode p q ps s).2.power.modeEvaluated = s.power.modeEvaluated ∧
    (ownSetLampMode p q ps s).2.power.strikeTimer = s.power.strikeTimer ∧
    (ownSetLampMode p q ps s).2.power.pauseTimer = s.power.pauseTimer ∧
    (ownSetLampMode p q ps s).2.power.warmingTimer = s.power.warmingTimer ∧
    (ownSetLampMode p q ps s).2.power.coolingTimer = s.power.coolingTimer ∧
    (ownSetLampMode p q ps s).2.power.blankDim = s.power.blankDim ∧
    (ownSetLampMode p q ps s).2.power.dimmed = s.power.dimmed ∧
    (ownSetLampMode p q ps s).2.power.reportWait = s.power.reportWait ∧
    (ownSetLampMode p q ps s).2.link.state = s.link.state ∧
    (ownSetLampMode p q ps s).2.link.silence = s.link.silence ∧ (ownSetLampMode p q ps s).2.link.lane = s.link.lane ∧
    (ownSetLampMode p q ps s).2.link.reportImage = s.link.reportImage ∧
    (ownSetLampMode p q ps s).2.link.lastFormat = s.link.lastFormat ∧
    (ownSetLampMode p q ps s).2.link.lastRejection = s.link.lastRejection ∧
    (ownSetLampMode p q ps s).2.link.lostFor = s.link.lostFor ∧
    (ownSetLampMode p q ps s).2.link.sinceMessage = s.link.sinceMessage ∧
    (ownSetLampMode p q ps s).2.link.lastSet = s.link.lastSet ∧
    (ownSetLampMode p q ps s).2.link.receiver = s.link.receiver ∧ (ownSetLampMode p q ps s).2.router = s.router ∧
    (ownSetLampMode p q ps s).2.geometry = s.geometry ∧ (ownSetLampMode p q ps s).2.room = s.room ∧
    (ownSetLampMode p q ps s).2.lockout = s.lockout ∧ (ownSetLampMode p q ps s).2.store.slots = s.store.slots ∧
    (ownSetLampMode p q ps s).2.store.records = s.store.records ∧
    (ownSetLampMode p q ps s).2.store.loaded = s.store.loaded ∧
    (ownSetLampMode p q ps s).2.store.install = s.store.install ∧
    (ownSetLampMode p q ps s).2.store.protect = s.store.protect ∧
    (ownSetLampMode p q ps s).2.store.window = s.store.window ∧
    (ownSetLampMode p q ps s).2.store.wipe = s.store.wipe ∧ (ownSetLampMode p q ps s).2.pending = s.pending := by
  unfold ownSetLampMode; try dsimp only
  all_goals (repeat' split)
  all_goals first | (simp; done) | (simp_all; done) | rfl

@[simp] theorem storeSource_frame (x : Fin 8) (o : Origin) (s : State) :
    quietPorts (storeSource x o s).ports = quietPorts s.ports ∧ (storeSource x o s).lamp = s.lamp ∧
    (storeSource x o s).power = s.power ∧ (storeSource x o s).link = s.link ∧ (storeSource x o s).router = s.router ∧
    (storeSource x o s).geometry = s.geometry ∧ (storeSource x o s).room = s.room ∧
    (storeSource x o s).lockout = s.lockout ∧ (storeSource x o s).store.slots = s.store.slots ∧
    (storeSource x o s).store.records = s.store.records ∧ (storeSource x o s).store.loaded = s.store.loaded ∧
    (storeSource x o s).store.install = s.store.install ∧ (storeSource x o s).store.protect = s.store.protect ∧
    (storeSource x o s).store.window = s.store.window ∧ (storeSource x o s).store.engine = s.store.engine ∧
    (storeSource x o s).store.wipe = s.store.wipe ∧ (storeSource x o s).pending = s.pending := by
  unfold storeSource; try dsimp only
  all_goals (repeat' split)
  all_goals first | (simp; done) | (simp_all; done) | rfl

@[simp] theorem ownSelectSource_frame (p : Port) (q : Qualifier) (ps : List Word) (s : State) :
    quietPorts (ownSelectSource p q ps s).2.ports = quietPorts s.ports ∧ (ownSelectSource p q ps s).2.lamp = s.lamp ∧
    (ownSelectSource p q ps s).2.power = s.power ∧ (ownSelectSource p q ps s).2.link.state = s.link.state ∧
    (ownSelectSource p q ps s).2.link.silence = s.link.silence ∧
    (ownSelectSource p q ps s).2.link.reportImage = s.link.reportImage ∧
    (ownSelectSource p q ps s).2.link.lastFormat = s.link.lastFormat ∧
    (ownSelectSource p q ps s).2.link.lastRejection = s.link.lastRejection ∧
    (ownSelectSource p q ps s).2.link.lostFor = s.link.lostFor ∧
    (ownSelectSource p q ps s).2.link.sinceMessage = s.link.sinceMessage ∧
    (ownSelectSource p q ps s).2.link.receiver = s.link.receiver ∧
    (ownSelectSource p q ps s).2.router.sources = s.router.sources ∧
    (ownSelectSource p q ps s).2.router.raw = s.router.raw ∧
    (ownSelectSource p q ps s).2.router.debounced = s.router.debounced ∧
    (ownSelectSource p q ps s).2.router.stability = s.router.stability ∧
    (ownSelectSource p q ps s).2.router.sample = s.router.sample ∧
    (ownSelectSource p q ps s).2.router.resolved = s.router.resolved ∧
    (ownSelectSource p q ps s).2.geometry.presets = s.geometry.presets ∧
    (ownSelectSource p q ps s).2.geometry.overlay = s.geometry.overlay ∧
    (ownSelectSource p q ps s).2.geometry.format = s.geometry.format ∧
    (ownSelectSource p q ps s).2.geometry.started = s.geometry.started ∧ (ownSelectSource p q ps s).2.room = s.room ∧
    (ownSelectSource p q ps s).2.lockout = s.lockout ∧ (ownSelectSource p q ps s).2.store.slots = s.store.slots ∧
    (ownSelectSource p q ps s).2.store.records = s.store.records ∧
    (ownSelectSource p q ps s).2.store.loaded = s.store.loaded ∧
    (ownSelectSource p q ps s).2.store.install = s.store.install ∧
    (ownSelectSource p q ps s).2.store.protect = s.store.protect ∧
    (ownSelectSource p q ps s).2.store.window = s.store.window ∧
    (ownSelectSource p q ps s).2.store.wipe = s.store.wipe ∧ (ownSelectSource p q ps s).2.pending = s.pending := by
  unfold ownSelectSource; try dsimp only
  all_goals (repeat' split)
  all_goals first | (simp; done) | (simp_all; done) | rfl

/-! ## GeometryCommands -/

@[simp] theorem setOverlay_frame (o : Overlay) (s : State) :
    (setOverlay o s).ports = s.ports ∧ (setOverlay o s).lamp = s.lamp ∧ (setOverlay o s).power = s.power ∧
    (setOverlay o s).link = s.link ∧ (setOverlay o s).router = s.router ∧
    (setOverlay o s).geometry.presets = s.geometry.presets ∧
    (setOverlay o s).geometry.momentary = s.geometry.momentary ∧
    (setOverlay o s).geometry.routed = s.geometry.routed ∧ (setOverlay o s).geometry.format = s.geometry.format ∧
    (setOverlay o s).geometry.started = s.geometry.started ∧ (setOverlay o s).geometry.active = s.geometry.active ∧
    (setOverlay o s).geometry.current = s.geometry.current ∧
    (setOverlay o s).geometry.setNumber = s.geometry.setNumber ∧
    (setOverlay o s).geometry.status = s.geometry.status ∧
    (setOverlay o s).geometry.commitAcked = s.geometry.commitAcked ∧
    (setOverlay o s).geometry.keptResend = s.geometry.keptResend ∧ (setOverlay o s).room = s.room ∧
    (setOverlay o s).lockout = s.lockout ∧ (setOverlay o s).store = s.store ∧ (setOverlay o s).free = s.free ∧
    (setOverlay o s).pending = s.pending := by
  unfold setOverlay; try dsimp only
  all_goals (repeat' split)
  all_goals first | (simp; done) | (simp_all; done) | rfl

@[simp] theorem writePreset_frame (n : Fin 16) (x : Preset) (o : Origin) (s : State) :
    quietPorts (writePreset n x o s).ports = quietPorts s.ports ∧ (writePreset n x o s).lamp = s.lamp ∧
    (writePreset n x o s).power = s.power ∧ (writePreset n x o s).link = s.link ∧
    (writePreset n x o s).router = s.router ∧ (writePreset n x o s).geometry.overlay = s.geometry.overlay ∧
    (writePreset n x o s).geometry.momentary = s.geometry.momentary ∧
    (writePreset n x o s).geometry.routed = s.geometry.routed ∧
    (writePreset n x o s).geometry.format = s.geometry.format ∧
    (writePreset n x o s).geometry.started = s.geometry.started ∧
    (writePreset n x o s).geometry.active = s.geometry.active ∧
    (writePreset n x o s).geometry.current = s.geometry.current ∧
    (writePreset n x o s).geometry.setNumber = s.geometry.setNumber ∧
    (writePreset n x o s).geometry.status = s.geometry.status ∧
    (writePreset n x o s).geometry.commitAcked = s.geometry.commitAcked ∧
    (writePreset n x o s).geometry.keptResend = s.geometry.keptResend ∧ (writePreset n x o s).room = s.room ∧
    (writePreset n x o s).lockout = s.lockout ∧ (writePreset n x o s).store.slots = s.store.slots ∧
    (writePreset n x o s).store.records = s.store.records ∧ (writePreset n x o s).store.loaded = s.store.loaded ∧
    (writePreset n x o s).store.install = s.store.install ∧ (writePreset n x o s).store.room = s.store.room ∧
    (writePreset n x o s).store.protect = s.store.protect ∧ (writePreset n x o s).store.window = s.store.window ∧
    (writePreset n x o s).store.engine = s.store.engine ∧ (writePreset n x o s).store.wipe = s.store.wipe ∧
    (writePreset n x o s).pending = s.pending := by
  unfold writePreset; try dsimp only
  all_goals (repeat' split)
  all_goals first | (simp; done) | (simp_all; done) | rfl

@[simp] theorem commandEval_frame (s t : State) :
    (commandEval s t).ports = t.ports ∧ (commandEval s t).lamp = t.lamp ∧ (commandEval s t).power = t.power ∧
    (commandEval s t).link.state = t.link.state ∧ (commandEval s t).link.silence = t.link.silence ∧
    (commandEval s t).link.answer = t.link.answer ∧ (commandEval s t).link.nextTag = t.link.nextTag ∧
    (commandEval s t).link.control = t.link.control ∧ (commandEval s t).link.reportImage = t.link.reportImage ∧
    (commandEval s t).link.lastFormat = t.link.lastFormat ∧ (commandEval s t).link.lastRejection = t.link.lastRejection ∧
    (commandEval s t).link.lostFor = t.link.lostFor ∧ (commandEval s t).link.sinceMessage = t.link.sinceMessage ∧
    (commandEval s t).link.receiver = t.link.receiver ∧ (commandEval s t).link.transmit = t.link.transmit ∧
    (commandEval s t).router = t.router ∧ (commandEval s t).geometry.presets = t.geometry.presets ∧
    (commandEval s t).geometry.overlay = t.geometry.overlay ∧
    (commandEval s t).geometry.momentary = t.geometry.momentary ∧ (commandEval s t).geometry.routed = t.geometry.routed ∧
    (commandEval s t).geometry.format = t.geometry.format ∧ (commandEval s t).geometry.started = t.geometry.started ∧
    (commandEval s t).room = t.room ∧ (commandEval s t).lockout = t.lockout ∧ (commandEval s t).store = t.store ∧
    (commandEval s t).free = t.free ∧ (commandEval s t).pending = t.pending := by
  unfold commandEval; try dsimp only
  all_goals (repeat' split)
  all_goals first | (simp; done) | (simp_all; done) | rfl

@[simp] theorem momentaryGeometry_frame (clamped : Bool) (o : Overlay) (s : State) :
    quietPorts (momentaryGeometry clamped o s).2.ports = quietPorts s.ports ∧
    (momentaryGeometry clamped o s).2.lamp = s.lamp ∧ (momentaryGeometry clamped o s).2.power = s.power ∧
    (momentaryGeometry clamped o s).2.link.state = s.link.state ∧
    (momentaryGeometry clamped o s).2.link.silence = s.link.silence ∧
    (momentaryGeometry clamped o s).2.link.reportImage = s.link.reportImage ∧
    (momentaryGeometry clamped o s).2.link.lastFormat = s.link.lastFormat ∧
    (momentaryGeometry clamped o s).2.link.lastRejection = s.link.lastRejection ∧
    (momentaryGeometry clamped o s).2.link.lostFor = s.link.lostFor ∧
    (momentaryGeometry clamped o s).2.link.sinceMessage = s.link.sinceMessage ∧
    (momentaryGeometry clamped o s).2.link.receiver = s.link.receiver ∧
    (momentaryGeometry clamped o s).2.router = s.router ∧
    (momentaryGeometry clamped o s).2.geometry.presets = s.geometry.presets ∧
    (momentaryGeometry clamped o s).2.geometry.momentary = s.geometry.momentary ∧
    (momentaryGeometry clamped o s).2.geometry.routed = s.geometry.routed ∧
    (momentaryGeometry clamped o s).2.geometry.format = s.geometry.format ∧
    (momentaryGeometry clamped o s).2.geometry.started = s.geometry.started ∧
    (momentaryGeometry clamped o s).2.room = s.room ∧ (momentaryGeometry clamped o s).2.lockout = s.lockout ∧
    (momentaryGeometry clamped o s).2.store.slots = s.store.slots ∧
    (momentaryGeometry clamped o s).2.store.records = s.store.records ∧
    (momentaryGeometry clamped o s).2.store.loaded = s.store.loaded ∧
    (momentaryGeometry clamped o s).2.store.install = s.store.install ∧
    (momentaryGeometry clamped o s).2.store.room = s.store.room ∧
    (momentaryGeometry clamped o s).2.store.protect = s.store.protect ∧
    (momentaryGeometry clamped o s).2.store.window = s.store.window ∧
    (momentaryGeometry clamped o s).2.store.wipe = s.store.wipe ∧
    (momentaryGeometry clamped o s).2.pending = s.pending := by
  unfold momentaryGeometry; try dsimp only
  all_goals (repeat' split)
  all_goals first | (simp; done) | (simp_all; done) | rfl

@[simp] theorem standingGeometry_frame (p : Port) (clamped : Bool) (x : Preset) (o : Overlay) (s : State) :
    quietPorts (standingGeometry p clamped x o s).2.ports = quietPorts s.ports ∧
    (standingGeometry p clamped x o s).2.lamp = s.lamp ∧ (standingGeometry p clamped x o s).2.power = s.power ∧
    (standingGeometry p clamped x o s).2.link.state = s.link.state ∧
    (standingGeometry p clamped x o s).2.link.silence = s.link.silence ∧
    (standingGeometry p clamped x o s).2.link.reportImage = s.link.reportImage ∧
    (standingGeometry p clamped x o s).2.link.lastFormat = s.link.lastFormat ∧
    (standingGeometry p clamped x o s).2.link.lastRejection = s.link.lastRejection ∧
    (standingGeometry p clamped x o s).2.link.lostFor = s.link.lostFor ∧
    (standingGeometry p clamped x o s).2.link.sinceMessage = s.link.sinceMessage ∧
    (standingGeometry p clamped x o s).2.link.receiver = s.link.receiver ∧
    (standingGeometry p clamped x o s).2.router = s.router ∧
    (standingGeometry p clamped x o s).2.geometry.momentary = s.geometry.momentary ∧
    (standingGeometry p clamped x o s).2.geometry.routed = s.geometry.routed ∧
    (standingGeometry p clamped x o s).2.geometry.format = s.geometry.format ∧
    (standingGeometry p clamped x o s).2.geometry.started = s.geometry.started ∧
    (standingGeometry p clamped x o s).2.room = s.room ∧ (standingGeometry p clamped x o s).2.lockout = s.lockout ∧
    (standingGeometry p clamped x o s).2.store.slots = s.store.slots ∧
    (standingGeometry p clamped x o s).2.store.records = s.store.records ∧
    (standingGeometry p clamped x o s).2.store.loaded = s.store.loaded ∧
    (standingGeometry p clamped x o s).2.store.install = s.store.install ∧
    (standingGeometry p clamped x o s).2.store.room = s.store.room ∧
    (standingGeometry p clamped x o s).2.store.protect = s.store.protect ∧
    (standingGeometry p clamped x o s).2.store.window = s.store.window ∧
    (standingGeometry p clamped x o s).2.store.wipe = s.store.wipe ∧
    (standingGeometry p clamped x o s).2.pending = s.pending := by
  unfold standingGeometry; try dsimp only
  all_goals (repeat' split)
  all_goals first | (simp; done) | (simp_all; done) | rfl

@[simp] theorem setMomentaryPreset_frame (n : Option (Fin 16)) (s : State) :
    (setMomentaryPreset n s).ports = s.ports ∧ (setMomentaryPreset n s).lamp = s.lamp ∧
    (setMomentaryPreset n s).power = s.power ∧ (setMomentaryPreset n s).link = s.link ∧
    (setMomentaryPreset n s).router = s.router ∧ (setMomentaryPreset n s).geometry.presets = s.geometry.presets ∧
    (setMomentaryPreset n s).geometry.overlay = s.geometry.overlay ∧
    (setMomentaryPreset n s).geometry.routed = s.geometry.routed ∧
    (setMomentaryPreset n s).geometry.format = s.geometry.format ∧
    (setMomentaryPreset n s).geometry.started = s.geometry.started ∧
    (setMomentaryPreset n s).geometry.active = s.geometry.active ∧
    (setMomentaryPreset n s).geometry.current = s.geometry.current ∧
    (setMomentaryPreset n s).geometry.setNumber = s.geometry.setNumber ∧
    (setMomentaryPreset n s).geometry.status = s.geometry.status ∧
    (setMomentaryPreset n s).geometry.commitAcked = s.geometry.commitAcked ∧
    (setMomentaryPreset n s).geometry.keptResend = s.geometry.keptResend ∧ (setMomentaryPreset n s).room = s.room ∧
    (setMomentaryPreset n s).lockout = s.lockout ∧ (setMomentaryPreset n s).store = s.store ∧
    (setMomentaryPreset n s).free = s.free ∧ (setMomentaryPreset n s).pending = s.pending := by
  unfold setMomentaryPreset; try dsimp only
  all_goals (repeat' split)
  all_goals first | (simp; done) | (simp_all; done) | rfl

@[simp] theorem ownLoadPreset_frame (p : Port) (q : Qualifier) (ps : List Word) (s : State) :
    quietPorts (ownLoadPreset p q ps s).2.ports = quietPorts s.ports ∧ (ownLoadPreset p q ps s).2.lamp = s.lamp ∧
    (ownLoadPreset p q ps s).2.power = s.power ∧ (ownLoadPreset p q ps s).2.link.state = s.link.state ∧
    (ownLoadPreset p q ps s).2.link.silence = s.link.silence ∧
    (ownLoadPreset p q ps s).2.link.reportImage = s.link.reportImage ∧
    (ownLoadPreset p q ps s).2.link.lastFormat = s.link.lastFormat ∧
    (ownLoadPreset p q ps s).2.link.lastRejection = s.link.lastRejection ∧
    (ownLoadPreset p q ps s).2.link.lostFor = s.link.lostFor ∧
    (ownLoadPreset p q ps s).2.link.sinceMessage = s.link.sinceMessage ∧
    (ownLoadPreset p q ps s).2.link.receiver = s.link.receiver ∧ (ownLoadPreset p q ps s).2.router = s.router ∧
    (ownLoadPreset p q ps s).2.geometry.presets = s.geometry.presets ∧
    (ownLoadPreset p q ps s).2.geometry.overlay = s.geometry.overlay ∧
    (ownLoadPreset p q ps s).2.geometry.routed = s.geometry.routed ∧
    (ownLoadPreset p q ps s).2.geometry.format = s.geometry.format ∧
    (ownLoadPreset p q ps s).2.geometry.started = s.geometry.started ∧ (ownLoadPreset p q ps s).2.room = s.room ∧
    (ownLoadPreset p q ps s).2.lockout = s.lockout ∧ (ownLoadPreset p q ps s).2.store.slots = s.store.slots ∧
    (ownLoadPreset p q ps s).2.store.records = s.store.records ∧
    (ownLoadPreset p q ps s).2.store.loaded = s.store.loaded ∧
    (ownLoadPreset p q ps s).2.store.install = s.store.install ∧
    (ownLoadPreset p q ps s).2.store.protect = s.store.protect ∧
    (ownLoadPreset p q ps s).2.store.window = s.store.window ∧ (ownLoadPreset p q ps s).2.store.wipe = s.store.wipe ∧
    (ownLoadPreset p q ps s).2.pending = s.pending := by
  unfold ownLoadPreset; try dsimp only
  all_goals (repeat' split)
  all_goals first | (simp; done) | (simp_all; done) | rfl

@[simp] theorem ownSetKeystone_frame (p : Port) (q : Qualifier) (ps : List Word) (s : State) :
    quietPorts (ownSetKeystone p q ps s).2.ports = quietPorts s.ports ∧ (ownSetKeystone p q ps s).2.lamp = s.lamp ∧
    (ownSetKeystone p q ps s).2.power = s.power ∧ (ownSetKeystone p q ps s).2.link.state = s.link.state ∧
    (ownSetKeystone p q ps s).2.link.silence = s.link.silence ∧
    (ownSetKeystone p q ps s).2.link.reportImage = s.link.reportImage ∧
    (ownSetKeystone p q ps s).2.link.lastFormat = s.link.lastFormat ∧
    (ownSetKeystone p q ps s).2.link.lastRejection = s.link.lastRejection ∧
    (ownSetKeystone p q ps s).2.link.lostFor = s.link.lostFor ∧
    (ownSetKeystone p q ps s).2.link.sinceMessage = s.link.sinceMessage ∧
    (ownSetKeystone p q ps s).2.link.receiver = s.link.receiver ∧ (ownSetKeystone p q ps s).2.router = s.router ∧
    (ownSetKeystone p q ps s).2.geometry.momentary = s.geometry.momentary ∧
    (ownSetKeystone p q ps s).2.geometry.routed = s.geometry.routed ∧
    (ownSetKeystone p q ps s).2.geometry.format = s.geometry.format ∧
    (ownSetKeystone p q ps s).2.geometry.started = s.geometry.started ∧ (ownSetKeystone p q ps s).2.room = s.room ∧
    (ownSetKeystone p q ps s).2.lockout = s.lockout ∧ (ownSetKeystone p q ps s).2.store.slots = s.store.slots ∧
    (ownSetKeystone p q ps s).2.store.records = s.store.records ∧
    (ownSetKeystone p q ps s).2.store.loaded = s.store.loaded ∧
    (ownSetKeystone p q ps s).2.store.install = s.store.install ∧
    (ownSetKeystone p q ps s).2.store.room = s.store.room ∧
    (ownSetKeystone p q ps s).2.store.protect = s.store.protect ∧
    (ownSetKeystone p q ps s).2.store.window = s.store.window ∧
    (ownSetKeystone p q ps s).2.store.wipe = s.store.wipe ∧ (ownSetKeystone p q ps s).2.pending = s.pending := by
  unfold ownSetKeystone; try dsimp only
  all_goals (repeat' split)
  all_goals first | (simp; done) | (simp_all; done) | rfl

@[simp] theorem ownNudgeKeystone_frame (p : Port) (q : Qualifier) (ps : List Word) (s : State) :
    quietPorts (ownNudgeKeystone p q ps s).2.ports = quietPorts s.ports ∧
    (ownNudgeKeystone p q ps s).2.lamp = s.lamp ∧ (ownNudgeKeystone p q ps s).2.power = s.power ∧
    (ownNudgeKeystone p q ps s).2.link.state = s.link.state ∧
    (ownNudgeKeystone p q ps s).2.link.silence = s.link.silence ∧
    (ownNudgeKeystone p q ps s).2.link.reportImage = s.link.reportImage ∧
    (ownNudgeKeystone p q ps s).2.link.lastFormat = s.link.lastFormat ∧
    (ownNudgeKeystone p q ps s).2.link.lastRejection = s.link.lastRejection ∧
    (ownNudgeKeystone p q ps s).2.link.lostFor = s.link.lostFor ∧
    (ownNudgeKeystone p q ps s).2.link.sinceMessage = s.link.sinceMessage ∧
    (ownNudgeKeystone p q ps s).2.link.receiver = s.link.receiver ∧ (ownNudgeKeystone p q ps s).2.router = s.router ∧
    (ownNudgeKeystone p q ps s).2.geometry.momentary = s.geometry.momentary ∧
    (ownNudgeKeystone p q ps s).2.geometry.routed = s.geometry.routed ∧
    (ownNudgeKeystone p q ps s).2.geometry.format = s.geometry.format ∧
    (ownNudgeKeystone p q ps s).2.geometry.started = s.geometry.started ∧
    (ownNudgeKeystone p q ps s).2.room = s.room ∧ (ownNudgeKeystone p q ps s).2.lockout = s.lockout ∧
    (ownNudgeKeystone p q ps s).2.store.slots = s.store.slots ∧
    (ownNudgeKeystone p q ps s).2.store.records = s.store.records ∧
    (ownNudgeKeystone p q ps s).2.store.loaded = s.store.loaded ∧
    (ownNudgeKeystone p q ps s).2.store.install = s.store.install ∧
    (ownNudgeKeystone p q ps s).2.store.room = s.store.room ∧
    (ownNudgeKeystone p q ps s).2.store.protect = s.store.protect ∧
    (ownNudgeKeystone p q ps s).2.store.window = s.store.window ∧
    (ownNudgeKeystone p q ps s).2.store.wipe = s.store.wipe ∧ (ownNudgeKeystone p q ps s).2.pending = s.pending := by
  unfold ownNudgeKeystone; try dsimp only
  all_goals (repeat' split)
  all_goals first | (simp; done) | (simp_all; done) | rfl

@[simp] theorem ownSetCorner_frame (p : Port) (q : Qualifier) (ps : List Word) (s : State) :
    quietPorts (ownSetCorner p q ps s).2.ports = quietPorts s.ports ∧ (ownSetCorner p q ps s).2.lamp = s.lamp ∧
    (ownSetCorner p q ps s).2.power = s.power ∧ (ownSetCorner p q ps s).2.link.state = s.link.state ∧
    (ownSetCorner p q ps s).2.link.silence = s.link.silence ∧
    (ownSetCorner p q ps s).2.link.reportImage = s.link.reportImage ∧
    (ownSetCorner p q ps s).2.link.lastFormat = s.link.lastFormat ∧
    (ownSetCorner p q ps s).2.link.lastRejection = s.link.lastRejection ∧
    (ownSetCorner p q ps s).2.link.lostFor = s.link.lostFor ∧
    (ownSetCorner p q ps s).2.link.sinceMessage = s.link.sinceMessage ∧
    (ownSetCorner p q ps s).2.link.receiver = s.link.receiver ∧ (ownSetCorner p q ps s).2.router = s.router ∧
    (ownSetCorner p q ps s).2.geometry.momentary = s.geometry.momentary ∧
    (ownSetCorner p q ps s).2.geometry.routed = s.geometry.routed ∧
    (ownSetCorner p q ps s).2.geometry.format = s.geometry.format ∧
    (ownSetCorner p q ps s).2.geometry.started = s.geometry.started ∧ (ownSetCorner p q ps s).2.room = s.room ∧
    (ownSetCorner p q ps s).2.lockout = s.lockout ∧ (ownSetCorner p q ps s).2.store.slots = s.store.slots ∧
    (ownSetCorner p q ps s).2.store.records = s.store.records ∧
    (ownSetCorner p q ps s).2.store.loaded = s.store.loaded ∧
    (ownSetCorner p q ps s).2.store.install = s.store.install ∧ (ownSetCorner p q ps s).2.store.room = s.store.room ∧
    (ownSetCorner p q ps s).2.store.protect = s.store.protect ∧
    (ownSetCorner p q ps s).2.store.window = s.store.window ∧ (ownSetCorner p q ps s).2.store.wipe = s.store.wipe ∧
    (ownSetCorner p q ps s).2.pending = s.pending := by
  unfold ownSetCorner; try dsimp only
  all_goals (repeat' split)
  all_goals first | (simp; done) | (simp_all; done) | rfl

@[simp] theorem ownSetAspect_frame (p : Port) (q : Qualifier) (ps : List Word) (s : State) :
    quietPorts (ownSetAspect p q ps s).2.ports = quietPorts s.ports ∧ (ownSetAspect p q ps s).2.lamp = s.lamp ∧
    (ownSetAspect p q ps s).2.power = s.power ∧ (ownSetAspect p q ps s).2.link.state = s.link.state ∧
    (ownSetAspect p q ps s).2.link.silence = s.link.silence ∧
    (ownSetAspect p q ps s).2.link.reportImage = s.link.reportImage ∧
    (ownSetAspect p q ps s).2.link.lastFormat = s.link.lastFormat ∧
    (ownSetAspect p q ps s).2.link.lastRejection = s.link.lastRejection ∧
    (ownSetAspect p q ps s).2.link.lostFor = s.link.lostFor ∧
    (ownSetAspect p q ps s).2.link.sinceMessage = s.link.sinceMessage ∧
    (ownSetAspect p q ps s).2.link.receiver = s.link.receiver ∧ (ownSetAspect p q ps s).2.router = s.router ∧
    (ownSetAspect p q ps s).2.geometry.momentary = s.geometry.momentary ∧
    (ownSetAspect p q ps s).2.geometry.routed = s.geometry.routed ∧
    (ownSetAspect p q ps s).2.geometry.format = s.geometry.format ∧
    (ownSetAspect p q ps s).2.geometry.started = s.geometry.started ∧ (ownSetAspect p q ps s).2.room = s.room ∧
    (ownSetAspect p q ps s).2.lockout = s.lockout ∧ (ownSetAspect p q ps s).2.store.slots = s.store.slots ∧
    (ownSetAspect p q ps s).2.store.records = s.store.records ∧
    (ownSetAspect p q ps s).2.store.loaded = s.store.loaded ∧
    (ownSetAspect p q ps s).2.store.install = s.store.install ∧ (ownSetAspect p q ps s).2.store.room = s.store.room ∧
    (ownSetAspect p q ps s).2.store.protect = s.store.protect ∧
    (ownSetAspect p q ps s).2.store.window = s.store.window ∧ (ownSetAspect p q ps s).2.store.wipe = s.store.wipe ∧
    (ownSetAspect p q ps s).2.pending = s.pending := by
  unfold ownSetAspect; try dsimp only
  all_goals (repeat' split)
  all_goals first | (simp; done) | (simp_all; done) | rfl

@[simp] theorem ownSavePreset_frame (p : Port) (ps : List Word) (s : State) :
    quietPorts (ownSavePreset p ps s).2.ports = quietPorts s.ports ∧ (ownSavePreset p ps s).2.lamp = s.lamp ∧
    (ownSavePreset p ps s).2.power = s.power ∧ (ownSavePreset p ps s).2.link.state = s.link.state ∧
    (ownSavePreset p ps s).2.link.silence = s.link.silence ∧
    (ownSavePreset p ps s).2.link.reportImage = s.link.reportImage ∧
    (ownSavePreset p ps s).2.link.lastFormat = s.link.lastFormat ∧
    (ownSavePreset p ps s).2.link.lastRejection = s.link.lastRejection ∧
    (ownSavePreset p ps s).2.link.lostFor = s.link.lostFor ∧
    (ownSavePreset p ps s).2.link.sinceMessage = s.link.sinceMessage ∧
    (ownSavePreset p ps s).2.link.receiver = s.link.receiver ∧ (ownSavePreset p ps s).2.router = s.router ∧
    (ownSavePreset p ps s).2.geometry.momentary = s.geometry.momentary ∧
    (ownSavePreset p ps s).2.geometry.routed = s.geometry.routed ∧
    (ownSavePreset p ps s).2.geometry.format = s.geometry.format ∧
    (ownSavePreset p ps s).2.geometry.started = s.geometry.started ∧ (ownSavePreset p ps s).2.room = s.room ∧
    (ownSavePreset p ps s).2.lockout = s.lockout ∧ (ownSavePreset p ps s).2.store.slots = s.store.slots ∧
    (ownSavePreset p ps s).2.store.records = s.store.records ∧
    (ownSavePreset p ps s).2.store.loaded = s.store.loaded ∧
    (ownSavePreset p ps s).2.store.install = s.store.install ∧ (ownSavePreset p ps s).2.store.room = s.store.room ∧
    (ownSavePreset p ps s).2.store.protect = s.store.protect ∧
    (ownSavePreset p ps s).2.store.window = s.store.window ∧ (ownSavePreset p ps s).2.store.wipe = s.store.wipe ∧
    (ownSavePreset p ps s).2.pending = s.pending := by
  unfold ownSavePreset; try dsimp only
  all_goals (repeat' split)
  all_goals first | (simp; done) | (simp_all; done) | rfl

@[simp] theorem ownReapplyGeometry_frame (s : State) :
    quietPorts (ownReapplyGeometry s).2.ports = quietPorts s.ports ∧ (ownReapplyGeometry s).2.lamp = s.lamp ∧
    (ownReapplyGeometry s).2.power = s.power ∧ (ownReapplyGeometry s).2.link.state = s.link.state ∧
    (ownReapplyGeometry s).2.link.silence = s.link.silence ∧
    (ownReapplyGeometry s).2.link.reportImage = s.link.reportImage ∧
    (ownReapplyGeometry s).2.link.lastFormat = s.link.lastFormat ∧
    (ownReapplyGeometry s).2.link.lastRejection = s.link.lastRejection ∧
    (ownReapplyGeometry s).2.link.lostFor = s.link.lostFor ∧
    (ownReapplyGeometry s).2.link.sinceMessage = s.link.sinceMessage ∧
    (ownReapplyGeometry s).2.link.receiver = s.link.receiver ∧ (ownReapplyGeometry s).2.router = s.router ∧
    (ownReapplyGeometry s).2.geometry.presets = s.geometry.presets ∧
    (ownReapplyGeometry s).2.geometry.overlay = s.geometry.overlay ∧
    (ownReapplyGeometry s).2.geometry.momentary = s.geometry.momentary ∧
    (ownReapplyGeometry s).2.geometry.routed = s.geometry.routed ∧
    (ownReapplyGeometry s).2.geometry.format = s.geometry.format ∧
    (ownReapplyGeometry s).2.geometry.started = s.geometry.started ∧ (ownReapplyGeometry s).2.room = s.room ∧
    (ownReapplyGeometry s).2.lockout = s.lockout ∧ (ownReapplyGeometry s).2.store.slots = s.store.slots ∧
    (ownReapplyGeometry s).2.store.records = s.store.records ∧
    (ownReapplyGeometry s).2.store.loaded = s.store.loaded ∧
    (ownReapplyGeometry s).2.store.install = s.store.install ∧ (ownReapplyGeometry s).2.store.room = s.store.room ∧
    (ownReapplyGeometry s).2.store.protect = s.store.protect ∧
    (ownReapplyGeometry s).2.store.window = s.store.window ∧ (ownReapplyGeometry s).2.store.wipe = s.store.wipe ∧
    (ownReapplyGeometry s).2.pending = s.pending := by
  unfold ownReapplyGeometry; try dsimp only
  all_goals (repeat' split)
  all_goals first | (simp; done) | (simp_all; done) | rfl

/-! ## ScheduleCommands -/

@[simp] theorem ownSetClock_frame (p : Port) (ps : List Word) (s : State) :
    quietPorts (ownSetClock p ps s).2.ports = quietPorts s.ports ∧
    (ownSetClock p ps s).2.lamp.newest = s.lamp.newest ∧
    (ownSetClock p ps s).2.lamp.replaceInFlight = s.lamp.replaceInFlight ∧
    (ownSetClock p ps s).2.lamp.history = s.lamp.history ∧ (ownSetClock p ps s).2.link.state = s.link.state ∧
    (ownSetClock p ps s).2.link.silence = s.link.silence ∧
    (ownSetClock p ps s).2.link.reportImage = s.link.reportImage ∧
    (ownSetClock p ps s).2.link.lastFormat = s.link.lastFormat ∧
    (ownSetClock p ps s).2.link.lastRejection = s.link.lastRejection ∧
    (ownSetClock p ps s).2.link.lostFor = s.link.lostFor ∧
    (ownSetClock p ps s).2.link.sinceMessage = s.link.sinceMessage ∧
    (ownSetClock p ps s).2.link.receiver = s.link.receiver ∧
    (ownSetClock p ps s).2.router.sources = s.router.sources ∧ (ownSetClock p ps s).2.router.raw = s.router.raw ∧
    (ownSetClock p ps s).2.router.debounced = s.router.debounced ∧
    (ownSetClock p ps s).2.router.stability = s.router.stability ∧
    (ownSetClock p ps s).2.router.sample = s.router.sample ∧
    (ownSetClock p ps s).2.router.resolved = s.router.resolved ∧
    (ownSetClock p ps s).2.geometry.presets = s.geometry.presets ∧
    (ownSetClock p ps s).2.geometry.format = s.geometry.format ∧
    (ownSetClock p ps s).2.geometry.started = s.geometry.started ∧ (ownSetClock p ps s).2.room.phase = s.room.phase ∧
    (ownSetClock p ps s).2.room.bookings = s.room.bookings ∧
    (ownSetClock p ps s).2.lockout.profiles = s.lockout.profiles ∧
    (ownSetClock p ps s).2.lockout.serviceEnabled = s.lockout.serviceEnabled ∧
    (ownSetClock p ps s).2.lockout.locked = s.lockout.locked ∧
    (ownSetClock p ps s).2.lockout.mismatch = s.lockout.mismatch ∧
    (ownSetClock p ps s).2.lockout.mode = s.lockout.mode ∧ (ownSetClock p ps s).2.store.slots = s.store.slots ∧
    (ownSetClock p ps s).2.store.records = s.store.records ∧ (ownSetClock p ps s).2.store.loaded = s.store.loaded ∧
    (ownSetClock p ps s).2.store.install = s.store.install ∧ (ownSetClock p ps s).2.store.room = s.store.room ∧
    (ownSetClock p ps s).2.store.protect = s.store.protect ∧ (ownSetClock p ps s).2.store.window = s.store.window ∧
    (ownSetClock p ps s).2.store.wipe = s.store.wipe ∧ (ownSetClock p ps s).2.pending = s.pending := by
  unfold ownSetClock; try dsimp only
  all_goals (repeat' split)
  all_goals first | (simp; done) | (simp_all; done) | rfl

@[simp] theorem putBooking_frame (id : Fin 64) (b : Option Booking) (s : State) :
    (putBooking id b s).ports = s.ports ∧ (putBooking id b s).lamp = s.lamp ∧ (putBooking id b s).power = s.power ∧
    (putBooking id b s).link = s.link ∧ (putBooking id b s).router = s.router ∧
    (putBooking id b s).geometry = s.geometry ∧ (putBooking id b s).room.clock = s.room.clock ∧
    (putBooking id b s).room.phase = s.room.phase ∧ (putBooking id b s).room.exceptions = s.room.exceptions ∧
    (putBooking id b s).room.state = s.room.state ∧ (putBooking id b s).room.current = s.room.current ∧
    (putBooking id b s).room.extension = s.room.extension ∧ (putBooking id b s).room.taken = s.room.taken ∧
    (putBooking id b s).room.scheduleBlank = s.room.scheduleBlank ∧ (putBooking id b s).lockout = s.lockout ∧
    (putBooking id b s).store = s.store ∧ (putBooking id b s).free = s.free ∧
    (putBooking id b s).pending = s.pending := by
  unfold putBooking; try dsimp only
  all_goals (repeat' split)
  all_goals first | (simp; done) | (simp_all; done) | rfl

@[simp] theorem putExceptions_frame (l : List Occurrence) (s : State) :
    (putExceptions l s).ports = s.ports ∧ (putExceptions l s).lamp = s.lamp ∧ (putExceptions l s).power = s.power ∧
    (putExceptions l s).link = s.link ∧ (putExceptions l s).router = s.router ∧
    (putExceptions l s).geometry = s.geometry ∧ (putExceptions l s).room.clock = s.room.clock ∧
    (putExceptions l s).room.phase = s.room.phase ∧ (putExceptions l s).room.bookings = s.room.bookings ∧
    (putExceptions l s).room.state = s.room.state ∧ (putExceptions l s).room.current = s.room.current ∧
    (putExceptions l s).room.extension = s.room.extension ∧ (putExceptions l s).room.taken = s.room.taken ∧
    (putExceptions l s).room.scheduleBlank = s.room.scheduleBlank ∧ (putExceptions l s).lockout = s.lockout ∧
    (putExceptions l s).store = s.store ∧ (putExceptions l s).free = s.free ∧
    (putExceptions l s).pending = s.pending := by
  unfold putExceptions; try dsimp only
  all_goals (repeat' split)
  all_goals first | (simp; done) | (simp_all; done) | rfl

@[simp] theorem clearTaken_frame (id : Fin 64) (s : State) :
    (clearTaken id s).ports = s.ports ∧ (clearTaken id s).lamp = s.lamp ∧ (clearTaken id s).power = s.power ∧
    (clearTaken id s).link = s.link ∧ (clearTaken id s).router = s.router ∧ (clearTaken id s).geometry = s.geometry ∧
    (clearTaken id s).room.clock = s.room.clock ∧ (clearTaken id s).room.phase = s.room.phase ∧
    (clearTaken id s).room.bookings = s.room.bookings ∧ (clearTaken id s).room.exceptions = s.room.exceptions ∧
    (clearTaken id s).room.state = s.room.state ∧ (clearTaken id s).room.current = s.room.current ∧
    (clearTaken id s).room.extension = s.room.extension ∧
    (clearTaken id s).room.scheduleBlank = s.room.scheduleBlank ∧ (clearTaken id s).lockout = s.lockout ∧
    (clearTaken id s).store = s.store ∧ (clearTaken id s).free = s.free ∧ (clearTaken id s).pending = s.pending := by
  unfold clearTaken; try dsimp only
  all_goals (repeat' split)
  all_goals first | (simp; done) | (simp_all; done) | rfl

@[simp] theorem queueExceptions_frame (old : List Occurrence) (o : Origin) (s : State) :
    quietPorts (queueExceptions old o s).ports = quietPorts s.ports ∧ (queueExceptions old o s).lamp = s.lamp ∧
    (queueExceptions old o s).power = s.power ∧ (queueExceptions old o s).link = s.link ∧
    (queueExceptions old o s).router = s.router ∧ (queueExceptions old o s).geometry = s.geometry ∧
    (queueExceptions old o s).room = s.room ∧ (queueExceptions old o s).lockout = s.lockout ∧
    (queueExceptions old o s).store.slots = s.store.slots ∧
    (queueExceptions old o s).store.records = s.store.records ∧
    (queueExceptions old o s).store.loaded = s.store.loaded ∧
    (queueExceptions old o s).store.install = s.store.install ∧ (queueExceptions old o s).store.room = s.store.room ∧
    (queueExceptions old o s).store.protect = s.store.protect ∧
    (queueExceptions old o s).store.window = s.store.window ∧
    (queueExceptions old o s).store.engine = s.store.engine ∧ (queueExceptions old o s).store.wipe = s.store.wipe ∧
    (queueExceptions old o s).pending = s.pending := by
  unfold queueExceptions; try dsimp only
  all_goals (repeat' split)
  all_goals first | (simp; done) | (simp_all; done) | rfl

@[simp] theorem ownAddBooking_frame (p : Port) (q : Qualifier) (ps : List Word) (s : State) :
    quietPorts (ownAddBooking p q ps s).2.ports = quietPorts s.ports ∧
    (ownAddBooking p q ps s).2.lamp.newest = s.lamp.newest ∧
    (ownAddBooking p q ps s).2.lamp.replaceInFlight = s.lamp.replaceInFlight ∧
    (ownAddBooking p q ps s).2.lamp.history = s.lamp.history ∧ (ownAddBooking p q ps s).2.link.state = s.link.state ∧
    (ownAddBooking p q ps s).2.link.silence = s.link.silence ∧
    (ownAddBooking p q ps s).2.link.reportImage = s.link.reportImage ∧
    (ownAddBooking p q ps s).2.link.lastFormat = s.link.lastFormat ∧
    (ownAddBooking p q ps s).2.link.lastRejection = s.link.lastRejection ∧
    (ownAddBooking p q ps s).2.link.lostFor = s.link.lostFor ∧
    (ownAddBooking p q ps s).2.link.sinceMessage = s.link.sinceMessage ∧
    (ownAddBooking p q ps s).2.link.receiver = s.link.receiver ∧
    (ownAddBooking p q ps s).2.router.sources = s.router.sources ∧
    (ownAddBooking p q ps s).2.router.raw = s.router.raw ∧
    (ownAddBooking p q ps s).2.router.debounced = s.router.debounced ∧
    (ownAddBooking p q ps s).2.router.stability = s.router.stability ∧
    (ownAddBooking p q ps s).2.router.sample = s.router.sample ∧
    (ownAddBooking p q ps s).2.router.resolved = s.router.resolved ∧
    (ownAddBooking p q ps s).2.geometry.presets = s.geometry.presets ∧
    (ownAddBooking p q ps s).2.geometry.format = s.geometry.format ∧
    (ownAddBooking p q ps s).2.geometry.started = s.geometry.started ∧
    (ownAddBooking p q ps s).2.room.clock = s.room.clock ∧ (ownAddBooking p q ps s).2.room.phase = s.room.phase ∧
    (ownAddBooking p q ps s).2.room.exceptions = s.room.exceptions ∧
    (ownAddBooking p q ps s).2.lockout.profiles = s.lockout.profiles ∧
    (ownAddBooking p q ps s).2.lockout.serviceEnabled = s.lockout.serviceEnabled ∧
    (ownAddBooking p q ps s).2.lockout.locked = s.lockout.locked ∧
    (ownAddBooking p q ps s).2.lockout.mismatch = s.lockout.mismatch ∧
    (ownAddBooking p q ps s).2.lockout.mode = s.lockout.mode ∧
    (ownAddBooking p q ps s).2.store.slots = s.store.slots ∧
    (ownAddBooking p q ps s).2.store.records = s.store.records ∧
    (ownAddBooking p q ps s).2.store.loaded = s.store.loaded ∧
    (ownAddBooking p q ps s).2.store.install = s.store.install ∧
    (ownAddBooking p q ps s).2.store.room = s.store.room ∧
    (ownAddBooking p q ps s).2.store.protect = s.store.protect ∧
    (ownAddBooking p q ps s).2.store.window = s.store.window ∧ (ownAddBooking p q ps s).2.store.wipe = s.store.wipe ∧
    (ownAddBooking p q ps s).2.pending = s.pending := by
  unfold ownAddBooking; try dsimp only
  all_goals (repeat' split)
  all_goals first | (simp; done) | (simp_all; done) | rfl

@[simp] theorem currentEdited_frame (old new : Booking) (o : Origin) (s : State) :
    quietPorts (currentEdited old new o s).ports = quietPorts s.ports ∧
    (currentEdited old new o s).lamp.account = s.lamp.account ∧
    (currentEdited old new o s).lamp.level = s.lamp.level ∧ (currentEdited old new o s).lamp.newest = s.lamp.newest ∧
    (currentEdited old new o s).lamp.tally = s.lamp.tally ∧ (currentEdited old new o s).lamp.burn = s.lamp.burn ∧
    (currentEdited old new o s).lamp.hotWindow = s.lamp.hotWindow ∧
    (currentEdited old new o s).lamp.cadence = s.lamp.cadence ∧
    (currentEdited old new o s).lamp.replaceInFlight = s.lamp.replaceInFlight ∧
    (currentEdited old new o s).lamp.history = s.lamp.history ∧
    (currentEdited old new o s).power.state = s.power.state ∧ (currentEdited old new o s).power.step = s.power.step ∧
    (currentEdited old new o s).power.attempt = s.power.attempt ∧
    (currentEdited old new o s).power.restartPending = s.power.restartPending ∧
    (currentEdited old new o s).power.offPending = s.power.offPending ∧
    (currentEdited old new o s).power.ignitionOrigin = s.power.ignitionOrigin ∧
    (currentEdited old new o s).power.offOrigin = s.power.offOrigin ∧
    (currentEdited old new o s).power.thermalHold = s.power.thermalHold ∧
    (currentEdited old new o s).power.shutter = s.power.shutter ∧
    (currentEdited old new o s).power.momentaryMode = s.power.momentaryMode ∧
    (currentEdited old new o s).power.modeEvaluated = s.power.modeEvaluated ∧
    (currentEdited old new o s).power.strikeTimer = s.power.strikeTimer ∧
    (currentEdited old new o s).power.pauseTimer = s.power.pauseTimer ∧
    (currentEdited old new o s).power.warmingTimer = s.power.warmingTimer ∧
    (currentEdited old new o s).power.coolingTimer = s.power.coolingTimer ∧
    (currentEdited old new o s).power.blankDim = s.power.blankDim ∧
    (currentEdited old new o s).power.dimmed = s.power.dimmed ∧
    (currentEdited old new o s).power.reportWait = s.power.reportWait ∧
    (currentEdited old new o s).link.state = s.link.state ∧
    (currentEdited old new o s).link.silence = s.link.silence ∧
    (currentEdited old new o s).link.answer = s.link.answer ∧
    (currentEdited old new o s).link.nextTag = s.link.nextTag ∧
    (currentEdited old new o s).link.reportImage = s.link.reportImage ∧
    (currentEdited old new o s).link.lastFormat = s.link.lastFormat ∧
    (currentEdited old new o s).link.lastRejection = s.link.lastRejection ∧
    (currentEdited old new o s).link.lostFor = s.link.lostFor ∧
    (currentEdited old new o s).link.sinceMessage = s.link.sinceMessage ∧
    (currentEdited old new o s).link.receiver = s.link.receiver ∧
    (currentEdited old new o s).link.transmit = s.link.transmit ∧ (currentEdited old new o s).router = s.router ∧
    (currentEdited old new o s).geometry.presets = s.geometry.presets ∧
    (currentEdited old new o s).geometry.overlay = s.geometry.overlay ∧
    (currentEdited old new o s).geometry.momentary = s.geometry.momentary ∧
    (currentEdited old new o s).geometry.routed = s.geometry.routed ∧
    (currentEdited old new o s).geometry.format = s.geometry.format ∧
    (currentEdited old new o s).geometry.started = s.geometry.started ∧ (currentEdited old new o s).room = s.room ∧
    (currentEdited old new o s).lockout.profiles = s.lockout.profiles ∧
    (currentEdited old new o s).lockout.hold = s.lockout.hold ∧
    (currentEdited old new o s).lockout.serviceEnabled = s.lockout.serviceEnabled ∧
    (currentEdited old new o s).lockout.locked = s.lockout.locked ∧
    (currentEdited old new o s).lockout.mismatch = s.lockout.mismatch ∧
    (currentEdited old new o s).lockout.mode = s.lockout.mode ∧
    (currentEdited old new o s).lockout.effective = s.lockout.effective ∧
    (currentEdited old new o s).store = s.store ∧ (currentEdited old new o s).pending = s.pending := by
  unfold currentEdited; try dsimp only
  all_goals (repeat' split)
  all_goals first | (simp; done) | (simp_all; done) | rfl

@[simp] theorem changeBooking_frame (id : Fin 64) (old new : Booking) (o : Origin) (s : State) :
    quietPorts (changeBooking id old new o s).ports = quietPorts s.ports ∧
    (changeBooking id old new o s).lamp.newest = s.lamp.newest ∧
    (changeBooking id old new o s).lamp.replaceInFlight = s.lamp.replaceInFlight ∧
    (changeBooking id old new o s).lamp.history = s.lamp.history ∧
    (changeBooking id old new o s).link.state = s.link.state ∧
    (changeBooking id old new o s).link.silence = s.link.silence ∧
    (changeBooking id old new o s).link.answer = s.link.answer ∧
    (changeBooking id old new o s).link.nextTag = s.link.nextTag ∧
    (changeBooking id old new o s).link.reportImage = s.link.reportImage ∧
    (changeBooking id old new o s).link.lastFormat = s.link.lastFormat ∧
    (changeBooking id old new o s).link.lastRejection = s.link.lastRejection ∧
    (changeBooking id old new o s).link.lostFor = s.link.lostFor ∧
    (changeBooking id old new o s).link.sinceMessage = s.link.sinceMessage ∧
    (changeBooking id old new o s).link.receiver = s.link.receiver ∧
    (changeBooking id old new o s).link.transmit = s.link.transmit ∧
    (changeBooking id old new o s).router.sources = s.router.sources ∧
    (changeBooking id old new o s).router.raw = s.router.raw ∧
    (changeBooking id old new o s).router.debounced = s.router.debounced ∧
    (changeBooking id old new o s).router.stability = s.router.stability ∧
    (changeBooking id old new o s).router.sample = s.router.sample ∧
    (changeBooking id old new o s).router.resolved = s.router.resolved ∧
    (changeBooking id old new o s).geometry.presets = s.geometry.presets ∧
    (changeBooking id old new o s).geometry.format = s.geometry.format ∧
    (changeBooking id old new o s).geometry.started = s.geometry.started ∧
    (changeBooking id old new o s).room.clock = s.room.clock ∧
    (changeBooking id old new o s).room.phase = s.room.phase ∧
    (changeBooking id old new o s).lockout.profiles = s.lockout.profiles ∧
    (changeBooking id old new o s).lockout.serviceEnabled = s.lockout.serviceEnabled ∧
    (changeBooking id old new o s).lockout.locked = s.lockout.locked ∧
    (changeBooking id old new o s).lockout.mismatch = s.lockout.mismatch ∧
    (changeBooking id old new o s).lockout.mode = s.lockout.mode ∧
    (changeBooking id old new o s).store.slots = s.store.slots ∧
    (changeBooking id old new o s).store.records = s.store.records ∧
    (changeBooking id old new o s).store.loaded = s.store.loaded ∧
    (changeBooking id old new o s).store.install = s.store.install ∧
    (changeBooking id old new o s).store.room = s.store.room ∧
    (changeBooking id old new o s).store.protect = s.store.protect ∧
    (changeBooking id old new o s).store.window = s.store.window ∧
    (changeBooking id old new o s).store.engine = s.store.engine ∧
    (changeBooking id old new o s).store.wipe = s.store.wipe ∧ (changeBooking id old new o s).pending = s.pending := by
  unfold changeBooking; try dsimp only
  all_goals (repeat' split)
  all_goals first | (simp; done) | (simp_all; done) | rfl

@[simp] theorem ownChangeBooking_frame (p : Port) (q : Qualifier) (ps : List Word) (s : State) :
    quietPorts (ownChangeBooking p q ps s).2.ports = quietPorts s.ports ∧
    (ownChangeBooking p q ps s).2.lamp.newest = s.lamp.newest ∧
    (ownChangeBooking p q ps s).2.lamp.replaceInFlight = s.lamp.replaceInFlight ∧
    (ownChangeBooking p q ps s).2.lamp.history = s.lamp.history ∧
    (ownChangeBooking p q ps s).2.link.state = s.link.state ∧
    (ownChangeBooking p q ps s).2.link.silence = s.link.silence ∧
    (ownChangeBooking p q ps s).2.link.reportImage = s.link.reportImage ∧
    (ownChangeBooking p q ps s).2.link.lastFormat = s.link.lastFormat ∧
    (ownChangeBooking p q ps s).2.link.lastRejection = s.link.lastRejection ∧
    (ownChangeBooking p q ps s).2.link.lostFor = s.link.lostFor ∧
    (ownChangeBooking p q ps s).2.link.sinceMessage = s.link.sinceMessage ∧
    (ownChangeBooking p q ps s).2.link.receiver = s.link.receiver ∧
    (ownChangeBooking p q ps s).2.router.sources = s.router.sources ∧
    (ownChangeBooking p q ps s).2.router.raw = s.router.raw ∧
    (ownChangeBooking p q ps s).2.router.debounced = s.router.debounced ∧
    (ownChangeBooking p q ps s).2.router.stability = s.router.stability ∧
    (ownChangeBooking p q ps s).2.router.sample = s.router.sample ∧
    (ownChangeBooking p q ps s).2.router.resolved = s.router.resolved ∧
    (ownChangeBooking p q ps s).2.geometry.presets = s.geometry.presets ∧
    (ownChangeBooking p q ps s).2.geometry.format = s.geometry.format ∧
    (ownChangeBooking p q ps s).2.geometry.started = s.geometry.started ∧
    (ownChangeBooking p q ps s).2.room.clock = s.room.clock ∧
    (ownChangeBooking p q ps s).2.room.phase = s.room.phase ∧
    (ownChangeBooking p q ps s).2.lockout.profiles = s.lockout.profiles ∧
    (ownChangeBooking p q ps s).2.lockout.serviceEnabled = s.lockout.serviceEnabled ∧
    (ownChangeBooking p q ps s).2.lockout.locked = s.lockout.locked ∧
    (ownChangeBooking p q ps s).2.lockout.mismatch = s.lockout.mismatch ∧
    (ownChangeBooking p q ps s).2.lockout.mode = s.lockout.mode ∧
    (ownChangeBooking p q ps s).2.store.slots = s.store.slots ∧
    (ownChangeBooking p q ps s).2.store.records = s.store.records ∧
    (ownChangeBooking p q ps s).2.store.loaded = s.store.loaded ∧
    (ownChangeBooking p q ps s).2.store.install = s.store.install ∧
    (ownChangeBooking p q ps s).2.store.room = s.store.room ∧
    (ownChangeBooking p q ps s).2.store.protect = s.store.protect ∧
    (ownChangeBooking p q ps s).2.store.window = s.store.window ∧
    (ownChangeBooking p q ps s).2.store.wipe = s.store.wipe ∧ (ownChangeBooking p q ps s).2.pending = s.pending := by
  unfold ownChangeBooking; try dsimp only
  all_goals (repeat' split)
  all_goals first | (simp; done) | (simp_all; done) | rfl

@[simp] theorem removeBooking_frame (id : Fin 64) (o : Origin) (s : State) :
    quietPorts (removeBooking id o s).ports = quietPorts s.ports ∧
    (removeBooking id o s).lamp.newest = s.lamp.newest ∧
    (removeBooking id o s).lamp.replaceInFlight = s.lamp.replaceInFlight ∧
    (removeBooking id o s).lamp.history = s.lamp.history ∧ (removeBooking id o s).link.state = s.link.state ∧
    (removeBooking id o s).link.silence = s.link.silence ∧ (removeBooking id o s).link.answer = s.link.answer ∧
    (removeBooking id o s).link.nextTag = s.link.nextTag ∧
    (removeBooking id o s).link.reportImage = s.link.reportImage ∧
    (removeBooking id o s).link.lastFormat = s.link.lastFormat ∧
    (removeBooking id o s).link.lastRejection = s.link.lastRejection ∧
    (removeBooking id o s).link.lostFor = s.link.lostFor ∧
    (removeBooking id o s).link.sinceMessage = s.link.sinceMessage ∧
    (removeBooking id o s).link.receiver = s.link.receiver ∧ (removeBooking id o s).link.transmit = s.link.transmit ∧
    (removeBooking id o s).router.sources = s.router.sources ∧ (removeBooking id o s).router.raw = s.router.raw ∧
    (removeBooking id o s).router.debounced = s.router.debounced ∧
    (removeBooking id o s).router.stability = s.router.stability ∧
    (removeBooking id o s).router.sample = s.router.sample ∧
    (removeBooking id o s).router.resolved = s.router.resolved ∧
    (removeBooking id o s).geometry.presets = s.geometry.presets ∧
    (removeBooking id o s).geometry.format = s.geometry.format ∧
    (removeBooking id o s).geometry.started = s.geometry.started ∧ (removeBooking id o s).room.clock = s.room.clock ∧
    (removeBooking id o s).room.phase = s.room.phase ∧ (removeBooking id o s).lockout.profiles = s.lockout.profiles ∧
    (removeBooking id o s).lockout.serviceEnabled = s.lockout.serviceEnabled ∧
    (removeBooking id o s).lockout.locked = s.lockout.locked ∧
    (removeBooking id o s).lockout.mismatch = s.lockout.mismatch ∧
    (removeBooking id o s).lockout.mode = s.lockout.mode ∧ (removeBooking id o s).store.slots = s.store.slots ∧
    (removeBooking id o s).store.records = s.store.records ∧ (removeBooking id o s).store.loaded = s.store.loaded ∧
    (removeBooking id o s).store.install = s.store.install ∧ (removeBooking id o s).store.room = s.store.room ∧
    (removeBooking id o s).store.protect = s.store.protect ∧ (removeBooking id o s).store.window = s.store.window ∧
    (removeBooking id o s).store.engine = s.store.engine ∧ (removeBooking id o s).store.wipe = s.store.wipe ∧
    (removeBooking id o s).pending = s.pending := by
  unfold removeBooking; try dsimp only
  all_goals (repeat' split)
  all_goals first | (simp; done) | (simp_all; done) | rfl

@[simp] theorem ownRemoveBooking_frame (p : Port) (ps : List Word) (s : State) :
    quietPorts (ownRemoveBooking p ps s).2.ports = quietPorts s.ports ∧
    (ownRemoveBooking p ps s).2.lamp.newest = s.lamp.newest ∧
    (ownRemoveBooking p ps s).2.lamp.replaceInFlight = s.lamp.replaceInFlight ∧
    (ownRemoveBooking p ps s).2.lamp.history = s.lamp.history ∧
    (ownRemoveBooking p ps s).2.link.state = s.link.state ∧
    (ownRemoveBooking p ps s).2.link.silence = s.link.silence ∧
    (ownRemoveBooking p ps s).2.link.reportImage = s.link.reportImage ∧
    (ownRemoveBooking p ps s).2.link.lastFormat = s.link.lastFormat ∧
    (ownRemoveBooking p ps s).2.link.lastRejection = s.link.lastRejection ∧
    (ownRemoveBooking p ps s).2.link.lostFor = s.link.lostFor ∧
    (ownRemoveBooking p ps s).2.link.sinceMessage = s.link.sinceMessage ∧
    (ownRemoveBooking p ps s).2.link.receiver = s.link.receiver ∧
    (ownRemoveBooking p ps s).2.router.sources = s.router.sources ∧
    (ownRemoveBooking p ps s).2.router.raw = s.router.raw ∧
    (ownRemoveBooking p ps s).2.router.debounced = s.router.debounced ∧
    (ownRemoveBooking p ps s).2.router.stability = s.router.stability ∧
    (ownRemoveBooking p ps s).2.router.sample = s.router.sample ∧
    (ownRemoveBooking p ps s).2.router.resolved = s.router.resolved ∧
    (ownRemoveBooking p ps s).2.geometry.presets = s.geometry.presets ∧
    (ownRemoveBooking p ps s).2.geometry.format = s.geometry.format ∧
    (ownRemoveBooking p ps s).2.geometry.started = s.geometry.started ∧
    (ownRemoveBooking p ps s).2.room.clock = s.room.clock ∧ (ownRemoveBooking p ps s).2.room.phase = s.room.phase ∧
    (ownRemoveBooking p ps s).2.lockout.profiles = s.lockout.profiles ∧
    (ownRemoveBooking p ps s).2.lockout.serviceEnabled = s.lockout.serviceEnabled ∧
    (ownRemoveBooking p ps s).2.lockout.locked = s.lockout.locked ∧
    (ownRemoveBooking p ps s).2.lockout.mismatch = s.lockout.mismatch ∧
    (ownRemoveBooking p ps s).2.lockout.mode = s.lockout.mode ∧
    (ownRemoveBooking p ps s).2.store.slots = s.store.slots ∧
    (ownRemoveBooking p ps s).2.store.records = s.store.records ∧
    (ownRemoveBooking p ps s).2.store.loaded = s.store.loaded ∧
    (ownRemoveBooking p ps s).2.store.install = s.store.install ∧
    (ownRemoveBooking p ps s).2.store.room = s.store.room ∧
    (ownRemoveBooking p ps s).2.store.protect = s.store.protect ∧
    (ownRemoveBooking p ps s).2.store.window = s.store.window ∧
    (ownRemoveBooking p ps s).2.store.wipe = s.store.wipe ∧ (ownRemoveBooking p ps s).2.pending = s.pending := by
  unfold ownRemoveBooking; try dsimp only
  all_goals (repeat' split)
  all_goals first | (simp; done) | (simp_all; done) | rfl

@[simp] theorem editExceptions_frame (l : List Occurrence) (o : Origin) (s : State) :
    quietPorts (editExceptions l o s).ports = quietPorts s.ports ∧
    (editExceptions l o s).lamp.newest = s.lamp.newest ∧
    (editExceptions l o s).lamp.replaceInFlight = s.lamp.replaceInFlight ∧
    (editExceptions l o s).lamp.history = s.lamp.history ∧ (editExceptions l o s).link.state = s.link.state ∧
    (editExceptions l o s).link.silence = s.link.silence ∧ (editExceptions l o s).link.answer = s.link.answer ∧
    (editExceptions l o s).link.nextTag = s.link.nextTag ∧
    (editExceptions l o s).link.reportImage = s.link.reportImage ∧
    (editExceptions l o s).link.lastFormat = s.link.lastFormat ∧
    (editExceptions l o s).link.lastRejection = s.link.lastRejection ∧
    (editExceptions l o s).link.lostFor = s.link.lostFor ∧
    (editExceptions l o s).link.sinceMessage = s.link.sinceMessage ∧
    (editExceptions l o s).link.receiver = s.link.receiver ∧ (editExceptions l o s).link.transmit = s.link.transmit ∧
    (editExceptions l o s).router.sources = s.router.sources ∧ (editExceptions l o s).router.raw = s.router.raw ∧
    (editExceptions l o s).router.debounced = s.router.debounced ∧
    (editExceptions l o s).router.stability = s.router.stability ∧
    (editExceptions l o s).router.sample = s.router.sample ∧
    (editExceptions l o s).router.resolved = s.router.resolved ∧
    (editExceptions l o s).geometry.presets = s.geometry.presets ∧
    (editExceptions l o s).geometry.format = s.geometry.format ∧
    (editExceptions l o s).geometry.started = s.geometry.started ∧ (editExceptions l o s).room.clock = s.room.clock ∧
    (editExceptions l o s).room.phase = s.room.phase ∧ (editExceptions l o s).room.bookings = s.room.bookings ∧
    (editExceptions l o s).lockout.profiles = s.lockout.profiles ∧
    (editExceptions l o s).lockout.serviceEnabled = s.lockout.serviceEnabled ∧
    (editExceptions l o s).lockout.locked = s.lockout.locked ∧
    (editExceptions l o s).lockout.mismatch = s.lockout.mismatch ∧
    (editExceptions l o s).lockout.mode = s.lockout.mode ∧ (editExceptions l o s).store.slots = s.store.slots ∧
    (editExceptions l o s).store.records = s.store.records ∧ (editExceptions l o s).store.loaded = s.store.loaded ∧
    (editExceptions l o s).store.install = s.store.install ∧ (editExceptions l o s).store.room = s.store.room ∧
    (editExceptions l o s).store.protect = s.store.protect ∧ (editExceptions l o s).store.window = s.store.window ∧
    (editExceptions l o s).store.engine = s.store.engine ∧ (editExceptions l o s).store.wipe = s.store.wipe ∧
    (editExceptions l o s).pending = s.pending := by
  unfold editExceptions; try dsimp only
  all_goals (repeat' split)
  all_goals first | (simp; done) | (simp_all; done) | rfl

@[simp] theorem ownCancelOccurrence_frame (p : Port) (q : Qualifier) (ps : List Word) (s : State) :
    quietPorts (ownCancelOccurrence p q ps s).2.ports = quietPorts s.ports ∧
    (ownCancelOccurrence p q ps s).2.lamp.newest = s.lamp.newest ∧
    (ownCancelOccurrence p q ps s).2.lamp.replaceInFlight = s.lamp.replaceInFlight ∧
    (ownCancelOccurrence p q ps s).2.lamp.history = s.lamp.history ∧
    (ownCancelOccurrence p q ps s).2.link.state = s.link.state ∧
    (ownCancelOccurrence p q ps s).2.link.silence = s.link.silence ∧
    (ownCancelOccurrence p q ps s).2.link.reportImage = s.link.reportImage ∧
    (ownCancelOccurrence p q ps s).2.link.lastFormat = s.link.lastFormat ∧
    (ownCancelOccurrence p q ps s).2.link.lastRejection = s.link.lastRejection ∧
    (ownCancelOccurrence p q ps s).2.link.lostFor = s.link.lostFor ∧
    (ownCancelOccurrence p q ps s).2.link.sinceMessage = s.link.sinceMessage ∧
    (ownCancelOccurrence p q ps s).2.link.receiver = s.link.receiver ∧
    (ownCancelOccurrence p q ps s).2.router.sources = s.router.sources ∧
    (ownCancelOccurrence p q ps s).2.router.raw = s.router.raw ∧
    (ownCancelOccurrence p q ps s).2.router.debounced = s.router.debounced ∧
    (ownCancelOccurrence p q ps s).2.router.stability = s.router.stability ∧
    (ownCancelOccurrence p q ps s).2.router.sample = s.router.sample ∧
    (ownCancelOccurrence p q ps s).2.router.resolved = s.router.resolved ∧
    (ownCancelOccurrence p q ps s).2.geometry.presets = s.geometry.presets ∧
    (ownCancelOccurrence p q ps s).2.geometry.format = s.geometry.format ∧
    (ownCancelOccurrence p q ps s).2.geometry.started = s.geometry.started ∧
    (ownCancelOccurrence p q ps s).2.room.clock = s.room.clock ∧
    (ownCancelOccurrence p q ps s).2.room.phase = s.room.phase ∧
    (ownCancelOccurrence p q ps s).2.room.bookings = s.room.bookings ∧
    (ownCancelOccurrence p q ps s).2.lockout.profiles = s.lockout.profiles ∧
    (ownCancelOccurrence p q ps s).2.lockout.serviceEnabled = s.lockout.serviceEnabled ∧
    (ownCancelOccurrence p q ps s).2.lockout.locked = s.lockout.locked ∧
    (ownCancelOccurrence p q ps s).2.lockout.mismatch = s.lockout.mismatch ∧
    (ownCancelOccurrence p q ps s).2.lockout.mode = s.lockout.mode ∧
    (ownCancelOccurrence p q ps s).2.store.slots = s.store.slots ∧
    (ownCancelOccurrence p q ps s).2.store.records = s.store.records ∧
    (ownCancelOccurrence p q ps s).2.store.loaded = s.store.loaded ∧
    (ownCancelOccurrence p q ps s).2.store.install = s.store.install ∧
    (ownCancelOccurrence p q ps s).2.store.room = s.store.room ∧
    (ownCancelOccurrence p q ps s).2.store.protect = s.store.protect ∧
    (ownCancelOccurrence p q ps s).2.store.window = s.store.window ∧
    (ownCancelOccurrence p q ps s).2.store.wipe = s.store.wipe ∧
    (ownCancelOccurrence p q ps s).2.pending = s.pending := by
  unfold ownCancelOccurrence; try dsimp only
  all_goals (repeat' split)
  all_goals first | (simp; done) | (simp_all; done) | rfl

@[simp] theorem ownRestoreOccurrence_frame (p : Port) (q : Qualifier) (ps : List Word) (s : State) :
    quietPorts (ownRestoreOccurrence p q ps s).2.ports = quietPorts s.ports ∧
    (ownRestoreOccurrence p q ps s).2.lamp.newest = s.lamp.newest ∧
    (ownRestoreOccurrence p q ps s).2.lamp.replaceInFlight = s.lamp.replaceInFlight ∧
    (ownRestoreOccurrence p q ps s).2.lamp.history = s.lamp.history ∧
    (ownRestoreOccurrence p q ps s).2.link.state = s.link.state ∧
    (ownRestoreOccurrence p q ps s).2.link.silence = s.link.silence ∧
    (ownRestoreOccurrence p q ps s).2.link.reportImage = s.link.reportImage ∧
    (ownRestoreOccurrence p q ps s).2.link.lastFormat = s.link.lastFormat ∧
    (ownRestoreOccurrence p q ps s).2.link.lastRejection = s.link.lastRejection ∧
    (ownRestoreOccurrence p q ps s).2.link.lostFor = s.link.lostFor ∧
    (ownRestoreOccurrence p q ps s).2.link.sinceMessage = s.link.sinceMessage ∧
    (ownRestoreOccurrence p q ps s).2.link.receiver = s.link.receiver ∧
    (ownRestoreOccurrence p q ps s).2.router.sources = s.router.sources ∧
    (ownRestoreOccurrence p q ps s).2.router.raw = s.router.raw ∧
    (ownRestoreOccurrence p q ps s).2.router.debounced = s.router.debounced ∧
    (ownRestoreOccurrence p q ps s).2.router.stability = s.router.stability ∧
    (ownRestoreOccurrence p q ps s).2.router.sample = s.router.sample ∧
    (ownRestoreOccurrence p q ps s).2.router.resolved = s.router.resolved ∧
    (ownRestoreOccurrence p q ps s).2.geometry.presets = s.geometry.presets ∧
    (ownRestoreOccurrence p q ps s).2.geometry.format = s.geometry.format ∧
    (ownRestoreOccurrence p q ps s).2.geometry.started = s.geometry.started ∧
    (ownRestoreOccurrence p q ps s).2.room.clock = s.room.clock ∧
    (ownRestoreOccurrence p q ps s).2.room.phase = s.room.phase ∧
    (ownRestoreOccurrence p q ps s).2.room.bookings = s.room.bookings ∧
    (ownRestoreOccurrence p q ps s).2.lockout.profiles = s.lockout.profiles ∧
    (ownRestoreOccurrence p q ps s).2.lockout.serviceEnabled = s.lockout.serviceEnabled ∧
    (ownRestoreOccurrence p q ps s).2.lockout.locked = s.lockout.locked ∧
    (ownRestoreOccurrence p q ps s).2.lockout.mismatch = s.lockout.mismatch ∧
    (ownRestoreOccurrence p q ps s).2.lockout.mode = s.lockout.mode ∧
    (ownRestoreOccurrence p q ps s).2.store.slots = s.store.slots ∧
    (ownRestoreOccurrence p q ps s).2.store.records = s.store.records ∧
    (ownRestoreOccurrence p q ps s).2.store.loaded = s.store.loaded ∧
    (ownRestoreOccurrence p q ps s).2.store.install = s.store.install ∧
    (ownRestoreOccurrence p q ps s).2.store.room = s.store.room ∧
    (ownRestoreOccurrence p q ps s).2.store.protect = s.store.protect ∧
    (ownRestoreOccurrence p q ps s).2.store.window = s.store.window ∧
    (ownRestoreOccurrence p q ps s).2.store.wipe = s.store.wipe ∧
    (ownRestoreOccurrence p q ps s).2.pending = s.pending := by
  unfold ownRestoreOccurrence; try dsimp only
  all_goals (repeat' split)
  all_goals first | (simp; done) | (simp_all; done) | rfl

@[simp] theorem ownExtendBooking_frame (ps : List Word) (s : State) :
    quietPorts (ownExtendBooking ps s).2.ports = quietPorts s.ports ∧ (ownExtendBooking ps s).2.lamp = s.lamp ∧
    (ownExtendBooking ps s).2.power = s.power ∧ (ownExtendBooking ps s).2.link.state = s.link.state ∧
    (ownExtendBooking ps s).2.link.silence = s.link.silence ∧ (ownExtendBooking ps s).2.link.lane = s.link.lane ∧
    (ownExtendBooking ps s).2.link.reportImage = s.link.reportImage ∧
    (ownExtendBooking ps s).2.link.lastFormat = s.link.lastFormat ∧
    (ownExtendBooking ps s).2.link.lastRejection = s.link.lastRejection ∧
    (ownExtendBooking ps s).2.link.lostFor = s.link.lostFor ∧
    (ownExtendBooking ps s).2.link.sinceMessage = s.link.sinceMessage ∧
    (ownExtendBooking ps s).2.link.lastSet = s.link.lastSet ∧
    (ownExtendBooking ps s).2.link.receiver = s.link.receiver ∧ (ownExtendBooking ps s).2.router = s.router ∧
    (ownExtendBooking ps s).2.geometry = s.geometry ∧ (ownExtendBooking ps s).2.room.clock = s.room.clock ∧
    (ownExtendBooking ps s).2.room.phase = s.room.phase ∧ (ownExtendBooking ps s).2.room.bookings = s.room.bookings ∧
    (ownExtendBooking ps s).2.room.exceptions = s.room.exceptions ∧
    (ownExtendBooking ps s).2.room.state = s.room.state ∧ (ownExtendBooking ps s).2.room.current = s.room.current ∧
    (ownExtendBooking ps s).2.room.taken = s.room.taken ∧
    (ownExtendBooking ps s).2.room.scheduleBlank = s.room.scheduleBlank ∧
    (ownExtendBooking ps s).2.lockout = s.lockout ∧ (ownExtendBooking ps s).2.store.slots = s.store.slots ∧
    (ownExtendBooking ps s).2.store.records = s.store.records ∧
    (ownExtendBooking ps s).2.store.loaded = s.store.loaded ∧
    (ownExtendBooking ps s).2.store.install = s.store.install ∧ (ownExtendBooking ps s).2.store.room = s.store.room ∧
    (ownExtendBooking ps s).2.store.protect = s.store.protect ∧
    (ownExtendBooking ps s).2.store.window = s.store.window ∧ (ownExtendBooking ps s).2.store.wipe = s.store.wipe ∧
    (ownExtendBooking ps s).2.pending = s.pending := by
  unfold ownExtendBooking; try dsimp only
  all_goals (repeat' split)
  all_goals first | (simp; done) | (simp_all; done) | rfl

@[simp] theorem ownReleaseRoom_frame (p : Port) (s : State) :
    quietPorts (ownReleaseRoom p s).2.ports = quietPorts s.ports ∧
    (ownReleaseRoom p s).2.lamp.newest = s.lamp.newest ∧
    (ownReleaseRoom p s).2.lamp.replaceInFlight = s.lamp.replaceInFlight ∧
    (ownReleaseRoom p s).2.lamp.history = s.lamp.history ∧ (ownReleaseRoom p s).2.link.state = s.link.state ∧
    (ownReleaseRoom p s).2.link.silence = s.link.silence ∧
    (ownReleaseRoom p s).2.link.reportImage = s.link.reportImage ∧
    (ownReleaseRoom p s).2.link.lastFormat = s.link.lastFormat ∧
    (ownReleaseRoom p s).2.link.lastRejection = s.link.lastRejection ∧
    (ownReleaseRoom p s).2.link.lostFor = s.link.lostFor ∧
    (ownReleaseRoom p s).2.link.sinceMessage = s.link.sinceMessage ∧
    (ownReleaseRoom p s).2.link.receiver = s.link.receiver ∧
    (ownReleaseRoom p s).2.router.sources = s.router.sources ∧ (ownReleaseRoom p s).2.router.raw = s.router.raw ∧
    (ownReleaseRoom p s).2.router.debounced = s.router.debounced ∧
    (ownReleaseRoom p s).2.router.stability = s.router.stability ∧
    (ownReleaseRoom p s).2.router.sample = s.router.sample ∧
    (ownReleaseRoom p s).2.router.resolved = s.router.resolved ∧
    (ownReleaseRoom p s).2.geometry.presets = s.geometry.presets ∧
    (ownReleaseRoom p s).2.geometry.format = s.geometry.format ∧
    (ownReleaseRoom p s).2.geometry.started = s.geometry.started ∧ (ownReleaseRoom p s).2.room.clock = s.room.clock ∧
    (ownReleaseRoom p s).2.room.phase = s.room.phase ∧ (ownReleaseRoom p s).2.room.bookings = s.room.bookings ∧
    (ownReleaseRoom p s).2.room.exceptions = s.room.exceptions ∧
    (ownReleaseRoom p s).2.lockout.profiles = s.lockout.profiles ∧
    (ownReleaseRoom p s).2.lockout.serviceEnabled = s.lockout.serviceEnabled ∧
    (ownReleaseRoom p s).2.lockout.locked = s.lockout.locked ∧
    (ownReleaseRoom p s).2.lockout.mismatch = s.lockout.mismatch ∧
    (ownReleaseRoom p s).2.lockout.mode = s.lockout.mode ∧ (ownReleaseRoom p s).2.store.slots = s.store.slots ∧
    (ownReleaseRoom p s).2.store.records = s.store.records ∧ (ownReleaseRoom p s).2.store.loaded = s.store.loaded ∧
    (ownReleaseRoom p s).2.store.install = s.store.install ∧ (ownReleaseRoom p s).2.store.room = s.store.room ∧
    (ownReleaseRoom p s).2.store.protect = s.store.protect ∧ (ownReleaseRoom p s).2.store.window = s.store.window ∧
    (ownReleaseRoom p s).2.store.wipe = s.store.wipe ∧ (ownReleaseRoom p s).2.pending = s.pending := by
  unfold ownReleaseRoom; try dsimp only
  all_goals (repeat' split)
  all_goals first | (simp; done) | (simp_all; done) | rfl

/-! ## SettingsCommands -/

@[simp] theorem writeEntry_frame (n : Fin 8) (e : SourceEntry) (o : Origin) (s : State) :
    quietPorts (writeEntry n e o s).ports = quietPorts s.ports ∧ (writeEntry n e o s).lamp = s.lamp ∧
    (writeEntry n e o s).power = s.power ∧ (writeEntry n e o s).link.state = s.link.state ∧
    (writeEntry n e o s).link.silence = s.link.silence ∧ (writeEntry n e o s).link.answer = s.link.answer ∧
    (writeEntry n e o s).link.nextTag = s.link.nextTag ∧ (writeEntry n e o s).link.control = s.link.control ∧
    (writeEntry n e o s).link.reportImage = s.link.reportImage ∧
    (writeEntry n e o s).link.lastFormat = s.link.lastFormat ∧
    (writeEntry n e o s).link.lastRejection = s.link.lastRejection ∧
    (writeEntry n e o s).link.lostFor = s.link.lostFor ∧
    (writeEntry n e o s).link.sinceMessage = s.link.sinceMessage ∧
    (writeEntry n e o s).link.receiver = s.link.receiver ∧ (writeEntry n e o s).link.transmit = s.link.transmit ∧
    (writeEntry n e o s).router.raw = s.router.raw ∧ (writeEntry n e o s).router.debounced = s.router.debounced ∧
    (writeEntry n e o s).router.stability = s.router.stability ∧
    (writeEntry n e o s).router.sample = s.router.sample ∧
    (writeEntry n e o s).router.requested = s.router.requested ∧
    (writeEntry n e o s).router.pendingSlot = s.router.pendingSlot ∧
    (writeEntry n e o s).router.resolved = s.router.resolved ∧
    (writeEntry n e o s).geometry.presets = s.geometry.presets ∧
    (writeEntry n e o s).geometry.overlay = s.geometry.overlay ∧
    (writeEntry n e o s).geometry.format = s.geometry.format ∧
    (writeEntry n e o s).geometry.started = s.geometry.started ∧ (writeEntry n e o s).room = s.room ∧
    (writeEntry n e o s).lockout = s.lockout ∧ (writeEntry n e o s).store.slots = s.store.slots ∧
    (writeEntry n e o s).store.records = s.store.records ∧ (writeEntry n e o s).store.loaded = s.store.loaded ∧
    (writeEntry n e o s).store.install = s.store.install ∧ (writeEntry n e o s).store.room = s.store.room ∧
    (writeEntry n e o s).store.protect = s.store.protect ∧ (writeEntry n e o s).store.window = s.store.window ∧
    (writeEntry n e o s).store.engine = s.store.engine ∧ (writeEntry n e o s).store.wipe = s.store.wipe ∧
    (writeEntry n e o s).pending = s.pending := by
  unfold writeEntry; try dsimp only
  all_goals (repeat' split)
  all_goals first | (simp; done) | (simp_all; done) | rfl

@[simp] theorem ownSetSourceEntry_frame (p : Port) (ps : List Word) (s : State) :
    quietPorts (ownSetSourceEntry p ps s).2.ports = quietPorts s.ports ∧ (ownSetSourceEntry p ps s).2.lamp = s.lamp ∧
    (ownSetSourceEntry p ps s).2.power = s.power ∧ (ownSetSourceEntry p ps s).2.link.state = s.link.state ∧
    (ownSetSourceEntry p ps s).2.link.silence = s.link.silence ∧
    (ownSetSourceEntry p ps s).2.link.reportImage = s.link.reportImage ∧
    (ownSetSourceEntry p ps s).2.link.lastFormat = s.link.lastFormat ∧
    (ownSetSourceEntry p ps s).2.link.lastRejection = s.link.lastRejection ∧
    (ownSetSourceEntry p ps s).2.link.lostFor = s.link.lostFor ∧
    (ownSetSourceEntry p ps s).2.link.sinceMessage = s.link.sinceMessage ∧
    (ownSetSourceEntry p ps s).2.link.receiver = s.link.receiver ∧
    (ownSetSourceEntry p ps s).2.router.raw = s.router.raw ∧
    (ownSetSourceEntry p ps s).2.router.debounced = s.router.debounced ∧
    (ownSetSourceEntry p ps s).2.router.stability = s.router.stability ∧
    (ownSetSourceEntry p ps s).2.router.sample = s.router.sample ∧
    (ownSetSourceEntry p ps s).2.router.requested = s.router.requested ∧
    (ownSetSourceEntry p ps s).2.router.pendingSlot = s.router.pendingSlot ∧
    (ownSetSourceEntry p ps s).2.router.resolved = s.router.resolved ∧
    (ownSetSourceEntry p ps s).2.geometry.presets = s.geometry.presets ∧
    (ownSetSourceEntry p ps s).2.geometry.overlay = s.geometry.overlay ∧
    (ownSetSourceEntry p ps s).2.geometry.format = s.geometry.format ∧
    (ownSetSourceEntry p ps s).2.geometry.started = s.geometry.started ∧ (ownSetSourceEntry p ps s).2.room = s.room ∧
    (ownSetSourceEntry p ps s).2.lockout = s.lockout ∧ (ownSetSourceEntry p ps s).2.store.slots = s.store.slots ∧
    (ownSetSourceEntry p ps s).2.store.records = s.store.records ∧
    (ownSetSourceEntry p ps s).2.store.loaded = s.store.loaded ∧
    (ownSetSourceEntry p ps s).2.store.install = s.store.install ∧
    (ownSetSourceEntry p ps s).2.store.room = s.store.room ∧
    (ownSetSourceEntry p ps s).2.store.protect = s.store.protect ∧
    (ownSetSourceEntry p ps s).2.store.window = s.store.window ∧
    (ownSetSourceEntry p ps s).2.store.wipe = s.store.wipe ∧ (ownSetSourceEntry p ps s).2.pending = s.pending := by
  unfold ownSetSourceEntry; try dsimp only
  all_goals (repeat' split)
  all_goals first | (simp; done) | (simp_all; done) | rfl

@[simp] theorem writeProfile_frame (n : Fin 8) (f : Profile) (o : Origin) (s : State) :
    quietPorts (writeProfile n f o s).ports = quietPorts s.ports ∧ (writeProfile n f o s).lamp = s.lamp ∧
    (writeProfile n f o s).power = s.power ∧ (writeProfile n f o s).link = s.link ∧
    (writeProfile n f o s).router = s.router ∧ (writeProfile n f o s).geometry = s.geometry ∧
    (writeProfile n f o s).room = s.room ∧ (writeProfile n f o s).lockout.hold = s.lockout.hold ∧
    (writeProfile n f o s).lockout.serviceEnabled = s.lockout.serviceEnabled ∧
    (writeProfile n f o s).lockout.locked = s.lockout.locked ∧
    (writeProfile n f o s).lockout.mismatch = s.lockout.mismatch ∧
    (writeProfile n f o s).lockout.mode = s.lockout.mode ∧ (writeProfile n f o s).store.slots = s.store.slots ∧
    (writeProfile n f o s).store.records = s.store.records ∧ (writeProfile n f o s).store.loaded = s.store.loaded ∧
    (writeProfile n f o s).store.install = s.store.install ∧ (writeProfile n f o s).store.room = s.store.room ∧
    (writeProfile n f o s).store.protect = s.store.protect ∧ (writeProfile n f o s).store.window = s.store.window ∧
    (writeProfile n f o s).store.engine = s.store.engine ∧ (writeProfile n f o s).store.wipe = s.store.wipe ∧
    (writeProfile n f o s).pending = s.pending := by
  unfold writeProfile; try dsimp only
  all_goals (repeat' split)
  all_goals first | (simp; done) | (simp_all; done) | rfl

@[simp] theorem ownSetProfile_frame (p : Port) (ps : List Word) (s : State) :
    quietPorts (ownSetProfile p ps s).2.ports = quietPorts s.ports ∧ (ownSetProfile p ps s).2.lamp = s.lamp ∧
    (ownSetProfile p ps s).2.power = s.power ∧ (ownSetProfile p ps s).2.link.state = s.link.state ∧
    (ownSetProfile p ps s).2.link.silence = s.link.silence ∧ (ownSetProfile p ps s).2.link.lane = s.link.lane ∧
    (ownSetProfile p ps s).2.link.reportImage = s.link.reportImage ∧
    (ownSetProfile p ps s).2.link.lastFormat = s.link.lastFormat ∧
    (ownSetProfile p ps s).2.link.lastRejection = s.link.lastRejection ∧
    (ownSetProfile p ps s).2.link.lostFor = s.link.lostFor ∧
    (ownSetProfile p ps s).2.link.sinceMessage = s.link.sinceMessage ∧
    (ownSetProfile p ps s).2.link.lastSet = s.link.lastSet ∧
    (ownSetProfile p ps s).2.link.receiver = s.link.receiver ∧ (ownSetProfile p ps s).2.router = s.router ∧
    (ownSetProfile p ps s).2.geometry = s.geometry ∧ (ownSetProfile p ps s).2.room = s.room ∧
    (ownSetProfile p ps s).2.lockout.hold = s.lockout.hold ∧
    (ownSetProfile p ps s).2.lockout.serviceEnabled = s.lockout.serviceEnabled ∧
    (ownSetProfile p ps s).2.lockout.locked = s.lockout.locked ∧
    (ownSetProfile p ps s).2.lockout.mismatch = s.lockout.mismatch ∧
    (ownSetProfile p ps s).2.lockout.mode = s.lockout.mode ∧ (ownSetProfile p ps s).2.store.slots = s.store.slots ∧
    (ownSetProfile p ps s).2.store.records = s.store.records ∧
    (ownSetProfile p ps s).2.store.loaded = s.store.loaded ∧
    (ownSetProfile p ps s).2.store.install = s.store.install ∧ (ownSetProfile p ps s).2.store.room = s.store.room ∧
    (ownSetProfile p ps s).2.store.protect = s.store.protect ∧
    (ownSetProfile p ps s).2.store.window = s.store.window ∧ (ownSetProfile p ps s).2.store.wipe = s.store.wipe ∧
    (ownSetProfile p ps s).2.pending = s.pending := by
  unfold ownSetProfile; try dsimp only
  all_goals (repeat' split)
  all_goals first | (simp; done) | (simp_all; done) | rfl

@[simp] theorem writeInstall_frame (r : InstallRecord) (o : Origin) (s : State) :
    quietPorts (writeInstall r o s).ports = quietPorts s.ports ∧ (writeInstall r o s).lamp = s.lamp ∧
    (writeInstall r o s).power = s.power ∧ (writeInstall r o s).link = s.link ∧
    (writeInstall r o s).router = s.router ∧ (writeInstall r o s).geometry = s.geometry ∧
    (writeInstall r o s).room = s.room ∧ (writeInstall r o s).lockout = s.lockout ∧
    (writeInstall r o s).store.slots = s.store.slots ∧ (writeInstall r o s).store.records = s.store.records ∧
    (writeInstall r o s).store.loaded = s.store.loaded ∧ (writeInstall r o s).store.room = s.store.room ∧
    (writeInstall r o s).store.protect = s.store.protect ∧ (writeInstall r o s).store.window = s.store.window ∧
    (writeInstall r o s).store.engine = s.store.engine ∧ (writeInstall r o s).store.wipe = s.store.wipe ∧
    (writeInstall r o s).pending = s.pending := by
  unfold writeInstall; try dsimp only
  all_goals (repeat' split)
  all_goals first | (simp; done) | (simp_all; done) | rfl

@[simp] theorem ownSetInstallRecord_frame (p : Port) (ps : List Word) (s : State) :
    quietPorts (ownSetInstallRecord p ps s).2.ports = quietPorts s.ports ∧
    (ownSetInstallRecord p ps s).2.lamp.account = s.lamp.account ∧
    (ownSetInstallRecord p ps s).2.lamp.newest = s.lamp.newest ∧
    (ownSetInstallRecord p ps s).2.lamp.burn = s.lamp.burn ∧
    (ownSetInstallRecord p ps s).2.lamp.hotWindow = s.lamp.hotWindow ∧
    (ownSetInstallRecord p ps s).2.lamp.replaceInFlight = s.lamp.replaceInFlight ∧
    (ownSetInstallRecord p ps s).2.lamp.history = s.lamp.history ∧
    (ownSetInstallRecord p ps s).2.power.state = s.power.state ∧
    (ownSetInstallRecord p ps s).2.power.step = s.power.step ∧
    (ownSetInstallRecord p ps s).2.power.attempt = s.power.attempt ∧
    (ownSetInstallRecord p ps s).2.power.restartPending = s.power.restartPending ∧
    (ownSetInstallRecord p ps s).2.power.offPending = s.power.offPending ∧
    (ownSetInstallRecord p ps s).2.power.ignitionOrigin = s.power.ignitionOrigin ∧
    (ownSetInstallRecord p ps s).2.power.offOrigin = s.power.offOrigin ∧
    (ownSetInstallRecord p ps s).2.power.thermalHold = s.power.thermalHold ∧
    (ownSetInstallRecord p ps s).2.power.shutter = s.power.shutter ∧
    (ownSetInstallRecord p ps s).2.power.momentaryMode = s.power.momentaryMode ∧
    (ownSetInstallRecord p ps s).2.power.modeEvaluated = s.power.modeEvaluated ∧
    (ownSetInstallRecord p ps s).2.power.strikeTimer = s.power.strikeTimer ∧
    (ownSetInstallRecord p ps s).2.power.pauseTimer = s.power.pauseTimer ∧
    (ownSetInstallRecord p ps s).2.power.warmingTimer = s.power.warmingTimer ∧
    (ownSetInstallRecord p ps s).2.power.coolingTimer = s.power.coolingTimer ∧
    (ownSetInstallRecord p ps s).2.power.blankDim = s.power.blankDim ∧
    (ownSetInstallRecord p ps s).2.power.dimmed = s.power.dimmed ∧
    (ownSetInstallRecord p ps s).2.power.reportWait = s.power.reportWait ∧
    (ownSetInstallRecord p ps s).2.link.state = s.link.state ∧
    (ownSetInstallRecord p ps s).2.link.silence = s.link.silence ∧
    (ownSetInstallRecord p ps s).2.link.lane = s.link.lane ∧
    (ownSetInstallRecord p ps s).2.link.reportImage = s.link.reportImage ∧
    (ownSetInstallRecord p ps s).2.link.lastFormat = s.link.lastFormat ∧
    (ownSetInstallRecord p ps s).2.link.lastRejection = s.link.lastRejection ∧
    (ownSetInstallRecord p ps s).2.link.lostFor = s.link.lostFor ∧
    (ownSetInstallRecord p ps s).2.link.sinceMessage = s.link.sinceMessage ∧
    (ownSetInstallRecord p ps s).2.link.lastSet = s.link.lastSet ∧
    (ownSetInstallRecord p ps s).2.link.receiver = s.link.receiver ∧
    (ownSetInstallRecord p ps s).2.router = s.router ∧ (ownSetInstallRecord p ps s).2.geometry = s.geometry ∧
    (ownSetInstallRecord p ps s).2.room = s.room ∧
    (ownSetInstallRecord p ps s).2.lockout.profiles = s.lockout.profiles ∧
    (ownSetInstallRecord p ps s).2.lockout.hold = s.lockout.hold ∧
    (ownSetInstallRecord p ps s).2.lockout.serviceEnabled = s.lockout.serviceEnabled ∧
    (ownSetInstallRecord p ps s).2.lockout.locked = s.lockout.locked ∧
    (ownSetInstallRecord p ps s).2.lockout.mismatch = s.lockout.mismatch ∧
    (ownSetInstallRecord p ps s).2.lockout.mode = s.lockout.mode ∧
    (ownSetInstallRecord p ps s).2.lockout.effective = s.lockout.effective ∧
    (ownSetInstallRecord p ps s).2.store.slots = s.store.slots ∧
    (ownSetInstallRecord p ps s).2.store.records = s.store.records ∧
    (ownSetInstallRecord p ps s).2.store.loaded = s.store.loaded ∧
    (ownSetInstallRecord p ps s).2.store.room = s.store.room ∧
    (ownSetInstallRecord p ps s).2.store.protect = s.store.protect ∧
    (ownSetInstallRecord p ps s).2.store.window = s.store.window ∧
    (ownSetInstallRecord p ps s).2.store.wipe = s.store.wipe ∧ (ownSetInstallRecord p ps s).2.pending = s.pending := by
  unfold ownSetInstallRecord; try dsimp only
  all_goals (repeat' split)
  all_goals first | (simp; done) | (simp_all; done) | rfl

@[simp] theorem ownSetRoomTimes_frame (p : Port) (ps : List Word) (s : State) :
    quietPorts (ownSetRoomTimes p ps s).2.ports = quietPorts s.ports ∧
    (ownSetRoomTimes p ps s).2.lamp.newest = s.lamp.newest ∧
    (ownSetRoomTimes p ps s).2.lamp.replaceInFlight = s.lamp.replaceInFlight ∧
    (ownSetRoomTimes p ps s).2.lamp.history = s.lamp.history ∧ (ownSetRoomTimes p ps s).2.link.state = s.link.state ∧
    (ownSetRoomTimes p ps s).2.link.silence = s.link.silence ∧ (ownSetRoomTimes p ps s).2.link.lane = s.link.lane ∧
    (ownSetRoomTimes p ps s).2.link.reportImage = s.link.reportImage ∧
    (ownSetRoomTimes p ps s).2.link.lastFormat = s.link.lastFormat ∧
    (ownSetRoomTimes p ps s).2.link.lastRejection = s.link.lastRejection ∧
    (ownSetRoomTimes p ps s).2.link.lostFor = s.link.lostFor ∧
    (ownSetRoomTimes p ps s).2.link.sinceMessage = s.link.sinceMessage ∧
    (ownSetRoomTimes p ps s).2.link.lastSet = s.link.lastSet ∧
    (ownSetRoomTimes p ps s).2.link.receiver = s.link.receiver ∧
    (ownSetRoomTimes p ps s).2.router.sources = s.router.sources ∧
    (ownSetRoomTimes p ps s).2.router.raw = s.router.raw ∧
    (ownSetRoomTimes p ps s).2.router.debounced = s.router.debounced ∧
    (ownSetRoomTimes p ps s).2.router.stability = s.router.stability ∧
    (ownSetRoomTimes p ps s).2.router.sample = s.router.sample ∧
    (ownSetRoomTimes p ps s).2.router.requested = s.router.requested ∧
    (ownSetRoomTimes p ps s).2.router.routedInput = s.router.routedInput ∧
    (ownSetRoomTimes p ps s).2.router.routedSource = s.router.routedSource ∧
    (ownSetRoomTimes p ps s).2.router.state = s.router.state ∧
    (ownSetRoomTimes p ps s).2.router.format = s.router.format ∧
    (ownSetRoomTimes p ps s).2.router.chain = s.router.chain ∧
    (ownSetRoomTimes p ps s).2.router.pendingSlot = s.router.pendingSlot ∧
    (ownSetRoomTimes p ps s).2.router.deferred = s.router.deferred ∧
    (ownSetRoomTimes p ps s).2.router.settle = s.router.settle ∧
    (ownSetRoomTimes p ps s).2.router.settleOrigin = s.router.settleOrigin ∧
    (ownSetRoomTimes p ps s).2.router.resolved = s.router.resolved ∧
    (ownSetRoomTimes p ps s).2.geometry = s.geometry ∧ (ownSetRoomTimes p ps s).2.room = s.room ∧
    (ownSetRoomTimes p ps s).2.lockout = s.lockout ∧ (ownSetRoomTimes p ps s).2.store.slots = s.store.slots ∧
    (ownSetRoomTimes p ps s).2.store.records = s.store.records ∧
    (ownSetRoomTimes p ps s).2.store.loaded = s.store.loaded ∧
    (ownSetRoomTimes p ps s).2.store.install = s.store.install ∧
    (ownSetRoomTimes p ps s).2.store.protect = s.store.protect ∧
    (ownSetRoomTimes p ps s).2.store.window = s.store.window ∧ (ownSetRoomTimes p ps s).2.store.wipe = s.store.wipe ∧
    (ownSetRoomTimes p ps s).2.pending = s.pending := by
  unfold ownSetRoomTimes; try dsimp only
  all_goals (repeat' split)
  all_goals first | (simp; done) | (simp_all; done) | rfl

@[simp] theorem writeLock_frame (locked : Bool) (o : Origin) (s : State) :
    quietPorts (writeLock locked o s).ports = quietPorts s.ports ∧ (writeLock locked o s).lamp = s.lamp ∧
    (writeLock locked o s).power = s.power ∧ (writeLock locked o s).link = s.link ∧
    (writeLock locked o s).router = s.router ∧ (writeLock locked o s).geometry = s.geometry ∧
    (writeLock locked o s).room = s.room ∧ (writeLock locked o s).lockout.profiles = s.lockout.profiles ∧
    (writeLock locked o s).lockout.hold = s.lockout.hold ∧
    (writeLock locked o s).lockout.serviceEnabled = s.lockout.serviceEnabled ∧
    (writeLock locked o s).lockout.mode = s.lockout.mode ∧ (writeLock locked o s).lockout.active = s.lockout.active ∧
    (writeLock locked o s).lockout.effective = s.lockout.effective ∧
    (writeLock locked o s).store.slots = s.store.slots ∧ (writeLock locked o s).store.records = s.store.records ∧
    (writeLock locked o s).store.loaded = s.store.loaded ∧ (writeLock locked o s).store.install = s.store.install ∧
    (writeLock locked o s).store.room = s.store.room ∧ (writeLock locked o s).store.protect = s.store.protect ∧
    (writeLock locked o s).store.window = s.store.window ∧ (writeLock locked o s).store.engine = s.store.engine ∧
    (writeLock locked o s).store.wipe = s.store.wipe ∧ (writeLock locked o s).pending = s.pending := by
  unfold writeLock; try dsimp only
  all_goals (repeat' split)
  all_goals first | (simp; done) | (simp_all; done) | rfl

@[simp] theorem ownSetInstallLock_frame (p : Port) (s : State) :
    quietPorts (ownSetInstallLock p s).2.ports = quietPorts s.ports ∧ (ownSetInstallLock p s).2.lamp = s.lamp ∧
    (ownSetInstallLock p s).2.power = s.power ∧ (ownSetInstallLock p s).2.link.state = s.link.state ∧
    (ownSetInstallLock p s).2.link.silence = s.link.silence ∧ (ownSetInstallLock p s).2.link.lane = s.link.lane ∧
    (ownSetInstallLock p s).2.link.reportImage = s.link.reportImage ∧
    (ownSetInstallLock p s).2.link.lastFormat = s.link.lastFormat ∧
    (ownSetInstallLock p s).2.link.lastRejection = s.link.lastRejection ∧
    (ownSetInstallLock p s).2.link.lostFor = s.link.lostFor ∧
    (ownSetInstallLock p s).2.link.sinceMessage = s.link.sinceMessage ∧
    (ownSetInstallLock p s).2.link.lastSet = s.link.lastSet ∧
    (ownSetInstallLock p s).2.link.receiver = s.link.receiver ∧ (ownSetInstallLock p s).2.router = s.router ∧
    (ownSetInstallLock p s).2.geometry = s.geometry ∧ (ownSetInstallLock p s).2.room = s.room ∧
    (ownSetInstallLock p s).2.lockout.profiles = s.lockout.profiles ∧
    (ownSetInstallLock p s).2.lockout.hold = s.lockout.hold ∧
    (ownSetInstallLock p s).2.lockout.serviceEnabled = s.lockout.serviceEnabled ∧
    (ownSetInstallLock p s).2.lockout.mode = s.lockout.mode ∧
    (ownSetInstallLock p s).2.lockout.active = s.lockout.active ∧
    (ownSetInstallLock p s).2.lockout.effective = s.lockout.effective ∧
    (ownSetInstallLock p s).2.store.slots = s.store.slots ∧
    (ownSetInstallLock p s).2.store.records = s.store.records ∧
    (ownSetInstallLock p s).2.store.loaded = s.store.loaded ∧
    (ownSetInstallLock p s).2.store.install = s.store.install ∧ (ownSetInstallLock p s).2.store.room = s.store.room ∧
    (ownSetInstallLock p s).2.store.protect = s.store.protect ∧
    (ownSetInstallLock p s).2.store.window = s.store.window ∧ (ownSetInstallLock p s).2.store.wipe = s.store.wipe ∧
    (ownSetInstallLock p s).2.pending = s.pending := by
  unfold ownSetInstallLock; try dsimp only
  all_goals (repeat' split)
  all_goals first | (simp; done) | (simp_all; done) | rfl

@[simp] theorem ownClearInstallLock_frame (p : Port) (s : State) :
    quietPorts (ownClearInstallLock p s).2.ports = quietPorts s.ports ∧ (ownClearInstallLock p s).2.lamp = s.lamp ∧
    (ownClearInstallLock p s).2.power = s.power ∧ (ownClearInstallLock p s).2.link.state = s.link.state ∧
    (ownClearInstallLock p s).2.link.silence = s.link.silence ∧ (ownClearInstallLock p s).2.link.lane = s.link.lane ∧
    (ownClearInstallLock p s).2.link.reportImage = s.link.reportImage ∧
    (ownClearInstallLock p s).2.link.lastFormat = s.link.lastFormat ∧
    (ownClearInstallLock p s).2.link.lastRejection = s.link.lastRejection ∧
    (ownClearInstallLock p s).2.link.lostFor = s.link.lostFor ∧
    (ownClearInstallLock p s).2.link.sinceMessage = s.link.sinceMessage ∧
    (ownClearInstallLock p s).2.link.lastSet = s.link.lastSet ∧
    (ownClearInstallLock p s).2.link.receiver = s.link.receiver ∧ (ownClearInstallLock p s).2.router = s.router ∧
    (ownClearInstallLock p s).2.geometry = s.geometry ∧ (ownClearInstallLock p s).2.room = s.room ∧
    (ownClearInstallLock p s).2.lockout.profiles = s.lockout.profiles ∧
    (ownClearInstallLock p s).2.lockout.hold = s.lockout.hold ∧
    (ownClearInstallLock p s).2.lockout.serviceEnabled = s.lockout.serviceEnabled ∧
    (ownClearInstallLock p s).2.lockout.mode = s.lockout.mode ∧
    (ownClearInstallLock p s).2.lockout.active = s.lockout.active ∧
    (ownClearInstallLock p s).2.lockout.effective = s.lockout.effective ∧
    (ownClearInstallLock p s).2.store.slots = s.store.slots ∧
    (ownClearInstallLock p s).2.store.records = s.store.records ∧
    (ownClearInstallLock p s).2.store.loaded = s.store.loaded ∧
    (ownClearInstallLock p s).2.store.install = s.store.install ∧
    (ownClearInstallLock p s).2.store.room = s.store.room ∧
    (ownClearInstallLock p s).2.store.protect = s.store.protect ∧
    (ownClearInstallLock p s).2.store.window = s.store.window ∧
    (ownClearInstallLock p s).2.store.wipe = s.store.wipe ∧ (ownClearInstallLock p s).2.pending = s.pending := by
  unfold ownClearInstallLock; try dsimp only
  all_goals (repeat' split)
  all_goals first | (simp; done) | (simp_all; done) | rfl

@[simp] theorem setProtect_frame (m : BitVec 4) (s : State) :
    (setProtect m s).ports = s.ports ∧ (setProtect m s).lamp = s.lamp ∧ (setProtect m s).power = s.power ∧
    (setProtect m s).link = s.link ∧ (setProtect m s).router = s.router ∧ (setProtect m s).geometry = s.geometry ∧
    (setProtect m s).room = s.room ∧ (setProtect m s).lockout = s.lockout ∧
    (setProtect m s).store.slots = s.store.slots ∧ (setProtect m s).store.records = s.store.records ∧
    (setProtect m s).store.loaded = s.store.loaded ∧ (setProtect m s).store.install = s.store.install ∧
    (setProtect m s).store.room = s.store.room ∧ (setProtect m s).store.window = s.store.window ∧
    (setProtect m s).store.queue = s.store.queue ∧ (setProtect m s).store.engine = s.store.engine ∧
    (setProtect m s).store.wipe = s.store.wipe ∧ (setProtect m s).free = s.free ∧
    (setProtect m s).pending = s.pending := by
  unfold setProtect; try dsimp only
  all_goals (repeat' split)
  all_goals first | (simp; done) | (simp_all; done) | rfl

@[simp] theorem ownProtectRegions_frame (ps : List Word) (s : State) :
    quietPorts (ownProtectRegions ps s).2.ports = quietPorts s.ports ∧ (ownProtectRegions ps s).2.lamp = s.lamp ∧
    (ownProtectRegions ps s).2.power = s.power ∧ (ownProtectRegions ps s).2.link.state = s.link.state ∧
    (ownProtectRegions ps s).2.link.silence = s.link.silence ∧ (ownProtectRegions ps s).2.link.lane = s.link.lane ∧
    (ownProtectRegions ps s).2.link.reportImage = s.link.reportImage ∧
    (ownProtectRegions ps s).2.link.lastFormat = s.link.lastFormat ∧
    (ownProtectRegions ps s).2.link.lastRejection = s.link.lastRejection ∧
    (ownProtectRegions ps s).2.link.lostFor = s.link.lostFor ∧
    (ownProtectRegions ps s).2.link.sinceMessage = s.link.sinceMessage ∧
    (ownProtectRegions ps s).2.link.lastSet = s.link.lastSet ∧
    (ownProtectRegions ps s).2.link.receiver = s.link.receiver ∧ (ownProtectRegions ps s).2.router = s.router ∧
    (ownProtectRegions ps s).2.geometry = s.geometry ∧ (ownProtectRegions ps s).2.room = s.room ∧
    (ownProtectRegions ps s).2.lockout = s.lockout ∧ (ownProtectRegions ps s).2.store.slots = s.store.slots ∧
    (ownProtectRegions ps s).2.store.records = s.store.records ∧
    (ownProtectRegions ps s).2.store.loaded = s.store.loaded ∧
    (ownProtectRegions ps s).2.store.install = s.store.install ∧
    (ownProtectRegions ps s).2.store.room = s.store.room ∧ (ownProtectRegions ps s).2.store.window = s.store.window ∧
    (ownProtectRegions ps s).2.store.wipe = s.store.wipe ∧ (ownProtectRegions ps s).2.pending = s.pending := by
  unfold ownProtectRegions; try dsimp only
  all_goals (repeat' split)
  all_goals first | (simp; done) | (simp_all; done) | rfl

@[simp] theorem ownUnprotectRegions_frame (ps : List Word) (s : State) :
    quietPorts (ownUnprotectRegions ps s).2.ports = quietPorts s.ports ∧ (ownUnprotectRegions ps s).2.lamp = s.lamp ∧
    (ownUnprotectRegions ps s).2.power = s.power ∧ (ownUnprotectRegions ps s).2.link.state = s.link.state ∧
    (ownUnprotectRegions ps s).2.link.silence = s.link.silence ∧
    (ownUnprotectRegions ps s).2.link.lane = s.link.lane ∧
    (ownUnprotectRegions ps s).2.link.reportImage = s.link.reportImage ∧
    (ownUnprotectRegions ps s).2.link.lastFormat = s.link.lastFormat ∧
    (ownUnprotectRegions ps s).2.link.lastRejection = s.link.lastRejection ∧
    (ownUnprotectRegions ps s).2.link.lostFor = s.link.lostFor ∧
    (ownUnprotectRegions ps s).2.link.sinceMessage = s.link.sinceMessage ∧
    (ownUnprotectRegions ps s).2.link.lastSet = s.link.lastSet ∧
    (ownUnprotectRegions ps s).2.link.receiver = s.link.receiver ∧ (ownUnprotectRegions ps s).2.router = s.router ∧
    (ownUnprotectRegions ps s).2.geometry = s.geometry ∧ (ownUnprotectRegions ps s).2.room = s.room ∧
    (ownUnprotectRegions ps s).2.lockout = s.lockout ∧ (ownUnprotectRegions ps s).2.store.slots = s.store.slots ∧
    (ownUnprotectRegions ps s).2.store.records = s.store.records ∧
    (ownUnprotectRegions ps s).2.store.loaded = s.store.loaded ∧
    (ownUnprotectRegions ps s).2.store.install = s.store.install ∧
    (ownUnprotectRegions ps s).2.store.room = s.store.room ∧
    (ownUnprotectRegions ps s).2.store.window = s.store.window ∧
    (ownUnprotectRegions ps s).2.store.wipe = s.store.wipe ∧ (ownUnprotectRegions ps s).2.pending = s.pending := by
  unfold ownUnprotectRegions; try dsimp only
  all_goals (repeat' split)
  all_goals first | (simp; done) | (simp_all; done) | rfl

@[simp] theorem dropFold_frame (n : Nat) (l : List Entry) (s : State) : quietPorts (List.foldl (fun u (e : Entry) => postDropped e.key n e.origin u) s l).ports = quietPorts s.ports ∧
    (List.foldl (fun u (e : Entry) => postDropped e.key n e.origin u) s l).lamp = s.lamp ∧
    (List.foldl (fun u (e : Entry) => postDropped e.key n e.origin u) s l).power = s.power ∧
    (List.foldl (fun u (e : Entry) => postDropped e.key n e.origin u) s l).link = s.link ∧
    (List.foldl (fun u (e : Entry) => postDropped e.key n e.origin u) s l).router = s.router ∧
    (List.foldl (fun u (e : Entry) => postDropped e.key n e.origin u) s l).geometry = s.geometry ∧
    (List.foldl (fun u (e : Entry) => postDropped e.key n e.origin u) s l).room = s.room ∧
    (List.foldl (fun u (e : Entry) => postDropped e.key n e.origin u) s l).lockout = s.lockout ∧
    (List.foldl (fun u (e : Entry) => postDropped e.key n e.origin u) s l).store = s.store ∧
    (List.foldl (fun u (e : Entry) => postDropped e.key n e.origin u) s l).pending = s.pending := by
  induction l generalizing s with
  | nil => simp
  | cons a r ih => simp [ih]

@[simp] theorem dropForWipe_frame (s : State) :
    quietPorts (dropForWipe s).ports = quietPorts s.ports ∧ (dropForWipe s).lamp = s.lamp ∧
    (dropForWipe s).power = s.power ∧ (dropForWipe s).link = s.link ∧ (dropForWipe s).router = s.router ∧
    (dropForWipe s).geometry = s.geometry ∧ (dropForWipe s).room = s.room ∧ (dropForWipe s).lockout = s.lockout ∧
    (dropForWipe s).store.slots = s.store.slots ∧ (dropForWipe s).store.records = s.store.records ∧
    (dropForWipe s).store.loaded = s.store.loaded ∧ (dropForWipe s).store.install = s.store.install ∧
    (dropForWipe s).store.room = s.store.room ∧ (dropForWipe s).store.protect = s.store.protect ∧
    (dropForWipe s).store.window = s.store.window ∧ (dropForWipe s).store.engine = s.store.engine ∧
    (dropForWipe s).store.wipe = s.store.wipe ∧ (dropForWipe s).pending = s.pending := by
  unfold dropForWipe; try dsimp only
  all_goals (repeat' split)
  all_goals first | (simp; done) | (simp_all; done) | rfl

@[simp] theorem ownStoreWipe_frame (p : Port) (s : State) :
    quietPorts (ownStoreWipe p s).2.ports = quietPorts s.ports ∧ (ownStoreWipe p s).2.lamp = s.lamp ∧
    (ownStoreWipe p s).2.power = s.power ∧ (ownStoreWipe p s).2.link.state = s.link.state ∧
    (ownStoreWipe p s).2.link.silence = s.link.silence ∧ (ownStoreWipe p s).2.link.lane = s.link.lane ∧
    (ownStoreWipe p s).2.link.reportImage = s.link.reportImage ∧
    (ownStoreWipe p s).2.link.lastFormat = s.link.lastFormat ∧
    (ownStoreWipe p s).2.link.lastRejection = s.link.lastRejection ∧
    (ownStoreWipe p s).2.link.lostFor = s.link.lostFor ∧
    (ownStoreWipe p s).2.link.sinceMessage = s.link.sinceMessage ∧
    (ownStoreWipe p s).2.link.lastSet = s.link.lastSet ∧ (ownStoreWipe p s).2.link.receiver = s.link.receiver ∧
    (ownStoreWipe p s).2.router = s.router ∧ (ownStoreWipe p s).2.geometry = s.geometry ∧
    (ownStoreWipe p s).2.room = s.room ∧ (ownStoreWipe p s).2.lockout = s.lockout ∧
    (ownStoreWipe p s).2.store.slots = s.store.slots ∧ (ownStoreWipe p s).2.store.records = s.store.records ∧
    (ownStoreWipe p s).2.store.loaded = s.store.loaded ∧ (ownStoreWipe p s).2.store.install = s.store.install ∧
    (ownStoreWipe p s).2.store.room = s.store.room ∧ (ownStoreWipe p s).2.store.protect = s.store.protect ∧
    (ownStoreWipe p s).2.store.window = s.store.window ∧ (ownStoreWipe p s).2.pending = s.pending := by
  unfold ownStoreWipe; try dsimp only
  all_goals (repeat' split)
  all_goals first | (simp; done) | (simp_all; done) | rfl

@[simp] theorem setHold_frame (h : OverrideHold) (s : State) :
    (setHold h s).ports = s.ports ∧ (setHold h s).lamp = s.lamp ∧ (setHold h s).power = s.power ∧
    (setHold h s).link = s.link ∧ (setHold h s).router = s.router ∧ (setHold h s).geometry = s.geometry ∧
    (setHold h s).room = s.room ∧ (setHold h s).lockout.profiles = s.lockout.profiles ∧
    (setHold h s).lockout.serviceEnabled = s.lockout.serviceEnabled ∧
    (setHold h s).lockout.locked = s.lockout.locked ∧ (setHold h s).lockout.mismatch = s.lockout.mismatch ∧
    (setHold h s).lockout.mode = s.lockout.mode ∧ (setHold h s).lockout.active = s.lockout.active ∧
    (setHold h s).lockout.effective = s.lockout.effective ∧ (setHold h s).store = s.store ∧
    (setHold h s).free = s.free ∧ (setHold h s).pending = s.pending := by
  unfold setHold; try dsimp only
  all_goals (repeat' split)
  all_goals first | (simp; done) | (simp_all; done) | rfl

@[simp] theorem ownSetOverride_frame (p : Port) (q : Qualifier) (ps : List Word) (s : State) :
    quietPorts (ownSetOverride p q ps s).2.ports = quietPorts s.ports ∧ (ownSetOverride p q ps s).2.lamp = s.lamp ∧
    (ownSetOverride p q ps s).2.power = s.power ∧ (ownSetOverride p q ps s).2.link.state = s.link.state ∧
    (ownSetOverride p q ps s).2.link.silence = s.link.silence ∧ (ownSetOverride p q ps s).2.link.lane = s.link.lane ∧
    (ownSetOverride p q ps s).2.link.reportImage = s.link.reportImage ∧
    (ownSetOverride p q ps s).2.link.lastFormat = s.link.lastFormat ∧
    (ownSetOverride p q ps s).2.link.lastRejection = s.link.lastRejection ∧
    (ownSetOverride p q ps s).2.link.lostFor = s.link.lostFor ∧
    (ownSetOverride p q ps s).2.link.sinceMessage = s.link.sinceMessage ∧
    (ownSetOverride p q ps s).2.link.lastSet = s.link.lastSet ∧
    (ownSetOverride p q ps s).2.link.receiver = s.link.receiver ∧ (ownSetOverride p q ps s).2.router = s.router ∧
    (ownSetOverride p q ps s).2.geometry = s.geometry ∧ (ownSetOverride p q ps s).2.room = s.room ∧
    (ownSetOverride p q ps s).2.lockout.profiles = s.lockout.profiles ∧
    (ownSetOverride p q ps s).2.lockout.serviceEnabled = s.lockout.serviceEnabled ∧
    (ownSetOverride p q ps s).2.lockout.locked = s.lockout.locked ∧
    (ownSetOverride p q ps s).2.lockout.mismatch = s.lockout.mismatch ∧
    (ownSetOverride p q ps s).2.lockout.mode = s.lockout.mode ∧
    (ownSetOverride p q ps s).2.lockout.active = s.lockout.active ∧
    (ownSetOverride p q ps s).2.store.slots = s.store.slots ∧
    (ownSetOverride p q ps s).2.store.records = s.store.records ∧
    (ownSetOverride p q ps s).2.store.loaded = s.store.loaded ∧
    (ownSetOverride p q ps s).2.store.install = s.store.install ∧
    (ownSetOverride p q ps s).2.store.protect = s.store.protect ∧
    (ownSetOverride p q ps s).2.store.window = s.store.window ∧
    (ownSetOverride p q ps s).2.store.wipe = s.store.wipe ∧ (ownSetOverride p q ps s).2.pending = s.pending := by
  unfold ownSetOverride; try dsimp only
  all_goals (repeat' split)
  all_goals first | (simp; done) | (simp_all; done) | rfl

/-! ## ServiceCommands -/

@[simp] theorem replaceLamp_frame (a : Account) (serial : Nat) (life : Option Nat) (s : State) :
    quietPorts (replaceLamp a serial life s).ports = quietPorts s.ports ∧
    (replaceLamp a serial life s).lamp.account = s.lamp.account ∧
    (replaceLamp a serial life s).lamp.newest = s.lamp.newest ∧
    (replaceLamp a serial life s).lamp.burn = s.lamp.burn ∧
    (replaceLamp a serial life s).lamp.hotWindow = s.lamp.hotWindow ∧
    (replaceLamp a serial life s).lamp.history = s.lamp.history ∧
    (replaceLamp a serial life s).power.state = s.power.state ∧
    (replaceLamp a serial life s).power.step = s.power.step ∧
    (replaceLamp a serial life s).power.attempt = s.power.attempt ∧
    (replaceLamp a serial life s).power.restartPending = s.power.restartPending ∧
    (replaceLamp a serial life s).power.offPending = s.power.offPending ∧
    (replaceLamp a serial life s).power.ignitionOrigin = s.power.ignitionOrigin ∧
    (replaceLamp a serial life s).power.offOrigin = s.power.offOrigin ∧
    (replaceLamp a serial life s).power.thermalHold = s.power.thermalHold ∧
    (replaceLamp a serial life s).power.shutter = s.power.shutter ∧
    (replaceLamp a serial life s).power.momentaryMode = s.power.momentaryMode ∧
    (replaceLamp a serial life s).power.modeEvaluated = s.power.modeEvaluated ∧
    (replaceLamp a serial life s).power.strikeTimer = s.power.strikeTimer ∧
    (replaceLamp a serial life s).power.pauseTimer = s.power.pauseTimer ∧
    (replaceLamp a serial life s).power.warmingTimer = s.power.warmingTimer ∧
    (replaceLamp a serial life s).power.coolingTimer = s.power.coolingTimer ∧
    (replaceLamp a serial life s).power.blankDim = s.power.blankDim ∧
    (replaceLamp a serial life s).power.dimmed = s.power.dimmed ∧
    (replaceLamp a serial life s).power.reportWait = s.power.reportWait ∧
    (replaceLamp a serial life s).link.state = s.link.state ∧
    (replaceLamp a serial life s).link.silence = s.link.silence ∧
    (replaceLamp a serial life s).link.outstanding = s.link.outstanding ∧
    (replaceLamp a serial life s).link.answer = s.link.answer ∧
    (replaceLamp a serial life s).link.nextTag = s.link.nextTag ∧
    (replaceLamp a serial life s).link.lane = s.link.lane ∧
    (replaceLamp a serial life s).link.reportImage = s.link.reportImage ∧
    (replaceLamp a serial life s).link.lastFormat = s.link.lastFormat ∧
    (replaceLamp a serial life s).link.lastRejection = s.link.lastRejection ∧
    (replaceLamp a serial life s).link.lostFor = s.link.lostFor ∧
    (replaceLamp a serial life s).link.sinceMessage = s.link.sinceMessage ∧
    (replaceLamp a serial life s).link.lastSet = s.link.lastSet ∧
    (replaceLamp a serial life s).link.receiver = s.link.receiver ∧
    (replaceLamp a serial life s).link.transmit = s.link.transmit ∧ (replaceLamp a serial life s).router = s.router ∧
    (replaceLamp a serial life s).geometry = s.geometry ∧ (replaceLamp a serial life s).room = s.room ∧
    (replaceLamp a serial life s).lockout = s.lockout ∧ (replaceLamp a serial life s).store.slots = s.store.slots ∧
    (replaceLamp a serial life s).store.records = s.store.records ∧
    (replaceLamp a serial life s).store.loaded = s.store.loaded ∧
    (replaceLamp a serial life s).store.room = s.store.room ∧
    (replaceLamp a serial life s).store.protect = s.store.protect ∧
    (replaceLamp a serial life s).store.window = s.store.window ∧
    (replaceLamp a serial life s).store.engine = s.store.engine ∧
    (replaceLamp a serial life s).store.wipe = s.store.wipe ∧ (replaceLamp a serial life s).pending = s.pending := by
  unfold replaceLamp; try dsimp only
  all_goals (repeat' split)
  all_goals first | (simp; done) | (simp_all; done) | rfl

@[simp] theorem ownLampReplace_frame (ps : List Word) (s : State) :
    quietPorts (ownLampReplace ps s).2.ports = quietPorts s.ports ∧
    (ownLampReplace ps s).2.lamp.account = s.lamp.account ∧ (ownLampReplace ps s).2.lamp.newest = s.lamp.newest ∧
    (ownLampReplace ps s).2.lamp.burn = s.lamp.burn ∧ (ownLampReplace ps s).2.lamp.hotWindow = s.lamp.hotWindow ∧
    (ownLampReplace ps s).2.lamp.history = s.lamp.history ∧ (ownLampReplace ps s).2.power.state = s.power.state ∧
    (ownLampReplace ps s).2.power.step = s.power.step ∧ (ownLampReplace ps s).2.power.attempt = s.power.attempt ∧
    (ownLampReplace ps s).2.power.restartPending = s.power.restartPending ∧
    (ownLampReplace ps s).2.power.offPending = s.power.offPending ∧
    (ownLampReplace ps s).2.power.ignitionOrigin = s.power.ignitionOrigin ∧
    (ownLampReplace ps s).2.power.offOrigin = s.power.offOrigin ∧
    (ownLampReplace ps s).2.power.thermalHold = s.power.thermalHold ∧
    (ownLampReplace ps s).2.power.shutter = s.power.shutter ∧
    (ownLampReplace ps s).2.power.momentaryMode = s.power.momentaryMode ∧
    (ownLampReplace ps s).2.power.modeEvaluated = s.power.modeEvaluated ∧
    (ownLampReplace ps s).2.power.strikeTimer = s.power.strikeTimer ∧
    (ownLampReplace ps s).2.power.pauseTimer = s.power.pauseTimer ∧
    (ownLampReplace ps s).2.power.warmingTimer = s.power.warmingTimer ∧
    (ownLampReplace ps s).2.power.coolingTimer = s.power.coolingTimer ∧
    (ownLampReplace ps s).2.power.blankDim = s.power.blankDim ∧
    (ownLampReplace ps s).2.power.dimmed = s.power.dimmed ∧
    (ownLampReplace ps s).2.power.reportWait = s.power.reportWait ∧
    (ownLampReplace ps s).2.link.state = s.link.state ∧ (ownLampReplace ps s).2.link.silence = s.link.silence ∧
    (ownLampReplace ps s).2.link.lane = s.link.lane ∧ (ownLampReplace ps s).2.link.reportImage = s.link.reportImage ∧
    (ownLampReplace ps s).2.link.lastFormat = s.link.lastFormat ∧
    (ownLampReplace ps s).2.link.lastRejection = s.link.lastRejection ∧
    (ownLampReplace ps s).2.link.lostFor = s.link.lostFor ∧
    (ownLampReplace ps s).2.link.sinceMessage = s.link.sinceMessage ∧
    (ownLampReplace ps s).2.link.lastSet = s.link.lastSet ∧ (ownLampReplace ps s).2.link.receiver = s.link.receiver ∧
    (ownLampReplace ps s).2.router = s.router ∧ (ownLampReplace ps s).2.geometry = s.geometry ∧
    (ownLampReplace ps s).2.room = s.room ∧ (ownLampReplace ps s).2.lockout = s.lockout ∧
    (ownLampReplace ps s).2.store.slots = s.store.slots ∧ (ownLampReplace ps s).2.store.records = s.store.records ∧
    (ownLampReplace ps s).2.store.loaded = s.store.loaded ∧ (ownLampReplace ps s).2.store.room = s.store.room ∧
    (ownLampReplace ps s).2.store.protect = s.store.protect ∧ (ownLampReplace ps s).2.store.window = s.store.window ∧
    (ownLampReplace ps s).2.store.wipe = s.store.wipe ∧ (ownLampReplace ps s).2.pending = s.pending := by
  unfold ownLampReplace; try dsimp only
  all_goals (repeat' split)
  all_goals first | (simp; done) | (simp_all; done) | rfl

@[simp] theorem ownLampSet_frame (ps : List Word) (s : State) :
    quietPorts (ownLampSet ps s).2.ports = quietPorts s.ports ∧ (ownLampSet ps s).2.lamp.account = s.lamp.account ∧
    (ownLampSet ps s).2.lamp.level = s.lamp.level ∧ (ownLampSet ps s).2.lamp.newest = s.lamp.newest ∧
    (ownLampSet ps s).2.lamp.tally = s.lamp.tally ∧ (ownLampSet ps s).2.lamp.burn = s.lamp.burn ∧
    (ownLampSet ps s).2.lamp.normalSeen = s.lamp.normalSeen ∧ (ownLampSet ps s).2.lamp.hotWindow = s.lamp.hotWindow ∧
    (ownLampSet ps s).2.lamp.history = s.lamp.history ∧ (ownLampSet ps s).2.power = s.power ∧
    (ownLampSet ps s).2.link.state = s.link.state ∧ (ownLampSet ps s).2.link.silence = s.link.silence ∧
    (ownLampSet ps s).2.link.lane = s.link.lane ∧ (ownLampSet ps s).2.link.reportImage = s.link.reportImage ∧
    (ownLampSet ps s).2.link.lastFormat = s.link.lastFormat ∧
    (ownLampSet ps s).2.link.lastRejection = s.link.lastRejection ∧
    (ownLampSet ps s).2.link.lostFor = s.link.lostFor ∧ (ownLampSet ps s).2.link.sinceMessage = s.link.sinceMessage ∧
    (ownLampSet ps s).2.link.lastSet = s.link.lastSet ∧ (ownLampSet ps s).2.link.receiver = s.link.receiver ∧
    (ownLampSet ps s).2.router = s.router ∧ (ownLampSet ps s).2.geometry = s.geometry ∧
    (ownLampSet ps s).2.room = s.room ∧ (ownLampSet ps s).2.lockout = s.lockout ∧
    (ownLampSet ps s).2.store.slots = s.store.slots ∧ (ownLampSet ps s).2.store.records = s.store.records ∧
    (ownLampSet ps s).2.store.loaded = s.store.loaded ∧ (ownLampSet ps s).2.store.install = s.store.install ∧
    (ownLampSet ps s).2.store.room = s.store.room ∧ (ownLampSet ps s).2.store.protect = s.store.protect ∧
    (ownLampSet ps s).2.store.window = s.store.window ∧ (ownLampSet ps s).2.store.wipe = s.store.wipe ∧
    (ownLampSet ps s).2.pending = s.pending := by
  unfold ownLampSet; try dsimp only
  all_goals (repeat' split)
  all_goals first | (simp; done) | (simp_all; done) | rfl

@[simp] theorem ownClearFault_frame (p : Port) (s : State) :
    quietPorts (ownClearFault p s).2.ports = quietPorts s.ports ∧ (ownClearFault p s).2.lamp.newest = s.lamp.newest ∧
    (ownClearFault p s).2.lamp.replaceInFlight = s.lamp.replaceInFlight ∧
    (ownClearFault p s).2.lamp.history = s.lamp.history ∧ (ownClearFault p s).2.link.state = s.link.state ∧
    (ownClearFault p s).2.link.silence = s.link.silence ∧ (ownClearFault p s).2.link.lane = s.link.lane ∧
    (ownClearFault p s).2.link.reportImage = s.link.reportImage ∧
    (ownClearFault p s).2.link.lastFormat = s.link.lastFormat ∧
    (ownClearFault p s).2.link.lastRejection = s.link.lastRejection ∧
    (ownClearFault p s).2.link.lostFor = s.link.lostFor ∧
    (ownClearFault p s).2.link.sinceMessage = s.link.sinceMessage ∧
    (ownClearFault p s).2.link.lastSet = s.link.lastSet ∧ (ownClearFault p s).2.link.receiver = s.link.receiver ∧
    (ownClearFault p s).2.router.sources = s.router.sources ∧ (ownClearFault p s).2.router.raw = s.router.raw ∧
    (ownClearFault p s).2.router.debounced = s.router.debounced ∧
    (ownClearFault p s).2.router.stability = s.router.stability ∧
    (ownClearFault p s).2.router.sample = s.router.sample ∧
    (ownClearFault p s).2.router.requested = s.router.requested ∧
    (ownClearFault p s).2.router.routedInput = s.router.routedInput ∧
    (ownClearFault p s).2.router.routedSource = s.router.routedSource ∧
    (ownClearFault p s).2.router.state = s.router.state ∧ (ownClearFault p s).2.router.format = s.router.format ∧
    (ownClearFault p s).2.router.chain = s.router.chain ∧
    (ownClearFault p s).2.router.pendingSlot = s.router.pendingSlot ∧
    (ownClearFault p s).2.router.deferred = s.router.deferred ∧
    (ownClearFault p s).2.router.settle = s.router.settle ∧
    (ownClearFault p s).2.router.settleOrigin = s.router.settleOrigin ∧
    (ownClearFault p s).2.router.resolved = s.router.resolved ∧ (ownClearFault p s).2.geometry = s.geometry ∧
    (ownClearFault p s).2.room = s.room ∧ (ownClearFault p s).2.lockout = s.lockout ∧
    (ownClearFault p s).2.store.slots = s.store.slots ∧ (ownClearFault p s).2.store.records = s.store.records ∧
    (ownClearFault p s).2.store.loaded = s.store.loaded ∧ (ownClearFault p s).2.store.install = s.store.install ∧
    (ownClearFault p s).2.store.room = s.store.room ∧ (ownClearFault p s).2.store.protect = s.store.protect ∧
    (ownClearFault p s).2.store.window = s.store.window ∧ (ownClearFault p s).2.store.wipe = s.store.wipe ∧
    (ownClearFault p s).2.pending = s.pending := by
  unfold ownClearFault; try dsimp only
  all_goals (repeat' split)
  all_goals first | (simp; done) | (simp_all; done) | rfl

@[simp] theorem ownLeaveCommission_frame (s : State) :
    quietPorts (ownLeaveCommission s).2.ports = quietPorts s.ports ∧ (ownLeaveCommission s).2.lamp = s.lamp ∧
    (ownLeaveCommission s).2.power = s.power ∧ (ownLeaveCommission s).2.link.state = s.link.state ∧
    (ownLeaveCommission s).2.link.silence = s.link.silence ∧ (ownLeaveCommission s).2.link.lane = s.link.lane ∧
    (ownLeaveCommission s).2.link.reportImage = s.link.reportImage ∧
    (ownLeaveCommission s).2.link.lastFormat = s.link.lastFormat ∧
    (ownLeaveCommission s).2.link.lastRejection = s.link.lastRejection ∧
    (ownLeaveCommission s).2.link.lostFor = s.link.lostFor ∧
    (ownLeaveCommission s).2.link.sinceMessage = s.link.sinceMessage ∧
    (ownLeaveCommission s).2.link.lastSet = s.link.lastSet ∧
    (ownLeaveCommission s).2.link.receiver = s.link.receiver ∧ (ownLeaveCommission s).2.router = s.router ∧
    (ownLeaveCommission s).2.geometry = s.geometry ∧ (ownLeaveCommission s).2.room = s.room ∧
    (ownLeaveCommission s).2.lockout.profiles = s.lockout.profiles ∧
    (ownLeaveCommission s).2.lockout.hold = s.lockout.hold ∧
    (ownLeaveCommission s).2.lockout.serviceEnabled = s.lockout.serviceEnabled ∧
    (ownLeaveCommission s).2.lockout.locked = s.lockout.locked ∧
    (ownLeaveCommission s).2.lockout.mismatch = s.lockout.mismatch ∧
    (ownLeaveCommission s).2.lockout.active = s.lockout.active ∧
    (ownLeaveCommission s).2.lockout.effective = s.lockout.effective ∧
    (ownLeaveCommission s).2.store.slots = s.store.slots ∧ (ownLeaveCommission s).2.store.records = s.store.records ∧
    (ownLeaveCommission s).2.store.loaded = s.store.loaded ∧
    (ownLeaveCommission s).2.store.install = s.store.install ∧ (ownLeaveCommission s).2.store.room = s.store.room ∧
    (ownLeaveCommission s).2.store.protect = s.store.protect ∧
    (ownLeaveCommission s).2.store.window = s.store.window ∧ (ownLeaveCommission s).2.store.wipe = s.store.wipe ∧
    (ownLeaveCommission s).2.pending = s.pending := by
  unfold ownLeaveCommission; try dsimp only
  all_goals (repeat' split)
  all_goals first | (simp; done) | (simp_all; done) | rfl

/-! ## Tick -/

@[simp] theorem millisecond_frame (s : State) :
    (millisecond s).ports = s.ports ∧ (millisecond s).lamp.account = s.lamp.account ∧
    (millisecond s).lamp.level = s.lamp.level ∧ (millisecond s).lamp.newest = s.lamp.newest ∧
    (millisecond s).lamp.tally = s.lamp.tally ∧ (millisecond s).lamp.normalSeen = s.lamp.normalSeen ∧
    (millisecond s).lamp.cadence = s.lamp.cadence ∧ (millisecond s).lamp.replaceInFlight = s.lamp.replaceInFlight ∧
    (millisecond s).lamp.history = s.lamp.history ∧ (millisecond s).power.state = s.power.state ∧
    (millisecond s).power.step = s.power.step ∧ (millisecond s).power.attempt = s.power.attempt ∧
    (millisecond s).power.restartPending = s.power.restartPending ∧
    (millisecond s).power.offPending = s.power.offPending ∧
    (millisecond s).power.ignitionOrigin = s.power.ignitionOrigin ∧
    (millisecond s).power.offOrigin = s.power.offOrigin ∧ (millisecond s).power.thermalHold = s.power.thermalHold ∧
    (millisecond s).power.shutter = s.power.shutter ∧ (millisecond s).power.momentaryMode = s.power.momentaryMode ∧
    (millisecond s).power.effectiveMode = s.power.effectiveMode ∧
    (millisecond s).power.modeEvaluated = s.power.modeEvaluated ∧ (millisecond s).power.dimmed = s.power.dimmed ∧
    (millisecond s).link.state = s.link.state ∧ (millisecond s).link.outstanding = s.link.outstanding ∧
    (millisecond s).link.nextTag = s.link.nextTag ∧ (millisecond s).link.control = s.link.control ∧
    (millisecond s).link.lane = s.link.lane ∧ (millisecond s).link.reportImage = s.link.reportImage ∧
    (millisecond s).link.lastFormat = s.link.lastFormat ∧ (millisecond s).link.lastRejection = s.link.lastRejection ∧
    (millisecond s).link.lastSet = s.link.lastSet ∧ (millisecond s).link.receiver = s.link.receiver ∧
    (millisecond s).link.transmit = s.link.transmit ∧ (millisecond s).router.sources = s.router.sources ∧
    (millisecond s).router.raw = s.router.raw ∧ (millisecond s).router.debounced = s.router.debounced ∧
    (millisecond s).router.requested = s.router.requested ∧
    (millisecond s).router.routedInput = s.router.routedInput ∧
    (millisecond s).router.routedSource = s.router.routedSource ∧ (millisecond s).router.state = s.router.state ∧
    (millisecond s).router.format = s.router.format ∧ (millisecond s).router.chain = s.router.chain ∧
    (millisecond s).router.pendingSlot = s.router.pendingSlot ∧ (millisecond s).router.deferred = s.router.deferred ∧
    (millisecond s).router.settleOrigin = s.router.settleOrigin ∧
    (millisecond s).router.resolved = s.router.resolved ∧ (millisecond s).geometry = s.geometry ∧
    (millisecond s).room.clock = s.room.clock ∧ (millisecond s).room.bookings = s.room.bookings ∧
    (millisecond s).room.exceptions = s.room.exceptions ∧ (millisecond s).room.state = s.room.state ∧
    (millisecond s).room.current = s.room.current ∧ (millisecond s).room.extension = s.room.extension ∧
    (millisecond s).room.taken = s.room.taken ∧ (millisecond s).room.scheduleBlank = s.room.scheduleBlank ∧
    (millisecond s).lockout = s.lockout ∧ (millisecond s).store.slots = s.store.slots ∧
    (millisecond s).store.records = s.store.records ∧ (millisecond s).store.loaded = s.store.loaded ∧
    (millisecond s).store.install = s.store.install ∧ (millisecond s).store.room = s.store.room ∧
    (millisecond s).store.protect = s.store.protect ∧ (millisecond s).store.queue = s.store.queue ∧
    (millisecond s).store.wipe = s.store.wipe ∧ (millisecond s).free = s.free ∧
    (millisecond s).pending = s.pending := by
  unfold millisecond; try dsimp only
  all_goals (repeat' split)
  all_goals first | (simp; done) | (simp_all; done) | rfl

end Sys2Proof.Machine
end

