-- ==== Sys2Proof/Laws/Requests.lean ====
section
/-! SUPPORT. What a request does, once: a period while TAKING, the answer of the first check that fails, and the owning
block's answer and effect (R165, R168). -/

namespace Sys2Proof.Machine

/-- A qualifier's checks read the port's two defaults and its day base alone. -/
theorem qualify_congr (c : Command) (x y : PortState) (q : Word) (ps : List Word) (h : x.defaultScope = y.defaultScope)
    (h' : x.defaultForm = y.defaultForm) (h'' : x.dayBase = y.dayBase) : qualify c x q ps = qualify c y q ps := by
  cases x; cases y
  simp only at h h' h''
  subst h; subst h'; subst h''
  rfl

/-- The take order reads nothing that the frame's arrival changes. -/
@[simp] theorem admission_beginFrame (c : Command) (p : Port) (f : Frame) (n : Nat) (s : State) :
    admission c p f (beginFrame p n s) = admission c p f s := by
  have h : qualify c (portOf (beginFrame p n s) p) (itemAt f.words 0) (f.words.drop 1) =
      qualify c (portOf s p) (itemAt f.words 0) (f.words.drop 1) := by
    apply qualify_congr <;> simp [beginFrame]
  unfold admission
  rw [h]
  rfl

/-- A request while the port is TAKING is disregarded (R165). -/
theorem request_taking (c : Command) (p : Port) (f : Frame) (own : Qualifier → List Word → State → Answer × State)
    (s : State) (h : (portOf s p).transfer = .taking) :
    request c p f own s = disregardPeriod p (f.words.length + 1) s := by
  unfold request
  rw [if_pos h]

/-- A request that fails a check of the take order is answered, and does nothing else (R168). -/
theorem request_turned (c : Command) (p : Port) (f : Frame) (own : Qualifier → List Word → State → Answer × State)
    (s : State) (a : Answer) (h : (portOf s p).transfer ≠ .taking) (h' : admission c p f s = .error a) :
    request c p f own s = after c p a (begun p f s) := by
  unfold request
  rw [if_neg h, admission_beginFrame, h']
  rfl

/-- A request that is taken has its owning block's answer and effect (R168). -/
theorem request_taken (c : Command) (p : Port) (f : Frame) (own : Qualifier → List Word → State → Answer × State)
    (q : Qualifier) (s : State) (h : taken c p f q s) :
    request c p f own s = after c p (own q (f.words.drop 1) (begun p f s)).1 (own q (f.words.drop 1) (begun p f s)).2 := by
  unfold request
  rw [if_neg h.1, admission_beginFrame, h.2]
  rfl

/-- A request ends in one of these three ways (R165, R168). -/
theorem request_cases (c : Command) (p : Port) (f : Frame) (own : Qualifier → List Word → State → Answer × State)
    (s : State) :
    ((portOf s p).transfer = .taking ∧ request c p f own s = disregardPeriod p (f.words.length + 1) s) ∨
    ((portOf s p).transfer ≠ .taking ∧ ∃ a, admission c p f s = .error a ∧
      request c p f own s = after c p a (begun p f s)) ∨
    (∃ q, taken c p f q s ∧ request c p f own s =
      after c p (own q (f.words.drop 1) (begun p f s)).1 (own q (f.words.drop 1) (begun p f s)).2) := by
  by_cases h : (portOf s p).transfer = .taking
  · exact .inl ⟨h, request_taking c p f own s h⟩
  · cases h' : admission c p f s with
    | error a => exact .inr (.inl ⟨h, a, rfl, request_turned c p f own s a h h'⟩)
    | ok q => exact .inr (.inr ⟨q, ⟨h, h'⟩, request_taken c p f own q s ⟨h, h'⟩⟩)

/-- The arrival of a frame changes its port alone. -/
@[simp] theorem begun_frame (p : Port) (f : Frame) (s : State) : (begun p f s).lamp = s.lamp ∧
    (begun p f s).power = s.power ∧ (begun p f s).link = s.link ∧ (begun p f s).router = s.router ∧
    (begun p f s).geometry = s.geometry ∧ (begun p f s).room = s.room ∧ (begun p f s).lockout = s.lockout ∧
    (begun p f s).store = s.store ∧ (begun p f s).free = s.free ∧ (begun p f s).pending = s.pending :=
  ⟨rfl, rfl, rfl, rfl, rfl, rfl, rfl, rfl, rfl, rfl⟩

/-- The answer of a request changes its port alone. -/
@[simp] theorem after_frame (c : Command) (p : Port) (a : Answer) (t : State) : (after c p a t).lamp = t.lamp ∧
    (after c p a t).power = t.power ∧ (after c p a t).link = t.link ∧ (after c p a t).router = t.router ∧
    (after c p a t).geometry = t.geometry ∧ (after c p a t).room = t.room ∧ (after c p a t).lockout = t.lockout ∧
    (after c p a t).store = t.store ∧ (after c p a t).free = t.free ∧ (after c p a t).pending = t.pending :=
  ⟨rfl, rfl, rfl, rfl, rfl, rfl, rfl, rfl, rfl, rfl⟩

/-- The port of a frame that has arrived, without its queue. -/
theorem portOf_begun (p : Port) (f : Frame) (s : State) : portOf (begun p f s) p =
    { portOf s p with transfer := .taking, response := none, deciding := none
                      dataOut := List.replicate (f.words.length + 1) 0 } := by
  simp [begun, beginFrame]

/-- An effect that leaves the ports' contexts leaves the answered request's. -/
theorem answered_of (c : Command) (p : Port) (f : Frame) (a : Answer) (s u : State)
    (h : quietPorts u.ports = quietPorts (begun p f s).ports) : answered c p f a s (after c p a u) := by
  unfold answered contexts after decideAnswer
  apply quietPorts_setPort _ _ _ _ _ h
  have := (quietPorts_eq_iff _ _).mp h p
  simp only [quietPort, PortState.mk.injEq] at this ⊢
  simp [this]

end Sys2Proof.Machine
end

