-- ==== Sys2Proof/Laws/Values.lean ====
section
/-! SUPPORT. What the shared operations do, once each: changes of the power state, strikes and seconds, the mode and the
shutter, the control lane, the persist queue and the engine, and the search for an occurrence. -/

namespace Sys2Proof.Machine

/-! ## Changes of the power state (R24, R26) -/

/-- The strike record and the timers after a change of power state (R25, R26). -/
theorem setPower_power (dest : PowerState) (o : Origin) (r : Option Reason) (s : State) :
    (setPower dest o r s).power = { placePower dest s.store.install s.power with
      effectiveMode := (setPower dest o r s).power.effectiveMode } := by
  simp only [PowerUnit.eq_iff, setPower, postFor_frame, enterPower]
  repeat' split
  all_goals simp [placePower, syncNoSignal]

/-- From a lamp held dark the effective mode stays (R26). -/
theorem setPower_quiet (dest : PowerState) (o : Origin) (r : Option Reason) (s : State)
    (h : isLit s.power.state = false) : (setPower dest o r s).power = placePower dest s.store.install s.power := by
  simp only [setPower, postFor_frame, enterPower, h]
  repeat' split
  all_goals simp_all [placePower, syncNoSignal]

/-- A change between dark states other than COOLING leaves the lamp account (R26). -/
theorem setPower_lamp (dest : PowerState) (o : Origin) (r : Option Reason) (s : State) (h : isLit s.power.state = false)
    (h' : isLit dest = false) (h'' : dest ≠ .cooling) : (setPower dest o r s).lamp = s.lamp := by
  simp [setPower, enterPower, h, h', h'']

/-- A lamp that comes to be held lit starts its burn timer (R3). -/
theorem setPower_lit (dest : PowerState) (o : Origin) (r : Option Reason) (s : State) (h : isLit s.power.state = false)
    (h' : isLit dest = true) : (setPower dest o r s).lamp = { s.lamp with
      burn := some 0, normalSeen := dest == .warming || s.power.effectiveMode == .normal } := by
  have : dest ≠ .cooling := by rintro rfl; simp [isLit] at h'
  simp [setPower, enterPower, h, h', this, beginSecond, normalNow, placePower]

/-- A lamp that stays lit goes on with its second (R3). -/
theorem setPower_stays (dest : PowerState) (o : Origin) (r : Option Reason) (s : State) (h : isLit s.power.state = true)
    (h' : isLit dest = true) : (setPower dest o r s).lamp = s.lamp ∧
      (setPower dest o r s).power = placePower dest s.store.install s.power := by
  have : dest ≠ .cooling := by rintro rfl; simp [isLit] at h'
  simp [setPower, enterPower, h, h', this, syncNoSignal]

/-- COOLING starts the hot window, and stops the burn timer of a lit lamp (R3, R37). -/
theorem setPower_cooling (o : Origin) (r : Option Reason) (s : State) :
    (setPower .cooling o r s).lamp.hotWindow = some 1800000 ∧
      (isLit s.power.state = true → (setPower .cooling o r s).lamp.burn = none) := by
  constructor
  · simp [setPower, enterPower, isLit, enteredCooling, hotWindowLength]
  · intro h
    simp only [setPower, postFor_frame, enterPower, h]
    simp [isLit, enteredCooling]
    unfold endBurn
    dsimp only; split <;> simp_all

/-- A change of power state reaches the no-signal timer alone of the router, which runs in ON only (R84). -/
theorem setPower_router (dest : PowerState) (o : Origin) (r : Option Reason) (s : State) :
    (setPower dest o r s).router = { s.router with noSignal := (setPower dest o r s).router.noSignal } ∧
      (dest ≠ .on → (setPower dest o r s).router.noSignal = none) := by
  constructor
  · simp [RouterUnit.eq_iff]
  · intro h
    simp only [setPower, postFor_frame, enterPower]
    repeat' split
    all_goals simp_all [syncNoSignal, noSignalHolds, placePower]


/-- A failed strike is counted once (R6, R15). -/
theorem countFailed_failedCount (s : State) : failedCount (countFailed s) = satAdd (failedCount s) 1 := by
  cases h : s.lamp.account <;> simp [countFailed, failedCount, h]

/-- A strike counted on a loaded account (R5). -/
theorem countStrike_account (s : State) (a : Account) (h : s.lamp.account = some a) :
    (countStrike s).lamp.account = some { a with
      wear := satAdd a.wear (strikeWear s.lamp.hotWindow.isSome)
      coldStrikes := satAdd a.coldStrikes (if s.lamp.hotWindow.isSome then 0 else 1)
      hotStrikes := satAdd a.hotStrikes (if s.lamp.hotWindow.isSome then 1 else 0)
      totalStrikes := satAdd a.totalStrikes 1 } := by
  simp [countStrike, h]

/-- A second charged to a loaded account (R3, R4). -/
theorem chargeSecond_account (s : State) (a : Account) (h : s.lamp.account = some a) :
    (chargeSecond s).lamp.account = some (accountSecond s.lamp.normalSeen a) := by
  simp [chargeSecond, h]

/-- Outside the first evaluation, the mode after an evaluation is the one that its inputs give (R44). -/
theorem evalLampMode_mode (s : State) : (evalLampMode s).power.effectiveMode =
    if s.power.modeEvaluated then (decideMode s).1 else s.power.effectiveMode := by
  unfold evalLampMode
  split <;> rename_i h
  · simp only [Bool.and_eq_true] at h; simp [applyMode, h.1]
  · by_cases hm : s.power.modeEvaluated = true <;> simp_all

/-- Closing by hand leaves the shutter CLOSED with reason MANUAL (R46). -/
theorem closeManual_shutter (s : State) : (closeManual s).power.shutter = some .closedManual := by
  unfold closeManual; split <;> simp_all [holdClosed]

/-- Opening leaves it OPEN (R46). -/
theorem openShutter_shutter (s : State) : (openShutter s).power.shutter = some .opened := by
  unfold openShutter; split <;> simp_all [holdOpen]

/-! ## The control lane and the line (R53, R56, R58) -/

/-- A message handed over stands in the lane (R56). -/
theorem laneWith_mem (m : ControlMsg) (l : List ControlMsg) : m ∈ laneWith l m := by
  unfold laneWith
  split
  · rename_i h
    simp only [List.any_eq_true, beq_iff_eq] at h
    obtain ⟨x, hx, e⟩ := h
    exact List.mem_map.mpr ⟨x, hx, by simp [e]⟩
  · simp

/-- A lane never holds a message but those held before and the one handed over (R56). -/
theorem mem_laneWith (m x : ControlMsg) (l : List ControlMsg) (h : x ∈ laneWith l m) : x = m ∨ x ∈ l := by
  unfold laneWith at h
  split at h
  · obtain ⟨y, hy, e⟩ := List.mem_map.mp h
    split at e
    · exact .inl e.symm
    · exact .inr (e ▸ hy)
  · simp only [List.mem_append, List.mem_filter, List.mem_singleton] at h
    rcases h with h | h
    · exact .inr h.1
    · exact .inl h

/-- A message stays in the lane when another is handed over, but for its own type and the opposite of IGNITE or
EXTINGUISH (R56). -/
theorem laneWith_keeps (m x : ControlMsg) (l : List ControlMsg) (h : x ∈ l) (ht : controlType m ≠ controlType x)
    (hi : ¬ (m = .ignite ∧ x = .extinguish)) (he : ¬ (m = .extinguish ∧ x = .ignite)) : x ∈ laneWith l m := by
  unfold laneWith
  split
  · exact List.mem_map.mpr ⟨x, h, by simp [Ne.symm ht]⟩
  · simp only [List.mem_append, List.mem_filter]
    left
    refine ⟨h, ?_⟩
    simp only [Bool.not_eq_true', Bool.or_eq_false_iff, Bool.and_eq_false_iff, beq_eq_false_iff_ne]
    constructor
    · by_cases hm : m = .ignite
      · exact .inr fun e => hi ⟨hm, e⟩
      · exact .inl hm
    · by_cases hm : m = .extinguish
      · exact .inr fun e => he ⟨hm, e⟩
      · exact .inl hm

/-- Nothing is sent in AWAITING and LOST, with a message outstanding, or while bytes go out (R53, R58). -/
theorem serveLink_busy (s : State)
    (h : s.link.state ≠ .present ∨ s.link.outstanding ≠ none ∨ s.link.transmit ≠ []) : serveLink s = s := by
  unfold serveLink
  split
  · rename_i hc
    simp only [Bool.and_eq_true, decide_eq_true_eq, Option.isNone_iff_eq_none, List.isEmpty_iff] at hc
    exact absurd hc.2 (by rcases h with h | h | h <;> simp_all)
  · rfl

/-- On a free line the oldest control message is sent, else the lane's entry (R53, R58). -/
theorem serveLink_free (s : State) (hp : s.link.state = .present) (ho : s.link.outstanding = none)
    (ht : s.link.transmit = []) : serveLink s = match s.link.control, s.link.lane with
      | m :: r, _ => sendMessage (.control m) false { s with link := { s.link with control := r } }
      | [], some l => sendMessage (laneMessage l) true s
      | [], none => s := by
  unfold serveLink
  rw [if_pos (by simp [hp, ho, ht])]
  cases s.link.control <;> cases s.link.lane <;> rfl

/-- The bytes have gone: the line is free, and the timer runs for a message still outstanding alone (R53). -/
@[simp] theorem messageLeaves_link (s : State) (h : s.link.transmit ≠ []) : (messageLeaves s).link =
    { s.link with answer := s.link.outstanding.map fun _ => answerLength, transmit := [] } := by
  simp [messageLeaves, h]

/-- A message in the lane is in it still, or is the one outstanding, when a command ends (R53, R58). -/
theorem finish_told (m : ControlMsg) (s : State) (h : m ∈ s.link.control) :
    m ∈ (finish s).link.control ∨ ∃ x, (finish s).link.outstanding = some x ∧ x.msg = .control m := by
  have e : (finish s).link = (serveLink s).link := by simp [finish]
  rw [e]
  unfold serveLink
  split
  · cases hc : s.link.control with
    | nil => simp [hc] at h
    | cons a r =>
      rw [hc] at h
      rcases List.mem_cons.mp h with rfl | h
      · exact .inr ⟨_, rfl, rfl⟩
      · exact .inl h
  · exact .inl h

/-! ## The persist queue and the engine (R156, R158) -/

/-- A request to write a key stands in the queue (R156). -/
theorem enqueue_mem (q : List Entry) (e : Entry) : e ∈ enqueue q e := by
  unfold enqueue
  split
  · rename_i h
    simp only [List.any_eq_true, beq_iff_eq] at h
    obtain ⟨x, hx, hk⟩ := h
    exact List.mem_map.mpr ⟨x, hx, by simp [hk]⟩
  · simp

/-- An entry of another key stays when a key is queued (R156). -/
theorem enqueue_keeps (q : List Entry) (e x : Entry) (h : x ∈ q) (hk : x.key ≠ e.key) : x ∈ enqueue q e := by
  unfold enqueue
  split
  · exact List.mem_map.mpr ⟨x, h, by simp [hk]⟩
  · simp [h]

/-- Each key stands once in a queue, if it did (R156). -/
theorem enqueue_nodup (q : List Entry) (e : Entry) (h : (q.map (·.key)).Nodup) : ((enqueue q e).map (·.key)).Nodup := by
  unfold enqueue
  split
  · have : (q.map (fun x => if x.key == e.key then e else x)).map (·.key) = q.map (·.key) := by
      rw [List.map_map]
      apply List.map_congr_left
      intro x _
      by_cases hx : x.key = e.key <;> simp [hx]
    rw [this]; exact h
  · rename_i hn
    simp only [List.any_eq_true, beq_iff_eq, not_exists, not_and] at hn
    rw [List.map_append, List.nodup_append]
    refine ⟨h, by simp, ?_⟩
    intro a ha b hb
    obtain ⟨x, hx, rfl⟩ := List.mem_map.mp ha
    simp only [List.map_cons, List.map_nil, List.mem_singleton] at hb
    rw [hb]; exact hn x hx

/-- The queue after an entry is queued (R156). -/
@[simp] theorem queueEntry_queue (e : Entry) (s : State) :
    (queueEntry e s).store.queue = enqueue s.store.queue e := by
  unfold queueEntry
  repeat' split
  all_goals simp

/-- The queue after a live copy is queued (R156). -/
@[simp] theorem queueLive_queue (k : Key) (o : Origin) (s : State) : (queueLive k o s).store.queue =
    enqueue s.store.queue { key := k, image := liveImage s k, origin := o, switch := none } := by simp [queueLive]

/-- An entry that the engine may take is being written or waits still after the engine has run; no other entry comes
(R158). -/
theorem takeEntries_mem (q : List Entry) (s : State) (e : Entry) (h : e ∈ q)
    (hp : (isProtected s (keyRegion e.key) && !takeExempt e.key) = false) : e ∈ (takeEntries q s).store.queue ∨
      ∃ slot left, (takeEntries q s).store.engine = .writing e slot left := by
  induction q generalizing s with
  | nil => simp at h
  | cons a r ih =>
    unfold takeEntries
    split
    · rename_i ha
      rcases List.mem_cons.mp h with rfl | h
      · rw [hp] at ha; exact absurd ha (by simp)
      · exact ih _ h (by simpa [isProtected] using hp)
    · rcases List.mem_cons.mp h with rfl | h
      · exact .inr ⟨_, _, rfl⟩
      · exact .inl h

/-- The queue that the engine leaves is the end of the one it found (R158). -/
theorem takeEntries_sub (q : List Entry) (s : State) : (takeEntries q s).store.queue <:+ q := by
  induction q generalizing s with
  | nil => exact List.suffix_refl _
  | cons a r ih =>
    unfold takeEntries
    split
    · exact (ih _).trans (List.suffix_cons _ _)
    · exact List.suffix_cons _ _

/-- The queue at the end of a command is the end of the one before (R158). -/
theorem finish_queue_sub (s : State) : (finish s).store.queue <:+ s.store.queue := by
  have e : (serveLink s).store = s.store := by simp
  unfold finish runEngine
  repeat' split
  · simp
  · rw [← e]; exact takeEntries_sub _ _
  · simp

/-- An entry that is not to be dropped waits or is being written when a command ends (R158). -/
theorem finish_sent (s : State) (e : Entry) (h : e ∈ s.store.queue)
    (hp : (isProtected s (keyRegion e.key) && !takeExempt e.key) = false) : e ∈ entriesOf (finish s) := by
  have hs : (serveLink s).store = s.store := by simp
  unfold finish runEngine
  split
  · split
    · simp [entriesOf, h]
    · rename_i hc _
      rcases takeEntries_mem (serveLink s).store.queue (serveLink s) e (by rw [hs]; exact h)
          (by simpa [isProtected, hs] using hp) with h | ⟨i, n, h⟩
      · unfold entriesOf; split <;> first | exact List.mem_cons_of_mem _ h | exact h
      · unfold entriesOf; rw [h]; simp
  · unfold entriesOf; split <;> simp [h]

/-! ## Occurrences (R114, R121, R126, R133) -/

/-- A day that the search finds is one of the booking in the slot, is not cancelled, and meets the condition (R114). -/
theorem firstDay_some {s : State} {id : Fin 64} {base : Nat} {ok : Booking → Nat → Bool} {b : Booking} {d : Nat}
    (h : firstDay s id base ok = some (b, d)) :
    s.room.bookings[id] = some b ∧ occursOn b.kind d = true ∧ (⟨id, d⟩ : Occurrence) ∉ s.room.exceptions ∧
      ok b d = true := by
  unfold firstDay at h
  split at h
  · cases h
  · rename_i c hc
    simp only [Option.map_eq_some_iff] at h
    obtain ⟨e, he, heq⟩ := h
    cases heq
    have := List.find?_some he
    simp [isCancelled] at this
    exact ⟨hc, this.1.1, this.1.2, this.2⟩

/-- The better of two by a measure is one of them, and neither is below it. -/
theorem better_spec (m : Booking → Nat → Nat) (x : Option (Fin 64 × Booking × Nat)) (y : Fin 64 × Booking × Nat) :
    ∃ z, better m x y = some z ∧ (z = y ∨ x = some z) ∧ m z.2.1 z.2.2 ≤ m y.2.1 y.2.2 ∧
      ∀ w, x = some w → m z.2.1 z.2.2 ≤ m w.2.1 w.2.2 := by
  unfold better
  split
  · exact ⟨y, rfl, .inl rfl, Nat.le_refl _, by simp⟩
  · split
    · rename_i z hlt; exact ⟨y, rfl, .inl rfl, Nat.le_refl _, by rintro w ⟨⟩; exact Nat.le_of_lt hlt⟩
    · rename_i z hlt; exact ⟨z, rfl, .inr rfl, Nat.le_of_not_lt hlt, by rintro w ⟨⟩; exact Nat.le_refl _⟩

/-- The fold of `leastOccurrence` over some slots: it keeps the least of what it held and of what the slots give. -/
theorem foldBest_spec (m : Booking → Nat → Nat) (g : Fin 64 → Option (Booking × Nat)) (ids : List (Fin 64))
    (x : Option (Fin 64 × Booking × Nat)) :
    let r := ids.foldl (fun best id => match g id with
      | some (b, d) => better m best (id, b, d)
      | none => best) x
    (∀ z, r = some z → x = some z ∨ (z.1 ∈ ids ∧ g z.1 = some z.2)) ∧
      (∀ w, x = some w → ∃ z, r = some z ∧ m z.2.1 z.2.2 ≤ m w.2.1 w.2.2) ∧
      ∀ id ∈ ids, ∀ c d, g id = some (c, d) → ∃ z, r = some z ∧ m z.2.1 z.2.2 ≤ m c d := by
  induction ids generalizing x with
  | nil => exact ⟨fun z h => .inl h, fun w h => ⟨w, h, Nat.le_refl _⟩, by simp⟩
  | cons i ids ih =>
    simp only [List.foldl_cons]
    cases hg : g i with
    | none =>
      obtain ⟨h1, h2, h3⟩ := ih x
      refine ⟨fun z hz => (h1 z hz).imp_right fun h => ⟨List.mem_cons_of_mem _ h.1, h.2⟩, h2, ?_⟩
      intro id hid c d hcd
      rcases List.mem_cons.1 hid with rfl | hid
      · rw [hg] at hcd; cases hcd
      · exact h3 id hid c d hcd
    | some bd =>
      obtain ⟨b, d⟩ := bd
      obtain ⟨y, hy, hor, hle, hall⟩ := better_spec m x (i, b, d)
      obtain ⟨h1, h2, h3⟩ := ih (better m x (i, b, d))
      obtain ⟨z, hz, hzy⟩ := h2 y hy
      refine ⟨?_, fun w hw => ⟨z, hz, Nat.le_trans hzy (hall w hw)⟩, ?_⟩
      · intro u hu
        rcases h1 u hu with h | h
        · rw [hy] at h; cases h
          rcases hor with rfl | h
          · exact .inr ⟨List.mem_cons_self, hg⟩
          · exact .inl h
        · exact .inr ⟨List.mem_cons_of_mem _ h.1, h.2⟩
      · intro id hid c e hce
        rcases List.mem_cons.1 hid with rfl | hid
        · rw [hg] at hce; cases hce; exact ⟨z, hz, Nat.le_trans hzy hle⟩
        · exact h3 id hid c e hce

/-- The least occurrence is the first of its slot, and no slot's first is below it (R121, R126, R133). -/
theorem leastOccurrence_some {s : State} {base : Nat} {m : Booking → Nat → Nat} {ok : Fin 64 → Booking → Nat → Bool}
    {o : Occurrence} {b : Booking} (h : leastOccurrence s base m ok = some (o, b)) :
    firstDay s o.id base (ok o.id) = some (b, o.day) ∧
      ∀ id c d, firstDay s id base (ok id) = some (c, d) → m b o.day ≤ m c d := by
  have k := foldBest_spec m (fun id => firstDay s id base (ok id)) (List.finRange 64) none
  simp only [leastOccurrence, Option.map_eq_some_iff] at h
  obtain ⟨x, hx, heq⟩ := h
  cases heq
  refine ⟨by simpa using k.1 x hx, fun id c d hcd => ?_⟩
  obtain ⟨z, hz, hle⟩ := k.2.2 id (List.mem_finRange id) c d hcd
  cases hx.symm.trans hz
  exact hle

/-- No slot has a first occurrence where there is no least one. -/
theorem leastOccurrence_none {s : State} {base : Nat} {m : Booking → Nat → Nat} {ok : Fin 64 → Booking → Nat → Bool}
    (h : leastOccurrence s base m ok = none) (id : Fin 64) : firstDay s id base (ok id) = none := by
  by_contra hc
  obtain ⟨⟨c, d⟩, hcd⟩ := Option.ne_none_iff_exists'.1 hc
  obtain ⟨z, hz, -⟩ := (foldBest_spec m (fun id => firstDay s id base (ok id)) (List.finRange 64) none).2.2 id
    (List.mem_finRange id) c d hcd
  simp only [leastOccurrence, Option.map_eq_none_iff] at h
  cases h.symm.trans hz

end Sys2Proof.Machine
end

