-- ==== Sys2Proof/Laws/Notices.lean ====
section
/-! SUPPORT. The notices that the operations post: every operation only joins notices to the ports' queues, one lemma for
each operation, so that a notice posted within a command has been told by its end (R171, R172). -/

namespace Sys2Proof.Machine

/-! ## Growth of the queues -/

/-- The port of three. -/
def portAt (ps : Ports) : Port → PortState
  | .lectern => ps.lectern
  | .facility => ps.facility
  | .service => ps.service

theorem portAt_ports (s : State) (p : Port) : portAt s.ports p = portOf s p := by cases p <;> rfl

/-- Each queue of `b` is that of `a` with notices joined. -/
def grown (a b : Ports) : Prop := ∀ p : Port, ∃ l, (portAt b p).notices = joined (portAt a p).notices l

@[simp] theorem grown_refl (a : Ports) : grown a a := fun _ => ⟨[], rfl⟩

theorem grown_trans {a b c : Ports} (h : grown a b) (h' : grown b c) : grown a c := fun p => by
  obtain ⟨l, hl⟩ := h p
  obtain ⟨m, hm⟩ := h' p
  exact ⟨l ++ m, by rw [hm, hl]; simp [joined]⟩

/-- What joins a port's queue at a posting: the notice, where it is delivered (R171). -/
theorem postTo_notices (dest : Option Port) (kind : NoticeKind) (o : Origin) (a b : Option Word) (s : State) (p : Port) :
    (portOf (postTo dest kind o a b s) p).notices = joined (portOf s p).notices
      (if subscribes (portOf s p) (kindGroup kind) = true ∨ dest = some p then
        [{ kind := kind, origin := o, stamp := clockStamp s, first := dataWord a s.free, second := dataWord b (s.free + 1)
           lostBefore := false }] else []) := by
  cases p <;> simp only [portOf, postTo, deliver, Bool.or_eq_true, beq_iff_eq] <;> split <;> simp_all [joined]

@[simp] theorem postTo_grown (q : Ports) (dest : Option Port) (kind : NoticeKind) (o : Origin) (a b : Option Word)
    (s : State) (h : grown q s.ports) : grown q (postTo dest kind o a b s).ports :=
  grown_trans h fun p => ⟨_, by rw [portAt_ports, portAt_ports]; exact postTo_notices dest kind o a b s p⟩

/-- A port replaced by one with the same queue. -/
theorem setPort_grown (q : Ports) (s : State) (p : Port) (x : PortState) (hx : x.notices = (portOf s p).notices)
    (h : grown q s.ports) : grown q (setPort s p x).ports :=
  grown_trans h fun r => ⟨[], by
    rw [portAt_ports, portAt_ports]
    by_cases hr : r = p
    · subst hr; simp [joined, hx]
    · simp [joined, portOf_setPort_other _ _ _ _ hr]⟩

@[simp] theorem begun_grown (p : Port) (f : Frame) (s : State) : grown s.ports (begun p f s).ports :=
  setPort_grown _ _ _ _ rfl (grown_refl _)

@[simp] theorem after_grown (q : Ports) (c : Command) (p : Port) (a : Answer) (s : State) (h : grown q s.ports) :
    grown q (after c p a s).ports := setPort_grown _ _ _ _ rfl h

/-- A fold of steps that each only join notices joins notices. -/
theorem foldl_grown {α : Type} (q : Ports) (g : State → α → State) (l : List α) (s : State)
    (hg : ∀ b a, grown q b.ports → grown q (g b a).ports) (h : grown q s.ports) : grown q (l.foldl g s).ports := by
  induction l generalizing s with
  | nil => exact h
  | cons a r ih => exact ih _ (hg s a h)

/-- A notice posted between `a` and `t` has been told since `s` (R171, R172). -/
theorem told_of {dest : Option Port} {kind : NoticeKind} {o : Origin} {x y : Word} {s t : State} (a : State)
    (h : grown s.ports a.ports) (hq : quietPorts a.ports = quietPorts s.ports) (hc : a.room.clock = s.room.clock)
    (h' : grown (postTo dest kind o (some x) (some y) a).ports t.ports) : told dest kind o x y s t := by
  intro p hp
  obtain ⟨l, hl⟩ := h p
  obtain ⟨m, hm⟩ := h' p
  have hsub : subscribes (portOf a p) (kindGroup kind) = subscribes (portOf s p) (kindGroup kind) := by
    have := (quietPorts_eq_iff a s).mp hq p
    simp only [quietPort, PortState.mk.injEq] at this
    simp [subscribes, this]
  have hst : clockStamp a = clockStamp s := by simp [clockStamp, hc]
  refine ⟨l, m, ?_⟩
  rw [portAt_ports, portAt_ports] at hl hm
  rw [hm, postTo_notices, if_pos (by rw [hsub]; exact hp), hl, hst]
  simp [joined, dataWord]

/-- A posting tells its notice (R171, R172). -/
theorem postTo_told (dest : Option Port) (kind : NoticeKind) (o : Origin) (x y : Word) (s : State) :
    told dest kind o x y s (postTo dest kind o (some x) (some y) s) :=
  told_of s (grown_refl _) rfl rfl (grown_refl _)

/-- What has been told stays told while only notices join. -/
theorem told_later {dest : Option Port} {kind : NoticeKind} {o : Origin} {x y : Word} {s t u : State}
    (h : told dest kind o x y s t) (h' : grown t.ports u.ports) : told dest kind o x y s u := by
  intro p hp
  obtain ⟨a, b, hab⟩ := h p hp
  obtain ⟨m, hm⟩ := h' p
  rw [portAt_ports, portAt_ports] at hm
  exact ⟨a, b ++ m, by rw [hm, hab]; simp [joined]⟩

/-- What has been told since a later state has been told since an earlier one with the same subscriptions and clock. -/
theorem told_earlier {dest : Option Port} {kind : NoticeKind} {o : Origin} {x y : Word} {s a t : State}
    (h : grown s.ports a.ports) (hs : ∀ p, (portOf a p).subscription = (portOf s p).subscription)
    (hc : a.room.clock = s.room.clock) (h' : told dest kind o x y a t) : told dest kind o x y s t := by
  intro p hp
  obtain ⟨l, m, hlm⟩ := h' p (by simpa [subscribes, hs p] using hp)
  obtain ⟨k, hk⟩ := h p
  rw [portAt_ports, portAt_ports] at hk
  refine ⟨k ++ l, m, ?_⟩
  rw [hlm, hk, show clockStamp a = clockStamp s by simp [clockStamp, hc]]
  simp [joined]

/-- What a request's effect has told since the frame's taking has been told since the state before it. -/
theorem told_since_taking {dest : Option Port} {kind : NoticeKind} {o : Origin} {x y : Word} {s t : State} (p : Port)
    (f : Frame) (h : told dest kind o x y (begun p f s) t) : told dest kind o x y s t :=
  told_earlier (begun_grown p f s) (fun r => by
    by_cases hr : r = p
    · subst hr; simp [portOf_begun]
    · simp [begun, beginFrame, portOf_setPort_other _ _ _ _ hr]) rfl h

/-! ## The operations, in the order of the definitions -/

@[simp] theorem postFor_grown (qs : Ports) (kind : NoticeKind) (origin : Origin) (first second : Option Word) (s :
    State) (h : grown qs s.ports) :
    grown qs (postFor kind origin first second s).ports := by
  simp [postFor, h]

@[simp] theorem post_grown (qs : Ports) (kind : NoticeKind) (origin : Origin) (first second : Option Word) (s :
    State) (h : grown qs s.ports) :
    grown qs (post kind origin first second s).ports := by
  simp [post, h]

@[simp] theorem postDropped_grown (qs : Ports) (k : Key) (cause : Nat) (o : Origin) (s : State) (h : grown qs s.ports) :
    grown qs (postDropped k cause o s).ports := by
  simp [postDropped, h]

@[simp] theorem queueEntry_grown (qs : Ports) (e : Entry) (s : State) (h : grown qs s.ports) :
    grown qs (queueEntry e s).ports := by
  unfold queueEntry
  repeat' split
  all_goals simp [h]

@[simp] theorem queueLive_grown (qs : Ports) (k : Key) (o : Origin) (s : State) (h : grown qs s.ports) :
    grown qs (queueLive k o s).ports := by
  simp [queueLive, h]

@[simp] theorem queueOwn_grown (qs : Ports) (k : Key) (o : Origin) (s : State) (h : grown qs s.ports) :
    grown qs (queueOwn k o s).ports := by
  unfold queueOwn; split <;> simp [h]

@[simp] theorem takeEntries_grown (q : Ports) (l : List Entry) (s : State) (h : grown q s.ports) :
    grown q (takeEntries l s).ports := by
  induction l generalizing s with
  | nil => exact h
  | cons a r ih =>
    unfold takeEntries
    split
    · exact ih _ (by simp [h])
    · exact h

@[simp] theorem runEngine_grown (qs : Ports) (s : State) (h : grown qs s.ports) :
    grown qs (runEngine s).ports := by
  unfold runEngine
  repeat' split
  all_goals simp [h]

@[simp] theorem finish_grown (qs : Ports) (s : State) (h : grown qs s.ports) :
    grown qs (finish s).ports := by
  simp [finish, h]

@[simp] theorem checkpointRequest_grown (qs : Ports) (s : State) (h : grown qs s.ports) :
    grown qs (checkpointRequest s).ports := by
  unfold checkpointRequest
  repeat' split
  all_goals simp [h]

@[simp] theorem postThreshold_grown (qs : Ports) (v : Level) (wear : Nat) (s : State) (h : grown qs s.ports) :
    grown qs (postThreshold v wear s).ports := by
  simp [postThreshold, h]

@[simp] theorem levelBecomes_grown (qs : Ports) (ask : Bool) (old : Option Level) (v : Level) (wear : Nat) (s :
    State) (h : grown qs s.ports) :
    grown qs (levelBecomes ask old v wear s).ports := by
  unfold levelBecomes
  repeat' split
  all_goals simp [h]

@[simp] theorem relevelAsking_grown (qs : Ports) (ask : Bool) (s : State) (h : grown qs s.ports) :
    grown qs (relevelAsking ask s).ports := by
  unfold relevelAsking; split <;> simp [h]

@[simp] theorem relevel_grown (qs : Ports) (s : State) (h : grown qs s.ports) :
    grown qs (relevel s).ports := by
  simp [relevel, h]

@[simp] theorem advanceCadence_grown (qs : Ports) (s : State) (h : grown qs s.ports) :
    grown qs (advanceCadence s).ports := by
  unfold advanceCadence; split <;> simp [h]

@[simp] theorem chargeSecond_grown (qs : Ports) (s : State) (h : grown qs s.ports) :
    grown qs (chargeSecond s).ports := by
  unfold chargeSecond; split <;> simp [h]

@[simp] theorem endBurn_grown (qs : Ports) (s : State) (h : grown qs s.ports) :
    grown qs (endBurn s).ports := by
  unfold endBurn; split <;> simp [h]

@[simp] theorem countStrike_grown (qs : Ports) (s : State) (h : grown qs s.ports) :
    grown qs (countStrike s).ports := by
  unfold countStrike; split <;> simp [h]

@[simp] theorem countFailed_grown (qs : Ports) (s : State) (h : grown qs s.ports) :
    grown qs (countFailed s).ports := by
  unfold countFailed; split <;> simp [h]

@[simp] theorem pushHistory_grown (qs : Ports) (x : Summary) (o : Origin) (s : State) (h : grown qs s.ports) :
    grown qs (pushHistory x o s).ports := by
  unfold pushHistory; dsimp only
  repeat' split
  all_goals simp [h]

@[simp] theorem queueSwitch_grown (qs : Ports) (kind : SwitchKind) (content : Account) (s : State) (h : grown qs s.ports) :
    grown qs (queueSwitch kind content s).ports := by
  simp [queueSwitch, h]

@[simp] theorem makeSwitch_grown (qs : Ports) (kind : SwitchKind) (a : Account) (s : State) (h : grown qs s.ports) :
    grown qs (makeSwitch kind a s).ports := by
  unfold makeSwitch
  repeat' split
  all_goals simp (maxDischargeDepth := 20) [h]

@[simp] theorem loadAccount_grown (qs : Ports) (s : State) (h : grown qs s.ports) :
    grown qs (loadAccount s).ports := by
  unfold loadAccount; dsimp only
  repeat' split
  all_goals simp [h]

@[simp] theorem completeHistory_grown (qs : Ports) (s : State) (h : grown qs s.ports) :
    grown qs (completeHistory s).ports := by
  unfold completeHistory
  repeat' split
  all_goals simp [h]

@[simp] theorem applyTally_grown (qs : Ports) (s : State) (h : grown qs s.ports) :
    grown qs (applyTally s).ports := by
  unfold applyTally
  repeat' split
  all_goals simp [h]

@[simp] theorem loadLamp_grown (qs : Ports) (s : State) (h : grown qs s.ports) :
    grown qs (loadLamp s).ports := by
  simp (maxDischargeDepth := 20) [loadLamp, h]

@[simp] theorem enteredCooling_grown (qs : Ports) (s : State) (h : grown qs s.ports) :
    grown qs (enteredCooling s).ports := by
  simp [enteredCooling, h]

@[simp] theorem enterPower_grown (qs : Ports) (dest : PowerState) (s : State) (h : grown qs s.ports) :
    grown qs (enterPower dest s).ports := by
  unfold enterPower
  repeat' split
  all_goals simp [h]

@[simp] theorem setPower_grown (qs : Ports) (dest : PowerState) (origin : Origin) (reason : Option Reason) (s :
    State) (h : grown qs s.ports) :
    grown qs (setPower dest origin reason s).ports := by
  simp [setPower, h]

@[simp] theorem settleDark_grown (qs : Ports) (dest : PowerState) (origin : Origin) (reason : Option Reason) (s :
    State) (h : grown qs s.ports) :
    grown qs (settleDark dest origin reason s).ports := by
  simp [settleDark, h]

@[simp] theorem postPowerRefused_grown (qs : Ports) (r : Reason) (s : State) (h : grown qs s.ports) :
    grown qs (postPowerRefused r s).ports := by
  simp [postPowerRefused, h]

@[simp] theorem tellDropped_grown (qs : Ports) (o : Origin) (r : Reason) (s : State) (h : grown qs s.ports) :
    grown qs (tellDropped o r s).ports := by
  unfold tellDropped; split <;> simp [h]

@[simp] theorem beginSequence_grown (qs : Ports) (o : Origin) (s : State) (h : grown qs s.ports) :
    grown qs (beginSequence o s).ports := by
  simp [beginSequence, h]

@[simp] theorem igniteAccepted_grown (qs : Ports) (s : State) (h : grown qs s.ports) :
    grown qs (igniteAccepted s).ports := by
  unfold igniteAccepted
  repeat' split
  all_goals simp [h]

@[simp] theorem igniteRejected_grown (qs : Ports) (s : State) (h : grown qs s.ports) :
    grown qs (igniteRejected s).ports := by
  unfold igniteRejected; split <;> simp [h]

@[simp] theorem attemptSucceeds_grown (qs : Ports) (s : State) (h : grown qs s.ports) :
    grown qs (attemptSucceeds s).ports := by
  simp [attemptSucceeds, h]

@[simp] theorem enterFault_grown (qs : Ports) (s : State) (h : grown qs s.ports) :
    grown qs (enterFault s).ports := by
  simp [enterFault, h]

@[simp] theorem attemptFails_grown (qs : Ports) (timeout : Bool) (s : State) (h : grown qs s.ports) :
    grown qs (attemptFails timeout s).ports := by
  unfold attemptFails
  repeat' split
  all_goals simp (maxDischargeDepth := 20) [h]

@[simp] theorem strikeResultTaken_grown (qs : Ports) (ok : Bool) (s : State) (h : grown qs s.ports) :
    grown qs (strikeResultTaken ok s).ports := by
  unfold strikeResultTaken; split <;> simp [h]

@[simp] theorem pauseEnds_grown (qs : Ports) (s : State) (h : grown qs s.ports) :
    grown qs (pauseEnds s).ports := by
  unfold pauseEnds; split <;> simp [h]

@[simp] theorem powerOn_grown (qs : Ports) (o : Origin) (s : State) (h : grown qs s.ports) :
    grown qs (powerOn o s).2.ports := by
  unfold powerOn
  repeat' split
  all_goals simp [h]

@[simp] theorem putOut_grown (qs : Ports) (o : Origin) (s : State) (h : grown qs s.ports) :
    grown qs (putOut o s).ports := by
  simp [putOut, h]

@[simp] theorem powerOff_grown (qs : Ports) (o : Origin) (s : State) (h : grown qs s.ports) :
    grown qs (powerOff o s).2.ports := by
  unfold powerOff
  repeat' split
  all_goals simp [h]

@[simp] theorem schedulePowerOn_grown (qs : Ports) (s : State) (h : grown qs s.ports) :
    grown qs (schedulePowerOn s).ports := by
  unfold schedulePowerOn; dsimp only
  repeat' split
  all_goals simp [h]

@[simp] theorem schedulePowerOff_grown (qs : Ports) (s : State) (h : grown qs s.ports) :
    grown qs (schedulePowerOff s).ports := by
  simp [schedulePowerOff, h]

@[simp] theorem warmingEnds_grown (qs : Ports) (s : State) (h : grown qs s.ports) :
    grown qs (warmingEnds s).ports := by
  unfold warmingEnds; split <;> simp [h]

@[simp] theorem coolingEnds_grown (qs : Ports) (s : State) (h : grown qs s.ports) :
    grown qs (coolingEnds s).ports := by
  unfold coolingEnds
  repeat' split
  all_goals simp [h]

@[simp] theorem markThermal_grown (qs : Ports) (b : Bool) (s : State) (h : grown qs s.ports) :
    grown qs (markThermal b s).ports := by
  simp [markThermal, h]

@[simp] theorem applyOnInStandby_grown (qs : Ports) (s : State) (h : grown qs s.ports) :
    grown qs (applyOnInStandby s).ports := by
  unfold applyOnInStandby
  repeat' split
  all_goals simp [h]

@[simp] theorem applyIntent_grown (qs : Ports) (s : State) (h : grown qs s.ports) :
    grown qs (applyIntent s).ports := by
  unfold applyIntent
  repeat' split
  all_goals simp [h]

@[simp] theorem adopt_grown (qs : Ports) (r : Report) (s : State) (h : grown qs s.ports) :
    grown qs (adopt r s).ports := by
  unfold adopt
  repeat' split
  all_goals simp (maxDischargeDepth := 20) [h]

@[simp] theorem reportStrike_grown (qs : Ports) (r : Report) (s : State) (h : grown qs s.ports) :
    grown qs (reportStrike r s).ports := by
  unfold reportStrike; split <;> simp [h]

@[simp] theorem reportLampOut_grown (qs : Ports) (r : Report) (s : State) (h : grown qs s.ports) :
    grown qs (reportLampOut r s).ports := by
  unfold reportLampOut; dsimp only
  repeat' split
  all_goals simp [h]

@[simp] theorem overheated_grown (qs : Ports) (s : State) (h : grown qs s.ports) :
    grown qs (overheated s).ports := by
  unfold overheated
  repeat' split
  all_goals simp [h]

@[simp] theorem reportThermal_grown (qs : Ports) (r : Report) (s : State) (h : grown qs s.ports) :
    grown qs (reportThermal r s).ports := by
  unfold reportThermal
  repeat' split
  all_goals simp [h]

@[simp] theorem reportDeferred_grown (qs : Ports) (r : Report) (s : State) (h : grown qs s.ports) :
    grown qs (reportDeferred r s).ports := by
  unfold reportDeferred; split <;> simp [h]

@[simp] theorem powerReport_grown (qs : Ports) (r : Report) (s : State) (h : grown qs s.ports) :
    grown qs (powerReport r s).ports := by
  unfold powerReport
  repeat' split
  all_goals simp (maxDischargeDepth := 20) [h]

@[simp] theorem countLost_grown (qs : Ports) (s : State) (h : grown qs s.ports) :
    grown qs (countLost s).ports := by
  unfold countLost; split <;> simp [h]

@[simp] theorem powerLinkLost_grown (qs : Ports) (s : State) (h : grown qs s.ports) :
    grown qs (powerLinkLost s).ports := by
  unfold powerLinkLost; split <;> simp [h]

@[simp] theorem noSignalActs_grown (qs : Ports) (s : State) (h : grown qs s.ports) :
    grown qs (noSignalActs s).ports := by
  unfold noSignalActs
  repeat' split
  all_goals simp [h]

@[simp] theorem setRejected_grown (qs : Ports) (index : Nat) (s : State) (h : grown qs s.ports) :
    grown qs (setRejected index s).ports := by
  unfold setRejected; split <;> simp [h]

@[simp] theorem geometryLinkLost_grown (qs : Ports) (s : State) (h : grown qs s.ports) :
    grown qs (geometryLinkLost s).ports := by
  unfold geometryLinkLost; split <;> simp [h]

@[simp] theorem geometryReport_grown (qs : Ports) (committed : Option (BitVec 8)) (s : State) (h : grown qs s.ports) :
    grown qs (geometryReport committed s).ports := by
  unfold geometryReport; split <;> simp [h]

@[simp] theorem postProfile_grown (qs : Ports) (a : ActiveProfile) (o : Origin) (s : State) (h : grown qs s.ports) :
    grown qs (postProfile a o s).ports := by
  simp [postProfile, h]

@[simp] theorem setProfileActive_grown (qs : Ports) (tell : Bool) (o : Origin) (s : State) (h : grown qs s.ports) :
    grown qs (setProfileActive tell o s).ports := by
  unfold setProfileActive; dsimp only
  repeat' split
  all_goals simp [h]

@[simp] theorem postOverride_grown (qs : Ports) (e : Option EffectiveOverride) (o : Origin) (s : State) (h :
    grown qs s.ports) :
    grown qs (postOverride e o s).ports := by
  unfold postOverride; split <;> simp [h]

@[simp] theorem setOverrideActive_grown (qs : Ports) (tell : Bool) (o : Origin) (s : State) (h : grown qs s.ports) :
    grown qs (setOverrideActive tell o s).ports := by
  unfold setOverrideActive; dsimp only
  repeat' split
  all_goals simp [h]

@[simp] theorem refreshProfile_grown (qs : Ports) (o : Origin) (s : State) (h : grown qs s.ports) :
    grown qs (refreshProfile o s).ports := by
  unfold refreshProfile; split <;> simp [h]

@[simp] theorem refreshOverride_grown (qs : Ports) (o : Origin) (s : State) (h : grown qs s.ports) :
    grown qs (refreshOverride o s).ports := by
  unfold refreshOverride; split <;> simp [h]

@[simp] theorem refreshLockout_grown (qs : Ports) (o : Origin) (s : State) (h : grown qs s.ports) :
    grown qs (refreshLockout o s).ports := by
  simp [refreshLockout, h]

@[simp] theorem setServiceEnable_grown (qs : Ports) (on : Bool) (p : Port) (s : State) (h : grown qs s.ports) :
    grown qs (setServiceEnable on p s).ports := by
  unfold setServiceEnable; split <;> simp [h]

@[simp] theorem postRoute_grown (qs : Ports) (o : Origin) (s : State) (h : grown qs s.ports) :
    grown qs (postRoute o s).ports := by
  simp [postRoute, h]

@[simp] theorem resolve_grown (qs : Ports) (o : Origin) (tell : Bool) (s : State) (h : grown qs s.ports) :
    grown qs (resolve o tell s).2.ports := by
  unfold resolve; dsimp only
  repeat' split
  all_goals simp [h]

@[simp] theorem reResolve_grown (qs : Ports) (s : State) (h : grown qs s.ports) :
    grown qs (reResolve s).ports := by
  unfold reResolve
  repeat' split
  all_goals simp [h]

@[simp] theorem applyRoute_grown (qs : Ports) (o : Origin) (x : Fin 8) (always : Bool) (s : State) (h : grown qs s.ports) :
    grown qs (applyRoute o x always s).2.ports := by
  simp [applyRoute, h]

@[simp] theorem postDisplaced_grown (qs : Ports) (held : RouteRequest) (r : Reason) (displacer : Nat) (s : State)
    (h : grown qs s.ports) :
    grown qs (postDisplaced held r displacer s).ports := by
  simp [postDisplaced, h]

@[simp] theorem holdRoute_grown (qs : Ports) (q : RouteRequest) (s : State) (h : grown qs s.ports) :
    grown qs (holdRoute q s).2.ports := by
  unfold holdRoute
  repeat' split
  all_goals simp [h]

@[simp] theorem routeRequest_grown (qs : Ports) (q : RouteRequest) (s : State) (h : grown qs s.ports) :
    grown qs (routeRequest q s).2.ports := by
  unfold routeRequest
  repeat' split
  all_goals simp [h]

@[simp] theorem scheduleRoute_grown (qs : Ports) (x : Fin 8) (s : State) (h : grown qs s.ports) :
    grown qs (scheduleRoute x s).ports := by
  simp [scheduleRoute, h]

@[simp] theorem applyHeld_grown (qs : Ports) (q : RouteRequest) (deferred : Bool) (s : State) (h : grown qs s.ports) :
    grown qs (applyHeld q deferred s).ports := by
  unfold applyHeld
  repeat' split
  all_goals simp [h]

@[simp] theorem settleTail_grown (qs : Ports) (s : State) (h : grown qs s.ports) :
    grown qs (settleTail s).ports := by
  unfold settleTail
  repeat' split
  all_goals simp [h]

@[simp] theorem endSettle_grown (qs : Ports) (dest : RouteState) (f : FormatImage) (s : State) (h : grown qs s.ports) :
    grown qs (endSettle dest f s).ports := by
  unfold endSettle; split <;> simp [h]

@[simp] theorem formatMoves_grown (qs : Ports) (f : Option SignalFormat) (s : State) (h : grown qs s.ports) :
    grown qs (formatMoves f s).ports := by
  unfold formatMoves; dsimp only
  repeat' split
  all_goals simp [h]

@[simp] theorem routerFormat_grown (qs : Ports) (f : Option SignalFormat) (s : State) (h : grown qs s.ports) :
    grown qs (routerFormat f s).ports := by
  unfold routerFormat
  repeat' split
  all_goals simp [h]

@[simp] theorem settleExpires_grown (qs : Ports) (s : State) (h : grown qs s.ports) :
    grown qs (settleExpires s).ports := by
  simp [settleExpires, h]

@[simp] theorem presenceActs_grown (qs : Ports) (n : Fin 6) (rise : Bool) (s : State) (h : grown qs s.ports) :
    grown qs (presenceActs n rise s).ports := by
  unfold presenceActs
  repeat' split
  all_goals simp [h]

@[simp] theorem stabilityExpires_grown (qs : Ports) (n : Fin 6) (s : State) (h : grown qs s.ports) :
    grown qs (stabilityExpires n s).ports := by
  unfold stabilityExpires
  repeat' split
  all_goals simp [h]

@[simp] theorem editSources_grown (qs : Ports) (new : Vector SourceEntry 8) (edited : List (Fin 8)) (s : State) (h :
    grown qs s.ports) :
    grown qs (editSources new edited s).ports := by
  unfold editSources; dsimp only
  repeat' split
  all_goals simp [h]

@[simp] theorem noSignalExpires_grown (qs : Ports) (s : State) (h : grown qs s.ports) :
    grown qs (noSignalExpires s).ports := by
  simp [noSignalExpires, h]

@[simp] theorem timeoutChanged_grown (qs : Ports) (old : Nat) (s : State) (h : grown qs s.ports) :
    grown qs (timeoutChanged old s).ports := by
  unfold timeoutChanged; dsimp only
  repeat' split
  all_goals simp [h]

@[simp] theorem roomChange_grown (qs : Ports) (dest : RoomState) (occ : Option Occurrence) (cause : RoomCause)
    (origin : Origin) (id : Fin 64) (s : State) (h : grown qs s.ports) :
    grown qs (roomChange dest occ cause origin id s).ports := by
  simp (maxDischargeDepth := 20) [roomChange, h]

@[simp] theorem occupiedActions_grown (qs : Ports) (b : Booking) (s : State) (h : grown qs s.ports) :
    grown qs (occupiedActions b s).ports := by
  unfold occupiedActions; dsimp only
  repeat' split
  all_goals simp [h]

@[simp] theorem enterRoom_grown (qs : Ports) (o : Occurrence) (b : Booking) (cause : RoomCause) (origin : Origin)
    (s : State) (h : grown qs s.ports) :
    grown qs (enterRoom o b cause origin s).ports := by
  unfold enterRoom; split <;> simp [h]

@[simp] theorem endAction_grown (qs : Ports) (b : Booking) (s : State) (h : grown qs s.ports) :
    grown qs (endAction b s).ports := by
  unfold endAction
  repeat' split
  all_goals simp [h]

@[simp] theorem endOccurrence_grown (qs : Ports) (o : Occurrence) (held : Option Booking) (cause : RoomCause)
    (origin : Origin) (s : State) (h : grown qs s.ports) :
    grown qs (endOccurrence o held cause origin s).ports := by
  unfold endOccurrence
  repeat' split
  all_goals simp [h]

@[simp] theorem evaluate_grown (qs : Ports) (held : Option Booking) (cause : RoomCause) (origin : Origin) (s :
    State) (h : grown qs s.ports) :
    grown qs (evaluate held cause origin s).ports := by
  unfold evaluate
  repeat' split
  all_goals simp [h]

@[simp] theorem pruneExceptions_grown (qs : Ports) (s : State) (h : grown qs s.ports) :
    grown qs (pruneExceptions s).ports := by
  unfold pruneExceptions; dsimp only
  repeat' split
  all_goals simp [h]

@[simp] theorem postClockNeeded_grown (qs : Ports) (s : State) (h : grown qs s.ports) :
    grown qs (postClockNeeded s).ports := by
  simp [postClockNeeded, h]

@[simp] theorem evaluateStep_grown (qs : Ports) (cause : RoomCause) (s : State) (h : grown qs s.ports) :
    grown qs (evaluateStep cause s).ports := by
  unfold evaluateStep; split <;> simp [h]

@[simp] theorem minuteStep_grown (qs : Ports) (s : State) (h : grown qs s.ports) :
    grown qs (minuteStep s).ports := by
  unfold minuteStep; dsimp only
  repeat' split
  all_goals simp [h]

@[simp] theorem clockTicks_grown (qs : Ports) (s : State) (h : grown qs s.ports) :
    grown qs (clockTicks s).ports := by
  unfold clockTicks
  repeat' split
  all_goals simp [h]

@[simp] theorem missOccurrence_grown (qs : Ports) (origin : Origin) (s : State) (o : Occurrence) (h : grown qs s.ports) :
    grown qs (missOccurrence origin s o).ports := by
  simp [missOccurrence, h]

@[simp] theorem missFold_grown (q : Ports) (o : Origin) (l : List Occurrence) (s : State) (h : grown q s.ports) :
    grown q (l.foldl (missOccurrence o) s).ports := foldl_grown q _ l s (fun b a hb => by simp [hb]) h

@[simp] theorem jumpClock_grown (qs : Ports) (c : Clock) (origin : Origin) (s : State) (h : grown qs s.ports) :
    grown qs (jumpClock c origin s).ports := by
  simp (maxDischargeDepth := 20) [jumpClock, h]

@[simp] theorem cleanSlot_grown (qs : Ports) (s : State) (id : Fin 64) (h : grown qs s.ports) :
    grown qs (cleanSlot s id).ports := by
  unfold cleanSlot
  repeat' split
  all_goals simp [h]

@[simp] theorem cleanFold_grown (q : Ports) (l : List (Fin 64)) (s : State) (h : grown q s.ports) :
    grown q (l.foldl cleanSlot s).ports := foldl_grown q _ l s (fun b a hb => by simp [hb]) h

@[simp] theorem cleanTable_grown (qs : Ports) (s : State) (h : grown qs s.ports) :
    grown qs (cleanTable s).ports := by
  unfold cleanTable; dsimp only
  repeat' split
  all_goals simp [h]

@[simp] theorem loadRoom_grown (qs : Ports) (s : State) (h : grown qs s.ports) :
    grown qs (loadRoom s).ports := by
  unfold loadRoom; dsimp only
  repeat' split
  all_goals simp (maxDischargeDepth := 20) [h]

@[simp] theorem headReturnedRoom_grown (qs : Ports) (s : State) (h : grown qs s.ports) :
    grown qs (headReturnedRoom s).ports := by
  unfold headReturnedRoom
  repeat' split
  all_goals simp [h]

@[simp] theorem headReturns_grown (qs : Ports) (t : HeadType) (s : State) (h : grown qs s.ports) :
    grown qs (headReturns t s).ports := by
  simp [headReturns, h]

@[simp] theorem headArrives_grown (qs : Ports) (t : HeadType) (s : State) (h : grown qs s.ports) :
    grown qs (headArrives t s).ports := by
  unfold headArrives; split <;> simp [h]

@[simp] theorem headRestarts_grown (qs : Ports) (r : Report) (lastSet : Option (BitVec 8)) (returned : Bool) (s :
    State) (h : grown qs s.ports) :
    grown qs (headRestarts r lastSet returned s).ports := by
  unfold headRestarts; split <;> simp [h]

@[simp] theorem linkLost_grown (qs : Ports) (c : LossCause) (s : State) (h : grown qs s.ports) :
    grown qs (linkLost c s).ports := by
  simp (maxDischargeDepth := 20) [linkLost, h]

@[simp] theorem ackOk_grown (qs : Ports) (o : Outstanding) (s : State) (h : grown qs s.ports) :
    grown qs (ackOk o s).ports := by
  unfold ackOk
  repeat' split
  all_goals simp [h]

@[simp] theorem ackReject_grown (qs : Ports) (o : Outstanding) (s : State) (h : grown qs s.ports) :
    grown qs (ackReject o s).ports := by
  unfold ackReject
  repeat' split
  all_goals simp [h]

@[simp] theorem ackTaken_grown (qs : Ports) (tag : BitVec 3) (ok : Bool) (s : State) (h : grown qs s.ports) :
    grown qs (ackTaken tag ok s).ports := by
  unfold ackTaken
  repeat' split
  all_goals simp [h]

@[simp] theorem answerExpires_grown (qs : Ports) (s : State) (h : grown qs s.ports) :
    grown qs (answerExpires s).ports := by
  unfold answerExpires
  repeat' split
  all_goals simp [h]

@[simp] theorem silenceExpires_grown (qs : Ports) (s : State) (h : grown qs s.ports) :
    grown qs (silenceExpires s).ports := by
  unfold silenceExpires; split <;> simp [h]

@[simp] theorem reportTaken_grown (qs : Ports) (r : Report) (s : State) (h : grown qs s.ports) :
    grown qs (reportTaken r s).ports := by
  unfold reportTaken
  repeat' split
  all_goals simp (maxDischargeDepth := 20) [h]

@[simp] theorem strikeResultArrives_grown (qs : Ports) (ok : Bool) (s : State) (h : grown qs s.ports) :
    grown qs (strikeResultArrives ok s).ports := by
  unfold strikeResultArrives; dsimp only
  repeat' split
  all_goals simp [h]

@[simp] theorem formatTaken_grown (qs : Ports) (f : Option SignalFormat) (s : State) (h : grown qs s.ports) :
    grown qs (formatTaken f s).ports := by
  simp [formatTaken, h]

@[simp] theorem loadNotice_grown (qs : Ports) (s : State) (k : Key) (h : grown qs s.ports) :
    grown qs (loadNotice s k).ports := by
  unfold loadNotice
  repeat' split
  all_goals simp [h]

@[simp] theorem loadFold_grown (q : Ports) (l : List Key) (s : State) (h : grown q s.ports) :
    grown q (l.foldl loadNotice s).ports := foldl_grown q _ l s (fun b a hb => by simp [hb]) h

@[simp] theorem completeLoad_grown (qs : Ports) (s : State) (h : grown qs s.ports) :
    grown qs (completeLoad s).ports := by
  unfold completeLoad
  repeat' split
  all_goals simp (maxDischargeDepth := 20) [h]

@[simp] theorem completeWrite_grown (qs : Ports) (s : State) (h : grown qs s.ports) :
    grown qs (completeWrite s).ports := by
  unfold completeWrite
  repeat' split
  all_goals simp [h]

@[simp] theorem wipeActs_grown (qs : Ports) (old : State) (o : Origin) (s : State) (h : grown qs s.ports) :
    grown qs (wipeActs old o s).ports := by
  simp (maxDischargeDepth := 20) [wipeActs, h]

@[simp] theorem completeWipe_grown (qs : Ports) (s : State) (h : grown qs s.ports) :
    grown qs (completeWipe s).ports := by
  unfold completeWipe; split <;> simp [h]

@[simp] theorem closeWindowFor_grown (qs : Ports) (c : WindowCause) (dest : Option Port) (origin : Origin) (s :
    State) (h : grown qs s.ports) :
    grown qs (closeWindowFor c dest origin s).ports := by
  unfold closeWindowFor; split <;> simp [h]

@[simp] theorem finished_grown (q : Ports) (r : Answer × State) (h : grown q r.2.ports) :
    grown q (finished r).2.ports := by
  unfold finished; split <;> simp [h]

@[simp] theorem accept_grown (qs : Ports) (a : Answer) (s : State) (h : grown qs s.ports) :
    grown qs (accept a s).2.ports := by
  simp [accept, h]

@[simp] theorem ownPowerOn_grown (qs : Ports) (p : Port) (s : State) (h : grown qs s.ports) :
    grown qs (ownPowerOn p s).2.ports := by
  simp [ownPowerOn, h]

@[simp] theorem ownPowerOff_grown (qs : Ports) (p : Port) (s : State) (h : grown qs s.ports) :
    grown qs (ownPowerOff p s).2.ports := by
  simp [ownPowerOff, h]

@[simp] theorem ownBlank_grown (qs : Ports) (ps : List Word) (s : State) (h : grown qs s.ports) :
    grown qs (ownBlank ps s).2.ports := by
  unfold ownBlank; split <;> simp [h]

@[simp] theorem writeRoom_grown (qs : Ports) (r : RoomDefaults) (o : Origin) (s : State) (h : grown qs s.ports) :
    grown qs (writeRoom r o s).ports := by
  simp [writeRoom, h]

@[simp] theorem ownSetLampMode_grown (qs : Ports) (p : Port) (q : Qualifier) (ps : List Word) (s : State) (h :
    grown qs s.ports) :
    grown qs (ownSetLampMode p q ps s).2.ports := by
  unfold ownSetLampMode
  repeat' split
  all_goals simp [h]

@[simp] theorem storeSource_grown (qs : Ports) (x : Fin 8) (o : Origin) (s : State) (h : grown qs s.ports) :
    grown qs (storeSource x o s).ports := by
  simp [storeSource, h]

@[simp] theorem ownSelectSource_grown (qs : Ports) (p : Port) (q : Qualifier) (ps : List Word) (s : State) (h :
    grown qs s.ports) :
    grown qs (ownSelectSource p q ps s).2.ports := by
  unfold ownSelectSource; dsimp only
  repeat' split
  all_goals simp (maxDischargeDepth := 20) [h]

@[simp] theorem writePreset_grown (qs : Ports) (n : Fin 16) (x : Preset) (o : Origin) (s : State) (h : grown qs s.ports) :
    grown qs (writePreset n x o s).ports := by
  simp [writePreset, h]

@[simp] theorem momentaryGeometry_grown (qs : Ports) (clamped : Bool) (o : Overlay) (s : State) (h : grown qs s.ports) :
    grown qs (momentaryGeometry clamped o s).2.ports := by
  simp [momentaryGeometry, h]

@[simp] theorem standingGeometry_grown (qs : Ports) (p : Port) (clamped : Bool) (x : Preset) (o : Overlay) (s :
    State) (h : grown qs s.ports) :
    grown qs (standingGeometry p clamped x o s).2.ports := by
  unfold standingGeometry; dsimp only
  repeat' split
  all_goals simp [h]

@[simp] theorem ownLoadPreset_grown (qs : Ports) (p : Port) (q : Qualifier) (ps : List Word) (s : State) (h :
    grown qs s.ports) :
    grown qs (ownLoadPreset p q ps s).2.ports := by
  unfold ownLoadPreset
  repeat' split
  all_goals simp [h]

@[simp] theorem ownSetKeystone_grown (qs : Ports) (p : Port) (q : Qualifier) (ps : List Word) (s : State) (h :
    grown qs s.ports) :
    grown qs (ownSetKeystone p q ps s).2.ports := by
  unfold ownSetKeystone
  repeat' split
  all_goals simp [h]

@[simp] theorem ownNudgeKeystone_grown (qs : Ports) (p : Port) (q : Qualifier) (ps : List Word) (s : State) (h :
    grown qs s.ports) :
    grown qs (ownNudgeKeystone p q ps s).2.ports := by
  unfold ownNudgeKeystone
  repeat' split
  all_goals simp [h]

@[simp] theorem ownSetCorner_grown (qs : Ports) (p : Port) (q : Qualifier) (ps : List Word) (s : State) (h :
    grown qs s.ports) :
    grown qs (ownSetCorner p q ps s).2.ports := by
  unfold ownSetCorner
  repeat' split
  all_goals simp [h]

@[simp] theorem ownSetAspect_grown (qs : Ports) (p : Port) (q : Qualifier) (ps : List Word) (s : State) (h :
    grown qs s.ports) :
    grown qs (ownSetAspect p q ps s).2.ports := by
  unfold ownSetAspect
  repeat' split
  all_goals simp [h]

@[simp] theorem ownSavePreset_grown (qs : Ports) (p : Port) (ps : List Word) (s : State) (h : grown qs s.ports) :
    grown qs (ownSavePreset p ps s).2.ports := by
  unfold ownSavePreset
  repeat' split
  all_goals simp [h]

@[simp] theorem ownReapplyGeometry_grown (qs : Ports) (s : State) (h : grown qs s.ports) :
    grown qs (ownReapplyGeometry s).2.ports := by
  unfold ownReapplyGeometry; split <;> simp [h]

@[simp] theorem ownSetClock_grown (qs : Ports) (p : Port) (ps : List Word) (s : State) (h : grown qs s.ports) :
    grown qs (ownSetClock p ps s).2.ports := by
  unfold ownSetClock; split <;> simp [h]

@[simp] theorem queueExceptions_grown (qs : Ports) (old : List Occurrence) (o : Origin) (s : State) (h : grown qs s.ports) :
    grown qs (queueExceptions old o s).ports := by
  unfold queueExceptions; split <;> simp [h]

@[simp] theorem ownAddBooking_grown (qs : Ports) (p : Port) (q : Qualifier) (ps : List Word) (s : State) (h :
    grown qs s.ports) :
    grown qs (ownAddBooking p q ps s).2.ports := by
  unfold ownAddBooking; dsimp only
  repeat' split
  all_goals simp (maxDischargeDepth := 20) [h]

@[simp] theorem currentEdited_grown (qs : Ports) (old new : Booking) (o : Origin) (s : State) (h : grown qs s.ports) :
    grown qs (currentEdited old new o s).ports := by
  unfold currentEdited; split <;> simp [h]

@[simp] theorem changeBooking_grown (qs : Ports) (id : Fin 64) (old new : Booking) (o : Origin) (s : State) (h :
    grown qs s.ports) :
    grown qs (changeBooking id old new o s).ports := by
  unfold changeBooking; dsimp only
  repeat' split
  all_goals simp (maxDischargeDepth := 20) [h]

@[simp] theorem ownChangeBooking_grown (qs : Ports) (p : Port) (q : Qualifier) (ps : List Word) (s : State) (h :
    grown qs s.ports) :
    grown qs (ownChangeBooking p q ps s).2.ports := by
  unfold ownChangeBooking; dsimp only
  repeat' split
  all_goals simp [h]

@[simp] theorem removeBooking_grown (qs : Ports) (id : Fin 64) (o : Origin) (s : State) (h : grown qs s.ports) :
    grown qs (removeBooking id o s).ports := by
  simp (maxDischargeDepth := 20) [removeBooking, h]

@[simp] theorem ownRemoveBooking_grown (qs : Ports) (p : Port) (ps : List Word) (s : State) (h : grown qs s.ports) :
    grown qs (ownRemoveBooking p ps s).2.ports := by
  unfold ownRemoveBooking
  repeat' split
  all_goals simp [h]

@[simp] theorem editExceptions_grown (qs : Ports) (l : List Occurrence) (o : Origin) (s : State) (h : grown qs s.ports) :
    grown qs (editExceptions l o s).ports := by
  simp [editExceptions, h]

@[simp] theorem ownCancelOccurrence_grown (qs : Ports) (p : Port) (q : Qualifier) (ps : List Word) (s : State) (h :
    grown qs s.ports) :
    grown qs (ownCancelOccurrence p q ps s).2.ports := by
  unfold ownCancelOccurrence; dsimp only
  repeat' split
  all_goals simp [h]

@[simp] theorem ownRestoreOccurrence_grown (qs : Ports) (p : Port) (q : Qualifier) (ps : List Word) (s : State) (h :
    grown qs s.ports) :
    grown qs (ownRestoreOccurrence p q ps s).2.ports := by
  unfold ownRestoreOccurrence; dsimp only
  repeat' split
  all_goals simp [h]

@[simp] theorem ownExtendBooking_grown (qs : Ports) (ps : List Word) (s : State) (h : grown qs s.ports) :
    grown qs (ownExtendBooking ps s).2.ports := by
  unfold ownExtendBooking; dsimp only
  repeat' split
  all_goals simp [h]

@[simp] theorem ownReleaseRoom_grown (qs : Ports) (p : Port) (s : State) (h : grown qs s.ports) :
    grown qs (ownReleaseRoom p s).2.ports := by
  unfold ownReleaseRoom; split <;> simp [h]

@[simp] theorem writeEntry_grown (qs : Ports) (n : Fin 8) (e : SourceEntry) (o : Origin) (s : State) (h :
    grown qs s.ports) :
    grown qs (writeEntry n e o s).ports := by
  simp [writeEntry, h]

@[simp] theorem ownSetSourceEntry_grown (qs : Ports) (p : Port) (ps : List Word) (s : State) (h : grown qs s.ports) :
    grown qs (ownSetSourceEntry p ps s).2.ports := by
  unfold ownSetSourceEntry
  repeat' split
  all_goals simp [h]

@[simp] theorem writeProfile_grown (qs : Ports) (n : Fin 8) (f : Profile) (o : Origin) (s : State) (h : grown qs s.ports) :
    grown qs (writeProfile n f o s).ports := by
  simp [writeProfile, h]

@[simp] theorem ownSetProfile_grown (qs : Ports) (p : Port) (ps : List Word) (s : State) (h : grown qs s.ports) :
    grown qs (ownSetProfile p ps s).2.ports := by
  unfold ownSetProfile
  repeat' split
  all_goals simp [h]

@[simp] theorem writeInstall_grown (qs : Ports) (r : InstallRecord) (o : Origin) (s : State) (h : grown qs s.ports) :
    grown qs (writeInstall r o s).ports := by
  simp [writeInstall, h]

@[simp] theorem ownSetInstallRecord_grown (qs : Ports) (p : Port) (ps : List Word) (s : State) (h : grown qs s.ports) :
    grown qs (ownSetInstallRecord p ps s).2.ports := by
  unfold ownSetInstallRecord
  repeat' split
  all_goals simp (maxDischargeDepth := 20) [h]

@[simp] theorem ownSetRoomTimes_grown (qs : Ports) (p : Port) (ps : List Word) (s : State) (h : grown qs s.ports) :
    grown qs (ownSetRoomTimes p ps s).2.ports := by
  unfold ownSetRoomTimes
  repeat' split
  all_goals simp (maxDischargeDepth := 20) [h]

@[simp] theorem writeLock_grown (qs : Ports) (locked : Bool) (o : Origin) (s : State) (h : grown qs s.ports) :
    grown qs (writeLock locked o s).ports := by
  simp [writeLock, h]

@[simp] theorem ownSetInstallLock_grown (qs : Ports) (p : Port) (s : State) (h : grown qs s.ports) :
    grown qs (ownSetInstallLock p s).2.ports := by
  unfold ownSetInstallLock; split <;> simp [h]

@[simp] theorem ownClearInstallLock_grown (qs : Ports) (p : Port) (s : State) (h : grown qs s.ports) :
    grown qs (ownClearInstallLock p s).2.ports := by
  unfold ownClearInstallLock
  repeat' split
  all_goals simp [h]

@[simp] theorem ownProtectRegions_grown (qs : Ports) (ps : List Word) (s : State) (h : grown qs s.ports) :
    grown qs (ownProtectRegions ps s).2.ports := by
  unfold ownProtectRegions; split <;> simp [h]

@[simp] theorem ownUnprotectRegions_grown (qs : Ports) (ps : List Word) (s : State) (h : grown qs s.ports) :
    grown qs (ownUnprotectRegions ps s).2.ports := by
  unfold ownUnprotectRegions
  repeat' split
  all_goals simp [h]

@[simp] theorem dropFold_grown (q : Ports) (n : Nat) (l : List Entry) (s : State) (h : grown q s.ports) :
    grown q (l.foldl (fun u (e : Entry) => postDropped e.key n e.origin u) s).ports :=
  foldl_grown q _ l s (fun b a hb => by simp [hb]) h

@[simp] theorem dropForWipe_grown (qs : Ports) (s : State) (h : grown qs s.ports) :
    grown qs (dropForWipe s).ports := by
  simp [dropForWipe, h]

@[simp] theorem ownStoreWipe_grown (qs : Ports) (p : Port) (s : State) (h : grown qs s.ports) :
    grown qs (ownStoreWipe p s).2.ports := by
  unfold ownStoreWipe
  repeat' split
  all_goals simp [h]

@[simp] theorem ownSetOverride_grown (qs : Ports) (p : Port) (q : Qualifier) (ps : List Word) (s : State) (h :
    grown qs s.ports) :
    grown qs (ownSetOverride p q ps s).2.ports := by
  unfold ownSetOverride
  repeat' split
  all_goals simp (maxDischargeDepth := 20) [h]

@[simp] theorem replaceLamp_grown (qs : Ports) (a : Account) (serial : Nat) (life : Option Nat) (s : State) (h :
    grown qs s.ports) :
    grown qs (replaceLamp a serial life s).ports := by
  unfold replaceLamp
  repeat' split
  all_goals simp (maxDischargeDepth := 20) [h]

@[simp] theorem ownLampReplace_grown (qs : Ports) (ps : List Word) (s : State) (h : grown qs s.ports) :
    grown qs (ownLampReplace ps s).2.ports := by
  unfold ownLampReplace; dsimp only
  repeat' split
  all_goals simp [h]

@[simp] theorem ownLampSet_grown (qs : Ports) (ps : List Word) (s : State) (h : grown qs s.ports) :
    grown qs (ownLampSet ps s).2.ports := by
  unfold ownLampSet; split <;> simp [h]

@[simp] theorem ownClearFault_grown (qs : Ports) (p : Port) (s : State) (h : grown qs s.ports) :
    grown qs (ownClearFault p s).2.ports := by
  unfold ownClearFault; split <;> simp [h]

@[simp] theorem ownLeaveCommission_grown (qs : Ports) (s : State) (h : grown qs s.ports) :
    grown qs (ownLeaveCommission s).2.ports := by
  unfold ownLeaveCommission; split <;> simp [h]

/-! ## Changes of the power state -/

/-- A change of the power state is told, to the port of its origin too (R26). -/
theorem setPower_told (dest : PowerState) (o : Origin) (r : Option Reason) (s : State) :
    toldPower (originPort o) o s.power.state dest r s (setPower dest o r s) :=
  told_of (enterPower dest s) (by simp) (by simp) (by simp) (grown_refl _)

/-- The same for an entry with the intents cleared. -/
theorem settleDark_told (dest : PowerState) (o : Origin) (r : Option Reason) (s : State) :
    toldPower (originPort o) o s.power.state dest r s (settleDark dest o r s) :=
  told_earlier (by simp) (fun _ => rfl) rfl (setPower_told dest o r { s with power := clearIntents s.power })

end Sys2Proof.Machine
end

