-- ==== Sys2Proof/WellFormed.lean ====
section
/-! DEFINITION. Which terms of `Instr` stand for an occurrence of their row. Every request frame is well-formed, good or bad:
its checks are the take order's. -/

namespace Sys2Proof

/-- A select period that is an event has at least one whole word (R166). -/
def periodIsEvent (whole : Nat) : Bool := 1 ≤ whole

/-- A frame of an unknown command: its code is not in the index, and its header is not the read word (R165, R168). -/
def unknownIsEvent (code : Byte) (f : Frame) : Bool :=
  (Machine.commandOfCode code).isNone && !(code == 0 && f.count == 0)

/-- The term stands for an occurrence of its row. -/
def Instr.wellFormed : Instr → Bool
  | .readWordPeriod _ span => periodIsEvent span.whole
  | .frameDiscarded _ whole => periodIsEvent whole
  | .unknownCommandFrame _ code f => unknownIsEvent code f
  | _ => true

end Sys2Proof
end

