-- ==== Sys2Proof/Tests/Slice0.lean ====
section
/-! SUPPORT. The model's own tests: terms that the well-formedness check refuses, the manual's worked examples step by step,
and for each statement a state and operands that meet its hypotheses. -/

namespace Sys2Proof.Tests

open Sys2Proof.Machine

set_option Elab.async false

/-! ## Helpers -/

/-- The state that an outcome answers, the state before it where it answers none. -/
def outcomeOf (s : State) (r : Host.Outcome State Fault Refusal) : State :=
  match r with
  | .next t => t
  | .fault _ => s
  | .refused _ => s

/-- The state after a command. -/
def run (i : Instr) (s : State) : State := outcomeOf s (exec i s)

/-- A frame of good length with qualifier `q` and parameters `ps`. -/
def frame (q : Word) (ps : List Word) : Frame := { count := BitVec.ofNat 8 (ps.length + 1), words := q :: ps }

/-- The request of a command on a port, with the port's defaults. -/
def ask (c : Command) (p : Port) (ps : List Word) : Instr := instrOf c p (frame 0 ps)

/-- The request of a command on a port with MOMENTARY scope. -/
def askMomentary (c : Command) (p : Port) (ps : List Word) : Instr := instrOf c p (frame 1 ps)

/-- The request of a command on a port with STANDING scope. -/
def askStanding (c : Command) (p : Port) (ps : List Word) : Instr := instrOf c p (frame 2 ps)

/-- The verdict and the reason of the answer that a port is about to give. -/
def verdictOf (p : Port) (s : State) : Option (Verdict × Option Reason) :=
  (portOf s p).deciding.map fun r => (r.answer.verdict, r.answer.reason)

/-- The data of the answer that a port is about to give. -/
def dataOf (p : Port) (s : State) : Option (List Word) := (portOf s p).deciding.map fun r => r.answer.data

/-- The port takes the frame, as a Bool. -/
def takes (c : Command) (p : Port) (f : Frame) (q : Qualifier) (s : State) : Bool :=
  ((portOf s p).transfer != .taking) && (match admission c p f s with | .ok x => x == q | .error _ => false)

theorem taken_of_takes {c : Command} {p : Port} {f : Frame} {q : Qualifier} {s : State} (h : takes c p f q s = true) :
    taken c p f q s := by
  simp only [takes, Bool.and_eq_true, bne_iff_ne, ne_eq] at h
  refine ⟨h.1, ?_⟩
  have h2 := h.2
  split at h2 <;> simp_all

/-- A lamp of serial 40117. -/
def lampA : Account :=
  { serial := 40117, installedDay := some 9000, wear := 1000000, secNormal := 0, secEco := 0, coldStrikes := 0
    hotStrikes := 0, failedStrikes := 0, totalSeconds := 0, totalStrikes := 0, verified := true, previous := none }

/-- A block in use: loaded, NORMAL, nothing protected or locked, service enabled, profile 0 active, STANDBY, the head
PRESENT, source S0 STABLE, the clock at day 9,121, minute 785, the room VACANT, ports idle. -/
def ready : State :=
  { State.reset with
    lamp := { LampUnit.reset with account := some lampA, level := some .below }
    power := { PowerUnit.reset with state := .standby, shutter := some .opened, modeEvaluated := true, reportWait := none }
    link := { LinkUnit.reset with state := .present, silence := some 3000, sinceMessage := some 0 }
    router := { RouterUnit.reset (Vector.replicate 6 true) with
      debounced := some (Vector.replicate 6 true), sample := none, requested := some 0, routedSource := some 0
      state := .noSignal, chain := [(0, none)], resolved := true }
    geometry := { GeometryUnit.reset with started := true, routed := some 0 }
    room := RoomUnit.reset { day := 9121, minute := 785, second := 30, isSet := true } 0
    lockout := { LockoutUnit.reset .normal with
      serviceEnabled := true, locked := false, active := some ⟨0, .vacant, defaultProfile⟩ }
    store := { State.reset.store with loaded := true, protect := 0, window := some 9000 } }

/-- The block in use with another Power Sequencer. -/
def withPower (u : PowerUnit) : State := { ready with power := u }

/-- The block in use with another room. -/
def withRoom (r : RoomUnit) : State := { ready with room := r }

/-- The block in use in COMMISSION with the lock LOCKED. -/
def commission : State := { ready with lockout := { ready.lockout with mode := .commission, locked := true } }

/-- The wear of the live account. -/
def wearOf (s : State) : Option Nat := s.lamp.account.map (·.wear)

/-- The kinds of the notices that a port holds. -/
def kindsOf (p : Port) (s : State) : List NoticeKind := (portOf s p).notices.map (·.kind)

/-- The data words of the notices of a kind that a port holds. -/
def wordsOf (k : NoticeKind) (p : Port) (s : State) : List (Word × Word) :=
  ((portOf s p).notices.filter fun n => n.kind == k).map fun n => (n.first, n.second)

/-! ## Well-formedness: each check refuses an ill-formed term -/

theorem test_wellFormed_refuses_an_empty_read_period :
    Instr.wellFormed (.readWordPeriod .lectern ⟨0, false⟩) = false := by decide

theorem test_wellFormed_refuses_an_empty_cut_frame : Instr.wellFormed (.frameDiscarded .service 0) = false := by decide

/-- 0x20 is the code of POWER ON (section 9.6). -/
theorem test_wellFormed_refuses_a_known_code :
    Instr.wellFormed (.unknownCommandFrame .facility 0x20 (frame 0 [])) = false := by decide +kernel

/-- A header of zero is the read word (R165). -/
theorem test_wellFormed_refuses_a_read_word_as_header :
    Instr.wellFormed (.unknownCommandFrame .facility 0 { count := 0, words := [] }) = false := by decide +kernel

theorem test_wellFormed_takes_events : Instr.wellFormed (.readWordPeriod .lectern ⟨1, false⟩) = true ∧
    Instr.wellFormed (.frameDiscarded .service 1) = true ∧
    Instr.wellFormed (.unknownCommandFrame .facility 0xEE (frame 0 [])) = true ∧
    Instr.wellFormed (ask .powerOn .lectern []) = true := by decide +kernel

/-! ## Decoding: words written out from the encodings (R175, R178) -/

/-- POWER ON is code 0x20; one word follows, a qualifier with LONG form 10 in bits 3..2 (section 9.6, R175). -/
theorem test_powerOn_from_its_words :
    periodEvent .facility [0b0010000000000001, 0b0000000000001000] false =
      some (.powerOn .facility { count := 1, words := [0x0008] }) := by decide +kernel

theorem test_selectSource_from_its_words :
    periodEvent .lectern [0x3002, 0x0001, 0x0003] false =
      some (.selectSource .lectern { count := 2, words := [0x0001, 0x0003] }) := by decide +kernel

/-- A REPORT of type 0x11, tag 0: DARK, hot and committed flags, WARM, set 37; the seven bytes after A6 sum to zero mod
256: 06 + 11 + 00 + 09 + 01 + 25 + BA = 100 (R178). -/
theorem test_report_from_its_bytes :
    receive 8 [0xA6, 0x06, 0x11, 0x00, 0x09, 0x01, 0x25, 0xBA] =
      [.report { lamp := .dark, hot := true, shutterClosed := false, restarted := false, temperature := .warm
                 committed := some 37 }] := by decide +kernel

theorem test_bad_sum_is_ignored :
    receive 8 [0xA6, 0x06, 0x11, 0x00, 0x09, 0x01, 0x25, 0xBB] = [.invalidHeadMessage] := by decide +kernel

/-- No row of the table gives bits, so a table word changes nothing (the task's withFetchWord). -/
theorem test_table_words_spell_nothing : ready.withFetchWord 16 0x2001 = ready := by rfl

/-! ## Records (R150) -/

/-- R150 gives 0x29B1 over the nine characters "123456789". -/
theorem test_crc_check_value :
    crcBytes [0x31, 0x32, 0x33, 0x34, 0x35, 0x36, 0x37, 0x38, 0x39] = 0x29B1 := by decide +kernel

/-! ## The lamp account (sections 1.9 to 1.11) -/

/-- A lamp of wear `w`, its strike awaiting the ACK. -/
def striking (w : Nat) (hot : Option Nat) : State :=
  { withPower { ready.power with state := .igniting, attempt := 1, ignitionOrigin := some .lectern } with
    lamp := { ready.lamp with account := some { lampA with wear := w }, hotWindow := hot }
    link := { ready.link with outstanding := some ⟨.control .ignite, 0, 1, false⟩, nextTag := 1 } }

/-- Section 1.9: a cold strike takes the wear from 0 to 1,800; section 2.9: a hot one from 1,001,980 to 1,005,580. -/
theorem test_strikes_cold_and_hot :
    wearOf (run (.ack 0 true) (striking 0 none)) = some 1800 ∧
      wearOf (run (.ack 0 true) (striking 1001980 (some 1000))) = some 1005580 := by decide +kernel

/-- Section 2.9 at 0.1: attempt 1 awaits its result, the result timer at 10 s. -/
theorem test_ack_of_ignite_starts_the_result_timer :
    (run (.ack 0 true) (striking 1000000 none)).power.step = .awaitingResult ∧
      (run (.ack 0 true) (striking 1000000 none)).power.strikeTimer = some 10000 := by decide +kernel

/-- A lamp ON at NORMAL with wear `w` and cadence counter `n`, at the end of a burn second. -/
def burning (w n : Nat) : State :=
  { withPower { ready.power with state := .on } with
    lamp := { ready.lamp with account := some { lampA with wear := w }, burn := some 1000, normalSeen := true, cadence := n } }

/-- Section 1.10: the 500th second brings the wear to 29,160,000: WARN, LAMP THRESHOLD with 900, ECO, cadence 0. -/
theorem test_crossing_warn :
    wearOf (run .burnSecond (burning 29159997 599)) = some 29160000 ∧
      (run .burnSecond (burning 29159997 599)).lamp.level = some .warn ∧
      (run .burnSecond (burning 29159997 599)).lamp.cadence = 0 ∧
      (run .burnSecond (burning 29159997 599)).power.effectiveMode = .eco ∧
      wordsOf .lampThreshold .service (run .burnSecond (burning 29159997 599)) = [(1, 900)] := by decide +kernel

/-- Section 1.10: the 499th leaves the level BELOW, and section 1.9: burn second 900 makes a checkpoint request. -/
theorem test_burn_second_and_cadence :
    (run .burnSecond (burning 29159994 598)).lamp.level = some .below ∧
      (run .burnSecond (burning 4497 899)).lamp.cadence = 0 ∧
      (entriesOf (run .burnSecond (burning 4497 899))).map (·.key) = [.lampCheckpoint] := by decide +kernel

/-- Section 1.11: LAMP REPLACE 41250 is STARTED; the live serial stays 40117 and the flag is set. -/
theorem test_lamp_replace_queues :
    verdictOf .service (run (ask .lampReplace .service [0, 41250, 3, 0]) ready) = some (.started, none) ∧
      (run (ask .lampReplace .service [0, 41250, 3, 0]) ready).lamp.account.map (·.serial) = some 40117 ∧
      (run (ask .lampReplace .service [0, 41250, 3, 0]) ready).lamp.replaceInFlight = true := by decide +kernel

/-- A summary of a serial. -/
def summary (n : Nat) : Summary := { zeroSummary with serial := n }

/-- Section 1.11: history 38006, 35520, newest slot 2 with sequence number 611. -/
def replacing : State :=
  { ready with
    lamp := { ready.lamp with newest := some (2, 611), history := [summary 38006, summary 35520] } }

/-- Section 1.11: the write to slot 3 completes with sequence 612; the live serial is 41250, wear 0; 40117 is first. -/
theorem test_lamp_switch :
    let t := run .writeCompletion (run (ask .lampReplace .service [0, 41250, 3, 0]) replacing)
    t.lamp.account.map (·.serial) = some 41250 ∧ wearOf t = some 0 ∧ t.lamp.newest = some (3, 612) ∧
      t.lamp.history.map (·.serial) = [40117, 38006, 35520] ∧ t.lamp.replaceInFlight = false := by decide +kernel

/-- Section 1.11: a hard reset before the write completes leaves slot 3 torn and the others as they were. -/
theorem test_reset_tears_the_write_in_progress :
    let t := run (.hardReset .normal) (run (ask .lampReplace .service [0, 41250, 3, 0]) replacing)
    validRecord t.store.slots[(3 : Fin 4)] = false ∧ t.store.slots[(2 : Fin 4)] = replacing.store.slots[(2 : Fin 4)] := by
  decide +kernel

/-! ## The Power Sequencer (section 2.9) -/

/-- At 0.0: LECTERN POWER ON in STANDBY is STARTED, IGNITING, attempt 1, SENDING, and IGNITE goes out. -/
theorem test_power_on_in_standby :
    let t := run (ask .powerOn .lectern []) ready
    verdictOf .lectern t = some (.started, none) ∧ t.power.state = .igniting ∧ t.power.attempt = 1 ∧
      t.power.step = .sending ∧ t.power.ignitionOrigin = some .lectern ∧
      t.link.outstanding.map (·.msg) = some (.control .ignite) := by decide +kernel

/-- At 4.0: STRIKE RESULT OK gives WARMING, the warming timer at 60 s. -/
theorem test_strike_result_ok :
    let t := run (.strikeResult true) (withPower { ready.power with state := .igniting, attempt := 1, step := .awaitingResult
                                                                    strikeTimer := some 6100 })
    t.power.state = .warming ∧ t.power.warmingTimer = some 60000 ∧ t.power.strikeTimer = none ∧ t.lamp.burn = some 0 := by
  decide +kernel

/-- At 30.0: LECTERN POWER OFF in WARMING is STARTED and sets off pending. -/
theorem test_power_off_in_warming :
    let t := run (ask .powerOff .lectern []) (withPower { ready.power with state := .warming, warmingTimer := some 34000 })
    verdictOf .lectern t = some (.started, none) ∧ t.power.offPending = true ∧ t.power.state = .warming := by decide +kernel

/-- At 64.0: the warming ends with off pending: COOLING for 120 s, burn second 60 makes 1,001,980, hot window 30 min. -/
theorem test_warming_ends_with_off_pending :
    let t := run .warmingEnd { burning 1001977 59 with power := { ready.power with
      state := .warming, warmingTimer := some 0, offPending := true, ignitionOrigin := some .lectern } }
    t.power.state = .cooling ∧ t.power.coolingTimer = some 120000 ∧ t.power.offPending = false ∧
      t.power.ignitionOrigin = none ∧ wearOf t = some 1001980 ∧ t.lamp.hotWindow = some 1800000 := by decide +kernel

/-- At 100.0: FACILITY POWER ON in COOLING is STARTED and sets restart pending; at 184.0 the strike begins. -/
theorem test_restart_after_cooling :
    let t := run (ask .powerOn .facility []) (withPower { ready.power with state := .cooling, coolingTimer := some 84000 })
    verdictOf .facility t = some (.started, none) ∧ t.power.restartPending = true ∧
      t.power.ignitionOrigin = some .facility ∧ (run .coolingEnd t).power.state = .igniting ∧
      (run .coolingEnd t).power.attempt = 1 ∧ (run .coolingEnd t).power.restartPending = false := by decide +kernel

/-- At 194.1 and 214.1: the result timer expires: one failed strike, PAUSE of 20 s; then attempt 2, SENDING. -/
theorem test_failed_attempt_pauses_and_tries_again :
    let t := run .strikeResultTimeout (withPower { ready.power with
      state := .igniting, attempt := 1, step := .awaitingResult, strikeTimer := some 0, ignitionOrigin := some .facility })
    failedCount t = 1 ∧ t.power.step = .pause ∧ t.power.pauseTimer = some 20000 ∧
      (run .restrikePauseExpiry t).power.attempt = 2 ∧ (run .restrikePauseExpiry t).power.step = .sending := by
  decide +kernel

/-! ## The head link (section 3.7) -/

/-- COLUMN 5 outstanding with 3 sends of 3; the answer timer has run out. -/
def retried (n : Nat) : State :=
  { withPower { ready.power with state := .on } with
    link := { ready.link with outstanding := some ⟨.column 14 5 ⟨0, 0, 0⟩, 2, n, true⟩, answer := some 0 } }

/-- At 250 the message is resent; at 750, 3 sends of 3, the link is LOST: HEAD LOST with RETRIES EXHAUSTED and the
COLUMN type code 0x09 (R178). -/
theorem test_retries_exhausted :
    (run .answerTimerExpiry (retried 1)).link.outstanding.map (·.sends) = some 2 ∧
      (run .answerTimerExpiry (retried 3)).link.state = .lost ∧
      wordsOf .headLost .service (run .answerTimerExpiry (retried 3)) = [(1, 0x09)] ∧
      (run .answerTimerExpiry (retried 3)).power.state = .on := by decide +kernel

/-- A resend of COLUMN 5 is going out, and LAMP MODE is queued. -/
def resending : State :=
  { retried 2 with link := { (retried 2).link with answer := none, transmit := [0xA5], control := [.lampMode .eco] } }

/-- R53: an ACK of the earlier send ends the exchange, and LAMP MODE waits until the resend's last byte has left. -/
theorem test_no_send_while_bytes_go_out :
    let t := run (.ack 2 true) resending
    t.link.outstanding = none ∧ t.link.control = [.lampMode .eco] ∧ t.link.answer = none ∧
      (run .headMessageSent t).link.outstanding.map (·.msg) = some (.control (.lampMode .eco)) ∧
      (run .headMessageSent t).link.answer = none ∧ (run .headMessageSent resending).link.answer = some 250 := by
  decide +kernel

/-- At 9,200: a REPORT after 8,450 ms: PRESENT, HEAD RETURNED with 8 s, LAMP MODE sent, SHUTTER queued, no STATUS
REQUEST, a set in the lane. -/
theorem test_head_returns :
    let t := run (.report { lamp := .lit, hot := false, shutterClosed := false, restarted := false, temperature := .ok
                            committed := some 13 })
      { withPower { ready.power with state := .on, shutter := some .closedManual } with
        link := { LinkUnit.reset with state := .lost, lostFor := some 8450, nextTag := 3 } }
    t.link.state = .present ∧ wordsOf .headReturned .service t = [(8, 0x11)] ∧
      t.link.outstanding.map (·.msg) = some (.control (.lampMode .normal)) ∧ t.link.outstanding.map (·.tag) = some 3 ∧
      t.link.control = [.shutter true] ∧ t.link.lane.isSome = true := by decide +kernel

/-! ## The Source Router (sections 4.3 and 4.8) -/

/-- An entry on an input with a fallback. -/
def entry (i : Fin 6) (f : Option (Fin 8)) (auto : Bool) : SourceEntry :=
  { name := [], input := some i, fallback := f, preset := none, autoFollow := auto, aspect := .auto }

/-- The map of section 4.3. -/
def hall : Vector SourceEntry 8 :=
  #v[entry 0 none false, entry 1 (some 0) false, entry 2 (some 0) false, entry 3 (some 1) true, entry 4 (some 0) false,
    defaultSource, defaultSource, defaultSource]

/-- Section 4.3: the walks and what is routed for each presence. -/
theorem test_resolution_examples :
    walk hall 3 = [3, 1, 0] ∧
      routedOf (some #v[true, true, true, false, false, false]) (chainOf hall 3) = (some 1, some 1) ∧
      routedOf (some #v[true, false, true, false, false, false]) (chainOf hall 3) = (some 0, some 0) ∧
      routedOf (some #v[false, false, true, false, false, false]) (chainOf hall 3) = (some 3, some 3) ∧
      walk hall 6 = [6] ∧ routedOf (some #v[true, true, true, true, true, true]) (chainOf hall 6) = (none, none) := by
  decide +kernel

/-- Section 4.8 at 0: S0 STABLE on IN1 under the hall's map. -/
def race : State :=
  { ready with
    router := { ready.router with
      sources := hall, debounced := some #v[true, true, true, true, false, false], state := .stable
      routedInput := some 0, chain := [(0, some 0)] }
    room := { ready.room with state := .preparing } }

/-- At 0: FACILITY S1 is STARTED, SETTLING to 1500 on IN2. -/
theorem test_select_starts_a_settle :
    let t := run (askMomentary .selectSource .facility [1]) race
    verdictOf .facility t = some (.started, none) ∧ t.router.state = .settling ∧ t.router.settle = some 1500 ∧
      t.router.routedInput = some 1 ∧ t.router.chain = [(1, some 1), (0, some 0)] := by decide +kernel

/-- At 1000: the room is OCCUPIED and LECTERN's S3 is held: FACILITY is REFUSED OUTRANKED. -/
theorem test_select_is_outranked :
    verdictOf .facility (run (askMomentary .selectSource .facility [2]) { race with
      router := { race.router with state := .settling, settle := some 500, pendingSlot := some ⟨3, .lectern, .momentary⟩ }
      room := { race.room with state := .occupied } }) = some (.refused, some .outranked) := by decide +kernel

/-- At 400: in PREPARING FACILITY outranks LECTERN, whose S3 is displaced: word 3, OUTRANKED in place 20, FACILITY 1. -/
theorem test_select_displaces :
    let t := run (askMomentary .selectSource .facility [2]) { race with
      router := { race.router with state := .settling, settle := some 1100, pendingSlot := some ⟨3, .lectern, .momentary⟩ } }
    t.router.pendingSlot = some ⟨2, .facility, .momentary⟩ ∧ wordsOf .requestDisplaced .lectern t = [(3, 0x1401)] := by
  decide +kernel

/-- At 1400: the FORMAT ends the settle STABLE, and the Geometry Engine receives S1 and the format. -/
theorem test_format_ends_the_settle :
    let t := run (.format 1920 1080 60) (run (askMomentary .selectSource .facility [1]) race)
    t.router.state = .stable ∧ t.geometry.routed = some 1 ∧ t.geometry.format = .signal ⟨1920, 1080, 60⟩ := by
  decide +kernel

/-! ## The Geometry Engine (sections 5.5 and 5.6) -/

/-- The inputs of section 5.5. -/
def lecturePicture : GeomInputs :=
  { kv := 10, kh := 0, tl := ⟨4, 0⟩, tr := ⟨0, 0⟩, bl := ⟨0, 0⟩, br := ⟨0, 0⟩, aspect := .auto
    content := contentAspect .auto (.signal ⟨1920, 1080, 60⟩), ws := 1920, hs := 1080 }

theorem test_lecture_picture_corners :
    (computeSet 42 lecturePicture).corners = ⟨⟨64, 60⟩, ⟨1860, 60⟩, ⟨0, 1140⟩, ⟨1920, 1140⟩⟩ ∧
      (computeSet 42 lecturePicture).limited = false := by decide +kernel

theorem test_lecture_picture_tables :
    let g := computeSet 42 lecturePicture
    g.rows[0]? = some ⟨1081, 29707, 4396⟩ ∧ g.rows[6]? = some ⟨808, 29963, 4316⟩ ∧
      g.rows[12]? = some ⟨535, 30219, 4239⟩ ∧ g.rows[25]? = some ⟨0, 30720, 4096⟩ ∧
      g.columns = List.replicate 31 ⟨960, 18240, 4096⟩ := by decide +kernel

/-- The inputs of section 5.6. -/
def limitedPicture : GeomInputs :=
  { kv := 0, kh := -8, tl := ⟨-20, -10⟩, tr := ⟨12, 0⟩, bl := ⟨0, 0⟩, br := ⟨0, 16⟩, aspect := .auto
    content := contentAspect .auto (.signal ⟨1920, 1200, 60⟩), ws := 1920, hs := 1200 }

theorem test_limited_picture :
    let g := computeSet 7 limitedPicture
    g.corners = ⟨⟨0, 30⟩, ⟨1920, 0⟩, ⟨0, 1160⟩, ⟨1920, 1200⟩⟩ ∧ g.limited = true ∧
      g.rows = List.replicate 26 ⟨0, 30720, 4096⟩ ∧ g.columns[0]? = some ⟨480, 18560, 4350⟩ ∧
      g.columns[1]? = some ⟨464, 18581, 4341⟩ ∧ g.columns[15]? = some ⟨240, 18880, 4219⟩ ∧
      g.columns[30]? = some ⟨0, 19200, 4096⟩ := by decide +kernel

/-! ## The room (section 6.9) -/

/-- A booking of section 6.9. -/
def booking (k : BookingKind) (start stop lead grace : Nat) (source : Option (Fin 8)) (m : BookingLampMode)
    (profile : Fin 8) : Booking :=
  { kind := k, startMinute := start, endMinute := stop, lead := lead, source := source, preset := none, lampMode := m
    profile := profile, endAction := .off, grace := grace, owner := .facility, title := [] }

/-- The five bookings of section 6.9; weekday 0 is Monday (R114). -/
def mondayTable : Vector (Option Booking) 64 :=
  ((((Vector.replicate 64 none
    |>.set 0 (some (booking (.weekly 0b0000101 9114 none) 540 630 10 15 (some 0) .roomDefault 2)))
    |>.set 1 (some (booking (.oneOff 9121) 645 720 20 30 (some 3) .eco 1)))
    |>.set 2 (some (booking (.weekly 0b0000001 9114 none) 720 780 0 0 (some 2) .roomDefault 2)))
    |>.set 3 (some (booking (.oneOff 9121) 800 830 5 0 none .roomDefault 2)))
    |>.set 4 (some (booking (.oneOff 9121) 900 960 15 10 (some 0) .roomDefault 2))

/-- The Monday at second 59 of a minute, in a room state with a current booking, the first `n` bookings taken. -/
def monday (minute : Nat) (st : RoomState) (current : Option (Fin 64)) (ext n : Nat) : State :=
  { withPower { ready.power with state := if st = .vacant then .standby else .on } with
    room := { ready.room with
      clock := { day := 9121, minute := minute, second := 59, isSet := true }, bookings := mondayTable, state := st
      current := current.map fun i => ⟨i, 9121⟩, extension := ext
      taken := Vector.ofFn fun i => if i.val < n then some 9121 else none } }

/-- 08:50: PREPARING, booking 0, and the runner's POWER ON begins a strike. -/
theorem test_monday_preparing :
    let t := run .clockSecond (monday 529 .vacant none 0 0)
    t.room.state = .preparing ∧ t.room.current = some ⟨0, 9121⟩ ∧ t.room.taken[(0 : Fin 64)] = some 9121 ∧
      t.power.state = .igniting ∧ t.power.ignitionOrigin = some .schedule := by decide +kernel

/-- 09:00: OCCUPIED, booking 0. -/
theorem test_monday_occupied :
    let t := run .clockSecond (monday 539 .preparing (some 0) 0 1)
    t.room.state = .occupied ∧ t.room.current = some ⟨0, 9121⟩ ∧ t.power.state = .on := by decide +kernel

/-- 10:15 to 10:22: EXTEND BOOKING 10 is DONE with end 640; at extension 10, 10 more is OUT OF RANGE and 5 gives 645. -/
theorem test_monday_extends :
    dataOf .facility (run (ask .extendBooking .facility [10]) (monday 614 .occupied (some 0) 0 1)) = some [10, 640] ∧
      verdictOf .facility (run (ask .extendBooking .facility [10]) (monday 619 .occupied (some 0) 10 1)) =
        some (.refused, some .outOfRange) ∧
      dataOf .facility (run (ask .extendBooking .facility [5]) (monday 621 .occupied (some 0) 10 1)) = some [15, 645] := by
  decide +kernel

/-- 10:45: back-to-back to booking 1: OCCUPIED, S3 requested, cause BACK-TO-BACK, no OFF. -/
theorem test_monday_back_to_back :
    let t := run .clockSecond (monday 644 .occupied (some 0) 15 1)
    t.room.state = .occupied ∧ t.room.current = some ⟨1, 9121⟩ ∧ t.room.extension = 0 ∧ t.router.requested = some 3 ∧
      t.power.state = .on ∧ t.power.effectiveMode = .eco := by decide +kernel

/-- 13:00: booking 2 ends with P = 795 within the bridge gap: VACANT, the shutter closes, the mark is set, no OFF. -/
theorem test_monday_bridge :
    let t := run .clockSecond (monday 779 .occupied (some 2) 0 3)
    t.room.state = .vacant ∧ t.power.shutter = some .closedManual ∧ t.room.scheduleBlank = true ∧ t.power.state = .on := by
  decide +kernel

/-- 13:05:30: SET CLOCK 14:20:00 marks booking 3 taken: OCCURRENCE MISSED (3, 9,121). -/
theorem test_monday_clock_jump :
    let t := run (ask .setClock .facility [9121, 860, 0]) (monday 785 .vacant none 0 3)
    t.room.clock = { day := 9121, minute := 860, second := 0, isSet := true } ∧ t.room.taken[(3 : Fin 64)] = some 9121 ∧
      wordsOf .occurrenceMissed .facility t = [(3, 9121)] ∧ t.room.state = .vacant := by decide +kernel

/-- 16:00: booking 4 ends with no candidate: VACANT, POWER OFF: COOLING, S0 requested. -/
theorem test_monday_end_of_day :
    let t := run .clockSecond (monday 959 .occupied (some 4) 0 5)
    t.room.state = .vacant ∧ t.power.state = .cooling ∧ t.router.requested = some 0 := by decide +kernel

/-! ## Permissions (section 7.7) -/

/-- The profiles of section 7.7: 2 for lectures, 6 for examinations (bit 0 LECTERN, bit 1 FACILITY). -/
def examination (e : Option EffectiveOverride) : State :=
  { ready with
    lockout := { ready.lockout with
      serviceEnabled := false
      profiles := (ready.lockout.profiles.set 2 ⟨3, 2, 3, 3, 2, 2⟩).set 6 ⟨2, 0, 2, 0, 2, 2⟩
      active := some ⟨2, .booking, ⟨3, 2, 3, 3, 2, 2⟩⟩, effective := e } }

theorem test_examination_week :
    let six := examination (some ⟨6, .standing, ⟨2, 0, 2, 0, 2, 2⟩⟩)
    verdictOf .lectern (run (ask .blank .lectern [0]) six) = some (.refused, some .notPermitted) ∧
      verdictOf .facility (run (askMomentary .setKeystone .facility [1, 0, 1, 0]) six) = some (.refused, some .notPermitted) ∧
      verdictOf .service (run (ask .blank .service [0]) six) = some (.refused, some .serviceDisabled) ∧
      verdictOf .facility (run (ask .enableService .facility []) six) = some (.done, none) ∧
      verdictOf .lectern (run (askStanding .selectSource .lectern [1]) (examination none)) =
        some (.refused, some .notPermitted) := by decide +kernel

/-- Service enabled: SERVICE BLANK CLOSE is DONE; a momentary CLEAR holds NONE. -/
theorem test_examination_week_after :
    let six := examination (some ⟨6, .standing, ⟨2, 0, 2, 0, 2, 2⟩⟩)
    verdictOf .service (run (ask .blank .service [0]) { six with lockout := { six.lockout with serviceEnabled := true } }) =
        some (.done, none) ∧
      (run (askMomentary .setOverride .facility [2, 0]) six).lockout.hold = .held none ∧
      (run (askMomentary .setOverride .facility [2, 0]) six).lockout.effective = none := by decide +kernel

/-! ## The store (sections 8.4 and 8.9) -/

/-- An entry of the queue. -/
def waiting (k : Key) (o : Origin) : Entry := { key := k, image := [], origin := o, switch := none }

/-- Section 8.9 at 30: the write completes with B protected: PROFILE 3 and INSTALL RECORD go, the checkpoint is taken. -/
theorem test_burst_at_30 :
    let t := run .writeCompletion { ready with store := { ready.store with
      protect := 0b0011, engine := .writing (waiting .roomDefaults .facility) 0 0
      queue := [waiting (.profile 3) .facility, waiting .install .facility, waiting .lampCheckpoint .auto,
                waiting .roomDefaults .facility] } }
    t.store.queue.map (·.key) = [.roomDefaults] ∧
      (entriesOf t).map (·.key) = [.lampCheckpoint, .roomDefaults] ∧
      wordsOf .writeDropped .facility t = [(6, 1), (2, 1)] ∧ wordsOf .writeDone .facility t = [(36, 0xFFFF)] := by
  decide +kernel

/-- Section 8.9 at 18: a SERVICE entry of ROOM DEFAULTS is replaced in place: WRITE DROPPED (REPLACED) to SERVICE. -/
theorem test_burst_at_18 :
    let t := run (askStanding .selectSource .facility [1]) { ready with store := { ready.store with
      engine := .writing (waiting .install .facility) 0 12, queue := [waiting .roomDefaults .service] } }
    verdictOf .facility t = some (.done, none) ∧ t.store.queue.map (·.origin) = [.facility] ∧
      wordsOf .writeDropped .service t = [(36, 0)] := by decide +kernel

/-- Section 8.4: ten non-lamp entries and two new keys fail the place test; eleven with the key queued pass it. -/
theorem test_place_test :
    let q := (List.finRange 8).map fun n => waiting (.profile n) .facility
    let ten := q ++ [waiting (.preset 0) .facility, waiting (.preset 1) .facility]
    placeTest { ready with store := { ready.store with queue := ten } } [.booking 0, .exceptions] = false ∧
      placeTest { ready with store := { ready.store with queue := ten ++ [waiting .roomDefaults .facility] } }
        [.roomDefaults] = true := by decide +kernel

/-! ## Witnesses: a state and operands that meet each statement's hypotheses -/

/-- The qualifier of a SERVICE request without a scope of its own, or with MOMENTARY. -/
def plain : Qualifier := ⟨.momentary, .long, .none⟩

/-- The qualifier of a SERVICE request with STANDING scope. -/
def standing : Qualifier := ⟨.standing, .long, .none⟩

/-- SERVICE takes the command with these parameters and no scope. -/
abbrev serves (c : Command) (ps : List Word) (s : State) : Prop := taken c .service (frame 0 ps) plain s

/-- SERVICE takes the command with these parameters and STANDING scope. -/
abbrev servesStanding (c : Command) (ps : List Word) (s : State) : Prop := taken c .service (frame 2 ps) standing s

theorem serves_of_all {α : Type} {l : List α} {c : Command} (ps : α → List Word) {s : State}
    (h : (l.all fun x => takes c .service (frame 0 (ps x)) plain s) = true) : ∀ x ∈ l, serves c (ps x) s := by
  intro x hx
  exact taken_of_takes (List.all_eq_true.mp h x hx)

theorem witness_StepRunsTheFrontCommand :
    ({ ready with pending := [.burnSecond, .coolingEnd] } : State).pending = .burnSecond :: [.coolingEnd] := rfl

theorem witness_IdleStepLetsTimePass_due :
    (burning 0 0).pending = [] ∧ dueRow (burning 0 0) = some .burnSecond := by decide +kernel

theorem witness_IdleStepLetsTimePass_tick :
    ready.pending = [] ∧ dueRow ready = none ∧ ready.room.clock.isSet = true ∧
      (withPower { ready.power with state := .cooling, coolingTimer := some 1 }).power.coolingTimer = some (0 + 1) ∧
      dueRow (withPower { ready.power with state := .cooling, coolingTimer := some 1 }) = none ∧
      dueRow (withPower { ready.power with state := .warming, warmingTimer := some 1 }) = none ∧
      dueRow { burning 0 0 with lamp := { (burning 0 0).lamp with burn := some 999 } } = none := by decide +kernel

/-- The block in use is within its bounds, and steps. -/
theorem witness_QueueBoundsKeptByEveryStep :
    stateBounded (retried 3) ∧ ∃ t, step { retried 3 with pending := [.answerTimerExpiry] } = .next t := by
  refine ⟨⟨fun p => ?_, ⟨?_, ?_⟩, ⟨?_, ?_⟩, ⟨?_, ?_⟩⟩, _, rfl⟩
  · cases p <;> decide +kernel
  all_goals decide +kernel

theorem witness_PowerRecordKeptByEveryStep :
    powerConsistent (burning 0 0).power ∧ ∃ t, step (burning 0 0) = .next t := by
  refine ⟨?_, _, rfl⟩
  simp [powerConsistent, burning, withPower, ready, PowerUnit.reset]

/-- FAULT after attempt 3. -/
def faulted : State := withPower { ready.power with state := .fault, attempt := 3 }

theorem witness_FaultLeftOnlyByClearFaultOrReset :
    powerConsistent faulted.power ∧ faulted.power.state = .fault ∧
      exec (ask .clearFault .service []) faulted = .next (run (ask .clearFault .service []) faulted) ∧
      (run (ask .clearFault .service []) faulted).power.state ≠ .fault := by
  refine ⟨?_, rfl, rfl, by decide +kernel⟩
  simp [powerConsistent, faulted, withPower, ready, PowerUnit.reset]

theorem witness_StorageChangesOnlyAtCompletionsAndResets :
    exec (ask .setRoomTimes .service [1, 0, 1, 0, 1, 0, 1, 0]) ready =
      .next (run (ask .setRoomTimes .service [1, 0, 1, 0, 1, 0, 1, 0]) ready) := rfl

theorem witness_CommissionOnlyFromTheStrap :
    let s : State := { ready with pending := [.hardReset .normal] }
    s.lockout.mode = .normal ∧ s.pending.head? ≠ some (.hardReset .commission) ∧ ∃ t, step s = .next t :=
  ⟨rfl, by decide +kernel, _, rfl⟩

/-- A room whose table holds one booking in slot 0. -/
def oneBooking : State := withRoom { ready.room with
  bookings := (Vector.replicate 64 none).set 0 (some (booking (.oneOff 9122) 540 630 10 15 none .roomDefault 2)) }

theorem witness_BookingTableKeptFreeOfConflicts :
    tableClear oneBooking.room.bookings ∧ ∃ t, step { oneBooking with pending := [.clockSecond] } = .next t := by
  refine ⟨fun i j hij a b ha hb => ?_, _, rfl⟩
  have h : ∀ k : Fin 64, k ≠ 0 → oneBooking.room.bookings[k] = none := by decide +kernel
  by_cases hi : i = 0
  · have hj : j ≠ 0 := fun e => hij (hi.trans e.symm)
    rw [h j hj] at hb; cases hb
  · rw [h i hi] at ha; cases ha

/-- A write in progress of a key. -/
def writing (k : Key) : State :=
  { ready with store := { ready.store with engine := .writing { waiting k .facility with image := liveImage ready k } 0 5 } }

theorem witness_ResetsLeaveTheResetState :
    ready.store.engine = .idle ∧
      (∃ e slot left, (writing .lampCheckpoint).store.engine = .writing e slot left ∧ e.key = .lampCheckpoint) ∧
      (∃ e slot left, (writing .exceptions).store.engine = .writing e slot left ∧ e.key ≠ .lampCheckpoint) ∧
      (∃ left, (run (ask .storeWipe .service []) ready).store.engine = .wiping left) :=
  ⟨rfl, ⟨_, _, _, rfl, rfl⟩, ⟨_, _, _, rfl, by decide⟩, ⟨600, by decide +kernel⟩⟩

theorem witness_RestartKeepsModeAndClock : serves .restart [] ready := taken_of_takes (by decide +kernel)

/-- One frame for each step of the take order that can fail: a count of 2 with one word, scope code 11, a LECTERN
request of class LOCKOUT, a POWER request before the load, LAMP LIT in STANDBY. -/
theorem witness_TakeOrderAnswersTheFirstFailure :
    (portOf ready .service).transfer ≠ .taking ∧
      goodLength .powerOn { count := 2, words := [0] } = false ∧
      (goodLength .powerOn (frame 3 []) = true ∧
        qualify .powerOn (portOf ready .service) (itemAt [3] 0) [] = .error .badQualifier) ∧
      (qualify .enableService (portOf ready .lectern) 0 [] = .ok ⟨.momentary, .short, .none⟩ ∧
        permission ready .lectern .lockout .momentary = some .notPermitted) ∧
      (permission commission .service .power .momentary = none ∧
        ({ commission with store := StoreUnit.reset ready.store.slots ready.store.records } : State).store.loaded = false) ∧
      (qualify .powerOn (portOf ready .service) 0x10 [] = .ok ⟨.momentary, .long, .lampLit⟩ ∧
        permission ready .service .power .momentary = none ∧ ready.store.loaded = true ∧
        guardHolds ready .lampLit = false) := by
  refine ⟨by decide +kernel, by decide +kernel, ⟨by decide +kernel, rfl⟩, ⟨rfl, by decide +kernel⟩, ⟨by decide +kernel, rfl⟩,
    ⟨rfl, by decide +kernel, rfl, by decide +kernel⟩⟩

theorem witness_RefusedRequestChangesNothing :
    verdictOf .service (run (ask .clearFault .service []) ready) = some (.refused, some .wrongState) ∧
      verdictOf .service (run (.powerOn .service { count := 2, words := [0] }) ready) = some (.malformed, some .badLength) ∧
      verdictOf .service (run (.powerOn .service (frame 0x10 [])) ready) = some (.skipped, none) ∧
      (portOf ready .service).transfer ≠ .taking := by decide +kernel

theorem witness_LecternChangesNoStandingRecord :
    exec (instrOf .blank .lectern (frame 0 [0])) ready = .next (run (ask .blank .lectern [0]) ready) := rfl

/-- A port that is TAKING, an answer decided. -/
def taking : State := run (ask .identify .service []) ready

theorem witness_PeriodWhileTakingIsDisregarded :
    (portOf taking .service).transfer = .taking ∧ commandOfCode 0xEE = none := by decide +kernel

theorem witness_PeriodsThatAreNoRequest :
    commandOfCode 0xEE = none ∧ (portOf ready .service).transfer ≠ .taking ∧ (portOf taking .service).transfer = .taking ∧
      (portOf taking .service).deciding.isSome = true ∧ 1 ≤ 1 := by decide +kernel

/-- A response of 13 words in the buffer; 14 words clock it out whole, 13 do not. -/
theorem witness_ReadPeriodGivesTheResponse :
    (portOf ready .service).response = none ∧ (portOf ready .service).transfer ≠ .taking ∧
      (portOf (run (.responseReady .service) taking) .service).transfer ≠ .taking ∧
      (portOf (run (.responseReady .service) taking) .service).response.map (fun r => (responseWords r).length) = some 13 :=
  by decide +kernel

/-- One qualifier word for each of the seven checks that fails first, and one legal word. -/
theorem witness_QualifierChecksInOrder :
    let x := portOf ready .lectern
    qualify .powerOn x 3 [] = .error .badQualifier ∧ qualify .powerOn x 1 [] = .error .badQualifier ∧
      qualify .setProfile x 1 [] = .error .badQualifier ∧ qualify .setLampMode x 2 [2, 0] = .error .badQualifier ∧
      qualify .powerOn x 4 [] = .error .badQualifier ∧ qualify .setClock x 4 [] = .error .badQualifier ∧
      qualify .cancelOccurrence x 4 [] = .error .noDayBase ∧
      qualify .powerOn x 0x70 [] = .ok ⟨.momentary, .short, .headPresent⟩ :=
  ⟨rfl, rfl, rfl, rfl, rfl, rfl, rfl, rfl⟩

/-- A notice. -/
def aNotice : Notice :=
  { kind := .lampOut, origin := .auto, stamp := none, first := 0, second := 0, lostBefore := false }

theorem witness_NoticesAreQueuedAndDelivered :
    (List.replicate 15 aNotice).length < 16 ∧ (List.replicate 16 aNotice).length = 16 := by decide

theorem witness_ReadingCommandsAnswer :
    ∀ c ∈ [Command.identify, .readLampAccount, .readLampHistory, .readPowerState, .readHeadLink, .readRoute, .readRoom,
      .readLockout, .readStore, .countFree, .readGeometry], serves c [] ready := by
  intro c h
  refine taken_of_takes ?_
  revert c
  decide +kernel

/-- Each indexed read at the last item of its range and at the first beyond it. -/
theorem witness_IndexedReadsAnswerByRange :
    (∀ n ∈ [(7 : Word), 8], serves .readSourceMap [n] ready) ∧ (∀ n ∈ [(15 : Word), 16], serves .readPreset [n] ready) ∧
      (∀ x ∈ [((0 : Word), (25 : Word)), (0, 26), (1, 30), (1, 31), (2, 0)],
        serves .readGeometryTable [x.1, x.2] ready) ∧
      (∀ n ∈ [(0 : Word), 63, 64], serves .readBooking [n] oneBooking) ∧
      (∀ n ∈ [(31 : Word), 32], serves .readExceptions [n] ready) ∧
      (serves .readOccurrences [1] ready ∧ serves .readOccurrences [1] (withRoom { ready.room with clock := Clock.unset })) ∧
      (∀ n ∈ [(3 : Word), 4], serves .digest [n] ready) ∧
      oneBooking.room.bookings[(0 : Fin 64)].isSome = true ∧ oneBooking.room.bookings[(63 : Fin 64)] = none :=
  ⟨serves_of_all (fun n => [n]) (by decide +kernel), serves_of_all (fun n => [n]) (by decide +kernel),
    serves_of_all (fun x : Word × Word => [x.1, x.2]) (by decide +kernel), serves_of_all (fun n => [n]) (by decide +kernel),
    serves_of_all (fun n => [n]) (by decide +kernel),
    ⟨taken_of_takes (by decide +kernel), taken_of_takes (by decide +kernel)⟩,
    serves_of_all (fun n => [n]) (by decide +kernel), by decide +kernel, by decide +kernel⟩

/-- READ OCCURRENCES at 09:00 of the Monday of section 6.9, in VACANT and in booking 0: the list is full past the first
occurrence, begins with the current one, and the times of every booking lie within the day. -/
theorem witness_IndexedReadsAnswerByRange_occurrences :
    (∀ n ∈ [(0 : Word), 1, 5], serves .readOccurrences [n] (monday 540 .vacant none 0 0)) ∧
      (∀ n ∈ [(0 : Word), 1, 5], serves .readOccurrences [n] (monday 540 .occupied (some 0) 0 1)) ∧
      (∀ s ∈ [monday 540 .vacant none 0 0, monday 540 .occupied (some 0) 0 1], s.room.clock.isSet = true ∧
        s.room.clock.minute ≤ 1440 ∧ (listFrom s 5 (listHead s)).map (·.1) = [⟨0, 9121⟩, ⟨1, 9121⟩, ⟨2, 9121⟩, ⟨3, 9121⟩, ⟨4, 9121⟩] ∧
        (listFrom s 6 (listHead s)).length = 6 ∧
        ∀ x ∈ listFrom s 6 (listHead s), x.2.startMinute ≤ 1440 ∧ x.2.endMinute ≤ 1440) :=
  ⟨serves_of_all (fun n => [n]) (by decide +kernel), serves_of_all (fun n => [n]) (by decide +kernel), by decide +kernel⟩

/-- SET PORT MODE with a legal scope, with an unknown one, and from LECTERN with STANDING. -/
theorem witness_PortCommandsActOnTheirPort :
    serves .readNotices [] ready ∧ serves .setDayBase [9121] ready ∧
      (serves .setPortMode [0, 1, 1, 0, 0, 0xFF] ready ∧ (portItems [0, 1, 1, 0, 0, 0xFF]).isSome = true) ∧
      (serves .setPortMode [0, 2, 1, 0, 1, 0] ready ∧ portItems [0, 2, 1, 0, 1, 0] = none) ∧
      (taken .setPortMode .lectern (frame 0 [0, 1, 1, 0, 1, 0]) ⟨.momentary, .short, .none⟩ ready ∧
        (portItems [0, 1, 1, 0, 1, 0]).bind (·.scope) = some .standing) :=
  ⟨taken_of_takes (by decide +kernel), taken_of_takes (by decide +kernel),
    ⟨taken_of_takes (by decide +kernel), by decide +kernel⟩, ⟨taken_of_takes (by decide +kernel), by decide +kernel⟩,
    ⟨taken_of_takes (by decide +kernel), by decide +kernel⟩⟩

theorem witness_BurnSecondChargesTheAccount :
    (burning 0 0).lamp.burn = some 1000 ∧ (burning 0 0).lamp.account = some { lampA with wear := 0 } := ⟨rfl, rfl⟩

theorem witness_AckedIgniteCountsAStrike :
    let s := striking 0 (some 1)
    s.link.state = .present ∧ s.link.outstanding = some ⟨.control .ignite, 0, 1, false⟩ ∧ s.power.state = .igniting ∧
      s.power.step = .sending ∧ s.lamp.account = some { lampA with wear := 0 } := ⟨rfl, rfl, rfl, rfl, rfl⟩

/-- The IGNITE rejected in IGNITING, and acknowledged in UNKNOWN; another message, another tag, nothing outstanding. -/
theorem witness_AckedIgniteCountsAStrike_of_other_acks :
    (let t := run (.ack 0 false) (striking 0 none)
     t.power.state = .standby ∧ wearOf t = some 0 ∧ t.link.lastRejection = some (.ignite, 0) ∧
       wordsOf .powerStateChanged .lectern t = [(0x0201, 0xFFFF)]) ∧
      (let s := { striking 0 none with power := PowerUnit.reset }
       s.power.state = .unknown ∧ s.link.state = .present ∧ wearOf (run (.ack 0 true) s) = some 0) ∧
      (ready.link.outstanding = none ∧ ready.link.state = .present) ∧
      (let s := { ready with link := { ready.link with outstanding := some ⟨.control .extinguish, 3, 1, false⟩ } }
       (run (.ack 3 false) s).link.lastRejection = some (.extinguish, 3) ∧
         (run (.ack 4 false) s).link.lastRejection = none) := by decide +kernel

/-- A set in the lane at a progress index, its entry outstanding, the status PENDING. -/
def transferring (n : Nat) : State :=
  let l : LaneSet := { set := computeSet 1 lecturePicture, progress := n }
  { ready with
    geometry := { ready.geometry with setNumber := 1, status := .pending }
    link := { ready.link with lane := some l, outstanding := some ⟨laneMessage l, 2, 1, true⟩ } }

/-- The first row, the last row and the last column advance the index, the COMMIT empties the lane; a rejection of
the first entry and of the COMMIT, told with their index; an entry of an earlier set. -/
theorem witness_AckedIgniteCountsAStrike_of_a_set :
    ([0, 25, 56].all fun n => (run (.ack 2 true) (transferring n)).link.lane.map (·.progress) == some (n + 1)) = true ∧
      (run (.ack 2 true) (transferring 56)).link.outstanding.map (·.msg) = some (.commit 1) ∧
      ((run (.ack 2 true) (transferring 57)).link.lane = none ∧
        (run (.ack 2 true) (transferring 57)).geometry.commitAcked = true) ∧
      (wordsOf .geometryHeld .service (run (.ack 2 false) (transferring 0)) = [(1, 0)] ∧
        wordsOf .geometryHeld .service (run (.ack 2 false) (transferring 57)) = [(1, 57)]) ∧
      (let s := { transferring 3 with link := { (transferring 3).link with outstanding := some ⟨.commit 9, 2, 1, false⟩ } }
       (run (.ack 2 false) s).link.lane = s.link.lane ∧ (run (.ack 2 false) s).geometry = s.geometry) := by
  decide +kernel

/-- Four summaries of four serials. -/
theorem witness_HistoryPushKeepsFourSerials :
    let h := [summary 1, summary 2, summary 3, summary 4]
    historyWithin h ∧ (summary 1).serial = 1 ∧ (summary 3).serial ∈ h.map (·.serial) ∧
      (summary 5).serial ∉ h.map (·.serial) := by
  refine ⟨⟨?_, ?_⟩, ?_, ?_, ?_⟩ <;> decide +kernel

theorem witness_LampReplaceAndLampSetQueueTheContent :
    serves .lampReplace [0, 41250, 3, 0] ready ∧ serves .lampSet (List.replicate 12 0) ready ∧
      ready.lamp.account = some lampA ∧ ready.power.state = .standby ∧ ready.lamp.replaceInFlight = false ∧
      isProtected ready .a = false ∧ numAt [0, 41250, 3, 0] 2 = 3 ∧ num32At [0, 41250, 3, 0] 0 ≠ lampA.serial :=
  ⟨taken_of_takes (by decide +kernel), taken_of_takes (by decide +kernel), rfl, rfl, rfl, by decide +kernel,
    by decide +kernel, by decide +kernel⟩

theorem witness_WriteCompletionStoresTheRecord :
    (∃ e slot left, (writing .lampCheckpoint).store.engine = .writing e slot left ∧ e.switch = none ∧
        e.key = .lampCheckpoint) ∧
      (∃ e slot left, (writing .exceptions).store.engine = .writing e slot left ∧ e.switch = none ∧
        e.key ≠ .lampCheckpoint) ∧
      ∃ e slot left, (run (ask .lampReplace .service [0, 41250, 3, 0]) replacing).store.engine = .writing e slot left ∧
        e.switch = some .replace ∧ e.key = .lampCheckpoint :=
  ⟨⟨_, _, _, rfl, rfl, rfl⟩, ⟨_, _, _, rfl, rfl, by decide⟩, ⟨_, _, _, rfl, rfl, rfl⟩⟩

/-- A queue with a protected, an exempt and a further entry, the engine IDLE. -/
def queued : State :=
  { ready with store := { ready.store with
      protect := 0b1110, queue := [waiting (.profile 1) .facility, waiting .lockPair .service, waiting .exceptions .auto] } }

/-- A queued key is replaced in its place; the take drops the protected entry and writes the exempt one; a wipe that
waits comes first; a write that completes takes the next. -/
theorem witness_WriteCompletionStoresTheRecord_of_the_queue :
    (let e := waiting .lockPair .facility
     queued.store.queue = [waiting (.profile 1) .facility] ++ waiting .lockPair .service :: [waiting .exceptions .auto] ∧
       (queueEntry e queued).store.queue.map (·.origin) = [.facility, .facility, .auto] ∧
       wordsOf .writeDropped .service (queueEntry e queued) = [(19, 0)]) ∧
      (isProtected queued .b = true ∧ (run .writeCompletion { queued with store := { queued.store with
          engine := .writing (waiting .lampCheckpoint .auto) 3 0 } }).store.engine =
            .writing (waiting .lockPair .service) 0 15) ∧
      ((runEngine queued).store.engine = .writing (waiting .lockPair .service) 0 15 ∧
        wordsOf .writeDropped .facility (runEngine queued) = [(4, 1)]) ∧
      (runEngine { queued with store := { queued.store with wipe := some .service } }).store.engine = .wiping 600 ∧
      (runEngine { queued with store := { queued.store with queue := [waiting (.profile 1) .facility] } }).store.queue = [] := by
  decide +kernel

/-- SET PROFILE while a write is in progress, its key queued for another port, and not queued. -/
theorem witness_WriteCompletionStoresTheRecord_of_a_request :
    let busy := fun (q : List Entry) => { writing .exceptions with store := { (writing .exceptions).store with queue := q } }
    servesStanding .setProfile [7, 3, 3, 3, 3, 3, 0] (busy [waiting (.profile 7) .facility]) ∧
      standingCheck (busy [waiting (.profile 7) .facility]) .b true [.profile 7] = none ∧
      wordsOf .writeDropped .facility (run (askStanding .setProfile .service [7, 3, 3, 3, 3, 3, 0])
        (busy [waiting (.profile 7) .facility])) = [(10, 0)] ∧
      servesStanding .setProfile [7, 3, 3, 3, 3, 3, 0] (busy []) :=
  ⟨taken_of_takes (by decide +kernel), by decide +kernel, by decide +kernel, taken_of_takes (by decide +kernel)⟩

/-- The state after reset itself: no slot is valid and nothing is tallied. -/
theorem witness_LoadWithoutCheckpointIsUnverified :
    State.reset.store.loaded = false ∧ (∀ i : Fin 4, validRecord State.reset.store.slots[i] = false) ∧
      State.reset.lamp.tally = Tally.empty ∧ State.reset.room.current = none ∧
      State.reset.room.clock.isSet = false := by decide +kernel

/-- Storage before a load: slot 0 of sequence number 4,294,967,295, slot 1 of 3, the newer, and a LOCK PAIR record of
these words; a tally of 7 units. -/
def loading (locks : List Word) : State :=
  let slot := fun n => sealed (words32 n ++ accountImage { lampA with verified := false, previous := some (summary 38006) })
  { State.reset with
    lamp := { LampUnit.reset with tally := { Tally.empty with wear := 7 } }
    store := { State.reset.store with
      slots := (State.reset.store.slots.set 0 (slot 4294967295)).set 1 (slot 3)
      records := State.reset.store.records.set (recordIndex .lockPair) (sealed locks) } }

/-- A record of a good and of a bad CRC, the four rows of the LOCK PAIR's table, the wrapped sequence numbers, and a
table free of conflicts. -/
theorem witness_LoadWithoutCheckpointIsUnverified_in_general :
    let s := loading (lockImage true)
    (s.store.loaded = false ∧ s.lamp.tally ≠ Tally.empty ∧ s.lamp.replaceInFlight = false ∧ s.room.current = none) ∧
      (validRecord (recordOf s .lockPair) = true ∧ (recordOf s .lockPair).image = lockImage true) ∧
      validRecord (recordOf (loading (lockImage false)) .lockPair) = true ∧
      (itemAt (lockImage true) 1 = ~~~ itemAt (lockImage true) 0 ∧ itemAt (lockImage true) 0 = lockWord true) ∧
      (itemAt (lockImage false) 1 = ~~~ itemAt (lockImage false) 0 ∧ itemAt (lockImage false) 0 = lockWord false) ∧
      ((5 : Word) = ~~~ 0xFFFA ∧ (5 : Word) ≠ lockWord true ∧ (5 : Word) ≠ lockWord false) ∧
      validRecord (recordOf { s with store := { s.store with
        records := s.store.records.set (recordIndex .exceptions) { image := [7], crc := 0 } } } .exceptions) = false :=
  ⟨by decide +kernel, by decide +kernel, by decide +kernel, by decide +kernel, by decide +kernel, by decide +kernel,
    by decide +kernel⟩

theorem witness_LoadWithoutCheckpointIsUnverified_of_slots :
    let s := loading (lockImage true)
    (∀ i : Fin 4, validRecord s.store.slots[i] = (i == 0 || i == 1)) ∧
      (num32At s.store.slots[(0 : Fin 4)].image 0 = 4294967295 ∧ num32At s.store.slots[(1 : Fin 4)].image 0 = 3) ∧
      (∀ n : Fin 64, bookingOf (recordOf s (.booking n)).image = none) :=
  ⟨by decide +kernel, by decide +kernel, by decide +kernel⟩

/-- A lecture of day 9,121 from 540 to 630 and one from 650 to 700, and a table of the two. -/
def first : Booking := booking (.oneOff 9121) 540 630 10 15 (some 3) .roomDefault 2
def second : Booking := booking (.oneOff 9121) 650 700 10 15 none .roomDefault 1
def lectures : Vector (Option Booking) 64 := ((Vector.replicate 64 none).set 0 (some first)).set 1 (some second)

theorem lectures_are_two : ∀ n : Fin 64, n ≠ 0 → n ≠ 1 → lectures[n] = none := by decide +kernel

theorem occurs_lectures {s : State} (h : s.room.bookings = lectures) {o : Occurrence} {b : Booking} (x : occurs s o b) :
    (o = ⟨0, 9121⟩ ∧ b = first) ∨ (o = ⟨1, 9121⟩ ∧ b = second) := by
  obtain ⟨i, d⟩ := o
  obtain ⟨hb, hd, -⟩ := x
  rw [h] at hb
  by_cases h0 : i = 0
  · subst h0
    obtain rfl : first = b := Option.some.inj hb
    simp_all [first, booking, occursOn]
  · by_cases h1 : i = 1
    · subst h1
      obtain rfl : second = b := Option.some.inj hb
      simp_all [second, booking, occursOn]
    · rw [lectures_are_two i h0 h1] at hb; cases hb

theorem times_of_lectures {s : State} (h : s.room.bookings = lectures) : timesInRange s := by
  intro n b hb
  rw [h] at hb
  by_cases h0 : n = 0
  · subst h0
    obtain rfl : first = b := Option.some.inj hb
    decide
  · by_cases h1 : n = 1
    · subst h1
      obtain rfl : second = b := Option.some.inj hb
      decide
    · rw [lectures_are_two n h0 h1] at hb; cases hb

/-- The room of the two lectures on their day, with a current lecture; those before it are taken. -/
def lecturing (minute second : Nat) (st : RoomState) (current : Option (Fin 64)) : State := withRoom { ready.room with
  bookings := lectures, clock := { day := 9121, minute := minute, second := second, isSet := true }, state := st
  current := current.map fun i => ⟨i, 9121⟩
  taken := Vector.ofFn fun i => match current with
    | some n => if i.val ≤ n.val then some 9121 else none
    | none => none }

/-- Exactly the first may be entered at 530 and at 540, the second at 640, and none at 529, 635 and 700. -/
theorem candidate_first : isCandidate (lecturing 530 0 .vacant none) ⟨0, 9121⟩ first := by
  refine ⟨by unfold mayEnter occurs; decide +kernel, fun x c h n => ?_⟩
  rcases occurs_lectures rfl h.2.1 with ⟨rfl, rfl⟩ | ⟨rfl, rfl⟩
  · exact absurd rfl n
  · revert h; unfold mayEnter occurs; decide +kernel

theorem candidate_second : isCandidate (lecturing 640 0 .occupied (some 0)) ⟨1, 9121⟩ second := by
  refine ⟨by unfold mayEnter occurs; decide +kernel, fun x c h n => ?_⟩
  rcases occurs_lectures rfl h.2.1 with ⟨rfl, rfl⟩ | ⟨rfl, rfl⟩
  · revert h; unfold mayEnter occurs; decide +kernel
  · exact absurd rfl n

theorem no_candidate (m : Nat) (st : RoomState) (c : Option (Fin 64))
    (h : (m, c) ∈ [(529, none), (630, some 0), (700, some 1)]) : ∀ o b, ¬ mayEnter (lecturing m 0 st c) o b := by
  intro o b x
  simp only [List.mem_cons, Prod.mk.injEq, List.not_mem_nil, or_false] at h
  rcases occurs_lectures rfl x.2.1 with ⟨rfl, rfl⟩ | ⟨rfl, rfl⟩ <;> rcases h with ⟨rfl, rfl⟩ | ⟨rfl, rfl⟩ | ⟨rfl, rfl⟩ <;>
    revert x <;> unfold mayEnter occurs <;> cases st <;> decide +kernel

/-- Storage before a load with the two lectures and one in slot 2 that conflicts with the first, an exception of a
ONE-OFF booking, and the clock as a RESTART leaves it. -/
def restarted : State :=
  let put := fun (r : Vector StoredRecord 101) (n : Fin 64) (b : Booking) =>
    r.set (recordIndex (.booking n)) (sealed (bookingImage (some b)))
  { State.reset with
    room := { State.reset.room with clock := { day := 9121, minute := 545, second := 0, isSet := true } }
    store := { State.reset.store with
      protect := 0
      records := (put (put (put State.reset.store.records 0 first) 1 second) 2 first).set (recordIndex .exceptions)
        (sealed (exceptionsImage [⟨0, 9121⟩])) } }

theorem witness_LoadWithoutCheckpointIsUnverified_after_restart :
    (restarted.store.loaded = false ∧ restarted.room.current = none ∧ restarted.room.state = .vacant ∧
        restarted.power.state = .unknown ∧ restarted.link.state = .awaiting ∧ restarted.power.reportWait ≠ none ∧
        restarted.router.resolved = false ∧ restarted.store.queue = [] ∧ restarted.store.wipe = none ∧
        isProtected restarted .d = false) ∧
      (validRecord (recordOf restarted (.booking 2)) = true ∧
        bookingOf (recordOf restarted (.booking 0)).image = some first ∧
        bookingOf (recordOf restarted (.booking 2)).image = some first ∧ conflicts first first = true) ∧
      (recordOf restarted .exceptions = sealed (exceptionsImage [⟨0, 9121⟩]) ∧
        validRecord (sealed (exceptionsImage [⟨0, 9121⟩])) = true ∧
        exceptionsOf (recordOf restarted .exceptions).image = [⟨0, 9121⟩]) :=
  ⟨by decide +kernel, by decide +kernel, by simp [recordOf, restarted], by simp [validRecord, sealed], by decide +kernel⟩

/-- The runner's part of that load: the first lecture is entered, OCCUPIED, with its source and an ON intent; slot 2
is freed and its empty record sent, and the exception goes. At 535 the room is PREPARING, at 529 VACANT; with the
clock UNSET CLOCK NEEDED is told, and the list that became shorter is queued. -/
theorem test_load_of_the_room :
    let s := fun (c : Clock) => { restarted with
      store := { restarted.store with loaded := true }
      room := { restarted.room with clock := c, bookings := lectures.set 2 (some first), exceptions := [⟨0, 9121⟩] } }
    let at' := fun (m : Nat) => loadRoom (s { day := 9121, minute := m, second := 0, isSet := true })
    ((at' 545).room.state = .occupied ∧ (at' 545).room.current = some ⟨0, 9121⟩ ∧ (at' 545).router.requested = some 3 ∧
        (at' 545).power.restartPending = true ∧ (at' 545).power.ignitionOrigin = some .schedule) ∧
      ((at' 545).room.bookings = lectures ∧ (at' 545).room.exceptions = [] ∧
        (at' 545).store.queue.map (·.key) = [.booking 2, .exceptions]) ∧
      (at' 535).room.state = .preparing ∧ (at' 529).room.state = .vacant ∧
      kindsOf .service (loadRoom (s Clock.unset)) = [.recordDefaulted, .clockNeeded] := by decide +kernel

/-- In that load the first lecture is the candidate, and its times lie in their ranges. -/
theorem witness_LoadWithoutCheckpointIsUnverified_of_a_candidate :
    let u := { restarted with room := { restarted.room with bookings := lectures } }
    timesInRange u ∧ isCandidate u ⟨0, 9121⟩ first := by
  refine ⟨times_of_lectures rfl, by unfold mayEnter occurs; decide +kernel, fun x c h n => ?_⟩
  rcases occurs_lectures rfl h.2.1 with ⟨rfl, rfl⟩ | ⟨rfl, rfl⟩
  · exact absurd rfl n
  · revert h; unfold mayEnter occurs; decide +kernel

/-- A state in which exactly the condition named is the first of the refusal test. -/
theorem witness_RefusalTestStopsAtTheFirst :
    refusalTest { faulted with lamp := { ready.lamp with replaceInFlight := true } } .auto = some .lampChangeInProgress ∧
      refusalTest { faulted with lamp := { ready.lamp with level := some .hardStop } } .facility = some .lampExpired ∧
      refusalTest { faulted with lamp := { ready.lamp with level := some .hardStop } } .service = some .lampFault ∧
      refusalTest (withPower { ready.power with thermalHold := true }) .auto = some .thermalHold ∧
      refusalTest { ready with link := { ready.link with state := .lost } } .auto = some .headLost ∧
      refusalTest ready .auto = none := by decide +kernel

/-- POWER ON and POWER OFF are taken in every power state. -/
theorem witness_PowerOnByPowerState : ∀ u : PowerState,
    serves .powerOn [] (withPower { ready.power with state := u }) := by
  intro u
  refine taken_of_takes ?_
  cases u <;> decide +kernel

/-- POWER OFF in every power state, and in IGNITING in each step. -/
theorem witness_PowerOffByPowerState : ∀ (u : PowerState) (x : StrikeStep),
    serves .powerOff [] (withPower { ready.power with state := u, step := x }) := by
  intro u x
  refine taken_of_takes ?_
  cases u <;> cases x <;> decide +kernel

/-- IGNITING at an attempt, awaiting its result, with off pending or not. -/
def awaitingResult (n : Nat) (off : Bool) : State :=
  withPower { ready.power with
    state := .igniting, attempt := n, step := .awaitingResult, strikeTimer := some 0, offPending := off }

/-- Attempt 2 pauses, attempt 3 ends in FAULT, and off pending ends in STANDBY. -/
theorem witness_StrikeResultsAndTimeout :
    (awaitingResult 2 false).link.state = .present ∧ (awaitingResult 2 false).power.state = .igniting ∧
      (awaitingResult 2 false).power.step = .awaitingResult ∧ (awaitingResult 2 false).power.strikeTimer ≠ none ∧
      (run .strikeResultTimeout (awaitingResult 2 false)).power.step = .pause ∧
      (run .strikeResultTimeout (awaitingResult 3 false)).power.state = .fault ∧
      (run (.strikeResult false) (awaitingResult 3 true)).power.state = .standby := by decide +kernel

/-- The three timed ends, with the off pending set and clear, and with the refusal test passed and failed. -/
theorem witness_TimedPowerStatesEnd :
    let pause : State := withPower { ready.power with state := .igniting, attempt := 2, step := .pause, pauseTimer := some 0 }
    let warm : State := withPower { ready.power with state := .warming, warmingTimer := some 0, offPending := true }
    let cool : State := withPower { ready.power with state := .cooling, coolingTimer := some 0, restartPending := true }
    (refusalTest pause .auto = none ∧ (run .restrikePauseExpiry pause).power.attempt = 3) ∧
      ((run .warmingEnd warm).power.state = .cooling ∧
        (run .warmingEnd { warm with link := { ready.link with state := .lost } }).power.state = .on) ∧
      (run .coolingEnd cool).power.state = .igniting ∧
      (run .coolingEnd { cool with power := { cool.power with thermalHold := true } }).power.state = .standby ∧
      (let dropped := { cool with power := { cool.power with thermalHold := true, ignitionOrigin := some .schedule } }
       refusalTest dropped .schedule = some .thermalHold ∧
         wordsOf .powerRequestRefused .facility (run .coolingEnd dropped) = [(18, 0xFFFF)]) := by decide +kernel

/-- A REPORT of a lamp. -/
def reportLamp (l : HeadLamp) (hot : Bool) (t : Temperature) : Report :=
  { lamp := l, hot := hot, shutterClosed := false, restarted := false, temperature := t, committed := none }

/-- UNKNOWN before the first REPORT, the link PRESENT. -/
def unknown : State := withPower { PowerUnit.reset with reportWait := some 1000 }

theorem witness_ReportsAreActedOn :
    unknown.power.state = .unknown ∧ unknown.link.state = .present ∧ unknown.power.restartPending = false ∧
      unknown.power.offPending = false ∧
      (run (.report (reportLamp .lit true .over)) unknown).power.state = .cooling ∧
      (run (.report (reportLamp .lit false .ok)) unknown).power.state = .on ∧
      (run (.report (reportLamp .striking false .ok)) unknown).power.state = .warming ∧
      (run (.report (reportLamp .dark true .ok)) unknown).power.state = .cooling ∧
      (run (.report (reportLamp .dark false .ok)) unknown).power.state = .standby ∧
      (run (.report (reportLamp .dark false .ok)) (burning 0 0)).power.state = .cooling ∧
      (let first := { unknown with link := LinkUnit.reset }
       first.link.state = .awaiting ∧ (run (.report (reportLamp .lit false .ok)) first).link.state = .present) := by
  decide +kernel

/-- The intents held at adoption: ON with the lamp LIT, STRIKING, hot, cold, before the load and with a hold; OFF. -/
theorem witness_ReportsAreActedOn_with_intents :
    let on := fun (o : Origin) => { unknown with power := { unknown.power with
      restartPending := true, ignitionOrigin := some o } }
    let off := { unknown with power := { unknown.power with offPending := true } }
    let at' := fun (s : State) (l : HeadLamp) (hot : Bool) => (run (.report (reportLamp l hot .ok)) s).power
    ((at' (on .facility) .lit false).state = .on ∧ (at' (on .facility) .striking false).state = .warming ∧
        (at' (on .facility) .dark true).restartPending = true ∧ (at' (on .facility) .dark false).state = .igniting) ∧
      (let early := { on .facility with store := StoreUnit.reset ready.store.slots ready.store.records }
       (at' early .dark false).state = .standby ∧ (at' early .dark false).restartPending = true) ∧
      (let worn := { on .facility with lamp := { ready.lamp with level := some .hardStop } }
       (at' worn .dark false).state = .standby ∧ (at' worn .dark false).restartPending = false ∧
         (at' { on .service with lamp := { ready.lamp with level := some .hardStop } } .dark false).state = .igniting) ∧
      (at' off .lit false).state = .cooling ∧ (at' off .striking false).offPending = true ∧
        (at' off .dark false).offPending = false := by decide +kernel

/-- A LIT lamp awaiting its result and in SENDING; a burning lamp in STANDBY; OVER in ON, in PAUSE and in SENDING; the
hold released in STANDBY and kept in COOLING; a deferred off; a shutter sent again; a set applied. -/
theorem witness_ReportsAreActedOn_by_state :
    let power := fun (s : State) (l : HeadLamp) (t : Temperature) => (run (.report (reportLamp l false t)) s).power
    let striking' := fun (x : StrikeStep) => withPower { ready.power with state := .igniting, attempt := 1, step := x }
    let held := fun (u : PowerState) => withPower { ready.power with state := u, thermalHold := true }
    ((power (striking' .awaitingResult) .lit .ok).state = .warming ∧ (power (striking' .sending) .lit .ok).state = .igniting) ∧
      controlInHand (run (.report (reportLamp .lit false .ok)) ready) .extinguish = true ∧
      ((power (burning 0 0) .lit .over).state = .cooling ∧ (power (striking' .pause) .dark .over).state = .standby ∧
        (power (striking' .sending) .dark .over).offPending = true) ∧
      ((power (held .standby) .dark .ok).thermalHold = false ∧ (power (held .cooling) .dark .ok).thermalHold = true ∧
        (power (held .fault) .dark .warm).thermalHold = true) ∧
      (power (withPower { ready.power with state := .on, offPending := true }) .lit .ok).state = .cooling ∧
      (run (.report { reportLamp .dark false .ok with shutterClosed := true }) ready).link.outstanding.map (·.msg) =
        some (.control (.shutter false)) ∧
      (let s := { transferring 57 with geometry := { (transferring 57).geometry with
        commitAcked := true, active := some (2, .momentary), current := some (computeSet 1 lecturePicture) } }
       wordsOf .geometryApplied .service (run (.report { reportLamp .dark false .ok with committed := some 1 }) s) =
         [(1, 2)]) := by decide +kernel

/-- BLANK at the last operation and the first beyond; SET LAMP MODE by scope, with and without protection. -/
theorem witness_BlankAndLampMode :
    serves .blank [0] ready ∧ serves .blank [1] ready ∧ serves .blank [2] ready ∧ serves .setLampMode [0, 1] ready ∧
      lampModeItem [0, 1] = some (some .eco) ∧ servesStanding .setLampMode [0, 1] ready ∧
      standingCheck ready .c false [.roomDefaults] = none ∧
      servesStanding .setLampMode [0, 1] { ready with store := { ready.store with protect := 0b0100 } } ∧
      standingCheck { ready with store := { ready.store with protect := 0b0100 } } .c false [.roomDefaults] =
        some .regionProtected :=
  ⟨taken_of_takes (by decide +kernel), taken_of_takes (by decide +kernel), taken_of_takes (by decide +kernel),
    taken_of_takes (by decide +kernel), rfl, taken_of_takes (by decide +kernel), by decide +kernel,
    taken_of_takes (by decide +kernel), by decide +kernel⟩

/-- The order of the effective mode: level, closed time, momentary, booking, default. -/
theorem witness_BlankAndLampMode_order :
    let eco := withPower { ready.power with momentaryMode := some .eco }
    let booked := fun (m : BookingLampMode) => withRoom { ready.room with
      state := .occupied, current := some ⟨0, 9121⟩
      bookings := (Vector.replicate 64 none).set 0 (some (booking (.oneOff 9121) 540 630 10 15 none m 2)) }
    decideMode { ready with lamp := { ready.lamp with level := some .warn } } = (.eco, .level) ∧
      decideMode (withPower { ready.power with dimmed := true }) = (.eco, .blankDim) ∧
      decideMode eco = (.eco, .momentary) ∧ decideMode (booked .eco) = (.eco, .booking) ∧
      decideMode (booked .roomDefault) = (.normal, .roomDefault) ∧
      (eco.power.modeEvaluated = true ∧ (evalLampMode eco).link.control = [.lampMode .eco]) ∧
      (evalLampMode { eco with link := { ready.link with state := .lost } }).link.control = [] := by decide +kernel

/-- The no-signal timer out in ON, in a VACANT and in an OCCUPIED room; the blank-dim timer running. -/
theorem witness_IdleTimersOfTheLamp :
    let s := fun (r : RoomState) => { burning 0 0 with
      router := { ready.router with noSignal := some 0 }, room := { ready.room with state := r } }
    (run .noSignalTimerExpiry (s .vacant)).power.state = .cooling ∧
      (run .noSignalTimerExpiry (s .occupied)).power.shutter = some .closedAuto ∧
      (run .noSignalTimerExpiry { s .vacant with link := { ready.link with state := .lost } }).power.offPending = true ∧
      (withPower { ready.power with blankDim := some 300001 }).power.modeEvaluated = true := by decide +kernel

theorem witness_ClearFaultAndLeaveCommission :
    serves .clearFault [] faulted ∧ faulted.power.state = .fault ∧ serves .clearFault [] ready ∧
      serves .leaveCommission [] commission ∧ commission.lockout.mode = .commission ∧ serves .leaveCommission [] ready :=
  ⟨taken_of_takes (by decide +kernel), rfl, taken_of_takes (by decide +kernel), taken_of_takes (by decide +kernel), rfl,
    taken_of_takes (by decide +kernel)⟩

/-- A lane with EXTINGUISH and SHUTTER queued: an IGNITE takes the EXTINGUISH away, a SHUTTER takes its place. -/
theorem witness_ControlLaneAndServingOrder :
    laneWithin [.extinguish, .shutter true] ∧
      (handControl .ignite { ready with link := { ready.link with control := [.extinguish, .shutter true] } }).link.control =
        [.shutter true, .ignite] ∧
      (handControl (.shutter false) { ready with link := { ready.link with
        control := [.shutter true, .statusRequest] } }).link.control = [.shutter false, .statusRequest] := by
  refine ⟨⟨?_, ?_⟩, ?_, ?_⟩ <;> decide +kernel

/-- One send of three, and three of three: the limit is the retry count, 2, plus one. -/
theorem witness_LinkTimersResendOrLose :
    (retried 2).link.outstanding.map (·.sends) = some 2 ∧ (retried 2).link.answer ≠ none ∧
      (retried 2).link.state = .present ∧ (retried 2).link.silence ≠ none ∧
      (retried 2).store.install.retryCount + 1 = 3 ∧ (run .answerTimerExpiry (retried 2)).link.state = .present ∧
      resending.link.outstanding.map (·.tag) = some 2 ∧ resending.link.transmit ≠ [] ∧
      resending.link.state = .present ∧
      (let freed := run (.ack 2 true) resending
       freed.link.outstanding = none ∧ freed.link.transmit ≠ [] ∧
         (freed.link.control.head?.map HeadMsg.control).or (freed.link.lane.map laneMessage) =
           some (.control (.lampMode .eco))) := by decide +kernel

/-- An ACK in LOST, the room VACANT or PREPARING with the lamp in STANDBY, and in AWAITING; a head restart in STANDBY. -/
theorem witness_LinkTimersResendOrLose_of_the_head :
    let lost := fun (r : RoomState) => { ready with
      link := { LinkUnit.reset with state := .lost, lostFor := some 8450 }, room := { ready.room with state := r } }
    let awaiting := { ready with link := LinkUnit.reset }
    (lost .vacant).link.outstanding = none ∧ (lost .vacant).geometry.started = true ∧
      wordsOf .headReturned .service (run (.ack 5 true) (lost .vacant)) = [(8, 0x10)] ∧
      (lost .preparing).power.state = .standby ∧ (lost .preparing).lamp.replaceInFlight = false ∧
      (lost .preparing).lamp.level ≠ some .hardStop ∧ (lost .preparing).power.thermalHold = false ∧
      (run (.ack 5 true) (lost .preparing)).power.state = .igniting ∧
      awaiting.link.state = .awaiting ∧ awaiting.link.outstanding = none ∧
      (run (.ack 5 true) awaiting).link.outstanding.map (·.msg) = some (.control .statusRequest) ∧
      ready.link.reportImage = none ∧
      wordsOf .headRestarted .service (run (.report { reportLamp .dark false .warm with restarted := true }) ready) =
        [(0xFFFF, 0xFFFF)] := by decide +kernel

/-- STRIKE RESULT, FORMAT and REPORT in LOST, and in AWAITING, where they call for nothing further. -/
theorem witness_LinkTimersResendOrLose_of_each_message :
    let picture : SignalFormat := ⟨1920, 1080, 60⟩
    let quiet := { ready with router := { ready.router with state := .stable, format := .signal picture } }
    let lost := { quiet with link := { LinkUnit.reset with state := .lost, lostFor := some 8450 } }
    let awaiting := { quiet with link := LinkUnit.reset }
    let calm : Report := reportLamp .dark false .warm
    (lost.router.resolved = true ∧ lost.power.state = .standby ∧ lost.room.state = .vacant ∧ lost.power.state ≠ .igniting) ∧
      (wordsOf .headReturned .service (run (.strikeResult true) lost) = [(8, 0x12)] ∧
        wordsOf .headReturned .service (run (.format 1920 1080 60) lost) = [(8, 0x13)] ∧
        wordsOf .headReturned .service (run (.report calm) lost) = [(8, 0x11)]) ∧
      (controlInHand (run (.format 1920 1080 60) lost) .statusRequest = true ∧
        controlInHand (run (.report calm) lost) .statusRequest = false) ∧
      (controlInHand (run (.strikeResult false) awaiting) .statusRequest = true ∧
        controlInHand (run (.format 1920 1080 60) awaiting) .lampMode = false ∧
        controlInHand (run (.report calm) awaiting) .statusRequest = false) := by decide +kernel

/-- SELECT SOURCE outside a settle; while SETTLING with the slot empty, held by a lower rank, and by a higher. -/
theorem witness_SelectSourceMomentary :
    let settling := fun (h : Option RouteRequest) =>
      { race with router := { race.router with state := .settling, settle := some 500, pendingSlot := h } }
    race.router.resolved = true ∧ serves .selectSource [7] race ∧ serves .selectSource [3] (settling none) ∧
      serves .selectSource [3] (settling (some ⟨2, .facility, .momentary⟩)) ∧
      taken .selectSource .lectern (frame 0 [3]) ⟨.momentary, .short, .none⟩
        (settling (some ⟨2, .facility, .momentary⟩)) ∧
      (classOrder race.room.state).idxOf .facility < (classOrder race.room.state).idxOf .lectern ∧
      serves .selectSource [8] race ∧ servesStanding .selectSource [7] race ∧
      standingCheck race .c false [.roomDefaults] = none ∧
      (servesStanding .selectSource [7] { race with store := { race.store with protect := 0b0100 } } ∧
        standingCheck { race with store := { race.store with protect := 0b0100 } } .c false [.roomDefaults] =
          some .regionProtected) ∧
      serves .selectSource [7] { race with router := { race.router with resolved := false } } ∧
      (classOrder race.room.state).idxOf .service ≤ (classOrder race.room.state).idxOf .facility :=
  ⟨rfl, taken_of_takes (by decide +kernel), taken_of_takes (by decide +kernel), taken_of_takes (by decide +kernel),
    taken_of_takes (by decide +kernel), by decide +kernel, taken_of_takes (by decide +kernel),
    taken_of_takes (by decide +kernel), by decide +kernel, ⟨taken_of_takes (by decide +kernel), by decide +kernel⟩,
    taken_of_takes (by decide +kernel), by decide +kernel⟩

/-- A settle with no request held. -/
def settled : State := { race with router := { race.router with state := .settling, settle := some 0 } }

theorem witness_SettleEndsInARouteState :
    settled.router.state = .settling ∧ settled.router.resolved = true ∧ settled.router.pendingSlot = none ∧
      settled.router.deferred = false ∧ settled.link.state = .present ∧ settled.router.settle ≠ none ∧
      (run (.format 1 1 0) settled).router.state = .stable ∧ (run (.format 1 0 0) settled).router.state = .noSignal ∧
      (run .settleTimerExpiry settled).router.format = .unknown := by decide +kernel

/-- The settle's end with a request held, permitted or not, and a re-resolution deferred; FORMAT in STABLE and NO
SIGNAL. -/
theorem witness_SettleEndsInARouteState_with_a_request :
    let held := fun (o : Origin) (d : Bool) => { settled with router := { settled.router with
      pendingSlot := some ⟨3, o, .momentary⟩, deferred := d } }
    let barred := { held .service true with lockout := { ready.lockout with serviceEnabled := false } }
    permission (held .lectern false) .lectern .source .momentary = none ∧
      (run .settleTimerExpiry (held .lectern false)).router.requested = some 3 ∧
      permission barred .service .source .momentary = some .serviceDisabled ∧ barred.router.requested = some 0 ∧
      (run .settleTimerExpiry barred).router.requested = some 0 ∧
      wordsOf .requestDisplaced .service (run .settleTimerExpiry barred) = [(3, 0x04FF)] ∧
      (let deferred := { settled with router := { settled.router with deferred := true } }
       deferred.router.pendingSlot = none ∧ deferred.router.deferred = true ∧ deferred.router.requested = some 0) ∧
      race.router.state = .stable ∧ race.router.resolved = true ∧ race.link.state = .present ∧
      (run (.format 0 1 0) race).router.state = .noSignal ∧ ready.router.state = .noSignal ∧
      (run (.format 1 1 0) ready).router.state = .stable := by decide +kernel

/-- IN6 is PRESENT and on no chain; its line falls. The sample before the first resolution. -/
theorem witness_PresenceIsDebounced :
    ready.router.raw[(5 : Fin 6)] ≠ false ∧ ready.router.debounced = some (Vector.replicate 6 true) ∧
      (run (.presenceLineChange 5 false) ready).router.stability[(5 : Fin 6)] ≠ none ∧
      State.reset.router.sample ≠ none ∧
      ({ State.reset with store := { State.reset.store with loaded := true } } : State).router.resolved = false := by
  decide +kernel

/-- IN1, on the chain with no entry following it, falls; IN4, followed by S3, rises outside a settle and in one. -/
theorem witness_PresenceIsDebounced_on_the_chain :
    let falls := { race with router := { race.router with
      sources := hall.set 3 (entry 3 (some 1) false), raw := race.router.raw.set 0 false
      stability := race.router.stability.set 0 (some 0) } }
    let rises := fun (x : RouteState) => { race with router := { race.router with
      debounced := some #v[true, true, true, false, false, false], state := x
      stability := race.router.stability.set 3 (some 0) } }
    (∀ x : Fin 8, falls.router.sources[x].autoFollow = false) ∧ ((0 : Fin 8), some (0 : Fin 6)) ∈ falls.router.chain ∧
      falls.router.raw[(0 : Fin 6)] = false ∧ falls.router.requested = some 0 ∧
      (rises .stable).router.raw[(3 : Fin 6)] = true ∧ hall[(3 : Fin 8)].autoFollow = true ∧
      hall[(3 : Fin 8)].input = some 3 ∧
      (∀ z : Fin 8, hall[z].autoFollow = true → hall[z].input = some 3 → 3 ≤ z.val ∧ race.router.requested ≠ some z) ∧
      (run (.stabilityTimerExpiry 3) (rises .stable)).router.requested = some 3 ∧
      (run (.stabilityTimerExpiry 3) (rises .settling)).router.pendingSlot = some ⟨3, .auto, .momentary⟩ := by
  decide +kernel

/-- After the first settle end a set differs from none computed; REAPPLY GEOMETRY before and after it. -/
theorem witness_GeometrySetsAreMade :
    ready.geometry.started = true ∧ serves .reapplyGeometry [] ready ∧
      serves .reapplyGeometry [] { ready with geometry := GeometryUnit.reset } ∧
      (run (ask .reapplyGeometry .service []) ready).geometry.setNumber = 1 ∧
      ({ ready with geometry := GeometryUnit.reset } : State).geometry.started = false :=
  ⟨rfl, taken_of_takes (by decide +kernel), taken_of_takes (by decide +kernel), by decide +kernel, rfl⟩

/-- Each cause of the active preset; an overlay field, a preset field and each content aspect. -/
theorem witness_GeometrySetsAreMade_inputs :
    let bound := { ready with router := { ready.router with
      sources := ready.router.sources.set 0 { defaultSource with preset := some 5 } } }
    let booked := { bound with room := { ready.room with
      state := .occupied, current := some ⟨0, 9121⟩
      bookings := (Vector.replicate 64 none).set 0
        (some { booking (.oneOff 9121) 540 630 10 15 none .eco 2 with preset := some 4 }) } }
    let shown := fun (w h : Word) => { ready with geometry := { ready.geometry with
      active := some (0, .roomDefault), overlay := { Overlay.empty with kv := some 7 }, format := .signal ⟨w, h, 60⟩ } }
    choosePreset ready = (0, .roomDefault) ∧ choosePreset bound = (5, .source) ∧ choosePreset booked = (4, .booking) ∧
      choosePreset { booked with geometry := { ready.geometry with momentary := some 3 } } = (3, .momentary) ∧
      ((inputsNow (shown 1920 1080)).kv = 7 ∧ (inputsNow (shown 1920 1080)).content = .wide) ∧
      (inputsNow (shown 1920 1200)).content = .fill ∧ (inputsNow (shown 1024 768)).content = .standard ∧
      (inputsNow { shown 1 1 with geometry := { (shown 1 1).geometry with format := .unknown } }).ws = 1920 := by
  decide +kernel

/-- Each MOMENTARY geometry command with a value, KEEP or CLEAR, at a limit and beyond it. -/
theorem witness_MomentaryGeometryCommands :
    (serves .setKeystone [0, 40, 0, 31] ready ∧ fieldAt (-40) 40 [0, 40, 0, 31] 0 = some (.value 40, false) ∧
        fieldAt (-30) 30 [0, 40, 0, 31] 2 = some (.value 30, true)) ∧
      (serves .nudgeKeystone [1, 0xFFFF] ready ∧ enumAt axisList [1, 0xFFFF] 0 = some .horizontal) ∧
      (serves .setCorner [3, 1, 0, 2, 0] ready ∧ fieldAt (-64) 64 [3, 1, 0, 2, 0] 1 = some (.keep, false) ∧
        fieldAt (-64) 64 [3, 1, 0, 2, 0] 3 = some (.clear, false)) ∧
      (serves .setAspect [0, 3] ready ∧ (aspectItem [0, 3]).isSome = true) ∧
      (serves .loadPreset [0, 15] ready ∧ presetItem [0, 15] = some (some 15)) ∧
      (serves .loadPreset [2, 0] ready ∧ presetItem [2, 0] = some none) :=
  ⟨⟨taken_of_takes (by decide +kernel), by decide +kernel, by decide +kernel⟩,
    ⟨taken_of_takes (by decide +kernel), by decide +kernel⟩,
    ⟨taken_of_takes (by decide +kernel), by decide +kernel, by decide +kernel⟩,
    ⟨taken_of_takes (by decide +kernel), by decide +kernel⟩, ⟨taken_of_takes (by decide +kernel), by decide +kernel⟩,
    ⟨taken_of_takes (by decide +kernel), by decide +kernel⟩⟩

/-- Each STANDING geometry command, its checks passed, and one whose region is protected. -/
theorem witness_StandingGeometryCommands :
    servesStanding .setKeystone [0, 40, 1, 0] ready ∧ servesStanding .nudgeKeystone [0, 1] ready ∧
      servesStanding .setCorner [0, 0, 64, 1, 0] ready ∧ servesStanding .setAspect [0, 1] ready ∧
      servesStanding .savePreset [15, 3, 0] ready ∧ nameItem [15, 3, 0] = some none ∧
      servesStanding .loadPreset [0, 15] ready ∧ standingCheck ready .c true [.preset 15] = none ∧
      standingCheck ready .c true [.preset (activePreset ready)] = none ∧
      standingCheck ready .c false [.roomDefaults] = none ∧
      standingCheck { ready with store := { ready.store with protect := 0b0100 } } .c true [.preset 0] =
        some .regionProtected :=
  ⟨taken_of_takes (by decide +kernel), taken_of_takes (by decide +kernel), taken_of_takes (by decide +kernel),
    taken_of_takes (by decide +kernel), taken_of_takes (by decide +kernel), by decide +kernel,
    taken_of_takes (by decide +kernel), by decide +kernel, by decide +kernel, by decide +kernel, by decide +kernel⟩

/-- The clock at the last second of a minute, of a day and of day 65535; SET CLOCK at minute 1439 and 1440, second 59
and 60. -/
theorem witness_ClockIsAdvancedAndSet :
    let at59 := fun (d m : Nat) => withRoom { ready.room with clock := { day := d, minute := m, second := 59, isSet := true } }
    (run .clockSecond (at59 9121 1438)).room.clock = { day := 9121, minute := 1439, second := 0, isSet := true } ∧
      (run .clockSecond (at59 9121 1439)).room.clock = { day := 9122, minute := 0, second := 0, isSet := true } ∧
      (run .clockSecond (at59 65535 1439)).room.clock.isSet = false ∧
      (run .clockSecond ready).room.clock = { day := 9121, minute := 785, second := 31, isSet := true } ∧
      takes .setClock .service (frame 0 [1, 1439, 59]) plain ready = true ∧
      takes .setClock .service (frame 0 [1, 1440, 59]) plain ready = true ∧
      takes .setClock .service (frame 0 [1, 1439, 60]) plain ready = true ∧
      (∀ n : Fin 64, ready.room.bookings[n] = none) := by decide +kernel

/-- A minute step of the two lectures: the first entered at 530, OCCUPIED at 540, kept at 541 and ended at 630, where
the second is near; the second entered back-to-back at 640 and ended at 700, where none is near. -/
theorem witness_ClockIsAdvancedAndSet_evaluation :
    let at' := fun (m : Nat) (st : RoomState) (c : Option (Fin 64)) =>
      ((run .clockSecond (lecturing m 59 st c)).room.state, (run .clockSecond (lecturing m 59 st c)).room.current)
    (at' 529 .vacant none = (.preparing, some ⟨0, 9121⟩) ∧ at' 539 .preparing (some 0) = (.occupied, some ⟨0, 9121⟩) ∧
        at' 540 .occupied (some 0) = (.occupied, some ⟨0, 9121⟩) ∧ at' 629 .occupied (some 0) = (.vacant, none) ∧
        at' 639 .occupied (some 0) = (.preparing, some ⟨1, 9121⟩) ∧ at' 699 .occupied (some 1) = (.vacant, none)) ∧
      ((run .clockSecond (lecturing 629 59 .occupied (some 0))).room.scheduleBlank = true ∧
        (run .clockSecond (lecturing 699 59 .occupied (some 1))).room.scheduleBlank = false) ∧
      (run .clockSecond (withRoom { (lecturing 1439 59 .vacant none).room with
        clock := { day := 65535, minute := 1439, second := 59, isSet := true } })).room.clock.isSet = false := by
  decide +kernel

/-- What these steps meet: the candidates, those with none, and the next occurrence near or not. -/
theorem witness_ClockIsAdvancedAndSet_premises :
    (isCandidate (lecturing 530 0 .vacant none) ⟨0, 9121⟩ first ∧
        isCandidate (lecturing 640 0 .occupied (some 0)) ⟨1, 9121⟩ second) ∧
      (∀ o b, ¬ mayEnter (lecturing 529 0 .vacant none) o b) ∧ (∀ o b, ¬ mayEnter (lecturing 630 0 .occupied (some 0)) o b) ∧
      (∀ o b, ¬ mayEnter (lecturing 700 0 .occupied (some 1)) o b) ∧ timesInRange (lecturing 529 59 .vacant none) ∧
      nextIsNear (lecturing 630 0 .occupied (some 0)) ∧ ¬ nextIsNear (lecturing 700 0 .occupied (some 1)) := by
  refine ⟨⟨candidate_first, candidate_second⟩, no_candidate _ _ _ (by simp), no_candidate _ _ _ (by simp),
    no_candidate _ _ _ (by simp), times_of_lectures rfl, ⟨rfl, ⟨1, 9121⟩, second, ?_⟩, ?_⟩
  · unfold occurs; decide +kernel
  · rintro ⟨-, o, b, h, x⟩
    rcases occurs_lectures rfl h with ⟨rfl, rfl⟩ | ⟨rfl, rfl⟩ <;> revert x <;> decide +kernel

/-- SET CLOCK from 530 to 641 passes the first lecture's end, which is told and marked taken, and enters the second;
back to 529 from the first lecture it ends it. -/
theorem witness_ClockIsAdvancedAndSet_jump :
    (let s := lecturing 530 10 .vacant none
     takes .setClock .service (frame 0 [9121, 641, 0]) plain s = true ∧
       (let t := run (ask .setClock .service [9121, 641, 0]) s
        wordsOf .occurrenceMissed .service t = [(0, 9121)] ∧ t.room.taken[(0 : Fin 64)] = some 9121 ∧
          t.room.current = some ⟨1, 9121⟩ ∧ wordsOf .roomStateChanged .service t = [(0x0011, 1)])) ∧
      (let t := run (ask .setClock .service [9121, 529, 0]) (lecturing 545 10 .occupied (some 0))
       t.room.state = .vacant ∧ t.room.taken[(0 : Fin 64)] = some 9121 ∧ kindsOf .service t =
         [.roomStateChanged, .routeChanged]) := by decide +kernel

/-- The words of a ONE-OFF booking of day 9,200. -/
def bookingWordsOf (start stop : Word) : List Word := [0, 0, 3, 0, 9200, start, stop, 5, 3, 0, 3, 0, 2, 0, 0, 15, 0]

/-- ADD into slot 1, the lowest free; CHANGE and REMOVE of slot 0. -/
theorem witness_BookingEditsChangeTheTable :
    isProtected oneBooking .d = false ∧ serves .addBooking (bookingWordsOf 540 630) oneBooking ∧
      (run (ask .addBooking .service (bookingWordsOf 540 630)) oneBooking).room.bookings[(1 : Fin 64)].isSome = true ∧
      serves .changeBooking (0 :: bookingWordsOf 600 660) oneBooking ∧
      verdictOf .service (run (ask .changeBooking .service (0 :: bookingWordsOf 600 660)) oneBooking) = some (.done, none) ∧
      serves .removeBooking [0] oneBooking ∧ oneBooking.room.bookings[(0 : Fin 64)] ≠ none ∧
      verdictOf .service (run (ask .removeBooking .service [0]) oneBooking) = some (.done, none) :=
  ⟨by decide +kernel, taken_of_takes (by decide +kernel), by decide +kernel, taken_of_takes (by decide +kernel),
    by decide +kernel, taken_of_takes (by decide +kernel), by decide +kernel, by decide +kernel⟩

/-- The Monday's table with one exception: booking 0 on Wednesday, day 9,123. -/
def excepted : State := withRoom { ready.room with bookings := mondayTable, exceptions := [⟨0, 9123⟩] }

/-- CANCEL of the next Monday, of a past one and of a day that is no occurrence; RESTORE of the Wednesday. -/
theorem witness_ExceptionEditsChangeTheList :
    serves .cancelOccurrence [0, 9128] excepted ∧ namesWeekly excepted ⟨0, 9128⟩ = true ∧
      (⟨0, 9128⟩ : Occurrence) ∉ excepted.room.exceptions ∧ namesWeekly excepted ⟨0, 9114⟩ = true ∧
      namesWeekly excepted ⟨0, 9129⟩ = false ∧ isProtected excepted .d = false ∧
      storeBusy excepted [.exceptions] = false ∧ serves .restoreOccurrence [0, 9123] excepted ∧
      (⟨0, 9123⟩ : Occurrence) ∈ excepted.room.exceptions ∧
      (run (ask .cancelOccurrence .service [0, 9128]) excepted).room.exceptions = [⟨0, 9123⟩, ⟨0, 9128⟩] ∧
      (run (ask .restoreOccurrence .service [0, 9123]) excepted).room.exceptions = [] :=
  ⟨taken_of_takes (by decide +kernel), by decide +kernel, by decide +kernel, by decide +kernel, by decide +kernel,
    by decide +kernel, by decide +kernel, taken_of_takes (by decide +kernel), by decide +kernel, by decide +kernel,
    by decide +kernel⟩

/-- Every one of these requests is taken from SERVICE and refused with its reason. -/
abbrev refusedAll (l : List (State × Command × List Word × Reason)) : Prop :=
  (l.all fun x =>
    let standingOne := standingOnly x.2.1
    takes x.2.1 .service (frame (if standingOne then 2 else 0) x.2.2.1) (if standingOne then standing else plain) x.1 &&
      verdictOf .service (run (if standingOne then askStanding x.2.1 .service x.2.2.1 else ask x.2.1 .service x.2.2.1) x.1) ==
        some (.refused, some x.2.2.2)) = true

/-- A state with region D protected. -/
def protectD (s : State) : State := { s with store := { s.store with protect := 0b1000 } }

/-- A state with eleven records of region B queued, so that no other has a place. -/
def busyStore (s : State) : State :=
  { s with store := { s.store with queue := ((nonLampKeys.drop 1).take 11).map fun k => waiting k .facility } }

/-- Two bookings of day 9,200, and a table of 64. -/
def twoBookings : State := withRoom { ready.room with 
  bookings := ((Vector.replicate 64 none)
    |>.set 0 (some (booking (.oneOff 9200) 540 630 5 15 none .roomDefault 2)))
    |>.set 1 (some (booking (.oneOff 9200) 700 760 5 15 none .roomDefault 2)) }

/-- A full table, each booking on a day of its own. -/
def fullTable : State := withRoom { ready.room with
  bookings := Vector.ofFn fun n => some (booking (.oneOff (9300 + n.val)) 540 630 5 15 none .roomDefault 2) }

theorem witness_BookingEditsChangeTheTable_refused :
    refusedAll [(ready, .addBooking, bookingWordsOf 630 540, .outOfRange),
      (protectD ready, .addBooking, bookingWordsOf 540 630, .regionProtected),
      (fullTable, .addBooking, bookingWordsOf 540 630, .tableFull),
      (twoBookings, .addBooking, bookingWordsOf 600 660, .conflict),
      (busyStore ready, .addBooking, bookingWordsOf 540 630, .storeBusy)] ∧
    refusedAll [(twoBookings, .changeBooking, 64 :: bookingWordsOf 540 630, .outOfRange),
      (twoBookings, .changeBooking, 2 :: bookingWordsOf 540 630, .noSuchEntry),
      (protectD twoBookings, .changeBooking, 1 :: bookingWordsOf 700 760, .regionProtected),
      (twoBookings, .changeBooking, 1 :: bookingWordsOf 600 660, .conflict),
      (busyStore twoBookings, .changeBooking, 1 :: bookingWordsOf 700 760, .storeBusy)] ∧
    refusedAll [(twoBookings, .removeBooking, [64], .outOfRange), (twoBookings, .removeBooking, [63], .noSuchEntry),
      (protectD twoBookings, .removeBooking, [1], .regionProtected),
      (busyStore twoBookings, .removeBooking, [1], .storeBusy)] :=
  ⟨by decide +kernel, by decide +kernel, by decide +kernel⟩

/-- Booking 0 is extended to minute 660 while the Monday's occurrence of booking 1 at minute 645 is excepted. -/
def extended : State := withRoom { ready.room with
  bookings := ((Vector.replicate 64 none).set 0 (some (booking (.oneOff 9121) 540 630 10 60 none .roomDefault 2))).set 1
    (some (booking (.weekly 0b0000001 9114 none) 645 700 0 0 none .roomDefault 2))
  exceptions := [⟨1, 9121⟩], state := .occupied, current := some ⟨0, 9121⟩, extension := 30 }

/-- An exception list of 32 pairs, none of them of booking 0. -/
def manyExceptions : State :=
  { excepted with room := { excepted.room with exceptions := (List.finRange 32).map fun n => ⟨1, 9200 + n.val⟩ } }

theorem witness_ExceptionEditsChangeTheList_refused :
    refusedAll [(excepted, .cancelOccurrence, [64, 9128], .outOfRange),
      (excepted, .cancelOccurrence, [0, 9123], .noSuchEntry), (excepted, .cancelOccurrence, [0, 9114], .outOfRange),
      (protectD excepted, .cancelOccurrence, [0, 9128], .regionProtected),
      (manyExceptions, .cancelOccurrence, [0, 9128], .tableFull),
      (busyStore excepted, .cancelOccurrence, [0, 9128], .storeBusy)] ∧
    refusedAll [(excepted, .restoreOccurrence, [64, 9123], .outOfRange),
      (excepted, .restoreOccurrence, [0, 9128], .noSuchEntry),
      (protectD excepted, .restoreOccurrence, [0, 9123], .regionProtected),
      (extended, .restoreOccurrence, [1, 9121], .conflict), (busyStore excepted, .restoreOccurrence, [0, 9123], .storeBusy)] :=
  ⟨by decide +kernel, by decide +kernel⟩

/-- EXTEND within the grace of 15 and past it; RELEASE of booking 4, after which no candidate is left, and in VACANT. -/
theorem witness_ExtendAndReleaseTheRoom :
    let occupied := monday 615 .occupied (some 0) 0 1
    let last := monday 940 .occupied (some 4) 0 5
    serves .extendBooking [15] occupied ∧ serves .extendBooking [16] occupied ∧ serves .extendBooking [1] ready ∧
      verdictOf .service (run (ask .extendBooking .service [15]) occupied) = some (.done, none) ∧
      serves .releaseRoom [] last ∧ last.room.taken[(4 : Fin 64)] = some 9121 ∧ candidate last = none ∧
      serves .releaseRoom [] ready ∧ ready.room.current = none :=
  ⟨taken_of_takes (by decide +kernel), taken_of_takes (by decide +kernel), taken_of_takes (by decide +kernel),
    by decide +kernel, taken_of_takes (by decide +kernel), by decide +kernel, by decide +kernel,
    taken_of_takes (by decide +kernel), rfl⟩

/-- RELEASE of booking 2 with booking 3 preparing within the bridge gap, of booking 4 with OFF performed, in a settle
too, and of booking 0 with booking 1 a candidate. -/
theorem witness_ExtendAndReleaseTheRoom_end_actions :
    let gap := monday 780 .occupied (some 2) 0 3
    let last := monday 940 .occupied (some 4) 0 5
    let settling := { last with router := { last.router with state := .settling, settle := some 500 } }
    let next := monday 640 .occupied (some 0) 15 1
    (candidate gap = none ∧ (nextOccurrence gap).map (fun x => decide (prepOf x.2 x.1.day ≤ nowMinute gap + 15)) = some true ∧
        gap.store.room.bridgeGap = 15 ∧ gap.room.taken[(2 : Fin 64)] = some 9121 ∧
        takes .releaseRoom .service (frame 0 []) plain gap = true) ∧
      ((nextOccurrence last).map (fun x => decide (prepOf x.2 x.1.day ≤ nowMinute last + 15)) = some false ∧
        last.power.state = .on ∧ last.link.state ≠ .lost ∧ last.router.state ≠ .settling ∧
        (run (ask .releaseRoom .service []) last).power.state = .cooling) ∧
      (settling.router.resolved = true ∧ settling.router.pendingSlot = none ∧
        (run (ask .releaseRoom .service []) settling).router.pendingSlot = some ⟨0, .schedule, .momentary⟩) ∧
      ((candidate next).map (·.1) = some ⟨1, 9121⟩ ∧ takes .releaseRoom .service (frame 0 []) plain next = true ∧
        (run (ask .releaseRoom .service []) next).room.state = .preparing) :=
  ⟨by decide +kernel, by decide +kernel, by decide +kernel, by decide +kernel⟩

theorem witness_PermissionDecision :
    ready.lockout.active = some ⟨0, .vacant, defaultProfile⟩ ∧ permission ready .lectern .power .momentary = none ∧
      permission (examination none) .service .power .momentary = some .serviceDisabled := by decide +kernel

theorem witness_OverrideAndServiceEnable :
    serves .setOverride [0, 7] ready ∧ overrideItem [0, 7] = some (some 7) ∧ serves .setOverride [2, 0] ready ∧
      overrideItem [2, 0] = some none ∧ servesStanding .setOverride [0, 7] ready ∧
      standingCheck ready .c false [.roomDefaults] = none ∧ serves .enableService [] ready ∧
      serves .disableService [] ready ∧ ready.lockout.active.isSome = true ∧
      (serves .setOverride [0, 8] ready ∧ servesStanding .setOverride [0, 7] { ready with store := { ready.store with
        protect := 0b0100 } } ∧ servesStanding .setOverride [0, 7] (busyStore ready) ∧
        storeBusy (busyStore ready) [.roomDefaults] = true) ∧
      wordsOf .overrideChanged .facility (run (ask .setOverride .service [0, 7]) ready) = [(0x0700, 0x0FFF)] ∧
      (let barred := { ready with lockout := { ready.lockout with serviceEnabled := false } }
       verdictOf .facility (run (ask .enableService .facility []) barred) = some (.done, none) ∧
         wordsOf .serviceEnableChanged .service (run (ask .enableService .facility []) barred) = [(0, 0)]) :=
  ⟨taken_of_takes (by decide +kernel), rfl, taken_of_takes (by decide +kernel), rfl, taken_of_takes (by decide +kernel),
    by decide +kernel, taken_of_takes (by decide +kernel), taken_of_takes (by decide +kernel), rfl,
    ⟨taken_of_takes (by decide +kernel), taken_of_takes (by decide +kernel), taken_of_takes (by decide +kernel),
      by decide +kernel⟩, by decide +kernel, by decide +kernel⟩

/-- Eleven other records queued: a twelfth has no place. -/
def crowded : State := { ready with store := { ready.store with
  queue := ((List.finRange 11).map fun n => waiting (.booking (n.castLE (by decide))) .facility) } }

theorem witness_StandingChecksInOrder :
    (Key.install ≠ .lampCheckpoint) ∧ isProtected ready .b = false ∧ commission.lockout.locked = true ∧
      standingCheck commission .b true [.install] = some .installLocked ∧
      standingCheck crowded .c false [.roomDefaults] = some .storeBusy ∧
      standingCheck crowded .d false [.booking 10] = none := by decide +kernel

/-- The four settings writes: IN6 and IN1, a cooling time of 301 s brought to 300, a settle time of 250 to 200. -/
theorem witness_SettingsWritesReplaceTheRecord :
    (servesStanding .setSourceEntry [7, 0, 0, 6, 3, 0, 3, 0, 1, 0] ready ∧
        (entryItem [7, 0, 0, 6, 3, 0, 3, 0, 1, 0]).isSome = true ∧ standingCheck ready .b true [.source 7] = none) ∧
      (servesStanding .setProfile [7, 3, 3, 3, 3, 3, 0] ready ∧ (profileItem [7, 3, 3, 3, 3, 3, 0]).isSome = true) ∧
      (servesStanding .setInstallRecord [1, 0, 0, 301, 1, 0, 1, 0, 1, 0, 1, 0] ready ∧
        (installItem defaultInstall [1, 0, 0, 301, 1, 0, 1, 0, 1, 0, 1, 0]).map (fun x => (x.1.coolingTime, x.2)) =
          some (300, true)) ∧
      (servesStanding .setRoomTimes [0, 250, 1, 0, 1, 0, 1, 0] ready ∧
        (roomItem defaultRoom [0, 250, 1, 0, 1, 0, 1, 0]).map (fun x => (x.1.settleTime, x.2)) = some (200, true)) :=
  ⟨⟨taken_of_takes (by decide +kernel), by decide +kernel, by decide +kernel⟩,
    ⟨taken_of_takes (by decide +kernel), by decide +kernel⟩, ⟨taken_of_takes (by decide +kernel), by decide +kernel⟩,
    ⟨taken_of_takes (by decide +kernel), by decide +kernel⟩⟩

/-- Each range's limits and the first value beyond, and KEEP; a vacant profile of 8; a lock that refuses. -/
theorem witness_SettingsWritesReplaceTheRecord_ranges :
    (installItem defaultInstall [0, 499, 0, 89, 0, 29, 0, 7, 0, 0, 0, 8]).map (fun x =>
        (x.1.ratedLife, x.1.coolingTime, x.1.warmingTime, x.1.vacantProfile, x.1.retryCount, x.2)) =
          some (500, 90, 30, 7, 7, true) ∧
      (installItem defaultInstall [0, 20001, 0, 300, 0, 121, 1, 0, 1, 0, 1, 0]).map (fun x =>
        (x.1.ratedLife, x.1.coolingTime, x.1.warmingTime, x.1.retryCount)) = some (20000, 300, 120, 2) ∧
      (roomItem defaultRoom [0, 5001, 0, 121, 0, 31, 0, 61]).map (fun x =>
        (x.1.settleTime, x.1.noSignal, x.1.blankDim, x.1.bridgeGap, x.2)) = some (5000, 120, 30, 60, true) ∧
      choiceAt [0, 499] 0 [0, 1] = some (.value 499) ∧ choiceAt [1, 0] 0 [0, 1] = some .keep ∧
      refusedAll [(ready, .setInstallRecord, [1, 0, 1, 0, 1, 0, 0, 8, 1, 0, 1, 0], .outOfRange),
        ({ ready with lockout := { ready.lockout with locked := true } }, .setInstallRecord,
          [1, 0, 1, 0, 1, 0, 0, 7, 1, 0, 1, 0], .installLocked)] :=
  ⟨by decide +kernel, by decide +kernel, by decide +kernel, by decide +kernel, by decide +kernel, by decide +kernel⟩

/-- Each of the other three writes with a field beyond its values, a selector not named, and each check that fails. -/
theorem witness_SettingsWritesReplaceTheRecord_refused :
    let locked := { ready with lockout := { ready.lockout with locked := true } }
    let shut := fun (m : BitVec 4) => { ready with store := { ready.store with protect := m } }
    refusedAll [(ready, .setSourceEntry, [8, 0, 0, 6, 3, 0, 3, 0, 1, 0], .outOfRange),
      (ready, .setSourceEntry, [7, 0, 0, 7, 3, 0, 3, 0, 1, 0], .outOfRange),
      (ready, .setSourceEntry, [7, 0, 0, 0, 3, 0, 3, 0, 1, 0], .outOfRange),
      (ready, .setSourceEntry, [7, 0, 1, 6, 3, 0, 3, 0, 1, 0], .outOfRange),
      (ready, .setSourceEntry, [7, 0, 0, 6, 3, 0, 3, 0, 1, 4], .outOfRange),
      (shut 0b0010, .setSourceEntry, [7, 0, 0, 6, 3, 0, 3, 0, 1, 0], .regionProtected),
      (locked, .setSourceEntry, [7, 0, 0, 6, 3, 0, 3, 0, 1, 0], .installLocked),
      (crowded, .setSourceEntry, [7, 0, 0, 6, 3, 0, 3, 0, 1, 0], .storeBusy)] ∧
    refusedAll [(ready, .setProfile, [8, 3, 3, 3, 3, 3, 0], .outOfRange),
      (ready, .setProfile, [7, 3, 3, 3, 3, 3, 4], .outOfRange),
      (shut 0b0010, .setProfile, [7, 3, 3, 3, 3, 3, 0], .regionProtected),
      (locked, .setProfile, [7, 3, 3, 3, 3, 3, 0], .installLocked)] ∧
    refusedAll [(ready, .setRoomTimes, [0, 250, 2, 0, 1, 0, 1, 0], .outOfRange),
      (shut 0b0100, .setRoomTimes, [0, 250, 1, 0, 1, 0, 1, 0], .regionProtected),
      (busyStore ready, .setRoomTimes, [0, 250, 1, 0, 1, 0, 1, 0], .storeBusy)] ∧
    refusedAll [(ready, .setInstallRecord, [1, 0, 1, 0, 1, 0, 1, 0, 0, 2, 1, 0], .outOfRange),
      (ready, .setInstallRecord, [2, 0, 1, 0, 1, 0, 1, 0, 1, 0, 1, 0], .outOfRange)] ∧
    takes .setRoomTimes .service (frame 2 [0, 250, 1, 0, 1, 0, 1, 0]) standing locked = true ∧
      verdictOf .service (run (askStanding .setRoomTimes .service [0, 250, 1, 0, 1, 0, 1, 0]) locked) = some (.done, none) :=
  ⟨by decide +kernel, by decide +kernel, by decide +kernel, by decide +kernel, by decide +kernel, by decide +kernel⟩

theorem witness_LocksProtectionAndWindow :
    serves .setInstallLock [] ready ∧ storeBusy ready [.lockPair] = false ∧
      serves .clearInstallLock [] commission ∧
      serves .clearInstallLock [] ready ∧
      serves .protectRegions [0b1111] ready ∧ Sys2Proof.Machine.setOf 4 (itemAt [0b1111] 0) = some 0b1111 ∧
      serves .unprotectRegions [0b1111] ready ∧ ready.store.window ≠ none ∧
      serves .unprotectRegions [1] { ready with store := { ready.store with window := none } } ∧
      serves .closeWindow [] ready ∧
      serves .protectRegions [16] ready ∧ serves .unprotectRegions [16] ready ∧
      (let closed := { ready with store := { ready.store with window := none, protect := 0b0111 } }
       serves .unprotectRegions [0] closed ∧ closed.lockout.mode = .normal ∧
         verdictOf .service (run (ask .unprotectRegions .service [0]) closed) = some (.done, none)) :=
  ⟨taken_of_takes (by decide +kernel), by decide +kernel, taken_of_takes (by decide +kernel),
    taken_of_takes (by decide +kernel), taken_of_takes (by decide +kernel), by decide +kernel,
    taken_of_takes (by decide +kernel), by decide +kernel, taken_of_takes (by decide +kernel),
    taken_of_takes (by decide +kernel), taken_of_takes (by decide +kernel), taken_of_takes (by decide +kernel),
    taken_of_takes (by decide +kernel), rfl, by decide +kernel⟩

theorem witness_WipeGivesTheDefaults :
    let wiping := run (ask .storeWipe .service []) ready
    serves .storeWipe [] ready ∧ isProtected ready .b = false ∧ isProtected ready .c = false ∧
      isProtected ready .d = false ∧ ready.store.wipe = none ∧ wiping.store.engine = .wiping 600 ∧
      wiping.store.wipe = some .service ∧
      serves .storeWipe [] { ready with store := { ready.store with protect := 0b1000 } } :=
  ⟨taken_of_takes (by decide +kernel), by decide +kernel, by decide +kernel, by decide +kernel, rfl, by decide +kernel,
    by decide +kernel, taken_of_takes (by decide +kernel)⟩

/-- A booking, an entry, a history and an account at the limits of their fields. -/
theorem witness_RecordImagesReadBack :
    bookingOf (bookingImage (some (booking (.weekly 0b1111111 65535 (some 65535)) 1430 1440 30 60 (some 7) .eco 7))) =
        some (booking (.weekly 0b1111111 65535 (some 65535)) 1430 1440 30 60 (some 7) .eco 7) ∧
      sourceOf (sourceImage { entry 5 (some 7) true with name := List.replicate 12 0x7A }) =
        { entry 5 (some 7) true with name := List.replicate 12 0x7A } ∧
      accountOf (accountImage { lampA with wear := 4294967295, previous := some (summary 38006) }) =
        { lampA with wear := 4294967295, previous := some (summary 38006) } ∧
      historyOf (historyImage [summary 1, summary 2, summary 3, summary 4]) = [summary 1, summary 2, summary 3, summary 4] ∧
      (bookingImage none).length = 26 := by decide +kernel

theorem witness_FramesAndMessagesAreReadAsTheirRows : (0x2001#16 : Word) ≠ 0 := by decide

end Sys2Proof.Tests
end

section
namespace Sys2Proof.Machine

/-! ## The lamp history (R16) -/

/-- A push on a list whose first entry has another serial: the summary goes first, an entry of its serial goes, and a
fifth entry is removed (R16). -/
theorem pushSummary_of_head_ne (h : List Summary) (x : Summary) (hne : ∀ y r, h = y :: r → y.serial ≠ x.serial) :
    pushSummary h x = x :: (h.filter fun z => z.serial != x.serial).take 3 := by
  cases h with
  | nil => rfl
  | cons y r => simp [pushSummary, hne y r rfl]

/-- A push of the summary that stands first changes nothing (R16). -/
theorem pushSummary_of_head_eq (y x : Summary) (r : List Summary) (h : y.serial = x.serial) :
    pushSummary (y :: r) x = y :: r := by simp [pushSummary, h]

/-- A list that holds a serial is longer than its part without that serial. -/
theorem filter_serial_length_lt (h : List Summary) (n : Nat) (hx : n ∈ h.map (·.serial)) :
    (h.filter fun z => z.serial != n).length < h.length := by
  obtain ⟨y, hy, hs⟩ := List.mem_map.mp hx
  exact List.length_filter_lt_length_iff_exists.mpr ⟨y, hy, by simp [hs]⟩

/-- A push keeps the bounds of the history (R16). -/
theorem historyWithin_pushSummary (h : List Summary) (x : Summary) (hw : historyWithin h) :
    historyWithin (pushSummary h x) := by
  by_cases hne : ∀ y r, h = y :: r → y.serial ≠ x.serial
  · rw [pushSummary_of_head_ne h x hne]
    have hsub : ((h.filter fun z => z.serial != x.serial).take 3).Sublist h :=
      (List.take_sublist _ _).trans List.filter_sublist
    refine ⟨by simp, List.nodup_cons.mpr ⟨?_, (hsub.map _).nodup hw.2⟩⟩
    simp only [List.mem_map, not_exists, not_and]
    intro y hy
    simpa using (List.mem_filter.mp (List.mem_of_mem_take hy)).2
  · push Not at hne
    obtain ⟨y, r, rfl, hs⟩ := hne
    rwa [pushSummary_of_head_eq y x r hs]

/-- Settles O26, by the two cases of a push: the serial is first, or it is not. -/
theorem historyPushKeepsFourSerials : Obligations.HistoryPushKeepsFourSerials := by
  unfold Obligations.HistoryPushKeepsFourSerials
  intro h x hw
  refine ⟨historyWithin_pushSummary h x hw, ?_, fun hne => ?_⟩
  · rintro y r rfl hs
    exact pushSummary_of_head_eq y x r hs
  · rw [pushSummary_of_head_ne h x hne]
    refine ⟨⟨_, rfl⟩, fun hx => ?_, fun hx => ?_⟩
    · have hlt := filter_serial_length_lt h x.serial hx
      have hle := hw.1
      rw [List.take_of_length_le (by omega)]
      exact congrArg _ (List.filter_congr fun z _ => by simp [bne, beq_eq_decide])
    · rw [List.filter_eq_self.mpr]
      intro z hz
      simpa using fun e : z.serial = x.serial => hx (e ▸ List.mem_map_of_mem hz)

end Sys2Proof.Machine
end

section
namespace Sys2Proof.Machine

/-! ## A millisecond (log entry 10) -/

/-- A timer that counts down stays stopped when stopped, and has one millisecond less when it runs. -/
theorem countDown_spec (a : Option Nat) : (a = none → countDown a = none) ∧
    ∀ n, a = some (n + 1) → countDown a = some n := by
  constructor <;> simp +contextual [countDown]

/-- A timer that counts up stays stopped when stopped, and has one millisecond more when it runs. -/
theorem countUp_spec (a : Option Nat) : (a = none → countUp a = none) ∧
    ∀ n, a = some n → countUp a = some (n + 1) := by
  constructor <;> simp +contextual [countUp]

/-- On an empty queue a step lets time pass (log entry 10). -/
theorem step_idle (s : State) (h : s.pending = []) : step s = timePasses s := by simp [step, h]

/-- A timer that has run out acts as its row. -/
theorem timePasses_due (s : State) (i : Instr) (h : dueRow s = some i) : timePasses s = exec i s := by
  simp [timePasses, h]

/-- With no timer run out a millisecond passes. -/
theorem timePasses_quiet (s : State) (h : dueRow s = none) : timePasses s = .next (millisecond s) := by
  simp [timePasses, h]

/-- Settles O2: the timers of `millisecond` are `countDown` and `countUp` of the old ones. -/
theorem idleStepLetsTimePass : Obligations.IdleStepLetsTimePass := by
  unfold Obligations.IdleStepLetsTimePass
  intro s hp
  refine ⟨fun i hi => by rw [step_idle s hp, timePasses_due s i hi], fun hd => ?_⟩
  refine ⟨millisecond s, by rw [step_idle s hp, timePasses_quiet s hd], rfl, rfl, rfl, rfl, rfl, rfl, rfl, rfl, rfl, rfl,
    hp, countUp_spec _, countDown_spec _, countDown_spec _, countDown_spec _, countDown_spec _, countDown_spec _,
    countUp_spec _, countDown_spec _, countDown_spec _, countDown_spec _, countUp_spec _, countUp_spec _, ?_,
    countDown_spec _, countDown_spec _, countDown_spec _, countDown_spec _, ?_, ?_, ?_⟩
  · intro n
    have hn : (millisecond s).router.stability[n] = countDown s.router.stability[n] := by simp [millisecond]
    rw [hn]
    exact countDown_spec _
  all_goals simp +contextual [millisecond, engineTick]

end Sys2Proof.Machine
end

section
namespace Sys2Proof.Machine

/-! ## Reading commands (R107, R164) -/

/-- A request whose block answers words of the state and changes nothing (R168). -/
theorem request_reads (c : Command) (p : Port) (f : Frame) (q : Qualifier) (ws : State → List Word) (s : State)
    (h : taken c p f q s) :
    request c p f (fun _ _ t => (doneWith (ws t), t)) s = after c p (doneWith (ws (begun p f s))) (begun p f s) :=
  request_taken c p f _ q s h

/-- Bit `n` of the mask of some fields says whether field `n` is set (R107). -/
theorem fieldMask_testBit (l : List (Option Word)) (n : Nat) :
    (fieldMask l).testBit n = ((l[n]?).bind id).isSome := by
  induction l generalizing n with
  | nil => simp [fieldMask]
  | cons o r ih =>
    cases n with
    | zero => cases o <;> simp [fieldMask, Nat.testBit_zero]
    | succ n =>
      have hdiv : fieldMask (o :: r) / 2 = fieldMask r := by
        simp only [fieldMask]; split <;> omega
      rw [Nat.testBit_succ, hdiv, ih]
      simp

/-- There is a value word for each field (R107). -/
@[simp] theorem fieldValues_length (k : Nat) (l : List (Option Word)) : (fieldValues k l).length = l.length := by
  induction l generalizing k with
  | nil => rfl
  | cons o r ih => simp [fieldValues, ih]

/-- The value word of a field that is set is its word (R107). -/
theorem fieldValues_of_set (k : Nat) (l : List (Option Word)) (n : Nat) (w : Word) (h : l[n]? = some (some w)) :
    (fieldValues k l)[n]? = some w := by
  induction l generalizing k n with
  | nil => simp at h
  | cons o r ih =>
    cases n with
    | zero => simp_all [fieldValues, dataWord]
    | succ n => simpa [fieldValues] using ih (k + 1) n (by simpa using h)

/-- READ GEOMETRY, taken: its words, and the free values used (R107). -/
theorem exec_readGeometry (p : Port) (f : Frame) (q : Qualifier) (s : State) (h : taken .readGeometry p f q s) :
    exec (.readGeometry p f) s = .next { after .readGeometry p (doneWith (geometryWords (begun p f s))) (begun p f s) with
      free := s.free + 11 } :=
  congrArg _ (request_taken .readGeometry p f _ q s h)

/-- Settles O21: ten rows by the request that reads, READ GEOMETRY by its mask and its values. -/
theorem readingCommandsAnswer : Obligations.ReadingCommandsAnswer := by
  unfold Obligations.ReadingCommandsAnswer
  refine ⟨fun p f q s => ?_, fun p f q s h => ?_⟩
  · refine ⟨?_, ?_, ?_, ?_, ?_, ?_, ?_, ?_, ?_, ?_⟩ <;>
      exact fun h => congrArg Host.Outcome.next (request_reads _ p f q _ s h)
  · refine ⟨_, word (fieldMask (overlayFields s.geometry.overlay)), fieldValues s.free (overlayFields s.geometry.overlay),
      exec_readGeometry p f q s h, ?_, ?_, ?_, ?_⟩
    · have hl : (if isLimited s then 1 else 0) = if s.geometry.current.map (·.limited) = some true then 1 else 0 := by
        cases hc : s.geometry.current <;> simp [isLimited, hc]
      have hw : geometryWords (begun p f s) = geometryWords s := rfl
      rw [hw]
      simp only [geometryWords, hl]
      rfl
    · simp [overlayFields]
    · intro n hn
      simp only [word, BitVec.getLsbD_ofNat, hn, decide_true, Bool.true_and]
      exact fieldMask_testBit _ n
    · exact fun n w hw => fieldValues_of_set _ _ n w hw

end Sys2Proof.Machine
end

section
namespace Sys2Proof.Machine

/-! ## Records: seals, tears and places (R149, R150, R158, R159) -/

/-- A sealed image is valid (R150, R158). -/
@[simp] theorem validRecord_sealed (ws : List Word) : validRecord (sealed ws) = true := by simp [validRecord, sealed]

/-- A torn image is not valid (R159). -/
@[simp] theorem validRecord_torn (ws : List Word) : validRecord (torn ws) = false := by
  have h : crcImage ws ≠ crcImage ws ^^^ 1#16 := fun h => by
    simpa using congrArg (fun w => w.getLsbD 0) h
  simpa [validRecord, torn] using h

/-! ## Resets (R151, R159, R163) -/

/-- A hard reset gives every block its reset state, the mode the strap's and the clock UNSET (R151, R179). -/
theorem exec_hardReset (m : OperatingMode) (s : State) :
    exec (.hardReset m) s = .next (resetState m Clock.unset 0 s) := rfl

/-- A reset of an IDLE engine leaves storage (R159). -/
theorem storage_reset_idle (s : State) (h : s.store.engine = .idle) :
    slotsAfterReset s = s.store.slots ∧ recordsAfterReset s = s.store.records := by
  simp [slotsAfterReset, recordsAfterReset, h]

/-- A reset in the write of a checkpoint tears its slot alone (R159). -/
theorem storage_reset_checkpoint (s : State) (e : Entry) (slot : Fin 4) (left : Nat)
    (h : s.store.engine = .writing e slot left) (hk : e.key = .lampCheckpoint) :
    slotsAfterReset s = s.store.slots.set slot (torn (slotImage (nextSequence s) e.image)) ∧
      recordsAfterReset s = s.store.records := by
  simp [slotsAfterReset, recordsAfterReset, h, hk]

/-- A reset in the write of another record tears that record alone (R159). -/
theorem storage_reset_record (s : State) (e : Entry) (slot : Fin 4) (left : Nat)
    (h : s.store.engine = .writing e slot left) (hk : e.key ≠ .lampCheckpoint) :
    slotsAfterReset s = s.store.slots ∧
      recordsAfterReset s = s.store.records.set (recordIndex e.key) (torn e.image) := by
  simp [slotsAfterReset, recordsAfterReset, h, hk]

/-- A reset in a wipe leaves the records that the wipe's point gives (R163). -/
theorem storage_reset_wiping (s : State) (left : Nat) (h : s.store.engine = .wiping left) :
    slotsAfterReset s = s.store.slots ∧
      recordsAfterReset s = Vector.ofFn (cutWipe s.store.records (Config.freeWipePoint s.free % 100)) := by
  simp [slotsAfterReset, recordsAfterReset, h]

/-- Replacing one place of a vector leaves the others. -/
theorem getElem_set_other {α : Type} {n : Nat} (v : Vector α n) (i j : Fin n) (x : α) (h : j ≠ i) :
    (v.set i x)[j] = v[j] := by
  have : i.val ≠ j.val := fun e => h (Fin.ext e.symm)
  simp [Vector.getElem_set_ne, this]

/-- A wipe cut short at a point, record by record (R163). -/
theorem cutWipe_spec (old : Vector StoredRecord 101) (k : Nat) (i : Fin 101) :
    (1 ≤ i.val → i.val ≤ k → cutWipe old k i = sealed (defaultImage (recordKey i))) ∧
      (i.val = k + 1 → cutWipe old k i = torn old[i].image) ∧
      ((i.val = 0 ∨ k + 1 < i.val) → cutWipe old k i = old[i]) := by
  unfold cutWipe
  refine ⟨fun h1 h2 => ?_, fun h => ?_, fun h => ?_⟩
  · rw [if_neg (by omega), if_pos h2]
  · rw [if_neg (by omega), if_neg (by omega), if_pos h]
  · rcases h with h | h
    · rw [if_pos h]
    · rw [if_neg (by omega), if_neg (by omega), if_neg (by omega)]

/-- Settles O11, by what the engine was doing at the reset. -/
theorem resetsLeaveTheResetState : Obligations.ResetsLeaveTheResetState := by
  unfold Obligations.ResetsLeaveTheResetState
  refine ⟨fun m s h => ?_, fun m e slot left s h => ?_, fun m left s h => ?_⟩
  · obtain ⟨hslots, hrecords⟩ := storage_reset_idle s h
    refine ⟨_, exec_hardReset m s, rfl, rfl, hslots, hrecords, rfl, rfl, rfl, rfl, rfl, rfl, rfl, rfl, rfl, rfl, ?_, rfl,
      rfl, rfl, rfl, rfl, ?_, rfl, rfl, rfl, rfl, rfl, rfl, ?_, rfl, rfl, rfl, rfl, rfl, rfl, rfl⟩
    · intro n; simp [resetState, RouterUnit.reset]
    · intro n; simp [resetState, RoomUnit.reset]
    · intro p; cases p <;> exact ⟨rfl, rfl, rfl, rfl, rfl⟩
  · refine ⟨_, exec_hardReset m s, fun hk => ?_, fun hk => ?_⟩
    · obtain ⟨hslots, hrecords⟩ := storage_reset_checkpoint s e slot left h hk
      refine ⟨?_, hrecords, fun j hj => ?_⟩
      · simp [resetState, StoreUnit.reset, hslots]
      · simpa [resetState, StoreUnit.reset, hslots] using getElem_set_other s.store.slots slot j _ hj
    · obtain ⟨hslots, hrecords⟩ := storage_reset_record s e slot left h hk
      refine ⟨?_, hslots, fun j hj => ?_⟩
      · simp [recordOf, resetState, StoreUnit.reset, hrecords]
      · simpa [resetState, StoreUnit.reset, hrecords] using getElem_set_other s.store.records _ j _ hj
  · obtain ⟨hslots, hrecords⟩ := storage_reset_wiping s left h
    refine ⟨_, Config.freeWipePoint s.free % 100, exec_hardReset m s, Nat.mod_lt _ (by decide), rfl, rfl, hslots, ?_⟩
    intro i
    obtain ⟨hdone, hnext, hrest⟩ := cutWipe_spec s.store.records (Config.freeWipePoint s.free % 100) i
    have hi : (resetState m Clock.unset 0 s).store.records[i] =
        cutWipe s.store.records (Config.freeWipePoint s.free % 100) i := by
      simp [resetState, StoreUnit.reset, hrecords]
    rw [hi]
    refine ⟨fun h1 h2 => ?_, fun h => ?_, hrest⟩
    · simp [hdone h1 h2]
    · simp [hnext h]

end Sys2Proof.Machine
end

section
namespace Sys2Proof.Machine

/-! ## Notices told across quiet steps (R171) -/

/-- What has been told since a later state has been told since an earlier one whose ports differ in their queues
alone. -/
theorem told_since {dest : Option Port} {kind : NoticeKind} {o : Origin} {x y : Word} {s a t : State}
    (h : grown s.ports a.ports) (hq : quietPorts a.ports = quietPorts s.ports) (hc : a.room.clock = s.room.clock)
    (h' : told dest kind o x y a t) : told dest kind o x y s t :=
  told_earlier h (fun p => by simpa [quietPort] using congrArg PortState.subscription ((quietPorts_eq_iff a s).mp hq p))
    hc h'

/-! ## Levels and checkpoint requests (R2, R7, R10, R15) -/

/-- A checkpoint request on a loaded account leaves the tally (R15). -/
theorem checkpointRequest_tally (s : State) (h : s.lamp.account ≠ none) :
    (checkpointRequest s).lamp.tally = s.lamp.tally := by
  unfold checkpointRequest
  repeat' split
  · contradiction
  · rfl
  · simp

/-- The level becomes the one named (R2, R7). -/
@[simp] theorem levelBecomes_level (ask : Bool) (old : Option Level) (v : Level) (wear : Nat) (s : State) :
    (levelBecomes ask old v wear s).lamp.level = some v := by
  unfold levelBecomes
  dsimp only
  repeat' split
  all_goals simp

/-- A change of level on a loaded account leaves the tally (R7, R15). -/
theorem levelBecomes_tally (ask : Bool) (old : Option Level) (v : Level) (wear : Nat) (s : State)
    (h : s.lamp.account ≠ none) : (levelBecomes ask old v wear s).lamp.tally = s.lamp.tally := by
  unfold levelBecomes
  dsimp only
  repeat' split
  all_goals simp [checkpointRequest_tally, h]

/-- A level crossed upward is told by LAMP THRESHOLD with the percentage (R7). -/
theorem levelBecomes_told (ask : Bool) (o v : Level) (wear : Nat) (s : State) (h : levelRank o < levelRank v) :
    told none .lampThreshold .auto (word (levelRank v)) (heldWord (percentage wear (liveLimit s))) s
      (levelBecomes ask (some o) v wear s) := by
  have ht : told none .lampThreshold .auto (word (levelRank v)) (heldWord (percentage wear (liveLimit s))) s
      (postThreshold v wear { s with lamp := { s.lamp with level := some v } }) :=
    told_of { s with lamp := { s.lamp with level := some v } } (grown_refl _) rfl rfl (grown_refl _)
  apply told_later ht
  unfold levelBecomes
  dsimp only
  rw [if_pos h]
  split <;> simp

/-- Judging the level of a loaded account again is a change to the level of its wear (R2). -/
theorem relevelAsking_loaded (ask : Bool) (s : State) (a : Account) (h : s.lamp.account = some a) :
    relevelAsking ask s = levelBecomes ask s.lamp.level (levelOf a.wear (liveLimit s)) a.wear s := by
  simp [relevelAsking, h]

/-- The same with the checkpoint request of R7. -/
theorem relevel_loaded (s : State) (a : Account) (h : s.lamp.account = some a) :
    relevel s = levelBecomes true s.lamp.level (levelOf a.wear (liveLimit s)) a.wear s :=
  relevelAsking_loaded true s a h

/-- The cadence counter's advance on a loaded account leaves the tally (R10, R15). -/
theorem advanceCadence_tally (s : State) (h : s.lamp.account ≠ none) :
    (advanceCadence s).lamp.tally = s.lamp.tally := by
  unfold advanceCadence
  dsimp only
  split
  · rw [checkpointRequest_tally _ (by simpa using h)]
  · rfl

/-! ## A burn second of a loaded account (R3, R4) -/

/-- A loaded account takes its second, the cadence counter advances, and the level is that of the new wear (R3, R4). -/
theorem chargeSecond_loaded (s : State) (a : Account) (h : s.lamp.account = some a) :
    chargeSecond s = levelBecomes true s.lamp.level
      (levelOf (accountSecond s.lamp.normalSeen a).wear (liveLimit s)) (accountSecond s.lamp.normalSeen a).wear
      (advanceCadence { s with lamp := { s.lamp with account := some (accountSecond s.lamp.normalSeen a) } }) := by
  simp only [chargeSecond, h]
  rw [relevel_loaded _ (accountSecond s.lamp.normalSeen a) (by simp)]
  simp [liveLimit]

/-- The level after a second is that of the new wear (R2, R3). -/
theorem chargeSecond_level (s : State) (a : Account) (h : s.lamp.account = some a) : (chargeSecond s).lamp.level =
    some (levelOf (accountSecond s.lamp.normalSeen a).wear (liveLimit s)) := by
  simp [chargeSecond_loaded s a h]

/-- A second of a loaded account leaves the tally (R15). -/
theorem chargeSecond_tally (s : State) (a : Account) (h : s.lamp.account = some a) :
    (chargeSecond s).lamp.tally = s.lamp.tally := by
  rw [chargeSecond_loaded s a h, levelBecomes_tally _ _ _ _ _ (by simp), advanceCadence_tally _ (by simp)]

/-- A level that a second crosses upward is told (R7). -/
theorem chargeSecond_told (s : State) (a : Account) (old : Level) (h : s.lamp.account = some a)
    (ho : s.lamp.level = some old)
    (hlt : levelRank old < levelRank (levelOf (accountSecond s.lamp.normalSeen a).wear (liveLimit s))) :
    told none .lampThreshold .auto
      (word (levelRank (levelOf (accountSecond s.lamp.normalSeen a).wear (liveLimit s))))
      (heldWord (percentage (accountSecond s.lamp.normalSeen a).wear (liveLimit s))) s (chargeSecond s) := by
  rw [chargeSecond_loaded s a h, ho]
  have ht := levelBecomes_told true old _ (accountSecond s.lamp.normalSeen a).wear
    (advanceCadence { s with lamp := { s.lamp with account := some (accountSecond s.lamp.normalSeen a) } }) hlt
  rw [show liveLimit (advanceCadence _) = liveLimit s by simp [liveLimit]] at ht
  exact told_since (by simp) (by simp) (by simp) ht

/-- Settles O24, from the second charged and the second begun. -/
theorem burnSecondChargesTheAccount : Obligations.BurnSecondChargesTheAccount := by
  unfold Obligations.BurnSecondChargesTheAccount
  intro n a s hb ha
  have ht : exec .burnSecond s = .next (finish (beginSecond (chargeSecond s))) := by
    simp [exec, execBurnSecond, hb]
  refine ⟨_, ht, by simp [beginSecond], ?_, ?_, ?_, ?_, ?_, ?_, ?_, ?_, ?_, ?_, ?_, ?_, ?_⟩
  · simp [beginSecond, chargeSecond_account s a ha, accountSecond, burnWear]
  · intro b hbb
    obtain rfl : accountSecond s.lamp.normalSeen a = b := by simpa [beginSecond, chargeSecond_account s a ha] using hbb
    have hl : (finish (beginSecond (chargeSecond s))).lamp.level = (chargeSecond s).lamp.level := by simp [beginSecond]
    refine ⟨hl.trans (chargeSecond_level s a ha), fun old ho hlt => ?_⟩
    exact told_later (chargeSecond_told s a old ha ho hlt) (by simp [beginSecond])
  · simp [beginSecond, normalNow]
  · simp [beginSecond, chargeSecond_tally s a ha]
  · simp [powerModed, PowerUnit.eq_iff, beginSecond]
  · simp [beginSecond]
  · simp [beginSecond]
  · simp [beginSecond]
  · simp [beginSecond]
  · simp [contexts, beginSecond]
  · simp [linkServed_iff, beginSecond]
  · simp [storeServed_iff, beginSecond]
  · simp [beginSecond]

end Sys2Proof.Machine
end

section
namespace Sys2Proof.Machine

/-! ## LAMP REPLACE and LAMP SET (R19 to R21) -/

/-- An accepted answer without a reason ends its command (R58, R158). -/
theorem accept_of_no_reason (a : Answer) (s : State) (h : a.reason = none) : accept a s = (a, finish s) := by
  simp [accept, finished, h]

/-- The flag and the cadence counter are all that the queueing of a content changes in the account (R19, R21). -/
theorem queueSwitch_lamp (kind : SwitchKind) (content : Account) (s : State) :
    (queueSwitch kind content s).lamp = { s.lamp with cadence := 0, replaceInFlight := true } := by simp [queueSwitch]

/-- A content queued waits or is being written when its command ends (R19, R21, R158). -/
theorem finish_queueSwitch_sent (kind : SwitchKind) (content : Account) (s : State) :
    { key := .lampCheckpoint, image := accountImage content, origin := .service, switch := some kind } ∈
      entriesOf (finish (queueSwitch kind content s)) :=
  finish_sent _ _ (by simp [queueSwitch, enqueue_mem]) (by simp [takeExempt])

/-- The entries in hand are the store's, so that an answer leaves them. -/
theorem entriesOf_after (c : Command) (p : Port) (a : Answer) (t : State) : entriesOf (after c p a t) = entriesOf t := rfl

/-- The checks of LAMP REPLACE and LAMP SET pass in STANDBY with no content in flight and region A unprotected (R19). -/
theorem lampChangeCheck_passes (s : State) (h : s.power.state = .standby) (h' : s.lamp.replaceInFlight = false)
    (hp : isProtected s .a = false) : lampChangeCheck s = none := by simp [lampChangeCheck, h, h', hp]

/-- A rated life of selector 3 is absent (R19). -/
theorem lifeItem_absent (ps : List Word) (h : numAt ps 2 = 3) : lifeItem ps = some none := by
  simp [lifeItem, absentItem, choiceAt, h]

/-- LAMP REPLACE, its checks passed and no rated life given (R19). -/
theorem ownLampReplace_accepted (ps : List Word) (a : Account) (s : State) (ha : s.lamp.account = some a)
    (hl : lifeItem ps = some none) (hc : lampChangeCheck s = none) (hs : num32At ps 0 ≠ a.serial) :
    ownLampReplace ps s = (started [word s.store.install.ratedLife],
      finish (queueSwitch .replace (replacementAccount a (num32At ps 0) (today s)) s)) := by
  simp only [ownLampReplace, hl, ha, hc, if_neg hs, lifeCheck]
  exact accept_of_no_reason _ _ rfl

/-- LAMP SET, its checks passed (R21). -/
theorem ownLampSet_accepted (ps : List Word) (a : Account) (s : State) (ha : s.lamp.account = some a)
    (hc : lampChangeCheck s = none) :
    ownLampSet ps s = (started [], finish (queueSwitch .set (setAccount a ps) s)) := by
  simp only [ownLampSet, ha, hc]
  exact accept_of_no_reason _ _ rfl

/-- What a taken LAMP REPLACE or LAMP SET leaves, its content queued (R19, R21). -/
theorem queueSwitch_taken (c : Command) (p : Port) (f : Frame) (ans : Answer) (kind : SwitchKind) (content : Account)
    (s : State) :
    let t := after c p ans (finish (queueSwitch kind content (begun p f s)))
    answered c p f ans s t ∧
      { key := .lampCheckpoint, image := accountImage content, origin := .service, switch := some kind } ∈ entriesOf t ∧
      t.lamp = { s.lamp with cadence := 0, replaceInFlight := true } ∧ t.power = s.power ∧ t.router = s.router ∧
      t.geometry = s.geometry ∧ t.room = s.room ∧ t.lockout = s.lockout ∧ linkServed s.link t.link ∧
      storeServed s.store t.store ∧ t.pending = s.pending := by
  refine ⟨answered_of _ _ _ _ _ _ (by simp), finish_queueSwitch_sent kind content (begun p f s), ?_, ?_, ?_, ?_, ?_, ?_,
    ?_, ?_, ?_⟩
  · simp [queueSwitch_lamp]
  all_goals simp [linkServed_iff, storeServed_iff]

/-- Settles O27: each command's content is queued by its block once its checks pass. -/
theorem lampReplaceAndLampSetQueueTheContent : Obligations.LampReplaceAndLampSetQueueTheContent := by
  unfold Obligations.LampReplaceAndLampSetQueueTheContent
  refine ⟨fun p f q a s h ha hst hfl hpr hlife hser => ?_, fun p f q a s h ha hst hfl hpr => ?_⟩
  · have hown := ownLampReplace_accepted (f.words.drop 1) a (begun p f s) ha (lifeItem_absent _ hlife)
      (lampChangeCheck_passes _ hst hfl hpr) hser
    refine ⟨_, congrArg Host.Outcome.next (request_taken _ p f _ q s h), ?_⟩
    rw [hown]
    exact queueSwitch_taken _ p f _ _ _ s
  · have hown := ownLampSet_accepted (f.words.drop 1) a (begun p f s) ha (lampChangeCheck_passes _ hst hfl hpr)
    refine ⟨_, congrArg Host.Outcome.next (request_taken _ p f _ q s h), ?_⟩
    rw [hown]
    exact queueSwitch_taken _ p f _ _ _ s

end Sys2Proof.Machine
end

section
namespace Sys2Proof.Machine

/-! ## The idle timers of the lamp (R5, R41, R47, R48, R85, R154) -/

/-- A closed shutter whose time exceeds the delay makes the mode ECO (R44, R47). -/
theorem decideMode_dimmed (s : State) (h : s.power.dimmed = true) : (decideMode s).1 = .eco := by
  unfold decideMode; split <;> simp_all

/-- An evaluation of the mode changes the mode alone of the Power Sequencer (R44). -/
theorem evalLampMode_power (s : State) : (evalLampMode s).power =
    { s.power with effectiveMode := if s.power.modeEvaluated then (decideMode s).1 else s.power.effectiveMode } := by
  simp [PowerUnit.eq_iff, evalLampMode_mode]

/-- Past the blank-dim delay the mode is ECO (R47). -/
theorem blankDimPasses_power (n : Nat) (s : State) (h : s.power.modeEvaluated = true) : (blankDimPasses n s).power =
    { s.power with blankDim := some (max n (blankDimDelay s + 1)), dimmed := true, effectiveMode := .eco } := by
  unfold blankDimPasses
  rw [evalLampMode_power]
  simp [h, decideMode_dimmed]

/-- The closure of the no-signal rule shuts an OPEN shutter and leaves any other (R48). -/
theorem closeAuto_shutter (s : State) : (closeAuto s).power.shutter =
    if s.power.shutter = some .opened then some .closedAuto else s.power.shutter := by
  unfold closeAuto
  split <;> simp_all [holdClosed]

/-- The lamp put out is in COOLING, told with the origin, and the no-signal timer runs no more (R29, R84). -/
theorem putOut_spec (o : Origin) (s : State) : (putOut o s).power.state = .cooling ∧
    toldPower (originPort o) o s.power.state .cooling none s (putOut o s) ∧
    (putOut o s).router = { s.router with noSignal := none } := by
  refine ⟨?_, ?_, ?_⟩
  · unfold putOut settleDark
    rw [setPower_power]
    rfl
  · exact told_since (by simp) (by simp) (by simp) (settleDark_told .cooling o none (handControl .extinguish s))
  · unfold putOut settleDark
    obtain ⟨hr, hn⟩ := setPower_router .cooling o none
      { handControl .extinguish s with power := clearIntents (handControl .extinguish s).power }
    rw [hr, hn (by decide)]
    simp

/-- The no-signal rule acts in ON alone: the lamp of a VACANT room is put out, off pending while the link is LOST, and in
another room the shutter closes (R48). -/
theorem noSignalActs_eq (s : State) : noSignalActs s =
    if s.power.state = .on then
      if s.room.state = .vacant then if s.link.state = .lost then setOff .auto s else putOut .auto s
      else closeAuto s
    else s := by
  unfold noSignalActs powerOff
  split
  · simp [*]
  · rfl

/-- The no-signal rule stops the timer and leaves the rest of the router (R48, R85). -/
theorem noSignalExpires_router (s : State) : (noSignalExpires s).router = { s.router with noSignal := none } := by
  unfold noSignalExpires
  rw [noSignalActs_eq]
  repeat' split
  · rfl
  · exact (putOut_spec _ _).2.2
  · simp
  · rfl

/-- What the no-signal rule does in ON (R48). -/
theorem noSignalExpires_on (s : State) (h : s.power.state = .on) :
    (s.room.state = .vacant → s.link.state ≠ .lost → (noSignalExpires s).power.state = .cooling ∧
      toldPower none .auto .on .cooling none s (noSignalExpires s)) ∧
    (s.room.state = .vacant → s.link.state = .lost →
      (noSignalExpires s).power.state = .on ∧ (noSignalExpires s).power.offPending = true) ∧
    (s.room.state ≠ .vacant → (noSignalExpires s).power.state = .on ∧ (noSignalExpires s).power.shutter =
      if s.power.shutter = some .opened then some .closedAuto else s.power.shutter) := by
  unfold noSignalExpires
  rw [noSignalActs_eq, if_pos (show _ = PowerState.on from h)]
  refine ⟨fun hv hl => ?_, fun hv hl => ?_, fun hv => ?_⟩
  · rw [if_pos (show _ = RoomState.vacant from hv), if_neg (show _ ≠ LinkState.lost from hl)]
    obtain ⟨hstate, htold, -⟩ := putOut_spec .auto { s with router := { s.router with noSignal := none } }
    refine ⟨hstate, ?_⟩
    simp only [h] at htold
    exact told_since (grown_refl _) rfl rfl htold
  · rw [if_pos (show _ = RoomState.vacant from hv), if_pos (show _ = LinkState.lost from hl)]
    exact ⟨h, rfl⟩
  · rw [if_neg (show _ ≠ RoomState.vacant from hv)]
    exact ⟨by simpa using h, closeAuto_shutter _⟩

/-- Outside ON the timer stops and nothing else happens (R48, R85). -/
theorem noSignalExpires_otherwise (s : State) (h : s.power.state ≠ .on) :
    noSignalExpires s = { s with router := { s.router with noSignal := none } } := by
  unfold noSignalExpires
  rw [noSignalActs_eq, if_neg (show _ ≠ PowerState.on from h)]

/-- An open window closes, told by WINDOW CLOSED (R154). -/
theorem closeWindowFor_told (c : WindowCause) (dest : Option Port) (o : Origin) (s : State) (h : s.store.window ≠ none) :
    told dest .windowClosed o (word (position windowCauseList c)) (s.store.protect.setWidth 16) s
      (closeWindowFor c dest o s) := by
  unfold closeWindowFor
  split
  · contradiction
  · exact told_of { s with store := { s.store with window := none } } (grown_refl _) rfl rfl (grown_refl _)

/-- The window is CLOSED, and the rest of the store stays (R154). -/
theorem closeWindowFor_store (c : WindowCause) (dest : Option Port) (o : Origin) (s : State) :
    (closeWindowFor c dest o s).store = { s.store with window := none } := by
  unfold closeWindowFor
  split
  · rename_i h
    rw [← h]
  · simp

/-- Settles O37, timer by timer. -/
theorem idleTimersOfTheLamp : Obligations.IdleTimersOfTheLamp := by
  unfold Obligations.IdleTimersOfTheLamp
  refine ⟨fun n s hb hm => ?_, fun n s hn => ?_, fun s => ⟨rfl, rfl, ?_⟩⟩
  · have ht : exec .blankDimExpiry s = .next (finish (blankDimPasses n s)) := by simp [exec, execBlankDimExpiry, hb]
    have hp := blankDimPasses_power n s hm
    refine ⟨_, ht, by simp [hp], by simp [hp], by simp [hp], ?_, ?_, ?_, ?_, ?_, ?_, ?_, ?_⟩
    all_goals simp [lampModed, LampUnit.eq_iff, linkServed_iff, storeServed_iff, contexts]
  · have ht : exec .noSignalTimerExpiry s = .next (finish (noSignalExpires s)) := by
      simp [exec, execNoSignalTimerExpiry, hn]
    refine ⟨_, ht, by simp [noSignalExpires_router], fun hon hv hl => ?_, fun hon hv hl => ?_, fun hon hv => ?_,
      fun hne => ?_, fun hne => ?_, ?_, ?_, ?_, ?_, ?_, ?_, ?_⟩
    · obtain ⟨hstate, htold⟩ := (noSignalExpires_on s hon).1 hv hl
      exact ⟨by simpa using hstate, told_later htold (by simp)⟩
    · simpa using (noSignalExpires_on s hon).2.1 hv hl
    · simpa using (noSignalExpires_on s hon).2.2 hv
    · simp [noSignalExpires_otherwise s hne]
    · simp [noSignalExpires_otherwise s hne]
    · simp [noSignalExpires_router]
    all_goals simp [linkServed_iff, storeServed_iff, contexts]
  · refine ⟨_, rfl, ?_, closeWindowFor_told .expired none .auto s, ?_, ?_⟩
    · exact closeWindowFor_store .expired none .auto s
    · simp [State.eq_iff]
    · simp [contexts]

end Sys2Proof.Machine
end

section
namespace Sys2Proof.Machine

/-! ## Notices with a free word (R171; log entry 6) -/

/-- A notice whose second word no rule gives is told with some word (R171). -/
theorem told_of_free {dest : Option Port} {kind : NoticeKind} {o : Origin} {x : Word} {s t : State} (a : State)
    (h : grown s.ports a.ports) (hq : quietPorts a.ports = quietPorts s.ports) (hc : a.room.clock = s.room.clock)
    (h' : grown (postTo dest kind o (some x) none a).ports t.ports) : ∃ w, told dest kind o x w s t :=
  ⟨Config.freeWord (a.free + 1), told_of a h hq hc h'⟩

/-! ## The head is heard (R59) -/

/-- A head message on a link that is PRESENT shows that the head is there, and nothing more (R59). -/
theorem headArrives_present (ty : HeadType) (s : State) (h : s.link.state = .present) :
    headArrives ty s = { s with link := heard s.link } := by
  unfold headArrives
  rw [h]
  rfl

/-! ## Strike results (R30, R32, R33) -/

/-- A change to a dark state with no intent left, in the Power Sequencer (R25, R26). -/
theorem settleDark_power (dest : PowerState) (o : Origin) (r : Option Reason) (s : State) :
    (settleDark dest o r s).power = { placePower dest s.store.install (clearIntents s.power) with
      effectiveMode := (settleDark dest o r s).power.effectiveMode } :=
  setPower_power dest o r { s with power := clearIntents s.power }

/-- The count of failed strikes is the lamp account's (R35). -/
theorem failedCount_congr (s t : State) (h : t.lamp = s.lamp) : failedCount t = failedCount s := by
  simp [failedCount, h]

/-- The failed strike counted and told of, before the sequence ends, pauses or faults (R6, R33). -/
def failureTold (timeout : Bool) (s : State) : State :=
  postFor .strikeFailed (ignitionOf s) (some (word s.power.attempt)) (some (if timeout then 1 else 0)) (countFailed s)

/-- A failed attempt by off pending and attempt number (R33). -/
theorem attemptFails_eq (timeout : Bool) (s : State) : attemptFails timeout s =
    if s.power.offPending then
      settleDark .standby (offOf s) (if s.power.thermalHold then some .thermalHold else none) (failureTold timeout s)
    else if s.power.attempt < 3 then
      { failureTold timeout s with power := { (failureTold timeout s).power with
          step := .pause, strikeTimer := none, pauseTimer := some 20000 } }
    else enterFault (failureTold timeout s) := rfl

/-- The counting of a failure changes the mode alone of the Power Sequencer (R6, R44). -/
theorem failureTold_power (timeout : Bool) (s : State) : (failureTold timeout s).power =
    { s.power with effectiveMode := (failureTold timeout s).power.effectiveMode } := by
  simp [PowerUnit.eq_iff, failureTold]

/-- The failed strike is counted once (R6). -/
theorem failureTold_failedCount (timeout : Bool) (s : State) :
    failedCount (failureTold timeout s) = satAdd (failedCount s) 1 :=
  (failedCount_congr _ _ (by simp [failureTold])).trans (countFailed_failedCount s)

/-- The counting of a failure only joins notices, and leaves contexts and clock. -/
theorem failureTold_quiet (timeout : Bool) (s : State) : grown s.ports (failureTold timeout s).ports ∧
    quietPorts (failureTold timeout s).ports = quietPorts s.ports ∧
    (failureTold timeout s).room.clock = s.room.clock := by
  simp [failureTold]

/-- STRIKE FAILED tells of a failed attempt (R33). -/
theorem attemptFails_told (timeout : Bool) (s : State) :
    told (originPort (ignitionOf s)) .strikeFailed (ignitionOf s) (word s.power.attempt) (if timeout then 1 else 0) s
      (attemptFails timeout s) := by
  have h : told (originPort (ignitionOf s)) .strikeFailed (ignitionOf s) (word s.power.attempt)
      (if timeout then 1 else 0) s (failureTold timeout s) :=
    told_of (countFailed s) (by simp) (by simp) (by simp) (grown_refl _)
  apply told_later h
  rw [attemptFails_eq]
  repeat' split
  all_goals simp

/-- The count of a failed attempt of a strike sequence stands whatever follows it (R6, R33). -/
theorem attemptFails_failedCount (timeout : Bool) (s : State) (h : s.power.state = .igniting) :
    failedCount (attemptFails timeout s) = satAdd (failedCount s) 1 := by
  rw [← failureTold_failedCount timeout s, attemptFails_eq]
  have hdark : isLit (failureTold timeout s).power.state = false := by rw [failureTold_power, h]; rfl
  apply failedCount_congr
  split
  · exact setPower_lamp .standby _ _ _ hdark rfl (by decide)
  · split
    · rfl
    · unfold enterFault
      simp only [postFor_frame]
      exact setPower_lamp .fault _ none _ hdark rfl (by decide)

/-- With an off pending the failed sequence ends in STANDBY, told with the off's origin (R33, R40). -/
theorem attemptFails_off (timeout : Bool) (s : State) (h : s.power.offPending = true) :
    toldPower (originPort (offOf s)) (offOf s) s.power.state .standby
      (if s.power.thermalHold = true then some .thermalHold else none) s (attemptFails timeout s) ∧
    (attemptFails timeout s).power = { s.power with
      state := .standby, attempt := 0, strikeTimer := none, pauseTimer := none, warmingTimer := none, coolingTimer := none
      restartPending := false, offPending := false, ignitionOrigin := none, offOrigin := none
      effectiveMode := (attemptFails timeout s).power.effectiveMode } := by
  obtain ⟨hg, hq, hc⟩ := failureTold_quiet timeout s
  rw [attemptFails_eq, if_pos h]
  constructor
  · have ht := settleDark_told .standby (offOf s) (if s.power.thermalHold = true then some .thermalHold else none)
      (failureTold timeout s)
    rw [show (failureTold timeout s).power.state = s.power.state by rw [failureTold_power]] at ht
    exact told_since hg hq hc ht
  · rw [settleDark_power, failureTold_power]
    rfl

/-- Before attempt 3 the sequence pauses for 20 s (R33). -/
theorem attemptFails_pause (timeout : Bool) (s : State) (h : s.power.offPending = false) (h3 : s.power.attempt < 3) :
    (attemptFails timeout s).power = { s.power with
      step := .pause, strikeTimer := none, pauseTimer := some 20000
      effectiveMode := (attemptFails timeout s).power.effectiveMode } := by
  rw [attemptFails_eq, if_neg (by simp [h]), if_pos h3]
  dsimp only
  rw [failureTold_power]

/-- After attempt 3 the sequence ends in FAULT, told by POWER STATE CHANGED and FAULT (R35). -/
theorem attemptFails_fault (timeout : Bool) (s : State) (h : s.power.offPending = false) (h3 : 3 ≤ s.power.attempt) :
    toldPower (originPort (ignitionOf s)) (ignitionOf s) s.power.state .fault none s (attemptFails timeout s) ∧
    (∃ w, told (originPort (ignitionOf s)) .fault (ignitionOf s)
      (heldWord (failedCount (failureTold timeout s))) w s (attemptFails timeout s)) ∧
    (attemptFails timeout s).power = { s.power with
      state := .fault, strikeTimer := none, pauseTimer := none, warmingTimer := none, coolingTimer := none
      restartPending := false, ignitionOrigin := none, offOrigin := none
      effectiveMode := (attemptFails timeout s).power.effectiveMode } := by
  obtain ⟨hg, hq, hc⟩ := failureTold_quiet timeout s
  have hp := failureTold_power timeout s
  have ho : ignitionOf (failureTold timeout s) = ignitionOf s := by unfold ignitionOf; rw [hp]
  rw [attemptFails_eq, if_neg (by simp [h]), if_neg (by omega)]
  unfold enterFault
  rw [ho]
  refine ⟨?_, ?_, ?_⟩
  · have ht := setPower_told .fault (ignitionOf s) none (failureTold timeout s)
    rw [show (failureTold timeout s).power.state = s.power.state by rw [hp]] at ht
    exact told_later (told_since hg hq hc ht) (by simp)
  · exact told_of_free (setPower .fault (ignitionOf s) none (failureTold timeout s)) (by simp [hg]) (by simp [hq])
      (by simp [hc]) (grown_refl _)
  · dsimp only
    simp only [postFor_frame]
    rw [setPower_power, hp]
    simp [placePower, clearIntents, h]

/-- A STRIKE RESULT on a link that is PRESENT reaches the Power Sequencer in IGNITING alone (R65). -/
theorem strikeResultArrives_present (ok : Bool) (s : State) (h : s.link.state = .present) :
    strikeResultArrives ok s = if s.power.state = .igniting then strikeResultTaken ok { s with link := heard s.link }
      else { s with link := heard s.link } := by
  simp [strikeResultArrives, headArrives_present _ s h]

/-- An OK in AWAITING RESULT or PAUSE is the attempt's success (R32). -/
theorem strikeResultTaken_ok (s : State) (h : s.power.step ≠ .sending) : strikeResultTaken true s = attemptSucceeds s := by
  unfold strikeResultTaken
  cases hs : s.power.step <;> simp_all

/-- A STRIKE RESULT in SENDING, or a FAIL in PAUSE, does nothing (R30). -/
theorem strikeResultTaken_idle (ok : Bool) (s : State)
    (h : s.power.step = .sending ∨ (s.power.step = .pause ∧ ok = false)) : strikeResultTaken ok s = s := by
  unfold strikeResultTaken
  rcases h with h | ⟨h, rfl⟩ <;> rw [h]

/-- A FAIL in AWAITING RESULT is the attempt's failure (R33). -/
theorem strikeResultTaken_fail (s : State) (h : s.power.step = .awaitingResult) :
    strikeResultTaken false s = attemptFails false s := by
  unfold strikeResultTaken
  rw [h]

/-- A success lights the lamp: WARMING, and the burn timer at 0 (R32). -/
theorem attemptSucceeds_spec (s : State) (h : s.power.state = .igniting) :
    (attemptSucceeds s).power = { s.power with
      state := .warming, attempt := 0, strikeTimer := none, pauseTimer := none
      warmingTimer := some (s.store.install.warmingTime * 1000), coolingTimer := none } ∧
    (attemptSucceeds s).lamp = { s.lamp with burn := some 0, normalSeen := true } ∧
    toldPower (originPort (ignitionOf s)) (ignitionOf s) .igniting .warming none s (attemptSucceeds s) := by
  have hdark : isLit s.power.state = false := by rw [h]; rfl
  refine ⟨?_, ?_, h ▸ setPower_told .warming (ignitionOf s) none s⟩
  · unfold attemptSucceeds
    rw [setPower_quiet _ _ _ _ hdark]
    rfl
  · unfold attemptSucceeds
    rw [setPower_lit _ _ _ _ hdark rfl]
    rfl

/-- What every STRIKE RESULT on a link that is PRESENT leaves (R65). -/
theorem strikeResultArrives_leaves (ok : Bool) (s : State) (h : s.link.state = .present) :
    let t := finish (strikeResultArrives ok s)
    linkServed (heard s.link) t.link ∧ routerTimed s.router t.router ∧ storeServed s.store t.store ∧
      t.geometry = s.geometry ∧ t.room = s.room ∧ t.lockout = s.lockout ∧ contexts t = contexts s := by
  dsimp only
  rw [strikeResultArrives_present ok s h]
  split <;> simp [linkServed_iff, routerTimed, RouterUnit.eq_iff, storeServed_iff, contexts]

/-- What a failed attempt leaves (R33). -/
theorem attemptFails_leaves (timeout : Bool) (s : State) :
    let t := finish (attemptFails timeout s)
    linkServed s.link t.link ∧ routerTimed s.router t.router ∧ t.geometry = s.geometry ∧ t.room = s.room ∧
      t.lockout = s.lockout ∧ contexts t = contexts s ∧ storeServed s.store t.store := by
  simp [linkServed_iff, routerTimed, RouterUnit.eq_iff, storeServed_iff, contexts]

/-- The state in which a failed attempt is counted: a STRIKE RESULT FAIL has shown first that the head is there. -/
def attemptEnds (c : Instr) (s : State) : State :=
  { s with link := if c = .strikeResultTimeout then s.link else heard s.link }

@[simp] theorem attemptEnds_power (c : Instr) (s : State) : (attemptEnds c s).power = s.power := rfl

/-- A failed attempt comes by a STRIKE RESULT FAIL or by the timeout; both act alike on what they find (R33). -/
theorem exec_attemptFails (c : Instr) (s : State) (hi : s.power.state = .igniting) (ha : s.power.step = .awaitingResult)
    (hc : (c = .strikeResult false ∧ s.link.state = .present) ∨ (c = .strikeResultTimeout ∧ s.power.strikeTimer ≠ none)) :
    exec c s = .next (finish (attemptFails (c = .strikeResultTimeout) (attemptEnds c s))) := by
  rcases hc with ⟨rfl, hp⟩ | ⟨rfl, ht⟩
  · have h := strikeResultArrives_present false s hp
    rw [if_pos hi] at h
    exact congrArg (fun u => Host.Outcome.next (finish u)) (h.trans (strikeResultTaken_fail _ ha))
  · simp [exec, execStrikeResultTimeout, Option.isSome_iff_ne_none, ht, attemptEnds]

/-- What is told between the failed attempt's start and its end is told within the command. -/
theorem told_attempt {dest : Option Port} {kind : NoticeKind} {o : Origin} {x y : Word} {c : Instr} {s t : State}
    (h : told dest kind o x y (attemptEnds c s) t) : told dest kind o x y s (finish t) :=
  told_later (told_since (grown_refl _) rfl rfl h) (by simp)

/-- Settles O33: the result by the strike step, and a failed attempt by off pending and attempt number. -/
theorem strikeResultsAndTimeout : Obligations.StrikeResultsAndTimeout := by
  unfold Obligations.StrikeResultsAndTimeout
  refine ⟨fun ok s hp => ?_, fun c s hi ha hc => ?_⟩
  · obtain ⟨hlink, hrouter, hstore, hgeo, hroom, hlock, hctx⟩ := strikeResultArrives_leaves ok s hp
    refine ⟨_, rfl, hlink, fun hi hs hok => ?_, fun hidle => ?_, hrouter, hstore, hgeo, hroom, hlock, hctx⟩
    · subst hok
      have he : strikeResultArrives true s = attemptSucceeds { s with link := heard s.link } := by
        rw [strikeResultArrives_present _ s hp, if_pos hi]
        exact strikeResultTaken_ok _ hs
      obtain ⟨hpow, hlamp, htold⟩ := attemptSucceeds_spec { s with link := heard s.link } hi
      rw [he]
      refine ⟨by simpa using hpow, by simpa using hlamp, ?_⟩
      exact told_later (told_since (grown_refl _) rfl rfl htold) (by simp)
    · have he : strikeResultArrives ok s = { s with link := heard s.link } := by
        rw [strikeResultArrives_present _ s hp]
        split
        · next hi => exact strikeResultTaken_idle ok _ (hidle.resolve_left fun h => h hi)
        · rfl
      simp [he]
  · obtain ⟨hlink, hrouter, hgeo, hroom, hlock, hctx, hstore⟩ :=
      attemptFails_leaves (c = .strikeResultTimeout) (attemptEnds c s)
    have hcount := attemptFails_failedCount (c = .strikeResultTimeout) (attemptEnds c s) hi
    have hend : failedCount (finish (attemptFails (c = .strikeResultTimeout) (attemptEnds c s))) =
        failedCount (failureTold (c = .strikeResultTimeout) (attemptEnds c s)) :=
      (failedCount_congr _ _ (by simp)).trans (hcount.trans (failureTold_failedCount _ _).symm)
    have htold := told_attempt (attemptFails_told (c = .strikeResultTimeout) (attemptEnds c s))
    refine ⟨_, exec_attemptFails c s hi ha hc, (failedCount_congr _ _ (by simp)).trans hcount,
      by simpa [ignitionOf] using htold, fun ho => ?_, fun ho h3 => ?_, fun ho => ?_, fun ho h3 => ?_, fun ho h3 => ?_,
      hlink, hrouter, hgeo, hroom, hlock, hctx, hstore⟩
    · have h := (attemptFails_off (c = .strikeResultTimeout) (attemptEnds c s) ho).1
      rw [show (attemptEnds c s).power.state = .igniting from hi] at h
      exact told_attempt h
    · obtain ⟨hchange, ⟨w, hfault⟩, -⟩ := attemptFails_fault (c = .strikeResultTimeout) (attemptEnds c s) ho h3
      rw [show (attemptEnds c s).power.state = .igniting from hi] at hchange
      rw [← hend] at hfault
      exact ⟨told_attempt hchange, w, told_attempt hfault⟩
    · simpa using (attemptFails_off (c = .strikeResultTimeout) (attemptEnds c s) ho).2
    · simpa using attemptFails_pause (c = .strikeResultTimeout) (attemptEnds c s) ho h3
    · simpa using (attemptFails_fault (c = .strikeResultTimeout) (attemptEnds c s) ho h3).2.2

end Sys2Proof.Machine
end

section
namespace Sys2Proof.Machine

/-! ## An acknowledgement and its exchange (R53, R54) -/

/-- An ACK on a link that is PRESENT is matched after the head has been heard (R54, R59). -/
theorem exec_ack_present (tag : BitVec 3) (ok : Bool) (s : State) (h : s.link.state = .present) :
    exec (.ack tag ok) s = .next (finish (ackTaken tag ok { s with link := heard s.link })) := by
  rw [← headArrives_present .ack s h]
  rfl

/-- An ACK with nothing outstanding is disregarded (R54). -/
theorem ackTaken_nothing (tag : BitVec 3) (ok : Bool) (s : State) (h : s.link.outstanding = none) :
    ackTaken tag ok s = s := by simp [ackTaken, h]

/-- An ACK of another tag is disregarded (R54). -/
theorem ackTaken_other (tag : BitVec 3) (ok : Bool) (o : Outstanding) (s : State) (h : s.link.outstanding = some o)
    (ht : o.tag ≠ tag) : ackTaken tag ok s = s := by simp [ackTaken, h, ht]

/-- An ACK of the tag outstanding ends the exchange (R54). -/
theorem ackTaken_match (ok : Bool) (o : Outstanding) (s : State) (h : s.link.outstanding = some o) :
    ackTaken o.tag ok s = if ok then ackOk o (endExchange s) else ackReject o (endExchange s) := by simp [ackTaken, h]

/-- The engine leaves the link, so that at the end of a command it is as the serving leaves it (R58). -/
theorem finish_link (s : State) : (finish s).link = (serveLink s).link := by simp [finish]

/-- With nothing outstanding the serving sends a message with the next tag, for the first time, or none (R53, R58). -/
theorem serveLink_sends_first (s : State) (ho : s.link.outstanding = none) (ha : s.link.answer = none) :
    (serveLink s).link.answer = none ∧
      ∀ x, (serveLink s).link.outstanding = some x → x.tag = s.link.nextTag ∧ x.sends = 1 := by
  unfold serveLink
  repeat' split
  · exact ⟨rfl, by rintro x ⟨⟩; exact ⟨rfl, rfl⟩⟩
  · exact ⟨rfl, by rintro x ⟨⟩; exact ⟨rfl, rfl⟩⟩
  all_goals simp [ho, ha]

/-! ## The ACK of an IGNITE (R5, R30, R31) -/

/-- A strike counted on a loaded account leaves the tally (R15). -/
theorem countStrike_tally (s : State) (a : Account) (h : s.lamp.account = some a) :
    (countStrike s).lamp.tally = s.lamp.tally := by
  simp only [countStrike, h]
  rw [relevel_loaded _ _ rfl, levelBecomes_tally _ _ _ _ _ (by simp)]

/-- The attempt awaits its result, its timer at 10 s (R30). -/
def resultAwaited (s : State) : State :=
  { s with power := { s.power with step := .awaitingResult, strikeTimer := some 10000 } }

/-- An accepted IGNITE in SENDING: the result is awaited, and the strike counted (R5, R30). -/
theorem igniteAccepted_sending (s : State) (h : s.power.state = .igniting) (h' : s.power.step = .sending) :
    igniteAccepted s = countStrike (resultAwaited s) := by
  simp [igniteAccepted, h, h', resultAwaited]

/-- What an accepted IGNITE in SENDING does to a loaded account and to the attempt (R5, R30). -/
theorem igniteAccepted_spec (s : State) (a : Account) (h : s.power.state = .igniting) (h' : s.power.step = .sending)
    (ha : s.lamp.account = some a) :
    (igniteAccepted s).lamp.account = some { a with
      wear := satAdd a.wear (if s.lamp.hotWindow = none then 1800 else 3600)
      coldStrikes := satAdd a.coldStrikes (if s.lamp.hotWindow = none then 1 else 0)
      hotStrikes := satAdd a.hotStrikes (if s.lamp.hotWindow = none then 0 else 1)
      totalStrikes := satAdd a.totalStrikes 1 } ∧
    (igniteAccepted s).power = { s.power with
      step := .awaitingResult, strikeTimer := some 10000
      effectiveMode := (igniteAccepted s).power.effectiveMode } ∧
    (igniteAccepted s).lamp = { s.lamp with
      account := (igniteAccepted s).lamp.account, level := (igniteAccepted s).lamp.level
      cadence := (igniteAccepted s).lamp.cadence, normalSeen := (igniteAccepted s).lamp.normalSeen } := by
  rw [igniteAccepted_sending s h h']
  refine ⟨?_, by simp [PowerUnit.eq_iff, resultAwaited], ?_⟩
  · rw [countStrike_account (resultAwaited s) a ha]
    cases hw : s.lamp.hotWindow <;> simp [resultAwaited, strikeWear, hw]
  · have htally : (countStrike (resultAwaited s)).lamp.tally = s.lamp.tally := countStrike_tally (resultAwaited s) a ha
    have hlamp : (resultAwaited s).lamp = s.lamp := rfl
    simp [LampUnit.eq_iff, htally, hlamp]

/-- A rejected IGNITE ends the sequence in STANDBY without wear, told twice (R31). -/
theorem igniteRejected_spec (s : State) (h : s.power.state = .igniting) :
    (∃ w, told (originPort (ignitionOf s)) .igniteRefusedByHead (ignitionOf s) (word s.power.attempt) w s
      (igniteRejected s)) ∧
    toldPower (originPort (ignitionOf s)) (ignitionOf s) .igniting .standby none s (igniteRejected s) ∧
    (igniteRejected s).power = { s.power with
      state := .standby, attempt := 0, restartPending := false, offPending := false, offOrigin := none
      ignitionOrigin := none, strikeTimer := none, pauseTimer := none, warmingTimer := none, coolingTimer := none } ∧
    (igniteRejected s).lamp = s.lamp := by
  have hdark : isLit s.power.state = false := by rw [h]; rfl
  unfold igniteRejected
  rw [if_pos h]
  refine ⟨?_, ?_, ?_, ?_⟩
  · exact told_of_free s (grown_refl _) rfl rfl (settleDark_grown _ _ _ _ _ (grown_refl _))
  · have ht := settleDark_told .standby (ignitionOf s) none
      (postFor .igniteRefusedByHead (ignitionOf s) (some (word s.power.attempt)) none s)
    simp only [postFor_frame, h] at ht
    exact told_since (by simp) (by simp) (by simp) ht
  · unfold settleDark
    rw [setPower_quiet _ _ _ _ (by simpa [clearIntents] using hdark)]
    simp [placePower, clearIntents]
  · unfold settleDark
    rw [setPower_lamp _ _ _ _ (by simpa [clearIntents] using hdark) rfl (by decide)]
    simp

/-! ## The ACK of an entry of the lane (R57, R99) -/

/-- Below 57 the lane names an entry of one of its tables (R57). -/
theorem laneMessage_entry (l : LaneSet) (h : l.progress < 57) :
    (∃ n i e, laneMessage l = .row n i e) ∨ ∃ n i e, laneMessage l = .column n i e := by
  by_cases hr : l.progress < 26
  · exact .inl ⟨_, _, _, by rw [laneMessage, if_pos hr]⟩
  · exact .inr ⟨_, _, _, by rw [laneMessage, if_neg hr, if_pos h]⟩

/-- From 57 on it names the COMMIT (R57). -/
theorem laneMessage_commit (l : LaneSet) (h : 57 ≤ l.progress) : laneMessage l = .commit l.set.number := by
  rw [laneMessage, if_neg (by omega), if_neg (by omega)]

/-- No message of the lane is a control message. -/
theorem laneMessage_not_control (l : LaneSet) (m : ControlMsg) : laneMessage l ≠ .control m := by
  unfold laneMessage
  repeat' split
  all_goals simp

/-- The ACK OK of an entry sent from the lane advances the progress index (R57). -/
theorem ackOk_entry (o : Outstanding) (l : LaneSet) (s : State) (hm : o.msg = laneMessage l) (ho : o.ofLane = true)
    (h : l.progress < 57) : ackOk o s = advanceLane s := by
  rcases laneMessage_entry l h with ⟨n, i, e, he⟩ | ⟨n, i, e, he⟩ <;> simp [ackOk, hm, he, ho]

/-- The ACK OK of the COMMIT sent from the lane empties it and marks a PENDING set (R57, R99). -/
theorem ackOk_commit (o : Outstanding) (l : LaneSet) (s : State) (hm : o.msg = laneMessage l) (ho : o.ofLane = true)
    (h : 57 ≤ l.progress) : ackOk o s = commitAccepted (emptyLane s) := by
  simp [ackOk, hm, laneMessage_commit l h, ho]

/-- The ACK REJECT of a message sent from the lane empties it and holds a PENDING set (R57, R99). -/
theorem ackReject_lane (o : Outstanding) (l : LaneSet) (s : State) (hm : o.msg = laneMessage l) (ho : o.ofLane = true) :
    ackReject o s = setRejected (laneIndex s)
      (emptyLane { s with link := { s.link with lastRejection := some (headMsgType o.msg, o.tag) } }) := by
  unfold ackReject
  cases hmsg : o.msg with
  | control m => exact absurd (hm.symm.trans hmsg) (laneMessage_not_control l m)
  | row n i e => simp [ho]
  | column n i e => simp [ho]
  | commit n => simp [ho]

/-- The ACK of the COMMIT marks a PENDING set alone (R99). -/
theorem commitAccepted_geometry (s : State) : (commitAccepted s).geometry =
    if s.geometry.status = .pending then { s.geometry with commitAcked := true } else s.geometry := by
  unfold commitAccepted; split <;> rfl

/-- A rejection holds a PENDING set alone (R99). -/
theorem setRejected_geometry (index : Nat) (s : State) : (setRejected index s).geometry =
    if s.geometry.status = .pending then { s.geometry with status := .held } else s.geometry := by
  unfold setRejected; split <;> simp

/-- A set held by a rejection is told of with the entry's index (R99). -/
theorem setRejected_told (index : Nat) (s : State) (h : s.geometry.status = .pending) :
    told none .geometryHeld .auto (s.geometry.setNumber.setWidth 16) (pairWord 0 index) s (setRejected index s) := by
  unfold setRejected
  rw [if_pos h]
  exact told_of { s with geometry := { s.geometry with status := .held } } (grown_refl _) rfl rfl (grown_refl _)

/-! ## An acknowledged command of the head -/

/-- The state in which an ACK of the tag outstanding acts: the head heard and the exchange ended (R54, R59). -/
def exchangeEnded (s : State) : State := endExchange { s with link := heard s.link }

/-- It differs from the state before the ACK in the link alone. -/
@[simp] theorem exchangeEnded_frame (s : State) : (exchangeEnded s).ports = s.ports ∧
    (exchangeEnded s).lamp = s.lamp ∧ (exchangeEnded s).power = s.power ∧ (exchangeEnded s).router = s.router ∧
    (exchangeEnded s).geometry = s.geometry ∧ (exchangeEnded s).room = s.room ∧
    (exchangeEnded s).lockout = s.lockout ∧ (exchangeEnded s).store = s.store ∧
    (exchangeEnded s).link = { heard s.link with outstanding := none, answer := none } :=
  ⟨rfl, rfl, rfl, rfl, rfl, rfl, rfl, rfl, rfl⟩

/-- What is told from the end of the exchange to the end of the effect is told within the command. -/
theorem told_exchange {dest : Option Port} {kind : NoticeKind} {o : Origin} {x y : Word} {s t : State} (m : Option _)
    (h : told dest kind o x y { exchangeEnded s with link := { (exchangeEnded s).link with lastRejection := m } } t) :
    told dest kind o x y s (finish t) :=
  told_later (told_since (grown_refl _) rfl rfl h) (by simp)

/-- An ACK of the tag outstanding, on a link that is PRESENT (R54). -/
theorem exec_ack_match (tag : BitVec 3) (ok : Bool) (o : Outstanding) (s : State) (hp : s.link.state = .present)
    (ho : s.link.outstanding = some o) (ht : o.tag = tag) : exec (.ack tag ok) s =
      .next (finish (if ok then ackOk o (exchangeEnded s) else ackReject o (exchangeEnded s))) := by
  subst ht
  rw [exec_ack_present _ _ _ hp, ackTaken_match ok o { s with link := heard s.link } ho]
  rfl

/-- What every ACK of the tag outstanding leaves (R54). -/
theorem ack_leaves (ok : Bool) (o : Outstanding) (s : State) :
    let t := finish (if ok then ackOk o (exchangeEnded s) else ackReject o (exchangeEnded s))
    storeServed s.store t.store ∧ contexts t = contexts s ∧ t.link.answer = none ∧
      (∀ x, t.link.outstanding = some x → x.tag = s.link.nextTag ∧ x.sends = 1) ∧
      t.link.lastRejection = if ok = true then s.link.lastRejection else some (headMsgType o.msg, o.tag) := by
  dsimp only
  rw [finish_link]
  cases ok with
  | true =>
    obtain ⟨hans, hout⟩ := serveLink_sends_first (ackOk o (exchangeEnded s)) (by simp)
      (by simp)
    refine ⟨?_, ?_, hans, fun x hx => ?_, ?_⟩
    · simp [storeServed_iff]
    · simp [contexts]
    · simpa [heard] using hout x hx
    · simp [heard]
  | false =>
    obtain ⟨hans, hout⟩ := serveLink_sends_first (ackReject o (exchangeEnded s))
      (by simp) (by simp)
    refine ⟨?_, ?_, hans, fun x hx => ?_, ?_⟩
    · simp [storeServed_iff]
    · simp [contexts]
    · simpa [heard] using hout x hx
    · simp only [Bool.false_eq_true, if_false, serveLink_frame]
      unfold ackReject
      repeat' split
      all_goals simp [emptyLane]

/-- An ACK of a control message other than IGNITE, or of a message of an earlier set, changes the last rejection alone
(R54, R57). -/
theorem ack_of_other (ok : Bool) (o : Outstanding) (s : State)
    (h : (∃ m, o.msg = .control m ∧ m ≠ .ignite) ∨ ((∀ m, o.msg ≠ .control m) ∧ o.ofLane = false)) :
    (if ok then ackOk o s else ackReject o s) = if ok then s else
      { s with link := { s.link with lastRejection := some (headMsgType o.msg, o.tag) } } := by
  rcases h with ⟨m, hm, hne⟩ | ⟨hc, ho⟩
  · cases m <;> simp_all [ackOk, ackReject]
  · cases hm : o.msg <;> simp_all [ackOk, ackReject]

/-- The ACK of an IGNITE by its answer (R54). -/
theorem ack_of_ignite (ok : Bool) (o : Outstanding) (s : State) (h : o.msg = .control .ignite) :
    (if ok then ackOk o s else ackReject o s) = if ok then igniteAccepted s else
      igniteRejected { s with link := { s.link with lastRejection := some (.ignite, o.tag) } } := by
  simp [ackOk, ackReject, h, headMsgType, controlType]

/-- Settles O25: by the message outstanding, and for a message of the lane by its progress index. -/
theorem ackedIgniteCountsAStrike : Obligations.AckedIgniteCountsAStrike := by
  unfold Obligations.AckedIgniteCountsAStrike
  refine ⟨fun tag n b a s hp ho hi hs ha => ?_, fun tag n b s hp ho => ⟨fun hi => ?_, fun hu => ⟨?_, ?_⟩⟩,
    fun tag ok s hp ho => ?_, fun tag ok o s hp ho => ?_, fun tag n l s hp hl ho => ⟨fun h => ?_, fun h => ?_, fun h => ?_⟩⟩
  · refine ⟨_, exec_ack_match tag true _ s hp ho rfl, ?_⟩
    rw [ack_of_ignite true _ _ rfl, if_pos rfl]
    obtain ⟨hacc, hpow, hlamp⟩ := igniteAccepted_spec (exchangeEnded s) a hi hs ha
    refine ⟨by simpa using hacc, by simpa using hpow, by simpa using hlamp, ?_⟩
    simp [linkServed_iff, contexts, storeServed_iff, heard]
  · refine ⟨_, exec_ack_match tag false _ s hp ho rfl, ?_⟩
    rw [ack_of_ignite false _ _ rfl, if_neg (by simp)]
    obtain ⟨⟨w, hword⟩, hchange, hpow, hlamp⟩ := igniteRejected_spec
      { exchangeEnded s with link := { (exchangeEnded s).link with lastRejection := some (.ignite, tag) } } hi
    refine ⟨⟨w, told_exchange _ hword⟩, told_exchange _ hchange, by simpa using hpow, by simpa using hlamp, ?_⟩
    simp [linkServed_iff, routerTimed, RouterUnit.eq_iff, contexts, storeServed_iff, heard]
  · refine ⟨_, exec_ack_match tag true _ s hp ho rfl, ?_⟩
    rw [ack_of_ignite true _ _ rfl]
    simp [igniteAccepted, hu, actionsKept]
  · refine ⟨_, exec_ack_match tag false _ s hp ho rfl, ?_⟩
    rw [ack_of_ignite false _ _ rfl]
    simp [igniteRejected, hu, actionsKept, linkServed_iff, heard]
  · refine ⟨_, exec_ack_present tag ok s hp, ?_⟩
    rw [ackTaken_nothing tag ok { s with link := heard s.link } ho]
    simp [linkServed_iff, actionsKept, storeServed_iff, contexts]
  · by_cases ht : o.tag = tag
    · obtain ⟨hstore, hctx, hans, hout, hrej⟩ := ack_leaves ok o s
      refine ⟨_, exec_ack_match tag ok o s hp ho ht, hstore, hctx, fun h => absurd ht h, fun _ =>
        ⟨hans, hout, ht ▸ hrej, fun hm => ?_⟩⟩
      rw [ack_of_other ok o _ hm]
      split <;> simp [actionsKept, heard]
    · refine ⟨_, exec_ack_present tag ok s hp, ?_⟩
      rw [ackTaken_other tag ok o { s with link := heard s.link } ho ht]
      have hl : (finish { s with link := heard s.link }).link = heard s.link := by
        rw [finish_link, serveLink_busy _ (.inr (.inl (by simp [heard, ho])))]
      exact ⟨by simp [storeServed_iff], by simp [contexts], fun _ => ⟨hl, by simp [actionsKept]⟩, fun h => absurd h ht⟩
  · refine ⟨_, exec_ack_match tag true _ s hp ho rfl, ?_⟩
    rw [if_pos rfl, ackOk_entry _ l _ rfl rfl h]
    refine ⟨?_, ?_, ?_, fun hc ht => ⟨?_, fun h56 => laneMessage_commit _ (by simp [h56])⟩⟩
    · simp [storeServed_iff, contexts]
    · simp [advanceLane, hl, heard]
    · simp [linkServed_iff, heard]
    · rw [finish_link, serveLink_free _ (by simp [heard]) (by simp) (by simpa [heard] using ht)]
      simp [advanceLane, heard, hc, hl, sendMessage]
  · refine ⟨_, exec_ack_match tag true _ s hp ho rfl, ?_⟩
    rw [if_pos rfl, ackOk_commit _ l _ rfl rfl (Nat.le_of_eq h.symm)]
    refine ⟨?_, by simp [emptyLane], by simp [linkServed_iff, heard, emptyLane]⟩
    simp +contextual [storeServed_iff, contexts, commitAccepted_geometry]
  · refine ⟨_, exec_ack_match tag false _ s hp ho rfl, ?_⟩
    rw [if_neg (by simp), ackReject_lane _ l _ rfl rfl]
    refine ⟨?_, by simp [emptyLane], by simp [linkServed_iff, heard, emptyLane], fun hpend => ?_⟩
    · simp +contextual [storeServed_iff, contexts, setRejected_geometry]
    · have hi : laneIndex (exchangeEnded s) = l.progress := by simp [laneIndex, heard, hl]
      have ht := setRejected_told l.progress (emptyLane { exchangeEnded s with
        link := { (exchangeEnded s).link with lastRejection := some (headMsgType (laneMessage l), tag) } }) hpend
      rw [hi]
      exact told_later (told_since (grown_refl _) rfl rfl ht) (by simp)

end Sys2Proof.Machine
end

section
namespace Sys2Proof.Machine

/-! ## The search for a candidate is bounded (R121) -/

/-- The first day of a WEEKLY booking is sought in as many weeks as there are exceptions, and five more (R114). -/
theorem firstDay_within {s : State} {id : Fin 64} {base : Nat} {ok : Booking → Nat → Bool} {b : Booking} {d : Nat}
    {mask : BitVec 7} {first : Nat} {last : Option Nat} (hk : b.kind = .weekly mask first last)
    (h : firstDay s id base ok = some (b, d)) : d < max first base + (s.room.exceptions.length + 5) * 7 := by
  have hb := (firstDay_some h).1
  simp only [firstDay, hb, hk, Option.map_eq_some_iff] at h
  obtain ⟨e, he, heq⟩ := h
  cases heq
  obtain ⟨i, hi, rfl⟩ := List.mem_map.mp (List.mem_of_find?_eq_some he)
  have := List.mem_range.mp hi
  omega

/-! ## A load at a clock beyond its day -/

/-- Load completion, and the room that its evaluation leaves, when the clock is set (R131). -/
theorem exec_loadCompletion_room (s : State) (h : s.store.loaded = false) (hc : s.room.clock.isSet = true) :
    ∃ t v, exec .loadCompletion s = .next t ∧ t.room = (evaluate none .time .schedule v).room ∧
      v.room.clock = s.room.clock ∧ v.room.state = s.room.state ∧ v.room.current = s.room.current := by
  refine ⟨_, pruneExceptions (cleanTable (applyOnInStandby (firstEvaluation (compareBlankDim (loadLamp
    (loadRecords (nonLampKeys.foldl loadNotice s))))))), rfl, ?_, ?_, ?_, ?_⟩
  · simp [completeLoad, h, loadRoom, loadRecords, hc]
  all_goals simp [loadRecords]

/-- A booking of the whole of each day. -/
def dailyBooking : Booking :=
  { kind := .weekly 0b1111111 0 none, startMinute := 0, endMinute := 1440, lead := 0, source := none, preset := none
    lampMode := .roomDefault, profile := 0, endAction := .stay, grace := 0, owner := .lectern, title := [] }

/-- The table that holds the daily booking alone. -/
def dailyTable : Vector (Option Booking) 64 := (Vector.replicate 64 none).set 0 (some dailyBooking)

/-- A block before the load whose clock has minute 50,400 of day 0, five weeks on, and whose storage holds the daily
booking as its one valid record. No run gives the clock such a minute: a minute step goes on to the next day at 1,439. -/
def lateClock : State :=
  { State.reset with
    room := { State.reset.room with clock := { day := 0, minute := 50400, second := 0, isSet := true } }
    store := { State.reset.store with
      records := (Vector.replicate 101 (torn [])).set (recordIndex (.booking 0)) (sealed (bookingImage dailyBooking)) } }

/-- Storage gives the daily table. -/
theorem lateClock_table (n : Fin 64) : dailyTable[n] = if validRecord (recordOf lateClock (.booking n)) = true then
    bookingOf (recordOf lateClock (.booking n)).image else none := by
  by_cases hn : n = 0
  · subst hn
    have hr : recordOf lateClock (.booking 0) = sealed (bookingImage dailyBooking) := by
      simp [recordOf, lateClock]
    rw [hr, if_pos (validRecord_sealed _)]
    decide
  · have hi : recordIndex (.booking n) ≠ recordIndex (.booking 0) := by
      revert n; decide
    have hr : recordOf lateClock (.booking n) = torn [] := by
      simp only [recordOf, lateClock]
      rw [getElem_set_other _ _ _ _ hi]
      simp
    rw [hr, if_neg (by simp)]
    exact (getElem_set_other _ 0 n _ hn).trans (by simp)

/-- The daily booking stands in slot 0, and nothing in another slot. -/
theorem dailyTable_some {n : Fin 64} {b : Booking} (h : dailyTable[n] = some b) : n = 0 ∧ b = dailyBooking := by
  by_cases hn : n = 0
  · subst hn
    exact ⟨rfl, (Option.some.inj h).symm⟩
  · rw [show dailyTable[n] = (Vector.replicate 64 (none : Option Booking))[n] from getElem_set_other _ 0 n _ hn] at h
    simp at h

/-- One booking conflicts with no other. -/
theorem dailyTable_clear : tableClear dailyTable := by
  intro i j hij a b ha hb
  exact absurd ((dailyTable_some ha).1.trans (dailyTable_some hb).1.symm) hij

/-- An occurrence of the daily booking that covers minute 50,400 of day 0 is that of day 35. -/
theorem dailyBooking_covers (d : Nat) : (prepOf dailyBooking d ≤ 50400 ∧ 50400 < endOf dailyBooking d) ↔ d = 35 := by
  simp only [prepOf, startOf, endOf, absolute, dailyBooking]
  omega

/-- The search from day 0 ends before day 35, and finds no candidate. -/
theorem no_candidate_late (v : State) (hc : v.room.clock = lateClock.room.clock) (hb : v.room.bookings = dailyTable)
    (he : v.room.exceptions = []) : candidate v = none := by
  by_contra hne
  obtain ⟨⟨o, b⟩, ho⟩ := Option.ne_none_iff_exists'.mp hne
  have hday := (leastOccurrence_some ho).1
  obtain ⟨hslot, -, -, hok⟩ := firstDay_some hday
  rw [hb] at hslot
  obtain ⟨-, rfl⟩ := dailyTable_some hslot
  have hnow : nowMinute v = 50400 := by simp [nowMinute, hc, lateClock, absolute]
  simp only [Bool.and_eq_true, decide_eq_true_eq, hnow] at hok
  have hwithin := firstDay_within (mask := 0b1111111) (first := 0) (last := none) rfl hday
  rw [he, hc] at hwithin
  have h35 := (dailyBooking_covers o.day).mp ⟨hok.1.2, hok.2⟩
  simp [lateClock, h35] at hwithin

/-- Day 35 of the daily booking is the candidate of R121 at that clock. -/
theorem lateClock_isCandidate (s : State) (hc : s.room.clock = lateClock.room.clock) (hb : s.room.bookings = dailyTable)
    (he : s.room.exceptions = []) (ht : s.room.taken = lateClock.room.taken) :
    isCandidate s ⟨0, 35⟩ dailyBooking := by
  have hnow : nowMinute s = 50400 := by simp [nowMinute, hc, lateClock, absolute]
  refine ⟨⟨by simp [hc, lateClock], ⟨by rw [hb]; rfl, by decide, by simp [he]⟩, ?_, ?_, ?_⟩, fun x c hx hne => ?_⟩
  · rw [ht]; simp [lateClock, State.reset, RoomUnit.reset]
  · rw [hnow]; exact ((dailyBooking_covers 35).mpr rfl).1
  · rw [hnow]; exact ((dailyBooking_covers 35).mpr rfl).2
  · obtain ⟨-, ⟨hslot, -, -⟩, -, hprep, hend⟩ := hx
    rw [hb] at hslot
    obtain ⟨hid, rfl⟩ := dailyTable_some hslot
    rw [hnow] at hprep hend
    have hd := (dailyBooking_covers x.day).mp ⟨hprep, hend⟩
    cases x
    simp_all

/-- An evaluation with nothing current and no candidate changes nothing (R121). -/
theorem evaluate_idle (held : Option Booking) (cause : RoomCause) (origin : Origin) {s : State}
    (hcur : s.room.current = none) (hcand : candidate s = none) : evaluate held cause origin s = s := by
  simp [evaluate, hcur, hcand]

/-- The daily booking's times are in range. -/
theorem timesInRange_daily {s : State} (h : s.room.bookings = dailyTable) : timesInRange s := by
  intro n b hb
  rw [h] at hb
  obtain ⟨-, rfl⟩ := dailyTable_some hb
  decide

/-- Storage gives no exception list. -/
theorem lateClock_exceptions : validRecord (recordOf lateClock .exceptions) = false := by
  have hr : recordOf lateClock .exceptions = torn [] := by
    simp only [recordOf, lateClock]
    rw [getElem_set_other _ _ _ _ (by decide)]
    simp
  rw [hr, validRecord_torn]

/-- Refutes O29: the statement lets the clock stand at any minute, and the candidate's search goes five weeks from the
clock's day. At minute 50,400 of day 0 the occurrence of day 35 covers now, and the room stays VACANT. -/
theorem not_loadWithoutCheckpointIsUnverified : ¬ Obligations.LoadWithoutCheckpointIsUnverified := by
  unfold Obligations.LoadWithoutCheckpointIsUnverified
  intro h
  obtain ⟨t, v, ht, hroom, hclock, hstate, hcur⟩ := exec_loadCompletion_room lateClock rfl rfl
  obtain ⟨u, hu, -, -, -, -, -, -, -, -, -, -, -, -, -, htable, -, hcand, -⟩ := h.2 lateClock rfl
  obtain rfl : t = u := Host.Outcome.next.inj (ht.symm.trans hu)
  obtain ⟨hbook, -, hexc, -⟩ := htable dailyTable lateClock_table
  replace hbook : t.room.bookings = dailyTable := hbook dailyTable_clear
  have hnone : t.room.exceptions = [] := by
    simpa [lateClock_exceptions] using hexc
  have hidle : evaluate none .time .schedule v = v := by
    refine evaluate_idle _ _ _ (hcur.trans rfl) (no_candidate_late v hclock ?_ ?_)
    · rw [← hbook, hroom]; simp
    · rw [← hnone, hroom]; simp
  rw [hidle] at hroom
  have hvacant : t.room.state = .vacant := by rw [hroom, hstate]; rfl
  have hentered := ((hcand rfl rfl (timesInRange_daily hbook)).2 ⟨0, 35⟩ dailyBooking
    (lateClock_isCandidate _ rfl hbook hnone rfl)).1
  rw [hvacant] at hentered
  exact absurd hentered (by decide)

end Sys2Proof.Machine
end

section
namespace Sys2Proof.Machine

/-! ## The switch of a lamp content with a full queue (R16, R20, R157) -/

/-- The level judged again without a checkpoint request leaves the store (R7). -/
theorem relevelAsking_false_store (s : State) : (relevelAsking false s).store = s.store := by
  unfold relevelAsking
  split
  · rfl
  · unfold levelBecomes
    dsimp only
    split
    · rfl
    · split <;> simp

/-- A push whose record finds no place leaves the store (R16, R157). -/
theorem pushHistory_store_full (x : Summary) (o : Origin) (s : State) (h : placeTest s [.lampHistory] = false) :
    (pushHistory x o s).store = s.store := by
  have hfull : placeTest { s with lamp := { s.lamp with history := pushSummary s.lamp.history x } } [.lampHistory]
      = false := h
  simp only [pushHistory]
  split
  · rfl
  · simp [queueOwn, hfull]

/-- The switch leaves the store when the history's record finds no place (R20, R157). -/
theorem makeSwitch_store_full (k : SwitchKind) (a : Account) (s : State) (h : placeTest s [.lampHistory] = false) :
    (makeSwitch k a s).store = s.store := by
  cases k with
  | set => exact relevelAsking_false_store _
  | replace =>
    simp only [makeSwitch, postTo_frame]
    split
    · rw [pushHistory_store_full, relevelAsking_false_store]
      simpa [placeTest, relevelAsking_false_store] using h
    · exact relevelAsking_false_store _

/-- The completion of a lamp content's write leaves the queue when the history's record finds no place (R20, R157). -/
theorem completeWrite_switch_full (s : State) (e : Entry) (k : SwitchKind) (slot : Fin 4) (left : Nat)
    (he : s.store.engine = .writing e slot left) (hk : e.switch = some k) (h : placeTest s [.lampHistory] = false) :
    (completeWrite s).store.queue = s.store.queue ∧ (completeWrite s).store.engine = .idle := by
  simp only [completeWrite, he, hk]
  rw [makeSwitch_store_full]
  · simp
  · simpa [placeTest] using h

/-- The end of a command before the load leaves the queue and the engine (R158). -/
theorem finish_unloaded (s : State) (h : s.store.loaded = false) : (finish s).store = s.store := by
  simp [finish, runEngine, h]

/-! ## A block whose queue holds LAMP HISTORY twelve times -/

/-- The content of a LAMP REPLACE, with a summary of the previous lamp. -/
def switchEntry : Entry :=
  { key := .lampCheckpoint, image := List.replicate 32 1, origin := .service, switch := some .replace }

/-- An entry of the history's record that the block itself made. -/
def historyEntry : Entry := { key := .lampHistory, image := [], origin := .auto, switch := none }

/-- A block that writes the content of a LAMP REPLACE while its queue holds twelve entries of the history's record. No
run fills the queue so: a request for a key that is queued takes the place of the entry there. -/
def crowded : State :=
  { State.reset with
    store := { State.reset.store with engine := .writing switchEntry 0 0, queue := List.replicate 12 historyEntry } }

/-- The crowded queue has no place for the record of the history. -/
theorem crowded_full : placeTest crowded [.lampHistory] = false := by decide

/-- The write completes and the queue is as it was, the engine IDLE. -/
theorem exec_writeCompletion_crowded :
    ∃ t, exec .writeCompletion crowded = .next t ∧ entriesOf t = List.replicate 12 historyEntry := by
  refine ⟨_, rfl, ?_⟩
  obtain ⟨hqueue, hidle⟩ := completeWrite_switch_full crowded switchEntry .replace 0 0 rfl rfl crowded_full
  rw [entriesOf, finish_unloaded _ (by simp only [completeWrite_frame]; rfl), hidle, hqueue]
  rfl

/-- Refutes O28: the statement lets the queue hold one key twelve times. The place test fails there, so the record of the
history that the switch changes is not queued, though its key is. -/
theorem not_writeCompletionStoresTheRecord : ¬ Obligations.WriteCompletionStoresTheRecord := by
  unfold Obligations.WriteCompletionStoresTheRecord
  intro h
  obtain ⟨t, ht, hentries⟩ := exec_writeCompletion_crowded
  obtain ⟨u, hu, -, -, -, -, -, -, hreplace, -⟩ := h.2.2 switchEntry .replace 0 0 crowded rfl rfl rfl
  obtain rfl : t = u := Host.Outcome.next.inj (ht.symm.trans hu)
  obtain ⟨-, hhistory, hsent⟩ := hreplace rfl
  have hchanged : t.lamp.history ≠ crowded.lamp.history := by
    rw [hhistory]; decide
  have hmem := hsent hchanged (.inl (by decide))
  rw [sentToStore, hentries] at hmem
  have horigin : Origin.service = Origin.auto := congrArg Entry.origin (List.eq_of_mem_replicate hmem)
  exact absurd horigin (by decide)

end Sys2Proof.Machine
end

section
namespace Sys2Proof.Machine

/-! ## The strike record and FAULT (R24, R25, R30 to R37) -/

/-- The fields that `powerConsistent` reads. -/
def strikeRecord (u : PowerUnit) :
    PowerState × StrikeStep × Nat × Option Nat × Option Nat × Option Nat × Option Nat :=
  (u.state, u.step, u.attempt, u.strikeTimer, u.pauseTimer, u.warmingTimer, u.coolingTimer)

/-- Consistency is a property of the strike record. -/
theorem powerConsistent_congr {u v : PowerUnit} (h : strikeRecord v = strikeRecord u) (hu : powerConsistent u) :
    powerConsistent v := by
  simp only [strikeRecord, Prod.mk.injEq] at h
  obtain ⟨hstate, hstep, hattempt, hstrike, hpause, hwarm, hcool⟩ := h
  unfold powerConsistent at hu ⊢
  rwa [hstate, hstep, hattempt, hstrike, hpause, hwarm, hcool]

/-- From a consistent record `u` a consistent one is reached, and FAULT is not left. -/
def recordKept (u v : PowerUnit) : Prop := powerConsistent u → powerConsistent v ∧ (u.state = .fault → v.state = .fault)

@[simp] theorem recordKept_refl (u : PowerUnit) : recordKept u u := fun h => ⟨h, id⟩

/-- A step that leaves the strike record keeps it. -/
theorem recordKept_of_eq {u v w : PowerUnit} (h : recordKept u v) (e : strikeRecord w = strikeRecord v) :
    recordKept u w := fun hu =>
  ⟨powerConsistent_congr e (h hu).1, fun hf => (congrArg Prod.fst e).trans ((h hu).2 hf)⟩

/-- A step from another state than FAULT keeps the record where it leaves a consistent one. -/
theorem recordKept_of_move {u v w : PowerUnit} (h : recordKept u v) (hs : v.state ≠ .fault)
    (hw : powerConsistent v → powerConsistent w) : recordKept u w := fun hu =>
  ⟨hw (h hu).1, fun hf => absurd ((h hu).2 hf) hs⟩

/-! ## The timers as signs of their states -/

theorem igniting_of_strikeTimer {u : PowerUnit} (h : powerConsistent u) (ht : u.strikeTimer ≠ none) :
    u.state = .igniting := by
  by_contra hs; exact ht (h.1 hs).1

theorem igniting_of_pauseTimer {u : PowerUnit} (h : powerConsistent u) (ht : u.pauseTimer ≠ none) :
    u.state = .igniting := by
  by_contra hs; exact ht (h.1 hs).2

theorem warming_of_warmingTimer {u : PowerUnit} (h : powerConsistent u) (ht : u.warmingTimer ≠ none) :
    u.state = .warming := by
  by_contra hs; exact ht (h.2.1 hs)

theorem cooling_of_coolingTimer {u : PowerUnit} (h : powerConsistent u) (ht : u.coolingTimer ≠ none) :
    u.state = .cooling := by
  by_contra hs; exact ht (h.2.2.1 hs)

/-! ## Changes of the power state -/

/-- Every state but IGNITING and FAULT is entered with its own timer and no attempt (R25, R37). -/
theorem placePower_consistent (dest : PowerState) (rec : InstallRecord) (u : PowerUnit) (hi : dest ≠ .igniting)
    (hf : dest ≠ .fault) : powerConsistent (placePower dest rec u) := by
  cases dest <;> simp_all [powerConsistent, placePower]

/-- The strike record after a change of power state is that of the state's entry (R25). -/
theorem setPower_record (dest : PowerState) (o : Origin) (r : Option Reason) (s : State) :
    strikeRecord (setPower dest o r s).power = strikeRecord (placePower dest s.store.install s.power) := by
  rw [setPower_power]; rfl

theorem setPower_kept (u : PowerUnit) (dest : PowerState) (o : Origin) (r : Option Reason) (s : State)
    (hi : dest ≠ .igniting) (hf : dest ≠ .fault) (hs : s.power.state ≠ .fault) (h : recordKept u s.power) :
    recordKept u (setPower dest o r s).power :=
  recordKept_of_move h hs fun _ =>
    powerConsistent_congr (setPower_record dest o r s) (placePower_consistent dest _ _ hi hf)

theorem settleDark_kept (u : PowerUnit) (dest : PowerState) (o : Origin) (r : Option Reason) (s : State)
    (hi : dest ≠ .igniting) (hf : dest ≠ .fault) (hs : s.power.state ≠ .fault) (h : recordKept u s.power) :
    recordKept u (settleDark dest o r s).power :=
  setPower_kept u dest o r _ hi hf hs (recordKept_of_eq h rfl)

/-- A strike sequence begins with attempt 1 and no strike timer (R30). -/
theorem beginSequence_kept (u : PowerUnit) (o : Origin) (s : State) (hi : s.power.state ≠ .igniting)
    (hs : s.power.state ≠ .fault) (h : recordKept u s.power) : recordKept u (beginSequence o s).power := by
  refine recordKept_of_move h hs fun hc => powerConsistent_congr (setPower_record _ _ _ _) ?_
  obtain ⟨hstrike, hpause⟩ := hc.1 hi
  simp [powerConsistent, placePower, beginAttempt, clearIntents, hstrike, hpause]

/-! ## The strike sequence -/

/-- Consistency in IGNITING (R25, R30, R33). -/
theorem powerConsistent_igniting {u : PowerUnit} (h : u.state = .igniting) : powerConsistent u ↔
    u.warmingTimer = none ∧ u.coolingTimer = none ∧ (u.strikeTimer ≠ none → u.step = .awaitingResult) ∧
      (u.pauseTimer ≠ none → u.step = .pause ∧ u.attempt ≤ 2) ∧ 1 ≤ u.attempt ∧ u.attempt ≤ 3 := by
  simp [powerConsistent, h]

/-- A power record whose state is known and is not FAULT. -/
theorem not_fault_of {u : PowerUnit} {x : PowerState} (h : u.state = x) (hx : x ≠ .fault) : u.state ≠ .fault := h ▸ hx

theorem countStrike_record (s : State) : strikeRecord (countStrike s).power = strikeRecord s.power := by
  simp [strikeRecord]

theorem countFailed_record (s : State) : strikeRecord (countFailed s).power = strikeRecord s.power := by
  simp [strikeRecord]

@[simp] theorem igniteAccepted_kept (u : PowerUnit) (s : State) (h : recordKept u s.power) :
    recordKept u (igniteAccepted s).power := by
  by_cases hi : s.power.state = .igniting ∧ s.power.step = .sending
  · rw [igniteAccepted_sending s hi.1 hi.2]
    refine recordKept_of_move h (not_fault_of hi.1 (by decide)) fun hc =>
      powerConsistent_congr (countStrike_record _) ?_
    have hpause : s.power.pauseTimer = none := by
      by_contra hp
      exact absurd ((hc.2.2.2.2.1 hp).1.symm.trans hi.2) (by decide)
    simp_all [powerConsistent, resultAwaited]
  · have he : strikeRecord (igniteAccepted s).power = strikeRecord s.power := by
      unfold igniteAccepted
      repeat' split
      · rfl
      · simp_all
      · exact countStrike_record s
    exact recordKept_of_eq h he

@[simp] theorem igniteRejected_kept (u : PowerUnit) (s : State) (h : recordKept u s.power) :
    recordKept u (igniteRejected s).power := by
  unfold igniteRejected
  split
  · next hi => exact settleDark_kept u _ _ _ _ (by decide) (by decide) (by simp [hi]) (by simpa using h)
  · exact h

theorem attemptSucceeds_kept (u : PowerUnit) (s : State) (hi : s.power.state = .igniting)
    (h : recordKept u s.power) : recordKept u (attemptSucceeds s).power :=
  setPower_kept u _ _ _ _ (by decide) (by decide) (by simp [hi]) h

/-- FAULT is entered from the third attempt alone (R35). -/
theorem enterFault_kept (u : PowerUnit) (s : State) (hi : s.power.state = .igniting) (h3 : 3 ≤ s.power.attempt)
    (h : recordKept u s.power) : recordKept u (enterFault s).power := by
  refine recordKept_of_move h (not_fault_of hi (by decide)) fun hc => ?_
  have he : strikeRecord (enterFault s).power = strikeRecord (placePower .fault s.store.install s.power) := by
    have hr := setPower_record .fault (ignitionOf s) none s
    simpa [enterFault, strikeRecord, clearIntents] using hr
  obtain ⟨-, -, -, -, -, hle⟩ := (powerConsistent_igniting hi).mp hc
  have : s.power.attempt = 3 := by omega
  exact powerConsistent_congr he (by simp [powerConsistent, placePower, this])

/-- A failed attempt ends the sequence, pauses it before the third, or ends it in FAULT after the third (R33, R35). -/
theorem attemptFails_kept (timeout : Bool) (u : PowerUnit) (s : State) (hi : s.power.state = .igniting)
    (h : recordKept u s.power) : recordKept u (attemptFails timeout s).power := by
  have hp := failureTold_power timeout s
  have hi' : (failureTold timeout s).power.state = .igniting := by rw [hp]; exact hi
  have h' : recordKept u (failureTold timeout s).power := recordKept_of_eq h (by rw [hp]; rfl)
  rw [attemptFails_eq]
  split
  · exact settleDark_kept u _ _ _ _ (by decide) (by decide) (by simp [hi']) h'
  · split
    · next h3 =>
      refine recordKept_of_move h' (by simp [hi']) fun hc => ?_
      obtain ⟨hwarm, hcool, -, -, hone, hthree⟩ := (powerConsistent_igniting hi').mp hc
      have h2 : (failureTold timeout s).power.attempt ≤ 2 := by rw [hp]; exact Nat.le_of_lt_succ h3
      exact (powerConsistent_igniting (by exact hi')).mpr
        ⟨hwarm, hcool, fun hs => absurd rfl hs, fun _ => ⟨rfl, h2⟩, hone, hthree⟩
    · next h3 => exact enterFault_kept u _ hi' (by rw [hp]; simpa using h3) h'

theorem strikeResultTaken_kept (ok : Bool) (u : PowerUnit) (s : State) (hi : s.power.state = .igniting)
    (h : recordKept u s.power) : recordKept u (strikeResultTaken ok s).power := by
  unfold strikeResultTaken
  split
  · exact h
  · exact attemptSucceeds_kept u s hi h
  · exact attemptSucceeds_kept u s hi h
  · exact attemptFails_kept false u s hi h
  · exact h

/-- A pause follows attempt 1 or 2, so the next attempt is at most the third (R34). -/
theorem pauseEnds_kept (u : PowerUnit) (s : State) (ht : s.power.pauseTimer ≠ none) (h : recordKept u s.power) :
    recordKept u (pauseEnds s).power := by
  intro hu
  have hc := (h hu).1
  have hi := igniting_of_pauseTimer hc ht
  have hnot : s.power.state ≠ .fault := not_fault_of hi (by decide)
  obtain ⟨hwarm, hcool, hawait, hpaused, hone, hthree⟩ := (powerConsistent_igniting hi).mp hc
  obtain ⟨hstep, h2⟩ := hpaused ht
  have hstrike : s.power.strikeTimer = none := by
    by_contra hs
    exact absurd ((hawait hs).symm.trans hstep) (by decide)
  have htimer : recordKept u { s.power with pauseTimer := none } := recordKept_of_move h hnot fun _ =>
    (powerConsistent_igniting (by exact hi)).mpr ⟨hwarm, hcool, hawait, by simp, hone, hthree⟩
  refine (?_ : recordKept u (pauseEnds s).power) hu
  unfold pauseEnds
  dsimp only
  split
  · exact recordKept_of_move htimer hnot fun _ => (powerConsistent_igniting (by exact hi)).mpr
      ⟨hwarm, hcool, fun hs => absurd hstrike hs, fun hs => absurd rfl hs, Nat.le_add_left 1 _, Nat.succ_le_succ h2⟩
  · simpa using settleDark_kept u .standby _ _ { s with power := { s.power with pauseTimer := none } } (by decide)
      (by decide) hnot htimer

/-! ## Requests -/

@[simp] theorem powerOn_kept (u : PowerUnit) (o : Origin) (s : State) (h : recordKept u s.power) :
    recordKept u (powerOn o s).2.power := by
  unfold powerOn
  split
  · split
    · exact recordKept_of_eq h rfl
    · exact h
  · next hs =>
    split
    · exact beginSequence_kept u o s (by simp [hs]) (by simp [hs]) h
    · exact h
  · exact recordKept_of_eq h rfl
  · exact recordKept_of_eq h rfl
  · exact recordKept_of_eq h rfl
  · split
    · exact recordKept_of_eq h rfl
    · exact h
  · exact h

theorem putOut_kept (u : PowerUnit) (o : Origin) (s : State) (hs : s.power.state ≠ .fault)
    (h : recordKept u s.power) : recordKept u (putOut o s).power :=
  settleDark_kept u _ _ _ _ (by decide) (by decide) hs h

@[simp] theorem powerOff_kept (u : PowerUnit) (o : Origin) (s : State) (h : recordKept u s.power) :
    recordKept u (powerOff o s).2.power := by
  unfold powerOff
  split
  · exact recordKept_of_eq h rfl
  · exact h
  · exact h
  · next hs =>
    split
    · exact settleDark_kept u _ _ _ _ (by decide) (by decide) (by simp [hs]) h
    · exact recordKept_of_eq h rfl
  · exact recordKept_of_eq h rfl
  · next hs =>
    dsimp only
    split
    · exact recordKept_of_eq h rfl
    · exact putOut_kept u o s (by simp [hs]) h
  · exact recordKept_of_eq h rfl

@[simp] theorem schedulePowerOn_kept (u : PowerUnit) (s : State) (h : recordKept u s.power) :
    recordKept u (schedulePowerOn s).power := by
  have := powerOn_kept u .schedule s h
  unfold schedulePowerOn
  dsimp only
  split <;> simpa using this

@[simp] theorem schedulePowerOff_kept (u : PowerUnit) (s : State) (h : recordKept u s.power) :
    recordKept u (schedulePowerOff s).power := powerOff_kept u .schedule s h

/-! ## Warming and cooling -/

theorem warmingEnds_kept (u : PowerUnit) (s : State) (hs : s.power.state = .warming) (h : recordKept u s.power) :
    recordKept u (warmingEnds s).power := by
  unfold warmingEnds
  split
  · exact putOut_kept u _ s (by simp [hs]) h
  · exact setPower_kept u _ _ _ _ (by decide) (by decide) (by simp [hs]) h

theorem coolingEnds_kept (u : PowerUnit) (s : State) (hs : s.power.state = .cooling) (h : recordKept u s.power) :
    recordKept u (coolingEnds s).power := by
  have hnot : s.power.state ≠ .fault := by simp [hs]
  unfold coolingEnds
  split
  · split
    · exact beginSequence_kept u _ s (by simp [hs]) hnot h
    · simpa using settleDark_kept u .standby _ _ s (by decide) (by decide) hnot h
  · exact settleDark_kept u _ _ _ _ (by decide) (by decide) hnot h

/-! ## The head's REPORT -/

@[simp] theorem applyOnInStandby_kept (u : PowerUnit) (s : State) (h : recordKept u s.power) :
    recordKept u (applyOnInStandby s).power := by
  unfold applyOnInStandby
  split
  · next hc =>
    have hs : s.power.state = .standby := by simp_all
    split
    · exact beginSequence_kept u _ s (by simp [hs]) (by simp [hs]) h
    · simpa using settleDark_kept u .standby _ _ s (by decide) (by decide) (by simp [hs]) h
  · exact h

@[simp] theorem applyIntent_kept (u : PowerUnit) (s : State) (h : recordKept u s.power) :
    recordKept u (applyIntent s).power := by
  unfold applyIntent
  split
  · split
    · exact recordKept_of_eq h rfl
    · exact recordKept_of_eq h rfl
    · exact applyOnInStandby_kept u s h
    all_goals exact h
  · split
    · split
      · exact powerOff_kept u _ _ (recordKept_of_eq h rfl)
      · exact recordKept_of_eq h rfl
      · exact recordKept_of_eq h rfl
      all_goals exact h
    · exact h

/-- Adoption takes the state that the REPORT shows, from UNKNOWN (R42). -/
theorem adopt_kept (u : PowerUnit) (r : Report) (s : State) (hs : s.power.state = .unknown)
    (h : recordKept u s.power) : recordKept u (adopt r s).power := by
  have hi : adoptedState r ≠ .igniting := by unfold adoptedState; repeat' split <;> try decide
  have hf : adoptedState r ≠ .fault := by unfold adoptedState; repeat' split <;> try decide
  have hfirst (t : State) : strikeRecord (firstEvaluation t).power = strikeRecord t.power := by simp [strikeRecord]
  unfold adopt
  refine applyIntent_kept u _ ?_
  simp only [restartSecond_frame]
  refine recordKept_of_eq (setPower_kept u _ _ _ _ hi hf ?_ ?_) (hfirst _)
  · split <;> simp [hs]
  · refine recordKept_of_eq h ?_
    split <;> simp [strikeRecord]

@[simp] theorem reportStrike_kept (u : PowerUnit) (r : Report) (s : State) (h : recordKept u s.power) :
    recordKept u (reportStrike r s).power := by
  unfold reportStrike
  split
  · next hc => exact attemptSucceeds_kept u s (by simp_all) h
  · exact h

@[simp] theorem reportLampOut_kept (u : PowerUnit) (r : Report) (s : State) (h : recordKept u s.power) :
    recordKept u (reportLampOut r s).power := by
  unfold reportLampOut
  split
  · next hc =>
    have hs : s.power.state ≠ .fault := by rintro e; simp [e, isLit] at hc
    have := settleDark_kept u .cooling .auto none (post .lampOut .auto (some (word (position powerStateList s.power.state)))
      (some (markWord (s.room.state == .occupied && !s.power.offPending))) s) (by decide) (by decide) (by simpa using hs)
      (by simpa using h)
    dsimp only
    split
    · exact recordKept_of_eq this rfl
    · exact this
  · exact h

@[simp] theorem overheated_kept (u : PowerUnit) (s : State) (h : recordKept u s.power) :
    recordKept u (overheated s).power := by
  unfold overheated
  split
  · next hs => exact putOut_kept u _ s (by simp [hs]) h
  · next hs => exact putOut_kept u _ s (by simp [hs]) h
  · next hs =>
    split
    · exact settleDark_kept u _ _ _ _ (by decide) (by decide) (by simp [hs]) h
    · split
      · exact h
      · exact recordKept_of_eq h rfl
  all_goals exact h

theorem markThermal_record (b : Bool) (s : State) : strikeRecord (markThermal b s).power = strikeRecord s.power := by
  simp [strikeRecord]

@[simp] theorem reportThermal_kept (u : PowerUnit) (r : Report) (s : State) (h : recordKept u s.power) :
    recordKept u (reportThermal r s).power := by
  unfold reportThermal
  split
  · refine overheated_kept u _ ?_
    split
    · exact h
    · exact recordKept_of_eq h (markThermal_record _ _)
  · split
    · exact recordKept_of_eq h (markThermal_record _ _)
    · exact h
  · exact h

@[simp] theorem reportDeferred_kept (u : PowerUnit) (r : Report) (s : State) (h : recordKept u s.power) :
    recordKept u (reportDeferred r s).power := by
  unfold reportDeferred
  split
  · next hc => exact putOut_kept u _ s (by simp_all) h
  · exact h

@[simp] theorem powerReport_kept (u : PowerUnit) (r : Report) (s : State) (h : recordKept u s.power) :
    recordKept u (powerReport r s).power := by
  unfold powerReport
  split
  · next hs => simpa using adopt_kept u r s hs h
  · simp only [reportShutter_frame]
    exact reportDeferred_kept u r _ (reportThermal_kept u r _ (by simp [h]))

/-! ## Loss of the head, and the no-signal rule -/

theorem countLost_record (s : State) : strikeRecord (countLost s).power = strikeRecord s.power := by simp [strikeRecord]

@[simp] theorem powerLinkLost_kept (u : PowerUnit) (s : State) (h : recordKept u s.power) :
    recordKept u (powerLinkLost s).power := by
  unfold powerLinkLost
  split
  · next hs =>
    exact settleDark_kept u .cooling _ _ (countLost s) (by decide) (by decide) (by simp [hs])
      (recordKept_of_eq h (countLost_record s))
  · exact h

theorem closeAuto_record (s : State) : strikeRecord (closeAuto s).power = strikeRecord s.power := by simp [strikeRecord]

@[simp] theorem noSignalActs_kept (u : PowerUnit) (s : State) (h : recordKept u s.power) :
    recordKept u (noSignalActs s).power := by
  unfold noSignalActs
  repeat' split
  · exact powerOff_kept u _ s h
  · exact recordKept_of_eq h (closeAuto_record s)
  · exact h

@[simp] theorem noSignalExpires_kept (u : PowerUnit) (s : State) (h : recordKept u s.power) :
    recordKept u (noSignalExpires s).power := noSignalActs_kept u _ h

@[simp] theorem timeoutChanged_kept (u : PowerUnit) (old : Nat) (s : State) (h : recordKept u s.power) :
    recordKept u (timeoutChanged old s).power := by
  unfold timeoutChanged
  dsimp only
  repeat' split
  · exact h
  · exact noSignalExpires_kept u s h
  all_goals exact h

/-! ## The room -/

@[simp] theorem roomChange_kept (u : PowerUnit) (dest : RoomState) (occ : Option Occurrence) (cause : RoomCause)
    (origin : Origin) (id : Fin 64) (s : State) (h : recordKept u s.power) :
    recordKept u (roomChange dest occ cause origin id s).power := recordKept_of_eq h (by simp [strikeRecord])

@[simp] theorem openShutter_kept (u : PowerUnit) (s : State) (h : recordKept u s.power) :
    recordKept u (openShutter s).power := recordKept_of_eq h (by simp [strikeRecord])

@[simp] theorem blankAtEnd_kept (u : PowerUnit) (s : State) (h : recordKept u s.power) :
    recordKept u (blankAtEnd s).power := recordKept_of_eq h (by simp [strikeRecord])

@[simp] theorem scheduleRoute_kept (u : PowerUnit) (x : Fin 8) (s : State) (h : recordKept u s.power) :
    recordKept u (scheduleRoute x s).power := recordKept_of_eq h (by simp [strikeRecord])

@[simp] theorem occupiedActions_kept (u : PowerUnit) (b : Booking) (s : State) (h : recordKept u s.power) :
    recordKept u (occupiedActions b s).power := by
  unfold occupiedActions
  dsimp only
  repeat' split
  all_goals simp [h]

@[simp] theorem enterRoom_kept (u : PowerUnit) (o : Occurrence) (b : Booking) (cause : RoomCause) (origin : Origin)
    (s : State) (h : recordKept u s.power) : recordKept u (enterRoom o b cause origin s).power := by
  unfold enterRoom
  split <;> simp [h]

@[simp] theorem endAction_kept (u : PowerUnit) (b : Booking) (s : State) (h : recordKept u s.power) :
    recordKept u (endAction b s).power := by
  unfold endAction
  repeat' split
  all_goals simp [h]

@[simp] theorem endOccurrence_kept (u : PowerUnit) (o : Occurrence) (held : Option Booking) (cause : RoomCause)
    (origin : Origin) (s : State) (h : recordKept u s.power) :
    recordKept u (endOccurrence o held cause origin s).power := by
  unfold endOccurrence
  dsimp only
  repeat' split
  all_goals simp [h]

@[simp] theorem evaluate_kept (u : PowerUnit) (held : Option Booking) (cause : RoomCause) (origin : Origin) (s : State)
    (h : recordKept u s.power) : recordKept u (evaluate held cause origin s).power := by
  unfold evaluate
  repeat' split
  all_goals simp [h]

@[simp] theorem evaluateStep_kept (u : PowerUnit) (cause : RoomCause) (s : State) (h : recordKept u s.power) :
    recordKept u (evaluateStep cause s).power := by
  unfold evaluateStep
  split <;> simp [h]

@[simp] theorem minuteStep_kept (u : PowerUnit) (s : State) (h : recordKept u s.power) :
    recordKept u (minuteStep s).power := by
  unfold minuteStep
  dsimp only
  repeat' split
  all_goals simp [h]

@[simp] theorem clockTicks_kept (u : PowerUnit) (s : State) (h : recordKept u s.power) :
    recordKept u (clockTicks s).power := by
  unfold clockTicks
  repeat' split
  all_goals simp [h]

@[simp] theorem jumpClock_kept (u : PowerUnit) (c : Clock) (origin : Origin) (s : State) (h : recordKept u s.power) :
    recordKept u (jumpClock c origin s).power := evaluate_kept u _ _ _ _ (by simp [h])

@[simp] theorem loadRoom_kept (u : PowerUnit) (s : State) (h : recordKept u s.power) :
    recordKept u (loadRoom s).power := by
  unfold loadRoom
  dsimp only
  split <;> simp [h]

@[simp] theorem headReturnedRoom_kept (u : PowerUnit) (s : State) (h : recordKept u s.power) :
    recordKept u (headReturnedRoom s).power := by
  unfold headReturnedRoom
  repeat' split
  all_goals simp [h]

/-! ## The head link -/

@[simp] theorem headReturns_kept (u : PowerUnit) (ty : HeadType) (s : State) (h : recordKept u s.power) :
    recordKept u (headReturns ty s).power := headReturnedRoom_kept u _ (by simp [h])

@[simp] theorem headArrives_kept (u : PowerUnit) (ty : HeadType) (s : State) (h : recordKept u s.power) :
    recordKept u (headArrives ty s).power := by
  unfold headArrives
  dsimp only
  split <;> simp [h]

@[simp] theorem linkLost_kept (u : PowerUnit) (c : LossCause) (s : State) (h : recordKept u s.power) :
    recordKept u (linkLost c s).power := by
  unfold linkLost
  simp only [geometryLinkLost_frame]
  exact powerLinkLost_kept u _ (by simpa using h)

@[simp] theorem ackOk_kept (u : PowerUnit) (o : Outstanding) (s : State) (h : recordKept u s.power) :
    recordKept u (ackOk o s).power := by
  unfold ackOk
  repeat' split
  all_goals simp [h]

@[simp] theorem ackReject_kept (u : PowerUnit) (o : Outstanding) (s : State) (h : recordKept u s.power) :
    recordKept u (ackReject o s).power := by
  unfold ackReject
  dsimp only
  repeat' split
  all_goals simp [h]

@[simp] theorem ackTaken_kept (u : PowerUnit) (tag : BitVec 3) (ok : Bool) (s : State) (h : recordKept u s.power) :
    recordKept u (ackTaken tag ok s).power := by
  unfold ackTaken
  repeat' split
  all_goals simp [h]

@[simp] theorem answerExpires_kept (u : PowerUnit) (s : State) (h : recordKept u s.power) :
    recordKept u (answerExpires s).power := by
  unfold answerExpires
  repeat' split
  all_goals simp [h]

@[simp] theorem silenceExpires_kept (u : PowerUnit) (s : State) (h : recordKept u s.power) :
    recordKept u (silenceExpires s).power := by
  unfold silenceExpires
  split <;> simp [h]

@[simp] theorem reportTaken_kept (u : PowerUnit) (r : Report) (s : State) (h : recordKept u s.power) :
    recordKept u (reportTaken r s).power := by
  unfold reportTaken
  simp only [geometryReport_frame]
  refine powerReport_kept u r _ ?_
  dsimp only
  split <;> simp [h]

@[simp] theorem strikeResultArrives_kept (u : PowerUnit) (ok : Bool) (s : State) (h : recordKept u s.power) :
    recordKept u (strikeResultArrives ok s).power := by
  unfold strikeResultArrives
  dsimp only
  split
  · next hi => exact strikeResultTaken_kept ok u _ hi (headArrives_kept u _ s h)
  · exact headArrives_kept u _ s h

@[simp] theorem formatTaken_kept (u : PowerUnit) (f : Option SignalFormat) (s : State) (h : recordKept u s.power) :
    recordKept u (formatTaken f s).power := by
  refine recordKept_of_eq (headArrives_kept u .format s h) ?_
  simp [formatTaken, strikeRecord]

/-! ## The store -/

@[simp] theorem completeLoad_kept (u : PowerUnit) (s : State) (h : recordKept u s.power) :
    recordKept u (completeLoad s).power := by
  unfold completeLoad
  split
  · exact h
  · simp only [firstResolution_frame, firstLockout_frame]
    exact loadRoom_kept u _ (applyOnInStandby_kept u _ (recordKept_of_eq h (by simp [strikeRecord])))

@[simp] theorem wipeActs_kept (u : PowerUnit) (old : State) (o : Origin) (s : State) (h : recordKept u s.power) :
    recordKept u (wipeActs old o s).power := by
  unfold wipeActs
  simp only [refreshLockout_frame]
  have hlater (t : State) : strikeRecord (triggerEval (evalLampMode (compareBlankDim t))).power = strikeRecord t.power := by
    simp [strikeRecord]
  have hedited : strikeRecord (editSources (Vector.replicate 8 defaultSource) (List.finRange 8) (relevel s)).power =
      strikeRecord s.power := by simp [strikeRecord]
  exact evaluate_kept u _ _ _ _
    (recordKept_of_eq (timeoutChanged_kept u _ _ (recordKept_of_eq h hedited)) (hlater _))

@[simp] theorem completeWipe_kept (u : PowerUnit) (s : State) (h : recordKept u s.power) :
    recordKept u (completeWipe s).power := by
  unfold completeWipe
  split
  · exact wipeActs_kept u _ _ _ (by simpa using h)
  all_goals exact h

@[simp] theorem completeWrite_kept (u : PowerUnit) (s : State) (h : recordKept u s.power) :
    recordKept u (completeWrite s).power := recordKept_of_eq h (by simp [strikeRecord])

/-! ## The commands of the ports -/

/-- What an owning block keeps is kept by its request (R168). -/
theorem request_kept (u : PowerUnit) (c : Command) (p : Port) (f : Frame)
    (own : Qualifier → List Word → State → Answer × State) (s : State) (h : recordKept u s.power)
    (hown : ∀ q ps t, recordKept u t.power → recordKept u (own q ps t).2.power) :
    recordKept u (request c p f own s).power := by
  rcases request_cases c p f own s with ⟨-, e⟩ | ⟨-, a, -, e⟩ | ⟨q, -, e⟩ <;> rw [e]
  · simpa using h
  · simpa using h
  · simpa using hown q _ _ (by simpa using h)

@[simp] theorem ownPowerOn_kept (u : PowerUnit) (p : Port) (s : State) (h : recordKept u s.power) :
    recordKept u (ownPowerOn p s).2.power := by simp [ownPowerOn, h]

@[simp] theorem ownPowerOff_kept (u : PowerUnit) (p : Port) (s : State) (h : recordKept u s.power) :
    recordKept u (ownPowerOff p s).2.power := by simp [ownPowerOff, h]

@[simp] theorem ownBlank_kept (u : PowerUnit) (ps : List Word) (s : State) (h : recordKept u s.power) :
    recordKept u (ownBlank ps s).2.power := recordKept_of_eq h (by simp [strikeRecord])

@[simp] theorem ownSetLampMode_kept (u : PowerUnit) (p : Port) (q : Qualifier) (ps : List Word) (s : State)
    (h : recordKept u s.power) : recordKept u (ownSetLampMode p q ps s).2.power :=
  recordKept_of_eq h (by simp [strikeRecord])

@[simp] theorem ownSetInstallRecord_kept (u : PowerUnit) (p : Port) (ps : List Word) (s : State)
    (h : recordKept u s.power) : recordKept u (ownSetInstallRecord p ps s).2.power :=
  recordKept_of_eq h (by simp [strikeRecord])

@[simp] theorem ownLampReplace_kept (u : PowerUnit) (ps : List Word) (s : State) (h : recordKept u s.power) :
    recordKept u (ownLampReplace ps s).2.power := recordKept_of_eq h (by simp [strikeRecord])

@[simp] theorem ownSetRoomTimes_kept (u : PowerUnit) (p : Port) (ps : List Word) (s : State)
    (h : recordKept u s.power) : recordKept u (ownSetRoomTimes p ps s).2.power := by
  have hcompare (t : State) : strikeRecord (compareBlankDim t).power = strikeRecord t.power := by simp [strikeRecord]
  unfold ownSetRoomTimes
  repeat' split
  · exact h
  · exact h
  · simp only [accept_frame]
    exact recordKept_of_eq (timeoutChanged_kept u _ _ (by simpa using h)) (hcompare _)

@[simp] theorem ownSetClock_kept (u : PowerUnit) (p : Port) (ps : List Word) (s : State) (h : recordKept u s.power) :
    recordKept u (ownSetClock p ps s).2.power := by
  unfold ownSetClock
  split <;> simp [h]

@[simp] theorem ownAddBooking_kept (u : PowerUnit) (p : Port) (q : Qualifier) (ps : List Word) (s : State)
    (h : recordKept u s.power) : recordKept u (ownAddBooking p q ps s).2.power := by
  unfold ownAddBooking
  dsimp only
  repeat' split
  all_goals simp [h]

@[simp] theorem currentEdited_kept (u : PowerUnit) (old new : Booking) (o : Origin) (s : State)
    (h : recordKept u s.power) : recordKept u (currentEdited old new o s).power :=
  recordKept_of_eq h (by simp [strikeRecord])

@[simp] theorem changeBooking_kept (u : PowerUnit) (id : Fin 64) (old new : Booking) (o : Origin) (s : State)
    (h : recordKept u s.power) : recordKept u (changeBooking id old new o s).power := by
  unfold changeBooking
  dsimp only
  split <;> simp [h]

@[simp] theorem ownChangeBooking_kept (u : PowerUnit) (p : Port) (q : Qualifier) (ps : List Word) (s : State)
    (h : recordKept u s.power) : recordKept u (ownChangeBooking p q ps s).2.power := by
  unfold ownChangeBooking
  dsimp only
  repeat' split
  all_goals simp [h]

@[simp] theorem ownRemoveBooking_kept (u : PowerUnit) (p : Port) (ps : List Word) (s : State)
    (h : recordKept u s.power) : recordKept u (ownRemoveBooking p ps s).2.power := by
  unfold ownRemoveBooking removeBooking
  dsimp only
  repeat' split
  all_goals simp [h]

@[simp] theorem editExceptions_kept (u : PowerUnit) (l : List Occurrence) (o : Origin) (s : State)
    (h : recordKept u s.power) : recordKept u (editExceptions l o s).power := evaluate_kept u _ _ _ _ (by simpa using h)

@[simp] theorem ownCancelOccurrence_kept (u : PowerUnit) (p : Port) (q : Qualifier) (ps : List Word) (s : State)
    (h : recordKept u s.power) : recordKept u (ownCancelOccurrence p q ps s).2.power := by
  unfold ownCancelOccurrence
  dsimp only
  repeat' split
  all_goals simp [h]

@[simp] theorem ownRestoreOccurrence_kept (u : PowerUnit) (p : Port) (q : Qualifier) (ps : List Word) (s : State)
    (h : recordKept u s.power) : recordKept u (ownRestoreOccurrence p q ps s).2.power := by
  unfold ownRestoreOccurrence
  dsimp only
  repeat' split
  all_goals simp [h]

@[simp] theorem ownReleaseRoom_kept (u : PowerUnit) (p : Port) (s : State) (h : recordKept u s.power) :
    recordKept u (ownReleaseRoom p s).2.power := by
  unfold ownReleaseRoom
  split <;> simp [h]

/-! ## Every command -/

/-- A read period changes its port and the counter of free values alone (R165). -/
@[simp] theorem readPeriod_power (p : Port) (d : Span) (s : State) : (readPeriod p d s).power = s.power := by
  unfold readPeriod
  dsimp only
  repeat' split
  all_goals simp

/-- What a timer's expiry keeps is kept by its row, which does nothing while the timer does not run (log entry 10). -/
theorem timer_kept (u : PowerUnit) (running : Bool) (s v : State) (h : recordKept u s.power)
    (hv : running = true → recordKept u v.power) : recordKept u (if running then finish v else s).power := by
  split
  · simpa using hv ‹_›
  · exact h

/-- A premise that follows from a consistent record may be used in keeping it. -/
theorem recordKept_of_consistent {u v : PowerUnit} (h : powerConsistent u → recordKept u v) : recordKept u v :=
  fun hu => h hu hu

/-- CLEAR FAULT, RESTART and a hard reset, the commands that may leave FAULT (R24, R35, R39). -/
def leavesFault : Instr → Bool
  | .clearFault _ _ | .restart _ _ | .hardReset _ => true
  | _ => false

/-- Every other command keeps the strike record and does not leave FAULT (R24, R35). -/
theorem exec_kept (c : Instr) (s t : State) (hc : leavesFault c = false) (h : exec c s = .next t) :
    recordKept s.power t.power := by
  have of_next {v : State} (hv : exec c s = .next v) (hk : recordKept s.power v.power) : recordKept s.power t.power :=
    Host.Outcome.next.inj (hv.symm.trans h) ▸ hk
  have he := recordKept_refl s.power
  have same {v : State} (hv : strikeRecord v.power = strikeRecord s.power) : recordKept s.power v.power :=
    recordKept_of_eq he hv
  cases c
  case hardReset | clearFault | restart => exact absurd hc (by simp [leavesFault])
  case loadCompletion => exact of_next rfl (by simp)
  case presenceLineChange => exact of_next rfl (by simp)
  case stabilityTimerExpiry n =>
    exact of_next rfl (timer_kept _ _ _ _ he fun _ => same (by simp [strikeRecord]))
  case firstPresenceSample => exact of_next rfl (timer_kept _ _ _ _ he fun _ => by simp)
  case ack | report | strikeResult | format => exact of_next rfl (by simp)
  case invalidHeadMessage | headMessageSent => exact of_next rfl (by simp)
  case answerTimerExpiry | silenceTimerExpiry => exact of_next rfl (by simp)
  case reportWaitExpiry => exact of_next rfl (same rfl)
  case strikeResultTimeout =>
    refine of_next rfl (timer_kept _ _ _ _ he fun ht => recordKept_of_consistent fun hu => ?_)
    exact attemptFails_kept true _ s (igniting_of_strikeTimer hu (Option.isSome_iff_ne_none.mp ht)) he
  case restrikePauseExpiry =>
    exact of_next rfl (timer_kept _ _ _ _ he fun ht => pauseEnds_kept _ s (Option.isSome_iff_ne_none.mp ht) he)
  case warmingEnd =>
    refine of_next rfl (timer_kept _ _ _ _ he fun ht => recordKept_of_consistent fun hu => ?_)
    exact warmingEnds_kept _ s (warming_of_warmingTimer hu (Option.isSome_iff_ne_none.mp ht)) he
  case coolingEnd =>
    refine of_next rfl (timer_kept _ _ _ _ he fun ht => recordKept_of_consistent fun hu => ?_)
    exact coolingEnds_kept _ s (cooling_of_coolingTimer hu (Option.isSome_iff_ne_none.mp ht)) he
  case blankDimExpiry =>
    refine of_next rfl ?_
    split
    · exact same (by simp [strikeRecord])
    · exact he
  case noSignalTimerExpiry => exact of_next rfl (timer_kept _ _ _ _ he fun _ => by simp)
  case burnSecond => exact of_next rfl (timer_kept _ _ _ _ he fun _ => same (by simp [strikeRecord]))
  case hotWindowExpiry => exact of_next rfl he
  case settleTimerExpiry => exact of_next rfl (timer_kept _ _ _ _ he fun _ => same (by simp [strikeRecord]))
  case clockSecond | writeCompletion | wipeCompletion | windowTimerExpiry => exact of_next rfl (by simp)
  case readWordPeriod =>
    refine of_next rfl ?_
    repeat' split
    all_goals simp
  case selectWhileTaking =>
    refine of_next rfl ?_
    split <;> simp
  case unknownCommandFrame =>
    refine of_next rfl ?_
    split <;> simp
  case frameDiscarded | responseReady =>
    refine of_next rfl ?_
    repeat' split
    all_goals simp
  -- The rows of the ports: each block's effect keeps the record.
  all_goals exact of_next rfl (request_kept _ _ _ _ _ _ he fun q ps t h => by simp [h])

/-- The Power Sequencer after reset has no attempt and no timer (R25). -/
theorem powerConsistent_reset : powerConsistent PowerUnit.reset := by
  simp [powerConsistent, PowerUnit.reset]

/-- CLEAR FAULT gives STANDBY a consistent record (R35). -/
theorem ownClearFault_consistent (p : Port) (s : State) (h : powerConsistent s.power) :
    powerConsistent (ownClearFault p s).2.power := by
  unfold ownClearFault
  split
  · simpa [settleDark] using powerConsistent_congr
      (setPower_record .standby (portOrigin p) none { s with power := clearIntents s.power })
      (placePower_consistent .standby s.store.install (clearIntents s.power) (by decide) (by decide))
  · exact h

/-- Every command keeps the strike record consistent (R25, R30 to R37). -/
theorem exec_powerConsistent (c : Instr) (s t : State) (hs : powerConsistent s.power) (h : exec c s = .next t) :
    powerConsistent t.power := by
  by_cases hc : leavesFault c = false
  · exact (exec_kept c s t hc h hs).1
  have of_next {v : State} (hv : exec c s = .next v) (hk : powerConsistent v.power) : powerConsistent t.power :=
    Host.Outcome.next.inj (hv.symm.trans h) ▸ hk
  cases c
  case hardReset m => exact of_next rfl powerConsistent_reset
  case restart p f =>
    refine of_next rfl ?_
    unfold takeRestart
    repeat' split
    · simpa using hs
    · simpa using hs
    · exact powerConsistent_reset
  case clearFault p f =>
    refine of_next rfl ?_
    rcases request_cases .clearFault p f (fun _ _ t => ownClearFault p t) s with ⟨-, e⟩ | ⟨-, a, -, e⟩ | ⟨q, -, e⟩ <;>
      rw [e]
    · simpa using hs
    · simpa using hs
    · simpa using ownClearFault_consistent p (begun p f s) (by simpa using hs)
  all_goals exact absurd rfl hc

/-- A millisecond starts and stops no timer (log entry 10). -/
theorem millisecond_powerConsistent (s : State) (h : powerConsistent s.power) :
    powerConsistent (millisecond s).power := by
  simpa [powerConsistent, millisecond, countDown] using h

/-- Settles O6: a step is a command or a millisecond, and each keeps the record. -/
theorem powerRecordKeptByEveryStep : Obligations.PowerRecordKeptByEveryStep := by
  unfold Obligations.PowerRecordKeptByEveryStep
  intro s t hs h
  unfold step timePasses at h
  repeat' split at h
  · exact exec_powerConsistent _ _ t (by exact hs) h
  · exact exec_powerConsistent _ s t hs h
  · exact Host.Outcome.next.inj h ▸ millisecond_powerConsistent s hs

/-- Settles O7: the record that every other command keeps holds FAULT. -/
theorem faultLeftOnlyByClearFaultOrReset : Obligations.FaultLeftOnlyByClearFaultOrReset := by
  unfold Obligations.FaultLeftOnlyByClearFaultOrReset
  intro c s t hs hf h hleft
  have hc : leavesFault c ≠ false := fun hc => hleft ((exec_kept c s t hc h hs).2 hf)
  cases c
  case hardReset m => exact .inr (.inr ⟨m, rfl⟩)
  case restart p f => exact .inr (.inl ⟨p, f, rfl⟩)
  case clearFault p f => exact .inl ⟨p, f, rfl⟩
  all_goals exact absurd rfl hc

end Sys2Proof.Machine
end

section
namespace Sys2Proof.Machine

/-! ## The control lane beside the lamp mode (R44, R56) -/

/-- `b` holds the messages of `a`, LAMP MODE apart. -/
def sameButModes (a b : List ControlMsg) : Prop := ∀ m, controlType m ≠ .lampMode → (m ∈ b ↔ m ∈ a)

@[simp] theorem sameButModes_refl (a : List ControlMsg) : sameButModes a a := fun _ _ => Iff.rfl

theorem sameButModes_trans {a b c : List ControlMsg} (h : sameButModes a b) (h' : sameButModes b c) : sameButModes a c :=
  fun m hm => (h' m hm).trans (h m hm)

/-- A LAMP MODE message displaces no message of another type (R56). -/
theorem sameButModes_laneWith (l : List ControlMsg) (k : LampMode) : sameButModes l (laneWith l (.lampMode k)) := by
  intro m hm
  refine ⟨fun h => ?_, fun h => laneWith_keeps _ _ _ h (Ne.symm hm) (by simp) (by simp)⟩
  rcases mem_laneWith _ _ _ h with rfl | h
  · exact absurd rfl hm
  · exact h

/-- A message handed over stands in the lane while the link is not LOST (R56). -/
theorem handControl_mem (m : ControlMsg) (s : State) (h : s.link.state ≠ .lost) :
    m ∈ (handControl m s).link.control := by
  simp only [handControl, if_neg h]
  exact laneWith_mem _ _

@[simp] theorem evalLampMode_lane (q : List ControlMsg) (s : State) (h : sameButModes q s.link.control) :
    sameButModes q (evalLampMode s).link.control := by
  refine sameButModes_trans h ?_
  unfold evalLampMode applyMode handControl
  dsimp only
  repeat' split
  · exact sameButModes_refl _
  · exact sameButModes_laneWith _ _
  · exact sameButModes_refl _

@[simp] theorem levelBecomes_lane (q : List ControlMsg) (ask : Bool) (old : Option Level) (v : Level) (wear : Nat)
    (s : State) (h : sameButModes q s.link.control) :
    sameButModes q (levelBecomes ask old v wear s).link.control := by
  unfold levelBecomes
  dsimp only
  repeat' split
  all_goals simp [h]

@[simp] theorem relevelAsking_lane (q : List ControlMsg) (ask : Bool) (s : State)
    (h : sameButModes q s.link.control) : sameButModes q (relevelAsking ask s).link.control := by
  unfold relevelAsking
  split <;> simp [h]

@[simp] theorem relevel_lane (q : List ControlMsg) (s : State) (h : sameButModes q s.link.control) :
    sameButModes q (relevel s).link.control := relevelAsking_lane q true s h

@[simp] theorem chargeSecond_lane (q : List ControlMsg) (s : State) (h : sameButModes q s.link.control) :
    sameButModes q (chargeSecond s).link.control := by
  unfold chargeSecond
  split <;> simp [h]

@[simp] theorem endBurn_lane (q : List ControlMsg) (s : State) (h : sameButModes q s.link.control) :
    sameButModes q (endBurn s).link.control := by
  unfold endBurn
  dsimp only
  split <;> simp [h]

@[simp] theorem countStrike_lane (q : List ControlMsg) (s : State) (h : sameButModes q s.link.control) :
    sameButModes q (countStrike s).link.control := by
  unfold countStrike
  dsimp only
  split <;> simp [h]

@[simp] theorem countFailed_lane (q : List ControlMsg) (s : State) (h : sameButModes q s.link.control) :
    sameButModes q (countFailed s).link.control := by
  unfold countFailed
  split <;> simp [h]

@[simp] theorem enterPower_lane (q : List ControlMsg) (dest : PowerState) (s : State)
    (h : sameButModes q s.link.control) : sameButModes q (enterPower dest s).link.control := by
  unfold enterPower
  dsimp only
  repeat' split
  all_goals simp [h, enteredCooling]

@[simp] theorem setPower_lane (q : List ControlMsg) (dest : PowerState) (o : Origin) (r : Option Reason) (s : State)
    (h : sameButModes q s.link.control) : sameButModes q (setPower dest o r s).link.control := by simp [setPower, h]

@[simp] theorem settleDark_lane (q : List ControlMsg) (dest : PowerState) (o : Origin) (r : Option Reason) (s : State)
    (h : sameButModes q s.link.control) : sameButModes q (settleDark dest o r s).link.control := by
  simp [settleDark, h]

/-- A strike sequence hands IGNITE over (R30). -/
theorem beginSequence_ignite (o : Origin) (s : State) (h : s.link.state ≠ .lost) :
    .ignite ∈ (beginSequence o s).link.control :=
  (setPower_lane _ _ _ _ _ (sameButModes_refl _) _ (by decide)).mpr (handControl_mem _ _ h)

/-- The lamp put out is sent EXTINGUISH (R29). -/
theorem putOut_extinguish (o : Origin) (s : State) (h : s.link.state ≠ .lost) :
    .extinguish ∈ (putOut o s).link.control :=
  (settleDark_lane _ _ _ _ _ (sameButModes_refl _) _ (by decide)).mpr (handControl_mem _ _ h)

/-! ## Messages in hand (R39, R46, R53) -/

/-- A control message waits in the lane or is outstanding. -/
def messageInHand (m : ControlMsg) (s : State) : Prop :=
  m ∈ s.link.control ∨ ∃ x, s.link.outstanding = some x ∧ x.msg = .control m

theorem laneMessage_ne_control (l : LaneSet) (m : ControlMsg) : laneMessage l ≠ .control m := by
  unfold laneMessage
  repeat' split
  all_goals simp

/-- Serving the link sends a message in hand or none, and keeps the others in hand (R58). -/
theorem serveLink_inHand (m : ControlMsg) (s : State) : messageInHand m (serveLink s) ↔ messageInHand m s := by
  by_cases hp : s.link.state = .present ∧ s.link.outstanding = none ∧ s.link.transmit = []
  · obtain ⟨hp, ho, ht⟩ := hp
    rw [serveLink_free s hp ho ht]
    unfold messageInHand
    split
    · next hc => simp [sendMessage, hc, ho, or_comm, eq_comm]
    · next hc _ => simp [sendMessage, hc, ho, laneMessage_ne_control]
    · exact Iff.rfl
  · rw [serveLink_busy s (by by_contra hn; simp_all)]

/-- The end of a command leaves in hand what was in hand (R58). -/
@[simp] theorem finish_inHand (m : ControlMsg) (s : State) : messageInHand m (finish s) ↔ messageInHand m s := by
  rw [← serveLink_inHand m s]
  unfold messageInHand
  rw [finish_link]

end Sys2Proof.Machine
end

section
namespace Sys2Proof.Machine

/-! ## The refusal test (R27) -/

/-- Settles O30: the test is a chain of conditions. -/
theorem refusalTestStopsAtTheFirst : Obligations.RefusalTestStopsAtTheFirst := by
  unfold Obligations.RefusalTestStopsAtTheFirst
  intro s o
  simp +contextual [refusalTest]

/-- The test passes on a link that is not LOST alone (R27). -/
theorem not_lost_of_refusalTest {s : State} {o : Origin} (h : refusalTest s o = none) : s.link.state ≠ .lost := by
  intro hl
  unfold refusalTest at h
  repeat' split at h
  all_goals simp_all

/-! ## Changes between dark states (R25, R26, R29) -/

/-- A record of a dark state that no intent and no timer of another state stands in. -/
theorem settleDark_quiet (dest : PowerState) (o : Origin) (r : Option Reason) (s : State)
    (h : isLit s.power.state = false) : (settleDark dest o r s).power =
      placePower dest s.store.install (clearIntents s.power) := setPower_quiet dest o r _ h

/-- The lamp account stays at a change between dark states, COOLING apart. -/
theorem settleDark_lamp (dest : PowerState) (o : Origin) (r : Option Reason) (s : State) (h : isLit s.power.state = false)
    (h' : isLit dest = false) (h'' : dest ≠ .cooling) : (settleDark dest o r s).lamp = s.lamp :=
  setPower_lamp dest o r _ h h' h''

/-- A strike sequence begins with attempt 1 and its origin (R28, R30). -/
theorem beginSequence_power (o : Origin) (s : State) (h : isLit s.power.state = false) : (beginSequence o s).power =
    { s.power with
      state := .igniting, step := .sending, attempt := 1, restartPending := false, offPending := false
      offOrigin := none, ignitionOrigin := some o, warmingTimer := none, coolingTimer := none } := by
  unfold beginSequence
  rw [setPower_quiet _ _ _ _ (by simpa [clearIntents] using h)]
  simp [placePower, beginAttempt, clearIntents]

theorem beginSequence_lamp (o : Origin) (s : State) (h : isLit s.power.state = false) :
    (beginSequence o s).lamp = s.lamp := by
  unfold beginSequence
  rw [setPower_lamp _ _ _ _ (by simpa [clearIntents] using h) rfl (by decide)]
  simp

theorem beginSequence_router (o : Origin) (s : State) :
    (beginSequence o s).router = { s.router with noSignal := none } := by
  unfold beginSequence
  obtain ⟨hr, hn⟩ := setPower_router .igniting o none
    (beginAttempt 1 { s with power := { clearIntents s.power with ignitionOrigin := some o } })
  rw [hr, hn (by decide)]
  simp

/-- The beginning is told (R26). -/
theorem beginSequence_told (o : Origin) (s : State) :
    toldPower (originPort o) o s.power.state .igniting none s (beginSequence o s) := by
  have h := setPower_told .igniting o none
    (beginAttempt 1 { s with power := { clearIntents s.power with ignitionOrigin := some o } })
  exact told_since (s := s) (by simp) (by simp) (by simp) h

/-! ## CLEAR FAULT and LEAVE COMMISSION (R35, R180) -/

/-- The port of a port's origin. -/
@[simp] theorem originPort_portOrigin (p : Port) : originPort (portOrigin p) = some p := by cases p <;> rfl

/-- What is told by the effect of a taken request is told by its end (R168). -/
theorem told_request {dest : Option Port} {kind : NoticeKind} {o : Origin} {x y : Word} {s v : State} (c : Command)
    (p : Port) (f : Frame) (a : Answer) (h : told dest kind o x y (begun p f s) v) :
    told dest kind o x y s (after c p a (finish v)) :=
  told_since_taking p f (told_later h (by simp))

/-- Settles O38, by the power state and by the mode. -/
theorem clearFaultAndLeaveCommission : Obligations.ClearFaultAndLeaveCommission := by
  unfold Obligations.ClearFaultAndLeaveCommission
  intro p f q s
  refine ⟨fun h => ⟨fun hf => ?_, fun hf => ?_⟩, fun h => ⟨fun hm => ?_, fun hm => ?_⟩⟩
  · have hdark : isLit (begun p f s).power.state = false := by simp [hf, isLit]
    have hown : ownClearFault p (begun p f s) = (done, finish (settleDark .standby (portOrigin p) none (begun p f s))) := by
      rw [ownClearFault, if_pos (by simpa using hf)]
      exact accept_of_no_reason _ _ rfl
    have hpow := settleDark_quiet .standby (portOrigin p) none _ hdark
    have hlamp := settleDark_lamp .standby (portOrigin p) none _ hdark rfl (by decide)
    have htold := settleDark_told .standby (portOrigin p) none (begun p f s)
    rw [originPort_portOrigin, show (begun p f s).power.state = .fault from hf] at htold
    refine ⟨_, congrArg Host.Outcome.next (request_taken _ p f _ q s h), ?_⟩
    rw [hown]
    refine ⟨answered_of _ _ _ _ _ _ (by simp), ?_, ?_, ?_, ?_, ?_, ?_⟩
    · exact told_request _ p f _ htold
    · simp [hpow, placePower, clearIntents]
    · simp [hlamp]
    · simp
    · simp [routerTimed, RouterUnit.eq_iff]
    · simp [linkServed_iff, storeServed_iff]
  · exact congrArg Host.Outcome.next ((request_taken _ p f _ q s h).trans (by simp [ownClearFault, hf, refuse]))
  · have hown : ownLeaveCommission (begun p f s) = (done, finish { begun p f s with lockout :=
        { (begun p f s).lockout with mode := .normal } }) := by
      rw [ownLeaveCommission, if_pos (by simpa using hm)]
      exact accept_of_no_reason _ _ rfl
    refine ⟨_, congrArg Host.Outcome.next (request_taken _ p f _ q s h), ?_⟩
    rw [hown]
    refine ⟨answered_of _ _ _ _ _ _ (by simp), ?_⟩
    simp [linkServed_iff, storeServed_iff]
  · exact congrArg Host.Outcome.next ((request_taken _ p f _ q s h).trans (by simp [ownLeaveCommission, hm, refuse]))

end Sys2Proof.Machine
end

section
namespace Sys2Proof.Machine

/-! ## POWER ON and POWER OFF (R28, R29) -/

/-- The refusal test does not read the ports. -/
@[simp] theorem refusalTest_begun (p : Port) (f : Frame) (s : State) (o : Origin) :
    refusalTest (begun p f s) o = refusalTest s o := rfl

@[simp] theorem headMayCome_begun (p : Port) (f : Frame) (s : State) : headMayCome (begun p f s) = headMayCome s := rfl

/-- The head may be awaited while it is PRESENT, or AWAITING within the report wait (R41). -/
theorem headMayCome_iff (s : State) : headMayCome s = true ↔
    s.link.state = .present ∨ (s.link.state = .awaiting ∧ s.power.reportWait ≠ none) := by
  simp [headMayCome, Option.isSome_iff_ne_none]

/-- An owning block that refuses leaves nothing but the answer (R168). -/
theorem exec_powerOn_refused (p : Port) (f : Frame) (q : Qualifier) (s : State) (r : Reason)
    (h : taken .powerOn p f q s) (hr : powerOn (portOrigin p) (begun p f s) = refuse r (begun p f s)) :
    exec (.powerOn p f) s = .next (after .powerOn p (refused r) (begun p f s)) := by
  refine congrArg Host.Outcome.next ((request_taken _ p f _ q s h).trans ?_)
  simp [ownPowerOn, hr, refuse, finished, refused]

/-- The answer of a request that its block takes, and its effect with the command's end (R28, R29, R58). -/
theorem finished_of_no_reason (a : Answer) (v : State) (h : a.reason = none) : finished (a, v) = (a, finish v) :=
  accept_of_no_reason a v h

theorem exec_powerOn_taken (p : Port) (f : Frame) (q : Qualifier) (s : State) (a : Answer) (v : State)
    (h : taken .powerOn p f q s) (hr : powerOn (portOrigin p) (begun p f s) = (a, v)) (ha : a.reason = none) :
    exec (.powerOn p f) s = .next (after .powerOn p a (finish v)) := by
  refine congrArg Host.Outcome.next ((request_taken _ p f _ q s h).trans ?_)
  rw [ownPowerOn, hr, finished_of_no_reason a v ha]

theorem exec_powerOff_taken (p : Port) (f : Frame) (q : Qualifier) (s : State) (a : Answer) (v : State)
    (h : taken .powerOff p f q s) (hr : powerOff (portOrigin p) (begun p f s) = (a, v)) (ha : a.reason = none) :
    exec (.powerOff p f) s = .next (after .powerOff p a (finish v)) := by
  refine congrArg Host.Outcome.next ((request_taken _ p f _ q s h).trans ?_)
  rw [ownPowerOff, hr, finished_of_no_reason a v ha]

/-- `v` differs from `s` in the ports' queues, in the lamp, the power and the routing units, in the control lane and in
the persist queue alone. -/
def powerActed (s v : State) : Prop :=
  quietPorts v.ports = quietPorts s.ports ∧ v.geometry = s.geometry ∧ v.room = s.room ∧ v.lockout = s.lockout ∧
    linkServed s.link v.link ∧ storeServed s.store v.store ∧ v.pending = s.pending

/-- What such an effect leaves at the end of its request. -/
theorem powerActed_after {s v : State} (c : Command) (p : Port) (f : Frame) (a : Answer)
    (h : powerActed (begun p f s) v) :
    let t := after c p a (finish v)
    answered c p f a s t ∧ t.geometry = s.geometry ∧ t.room = s.room ∧ t.lockout = s.lockout ∧
      linkServed s.link t.link ∧ storeServed s.store t.store ∧ t.pending = s.pending := by
  obtain ⟨hports, hgeo, hroom, hlock, hlink, hstore, hpend⟩ := h
  refine ⟨answered_of _ _ _ _ _ _ (by simpa using hports), by simpa using hgeo, by simpa using hroom,
    by simpa using hlock, ?_, ?_, by simpa using hpend⟩
  · rw [linkServed_iff] at hlink ⊢
    simpa using hlink
  · rw [storeServed_iff] at hstore ⊢
    simpa using hstore

@[simp] theorem messageInHand_after (m : ControlMsg) (c : Command) (p : Port) (a : Answer) (t : State) :
    messageInHand m (after c p a t) ↔ messageInHand m t := Iff.rfl

/-- Settles O31, by the power state. -/
theorem powerOnByPowerState : Obligations.PowerOnByPowerState := by
  unfold Obligations.PowerOnByPowerState
  intro p f q s h
  -- An effect on the power unit alone is left as it is.
  have leaves {a : Answer} {u : PowerUnit} (ha : a.reason = none)
      (hr : powerOn (portOrigin p) (begun p f s) = (a, { begun p f s with power := u })) :
      ∃ t, exec (.powerOn p f) s = .next t ∧ answered .powerOn p f a s t ∧ t.power = u ∧ t.router = s.router ∧
        t.lamp = s.lamp ∧ t.geometry = s.geometry ∧ t.room = s.room ∧ t.lockout = s.lockout ∧
        linkServed s.link t.link ∧ storeServed s.store t.store ∧ t.pending = s.pending := by
    obtain ⟨hans, hgeo, hroom, hlock, hlink, hstore, hpend⟩ := powerActed_after .powerOn p f a
      (s := s) (v := { begun p f s with power := u }) ⟨rfl, rfl, rfl, rfl, rfl, rfl, rfl⟩
    exact ⟨_, exec_powerOn_taken p f q s a _ h hr ha, hans, by simp, by simp, by simp, hgeo, hroom, hlock, hlink,
      hstore, hpend⟩
  dsimp only
  cases hs : s.power.state with
  | unknown =>
    dsimp only
    split
    · next hm => exact leaves rfl (by simp [powerOn, hs, (headMayCome_iff s).mpr hm, setRestart])
    · next hm =>
      exact exec_powerOn_refused p f q s _ h (by simp [powerOn, hs, mt (headMayCome_iff s).mp hm])
  | standby =>
    dsimp only
    split
    · next r hr => exact exec_powerOn_refused p f q s r h (by simp [powerOn, hs, hr])
    · next hr =>
      have hdark : isLit (begun p f s).power.state = false := by simp [hs, isLit]
      have hacted : powerActed (begun p f s) (beginSequence (portOrigin p) (begun p f s)) := by
        simp [powerActed, linkServed_iff, storeServed_iff]
      obtain ⟨hans, hgeo, hroom, hlock, hlink, hstore, hpend⟩ := powerActed_after .powerOn p f (started []) hacted
      have htold := beginSequence_told (portOrigin p) (begun p f s)
      rw [originPort_portOrigin, show (begun p f s).power.state = .standby from hs] at htold
      refine ⟨_, exec_powerOn_taken p f q s _ _ h (by simp [powerOn, hs, hr]) rfl, hans, ?_, ⟨?_, ?_, ?_⟩, ?_, hgeo,
        hroom, hlock, hlink, hstore, hpend⟩
      · simp [beginSequence_power _ _ hdark]
      · simp [beginSequence_router]
      · exact told_request _ p f _ htold
      · exact (finish_inHand .ignite _).mpr (.inl (beginSequence_ignite _ _ (not_lost_of_refusalTest hr)))
      · simp [beginSequence_lamp _ _ hdark]
  | cooling =>
    dsimp only
    split
    · next r hr => exact exec_powerOn_refused p f q s r h (by simp [powerOn, hs, hr])
    · next hr => exact leaves rfl (by simp [powerOn, hs, hr, setRestart])
  | fault => exact exec_powerOn_refused p f q s _ h (by simp [powerOn, hs])
  | igniting | warming | on =>
    have hport : (portOrigin p = .service) = (p = .service) := by cases p <;> simp [portOrigin]
    exact leaves rfl (by simp [powerOn, hs, keepLit, hport])

/-- The lamp put out in ON: the record of COOLING, the burn ended and the hot window begun (R3, R5, R29, R37). -/
theorem putOut_power (o : Origin) (s : State) : (putOut o s).power = { s.power with
    state := .cooling, attempt := 0, strikeTimer := none, pauseTimer := none, warmingTimer := none
    coolingTimer := some (s.store.install.coolingTime * 1000), restartPending := false, offPending := false
    ignitionOrigin := none, offOrigin := none, effectiveMode := (putOut o s).power.effectiveMode } := by
  unfold putOut
  rw [settleDark_power]
  simp [placePower, clearIntents]

theorem putOut_lamp (o : Origin) (s : State) : (putOut o s).lamp.hotWindow = some 1800000 ∧
    (isLit s.power.state = true → (putOut o s).lamp.burn = none) := by
  unfold putOut settleDark
  exact setPower_cooling o none _

/-- Settles O32, by the power state. -/
theorem powerOffByPowerState : Obligations.PowerOffByPowerState := by
  unfold Obligations.PowerOffByPowerState
  intro p f q s h
  have leaves {a : Answer} {v : State} {k : State → Prop} (ha : a.reason = none)
      (hr : powerOff (portOrigin p) (begun p f s) = (a, v)) (hv : powerActed (begun p f s) v)
      (hk : k (after .powerOff p a (finish v))) :
      ∃ t, exec (.powerOff p f) s = .next t ∧ answered .powerOff p f a s t ∧ k t ∧
        t.geometry = s.geometry ∧ t.room = s.room ∧ t.lockout = s.lockout ∧ linkServed s.link t.link ∧
        storeServed s.store t.store ∧ t.pending = s.pending := by
    obtain ⟨hans, hgeo, hroom, hlock, hlink, hstore, hpend⟩ := powerActed_after .powerOff p f a hv
    exact ⟨_, exec_powerOff_taken p f q s a v h hr ha, hans, hk, hgeo, hroom, hlock, hlink, hstore, hpend⟩
  -- An effect on the power unit alone is left as it is.
  have only {a : Answer} {u : PowerUnit} (ha : a.reason = none)
      (hr : powerOff (portOrigin p) (begun p f s) = (a, { begun p f s with power := u })) :=
    leaves (k := fun t => t.power = u ∧ t.lamp = s.lamp ∧ t.router = s.router) ha hr
      ⟨rfl, rfl, rfl, rfl, rfl, rfl, rfl⟩ (by simp)
  dsimp only
  cases hs : s.power.state with
  | unknown => exact only rfl (by simp [powerOff, hs, setOff])
  | standby | fault => exact only rfl (by simp [powerOff, hs]; rfl)
  | cooling => exact only rfl (by simp [powerOff, hs])
  | warming => exact only rfl (by simp [powerOff, hs, setOff])
  | igniting =>
    dsimp only
    split
    · next hp =>
      have hdark : isLit (begun p f s).power.state = false := by simp [hs, isLit]
      have htold := settleDark_told .standby (portOrigin p) none (begun p f s)
      rw [originPort_portOrigin, show (begun p f s).power.state = .igniting from hs] at htold
      refine leaves rfl (v := settleDark .standby (portOrigin p) none (begun p f s)) (by simp [powerOff, hs, hp])
        (by simp [powerActed, linkServed_iff, storeServed_iff]) ⟨?_, told_request _ p f _ htold, ?_⟩
      · simp [settleDark_lamp .standby _ _ _ hdark rfl (by decide)]
      · simp [settleDark_quiet _ _ _ _ hdark, placePower, clearIntents]
    · next hp => exact only rfl (by simp [powerOff, hs, hp, setOff])
  | on =>
    dsimp only
    split
    · next hl => exact only rfl (by simp [powerOff, hs, hl, setOff])
    · next hl =>
      obtain ⟨-, htold, hrouter⟩ := putOut_spec (portOrigin p) (begun p f s)
      rw [originPort_portOrigin, show (begun p f s).power.state = .on from hs] at htold
      obtain ⟨hhot, hburn⟩ := putOut_lamp (portOrigin p) (begun p f s)
      have hpow := putOut_power (portOrigin p) (begun p f s)
      refine leaves rfl (v := putOut (portOrigin p) (begun p f s)) (by simp [powerOff, hs, hl])
        (by simp [powerActed, linkServed_iff, storeServed_iff])
        ⟨told_request _ p f _ htold, by simpa using hpow, ?_, by simpa using hhot, by simpa using hrouter, ?_⟩
      · simpa using hburn (by simp [hs, isLit])
      · exact (finish_inHand .extinguish _).mpr (.inl (putOut_extinguish _ _ hl))

end Sys2Proof.Machine
end

section
namespace Sys2Proof.Machine

/-! ## The ends of the timed power states (R34, R36, R37) -/

/-- What such an end leaves (R34, R36, R37). -/
theorem timedEnd_leaves {s v : State} (h : powerActed s v) (hr : routerTimed s.router v.router) :
    let t := finish v
    t.geometry = s.geometry ∧ t.room = s.room ∧ t.lockout = s.lockout ∧ contexts t = contexts s ∧
      linkServed s.link t.link ∧ routerTimed s.router t.router ∧ storeServed s.store t.store := by
  obtain ⟨hports, hgeo, hroom, hlock, hlink, hstore, -⟩ := h
  refine ⟨by simpa using hgeo, by simpa using hroom, by simpa using hlock, by simpa [contexts] using hports, ?_,
    by simpa using hr, ?_⟩
  · rw [linkServed_iff] at hlink ⊢
    simpa using hlink
  · rw [storeServed_iff] at hstore ⊢
    simpa using hstore

/-- POWER REQUEST REFUSED carries the reason and the current booking's id (R132). -/
theorem postPowerRefused_told (r : Reason) (s : State) : told none .powerRequestRefused .schedule
    (word (position reasonList r)) (optWord (s.room.current.map (·.id.val))) s (postPowerRefused r s) := by
  have hid : optWord (s.room.current.map (·.id.val)) =
      match s.room.current with | some o => word o.id.val | none => noneWord := by
    cases s.room.current <;> rfl
  rw [hid]
  exact told_of s (grown_refl _) rfl rfl (grown_refl _)

/-- A sequence or restart of origin SCHEDULE that ends in STANDBY by the refusal test is told twice (R34, R37, R132). -/
theorem dropped_told (o : Origin) (r : Reason) (s : State) :
    let v := tellDropped o r (settleDark .standby o (some r) s)
    toldPower (originPort o) o s.power.state .standby (some r) s v ∧
      (o = .schedule → told none .powerRequestRefused .schedule (word (position reasonList r))
        (optWord (s.room.current.map (·.id.val))) s v) := by
  refine ⟨told_later (settleDark_told .standby o (some r) s) (by simp), fun ho => ?_⟩
  simp only [tellDropped, if_pos ho]
  have h := postPowerRefused_told r (settleDark .standby o (some r) s)
  rw [show (settleDark .standby o (some r) s).room = s.room by simp] at h
  exact told_since (by simp) (by simp) (by simp) h

/-- The record of STANDBY with no intent left (R25, R29). -/
theorem settleDark_standby_power (o : Origin) (r : Option Reason) (s : State) (h : isLit s.power.state = false) :
    (settleDark .standby o r s).power = { s.power with
      state := .standby, attempt := 0, strikeTimer := none, pauseTimer := none, warmingTimer := none
      coolingTimer := none, restartPending := false, offPending := false, ignitionOrigin := none, offOrigin := none } := by
  rw [settleDark_quiet _ _ _ _ h]
  simp [placePower, clearIntents]

/-- The pause ends in the next attempt (R34). -/
theorem pauseEnds_next (s : State) (h : refusalTest s (ignitionOf s) = none) : pauseEnds s =
    beginAttempt (s.power.attempt + 1) { s with power := { s.power with pauseTimer := none } } := by
  unfold pauseEnds
  rw [h]

/-- The pause ends in STANDBY when the refusal test fails (R34). -/
theorem pauseEnds_dropped (s : State) (r : Reason) (h : refusalTest s (ignitionOf s) = some r) : pauseEnds s =
    tellDropped (ignitionOf s) r
      (settleDark .standby (ignitionOf s) (some r) { s with power := { s.power with pauseTimer := none } }) := by
  unfold pauseEnds
  rw [h]

/-- The cooling ends in a strike sequence when a restart is pending (R37). -/
theorem coolingEnds_restart (s : State) (hp : s.power.restartPending = true) (h : refusalTest s (ignitionOf s) = none) :
    coolingEnds s = beginSequence (ignitionOf s) s := by
  simp only [coolingEnds, hp, if_true, h]

/-- The cooling ends in STANDBY when the refusal test drops the restart (R37). -/
theorem coolingEnds_dropped (s : State) (r : Reason) (hp : s.power.restartPending = true)
    (h : refusalTest s (ignitionOf s) = some r) :
    coolingEnds s = tellDropped (ignitionOf s) r (settleDark .standby (ignitionOf s) (some r) s) := by
  simp only [coolingEnds, hp, if_true, h]

/-- Settles O34, timer by timer. -/
theorem timedPowerStatesEnd : Obligations.TimedPowerStatesEnd := by
  unfold Obligations.TimedPowerStatesEnd
  intro s
  dsimp only
  refine ⟨fun hs ht => ?_, fun hs ht => ?_, fun hs ht => ?_⟩
  · have he : exec .restrikePauseExpiry s = .next (finish (pauseEnds s)) := by
      simp [exec, execRestrikePauseExpiry, Option.isSome_iff_ne_none, ht]
    have hdark : isLit s.power.state = false := by simp [hs, isLit]
    obtain ⟨hgeo, hroom, hlock, hctx, hlink, hrouter, hstore⟩ := timedEnd_leaves (s := s) (v := pauseEnds s)
      (by simp [powerActed, linkServed_iff, storeServed_iff]) (by simp [routerTimed, RouterUnit.eq_iff])
    refine ⟨_, he, ⟨hgeo, hroom, hlock, hctx, hlink, hrouter, hstore⟩, ?_⟩
    cases hr : refusalTest s (s.power.ignitionOrigin.getD .auto) with
    | none =>
      rw [pauseEnds_next s hr]
      refine ⟨by simp, fun _ => ⟨by simp [beginAttempt], ?_⟩, by simp, by simp⟩
      exact (finish_inHand .ignite _).mpr (.inl (handControl_mem _ _ (not_lost_of_refusalTest hr)))
    | some r =>
      obtain ⟨htold, hdrop⟩ := dropped_told (ignitionOf s) r { s with power := { s.power with pauseTimer := none } }
      rw [show ({ s with power := { s.power with pauseTimer := none } } : State).power.state = .igniting from hs]
        at htold
      rw [pauseEnds_dropped s r hr]
      refine ⟨?_, by simp, fun _ => ?_, ?_⟩
      · simp [settleDark_lamp .standby _ _ { s with power := { s.power with pauseTimer := none } } hdark rfl (by decide)]
      · simp [settleDark_standby_power _ _ { s with power := { s.power with pauseTimer := none } } hdark]
      · rintro x ⟨⟩
        exact ⟨told_later (told_since (grown_refl _) rfl rfl htold) (by simp),
          fun ho => told_later (told_since (grown_refl _) rfl rfl (hdrop ho)) (by simp)⟩
  · have he : exec .warmingEnd s = .next (finish (warmingEnds s)) := by
      simp [exec, execWarmingEnd, Option.isSome_iff_ne_none, ht]
    obtain ⟨hgeo, hroom, hlock, hctx, hlink, hrouter, hstore⟩ := timedEnd_leaves (s := s) (v := warmingEnds s)
      (by simp [powerActed, linkServed_iff, storeServed_iff]) (by simp [routerTimed, RouterUnit.eq_iff])
    refine ⟨_, he, ⟨hgeo, hroom, hlock, hctx, hlink, hrouter, hstore⟩, fun hno => ?_, fun hoff hl => ?_⟩
    · have hv : warmingEnds s = setPower .on (ignitionOf s) none s := by
        unfold warmingEnds
        rw [if_neg (by rcases hno with h | h <;> simp [h])]
      obtain ⟨hlamp, hpow⟩ := setPower_stays .on (ignitionOf s) none s (by simp [hs, isLit]) rfl
      have htold := setPower_told .on (ignitionOf s) none s
      rw [hs] at htold
      rw [hv]
      exact ⟨by simp [hpow, placePower], by simp [hlamp], told_later htold (by simp)⟩
    · have hv : warmingEnds s = putOut (offOf s) s := by
        unfold warmingEnds
        rw [if_pos (by simp [hoff, hl])]
      obtain ⟨-, htold, -⟩ := putOut_spec (offOf s) s
      rw [hs] at htold
      obtain ⟨hhot, hburn⟩ := putOut_lamp (offOf s) s
      have hpow := putOut_power (offOf s) s
      rw [hv]
      refine ⟨told_later htold (by simp), by simpa using hpow, ?_, by simpa using hhot, ?_⟩
      · simpa using hburn (by simp [hs, isLit])
      · exact (finish_inHand .extinguish _).mpr (.inl (putOut_extinguish _ _ hl))
  · have he : exec .coolingEnd s = .next (finish (coolingEnds s)) := by
      simp [exec, execCoolingEnd, Option.isSome_iff_ne_none, ht]
    have hdark : isLit s.power.state = false := by simp [hs, isLit]
    obtain ⟨hgeo, hroom, hlock, hctx, hlink, hrouter, hstore⟩ := timedEnd_leaves (s := s) (v := coolingEnds s)
      (by simp [powerActed, linkServed_iff, storeServed_iff]) (by simp [routerTimed, RouterUnit.eq_iff])
    refine ⟨_, he, ⟨hgeo, hroom, hlock, hctx, hlink, hrouter, hstore⟩, ?_⟩
    cases hp : s.power.restartPending with
    | false =>
      have hv : coolingEnds s = settleDark .standby .auto none s := by simp [coolingEnds, hp]
      have htold := settleDark_told .standby .auto none s
      rw [hs] at htold
      rw [hv]
      refine ⟨?_, fun _ => ⟨?_, told_later htold (by simp)⟩, by simp, by simp, by simp⟩
      · simp [settleDark_lamp .standby _ _ _ hdark rfl (by decide)]
      · simp [settleDark_standby_power _ _ _ hdark]
    | true =>
      cases hr : refusalTest s (s.power.ignitionOrigin.getD .auto) with
      | none =>
        have htold := beginSequence_told (ignitionOf s) s
        rw [hs] at htold
        rw [coolingEnds_restart s hp hr]
        refine ⟨by simp [beginSequence_lamp _ _ hdark], by simp, fun _ _ => ⟨?_, ?_, told_later htold (by simp)⟩,
          by simp, by simp⟩
        · simp [beginSequence_power _ _ hdark, ignitionOf]
        · exact (finish_inHand .ignite _).mpr (.inl (beginSequence_ignite _ _ (not_lost_of_refusalTest hr)))
      | some r =>
        obtain ⟨htold, hdrop⟩ := dropped_told (ignitionOf s) r s
        rw [hs] at htold
        rw [coolingEnds_dropped s r hp hr]
        refine ⟨?_, by simp, by simp, fun _ _ => ?_, ?_⟩
        · simp [settleDark_lamp .standby _ _ _ hdark rfl (by decide)]
        · simp [settleDark_standby_power _ _ _ hdark]
        · rintro x - ⟨⟩
          exact ⟨told_later htold (by simp), fun ho => told_later (hdrop ho) (by simp)⟩

end Sys2Proof.Machine
end

section
namespace Sys2Proof.Machine

/-! ## The effective lamp mode (R44) -/

/-- What decides the mode: the level, the blank-dim rule, the momentary mode, the room and the default (R44). -/
theorem decideMode_congr (s t : State) (hlevel : t.lamp.level = s.lamp.level) (hdim : t.power.dimmed = s.power.dimmed)
    (hmom : t.power.momentaryMode = s.power.momentaryMode) (hroom : t.room = s.room)
    (hdef : t.store.room = s.store.room) : decideMode t = decideMode s := by
  simp [decideMode, bookingMode, currentBooking, hlevel, hdim, hmom, hroom, hdef]

/-- An evaluation leaves what it decides by. -/
@[simp] theorem decideMode_evalLampMode (s : State) : decideMode (evalLampMode s) = decideMode s :=
  decideMode_congr _ _ (by simp) (by simp) (by simp) (by simp) (by simp)

@[simp] theorem decideMode_finish (s : State) : decideMode (finish s) = decideMode s :=
  decideMode_congr _ _ (by simp) (by simp) (by simp) (by simp) (by simp)

@[simp] theorem decideMode_after (c : Command) (p : Port) (a : Answer) (s : State) :
    decideMode (after c p a s) = decideMode s := rfl

/-- Before the first evaluation, and where the mode is as decided, nothing changes (R44). -/
theorem evalLampMode_same (s : State)
    (h : s.power.modeEvaluated = false ∨ s.power.effectiveMode = (decideMode s).1) : evalLampMode s = s := by
  unfold evalLampMode
  rw [if_neg]
  rcases h with h | h <;> simp [h]

/-- A change of the mode, in the Power Sequencer and in the control lane (R44). -/
theorem evalLampMode_changed (s : State) (h : s.power.modeEvaluated = true)
    (h' : s.power.effectiveMode ≠ (decideMode s).1) :
    (evalLampMode s).power = { s.power with effectiveMode := (decideMode s).1 } ∧
      (s.link.state ≠ .lost → .lampMode (decideMode s).1 ∈ (evalLampMode s).link.control) ∧
      (s.link.state = .lost → (evalLampMode s).link = s.link) := by
  have he : evalLampMode s = applyMode (decideMode s).1 s := by
    unfold evalLampMode
    rw [if_pos (by simp [h, Ne.symm h'])]
  rw [he]
  refine ⟨by simp [applyMode], fun hl => handControl_mem _ _ hl, fun hl => ?_⟩
  simp only [applyMode, handControl, if_pos hl]

/-- A mode that an evaluation changes is handed to the head (R44). -/
theorem evalLampMode_handed (s : State) (h : (evalLampMode s).power.effectiveMode ≠ s.power.effectiveMode)
    (hl : s.link.state ≠ .lost) :
    .lampMode (evalLampMode s).power.effectiveMode ∈ (evalLampMode s).link.control := by
  by_cases hs : s.power.modeEvaluated = false ∨ s.power.effectiveMode = (decideMode s).1
  · rw [evalLampMode_same s hs] at h
    exact absurd rfl h
  · simp only [not_or, Bool.not_eq_false] at hs
    obtain ⟨hpow, hmem, -⟩ := evalLampMode_changed s hs.1 hs.2
    rw [hpow]
    exact hmem hl

/-- The mode at the end of a request whose effect ends in an evaluation (R44). -/
theorem mode_after_evaluation (c : Command) (p : Port) (a : Answer) (w : State) :
    let t := after c p a (finish (evalLampMode w))
    (w.power.modeEvaluated = true → t.power.effectiveMode = (decideMode t).1) ∧
      (w.power.modeEvaluated = false → t.power.effectiveMode = w.power.effectiveMode) ∧
      (t.power.effectiveMode ≠ w.power.effectiveMode → w.link.state ≠ .lost →
        messageInHand (.lampMode t.power.effectiveMode) t) := by
  have hend : (after c p a (finish (evalLampMode w))).power = (evalLampMode w).power := by simp
  dsimp only
  rw [hend]
  refine ⟨fun h => by simp [evalLampMode_mode, h], fun h => by simp [evalLampMode_mode, h], fun h hl => ?_⟩
  exact (finish_inHand _ _).mpr (.inl (evalLampMode_handed w h hl))

/-! ## BLANK (R46, R47) -/

/-- BLANK CLOSE on a shutter not closed: it moves, the timer starts, the head is told and the mode evaluated (R46). -/
theorem closeManual_moves (s : State) (h : s.power.shutter = none ∨ s.power.shutter = some .opened) :
    closeManual s = evalLampMode (handControl (.shutter true) (holdClosed .closedManual s)) := by
  unfold closeManual
  rcases h with h | h <;> rw [h]

/-- BLANK CLOSE on a closed shutter sets its reason (R46). -/
theorem closeManual_stays (s : State) (h : s.power.shutter ≠ none) (h' : s.power.shutter ≠ some .opened) :
    closeManual s = { s with power := { s.power with shutter := some .closedManual } } := by
  unfold closeManual
  split
  · contradiction
  · contradiction
  · rfl
  · next hs => rw [← hs]

/-- BLANK OPEN on a shutter that is not OPEN (R46). -/
theorem openShutter_moves (s : State) (h : s.power.shutter ≠ some .opened) :
    openShutter s = evalLampMode (handControl (.shutter false) (holdOpen s)) := by
  unfold openShutter
  split
  · contradiction
  all_goals rfl

theorem openShutter_stays (s : State) (h : s.power.shutter = some .opened) : openShutter s = s := by
  unfold openShutter
  rw [h]

/-- A shutter message stays in the lane through an evaluation of the mode (R44, R56). -/
theorem evalLampMode_shutter (closed : Bool) (w : State) (h : w.link.state ≠ .lost) :
    .shutter closed ∈ (evalLampMode (handControl (.shutter closed) w)).link.control :=
  (evalLampMode_lane _ _ (sameButModes_refl _) _ (by simp [controlType])).mpr (handControl_mem _ _ h)

/-- The closing is over the delay at once where the delay is 0 (R47). -/
theorem exceedsDelay_zero (s : State) : exceedsDelay (blankDimDelay s) 0 = decide (s.store.room.blankDim = 0) := by
  simp [exceedsDelay, blankDimDelay]

/-- What moving the shutter leaves, besides the shutter, its timer and the mode (R46, R47). -/
def shutterActed (s v : State) : Prop :=
  v.power = { s.power with shutter := v.power.shutter, blankDim := v.power.blankDim, dimmed := v.power.dimmed
                           effectiveMode := v.power.effectiveMode } ∧
    v.lamp = { s.lamp with normalSeen := v.lamp.normalSeen } ∧ v.router = s.router ∧ v.geometry = s.geometry ∧
    v.room = s.room ∧ v.lockout = s.lockout ∧ linkServed s.link v.link ∧ storeServed s.store v.store

theorem closeManual_acted (s : State) : shutterActed s (closeManual s) := by
  simp [shutterActed, PowerUnit.eq_iff, LampUnit.eq_iff, linkServed_iff, storeServed_iff]

theorem openShutter_acted (s : State) : shutterActed s (openShutter s) := by
  simp [shutterActed, PowerUnit.eq_iff, LampUnit.eq_iff, linkServed_iff, storeServed_iff]

theorem shutterActed_after {s v : State} (c : Command) (p : Port) (f : Frame) (a : Answer)
    (h : shutterActed (begun p f s) v) : shutterActed s (after c p a (finish v)) := by
  simpa [shutterActed, linkServed_iff, storeServed_iff] using h

/-- An operation code above 1 is refused (R46). -/
theorem ownBlank_refused (ps : List Word) (s : State) (h : 2 ≤ numAt ps 0) : ownBlank ps s = refuse .outOfRange s := by
  have ho : enumAt blankList ps 0 = none := List.getElem?_eq_none h
  simp [ownBlank, ho]

theorem enumAt_close (ps : List Word) (h : numAt ps 0 = 0) : enumAt blankList ps 0 = some .close := by
  simp [enumAt, h, blankList]

theorem enumAt_openIt (ps : List Word) (h : numAt ps 0 = 1) : enumAt blankList ps 0 = some .openIt := by
  simp [enumAt, h, blankList]

/-- BLANK with a known operation is taken by its block (R46, R168). -/
theorem exec_blank (p : Port) (f : Frame) (q : Qualifier) (s : State) (op : BlankOp) (h : taken .blank p f q s)
    (ho : enumAt blankList (f.words.drop 1) 0 = some op) : exec (.blank p f) s = .next (after .blank p done
      (finish (match op with | .close => closeManual (begun p f s) | .openIt => openShutter (begun p f s)))) := by
  refine congrArg Host.Outcome.next ((request_taken _ p f _ q s h).trans ?_)
  cases op <;> simp only [ownBlank, ho] <;> rw [accept_of_no_reason _ _ rfl]

/-- The shutter, its timer and the mode after a CLOSE (R46, R47). -/
theorem blank_closed (p : Port) (f : Frame) (s : State) :
    let t := after .blank p done (finish (closeManual (begun p f s)))
    t.power.shutter = some .closedManual ∧
      ((s.power.shutter = none ∨ s.power.shutter = some .opened) → t.power.blankDim = some 0 ∧
        (s.link.state ≠ .lost → messageInHand (.shutter true) t) ∧
        t.power.dimmed = decide (s.store.room.blankDim = 0) ∧
        (s.power.modeEvaluated = true → t.power.effectiveMode = (decideMode t).1)) ∧
      (s.power.shutter ≠ none → s.power.shutter ≠ some .opened → t.power.blankDim = s.power.blankDim) ∧
      (t.power.effectiveMode ≠ s.power.effectiveMode → s.link.state ≠ .lost →
        messageInHand (.lampMode t.power.effectiveMode) t) := by
  dsimp only
  refine ⟨by simp [closeManual_shutter], fun hs => ?_, fun hs hs' => ?_, ?_⟩
  · rw [closeManual_moves (begun p f s) hs]
    obtain ⟨hmode, -, -⟩ := mode_after_evaluation .blank p done
      (handControl (.shutter true) (holdClosed .closedManual (begun p f s)))
    refine ⟨by simp [holdClosed], fun hl => (finish_inHand _ _).mpr (.inl (evalLampMode_shutter _ _ hl)), ?_,
      fun hm => hmode hm⟩
    simp [holdClosed, exceedsDelay_zero]
  · simp [closeManual_stays (begun p f s) hs hs']
  · by_cases hs : s.power.shutter = none ∨ s.power.shutter = some .opened
    · rw [closeManual_moves (begun p f s) hs]
      exact (mode_after_evaluation .blank p done
        (handControl (.shutter true) (holdClosed .closedManual (begun p f s)))).2.2
    · rw [not_or] at hs
      rw [closeManual_stays (begun p f s) hs.1 hs.2]
      simp

/-- The shutter, its timer and the mode after an OPEN (R46, R47). -/
theorem blank_opened (p : Port) (f : Frame) (s : State) :
    let t := after .blank p done (finish (openShutter (begun p f s)))
    t.power.shutter = some .opened ∧
      (s.power.shutter ≠ some .opened → t.power.blankDim = none ∧
        (s.link.state ≠ .lost → messageInHand (.shutter false) t) ∧ t.power.dimmed = false ∧
        (s.power.modeEvaluated = true → t.power.effectiveMode = (decideMode t).1)) ∧
      (t.power.effectiveMode ≠ s.power.effectiveMode → s.link.state ≠ .lost →
        messageInHand (.lampMode t.power.effectiveMode) t) := by
  dsimp only
  refine ⟨by simp [openShutter_shutter], fun hs => ?_, ?_⟩
  · rw [openShutter_moves (begun p f s) hs]
    obtain ⟨hmode, -, -⟩ := mode_after_evaluation .blank p done
      (handControl (.shutter false) (holdOpen (begun p f s)))
    exact ⟨by simp [holdOpen], fun hl => (finish_inHand _ _).mpr (.inl (evalLampMode_shutter _ _ hl)),
      by simp [holdOpen], fun hm => hmode hm⟩
  · by_cases hs : s.power.shutter = some .opened
    · rw [openShutter_stays (begun p f s) hs]
      simp
    · rw [openShutter_moves (begun p f s) hs]
      exact (mode_after_evaluation .blank p done (handControl (.shutter false) (holdOpen (begun p f s)))).2.2

/-! ## SET LAMP MODE (R45) -/

@[simp] theorem standingCheck_begun (p : Port) (f : Frame) (s : State) (r : Region) (i : Bool) (ks : List Key) :
    standingCheck (begun p f s) r i ks = standingCheck s r i ks := rfl

/-- A standing write that passes its checks meets no protection (R155). -/
theorem unprotected_of_standingCheck {s : State} {r : Region} {i : Bool} {ks : List Key}
    (h : standingCheck s r i ks = none) : isProtected s r = false := by
  cases hp : isProtected s r with
  | false => rfl
  | true => simp [standingCheck, hp] at h

/-- A standing write refused by a check (R45, R155). -/
theorem ownSetLampMode_refused (p : Port) (q : Qualifier) (ps : List Word) (k : LampMode) (r : Reason) (s : State)
    (hm : lampModeItem ps = some (some k)) (hq : q.scope = .standing)
    (hr : standingCheck s .c false [.roomDefaults] = some r) : ownSetLampMode p q ps s = refuse r s := by
  simp [ownSetLampMode, hm, hq, hr]

/-- The effect of SET LAMP MODE before its evaluation: the momentary mode, or the default and its record (R45). -/
def lampModeSet (p : Port) (scope : Scope) (m : Option LampMode) (s : State) : State :=
  match scope, m with
  | .standing, some k => writeRoom { s.store.room with lampMode := k } (portOrigin p) (setMomentaryMode none s)
  | _, m => setMomentaryMode m s

/-- SET LAMP MODE taken, its checks passed (R45). -/
theorem exec_setLampMode (p : Port) (f : Frame) (q : Qualifier) (m : Option LampMode) (s : State)
    (h : taken .setLampMode p f q s) (hm : lampModeItem (f.words.drop 1) = some m)
    (hc : q.scope = .standing → m ≠ none ∧ standingCheck s .c false [.roomDefaults] = none) :
    exec (.setLampMode p f) s = .next (after .setLampMode p
      (if q.scope = .standing then doneQueued false [] else done)
      (finish (evalLampMode (lampModeSet p q.scope m (begun p f s))))) := by
  refine congrArg Host.Outcome.next ((request_taken _ p f _ q s h).trans ?_)
  cases hq : q.scope with
  | momentary =>
    simp only [ownSetLampMode, hm, hq]
    rw [accept_of_no_reason _ _ rfl]
    rfl
  | standing =>
    obtain ⟨hne, hcheck⟩ := hc hq
    obtain ⟨k, rfl⟩ := Option.ne_none_iff_exists'.mp hne
    simp only [ownSetLampMode, hm, hq, standingCheck_begun, hcheck]
    rw [accept_of_no_reason _ _ rfl]
    rfl

/-- The record of ROOM DEFAULTS is on its way to storage (R45, R156, R158). -/
theorem lampModeSet_sent (p : Port) (k : LampMode) (s : State) (h : isProtected s .c = false) :
    sentToStore .roomDefaults (roomImage { s.store.room with lampMode := k }) (portOrigin p)
      (finish (evalLampMode (lampModeSet p .standing (some k) s))) := by
  refine finish_sent _ _ ?_ ?_
  · simp [lampModeSet, writeRoom, enqueue_mem, liveImage, setMomentaryMode]
  · simp [isProtected, lampModeSet, keyRegion, takeExempt, setMomentaryMode] at h ⊢
    exact h

/-- What SET LAMP MODE leaves before its evaluation. -/
@[simp] theorem lampModeSet_frame (p : Port) (scope : Scope) (m : Option LampMode) (s : State) :
    quietPorts (lampModeSet p scope m s).ports = quietPorts s.ports ∧ (lampModeSet p scope m s).lamp = s.lamp ∧
    (lampModeSet p scope m s).router = s.router ∧ (lampModeSet p scope m s).geometry = s.geometry ∧
    (lampModeSet p scope m s).room = s.room ∧ (lampModeSet p scope m s).lockout = s.lockout ∧
    (lampModeSet p scope m s).link = s.link ∧
    (lampModeSet p scope m s).power.modeEvaluated = s.power.modeEvaluated ∧
    (lampModeSet p scope m s).power.effectiveMode = s.power.effectiveMode := by
  unfold lampModeSet
  split <;> simp

/-- WARN and above (R2, R44). -/
theorem atLeastWarn_iff (v : Option Level) :
    atLeastWarn v = true ↔ v = some .warn ∨ v = some .atEnd ∨ v = some .hardStop := by
  rcases v with _ | v
  · simp [atLeastWarn]
  · cases v <;> simp [atLeastWarn]

/-- At WARN or above, or with the shutter closed for longer than the delay, the mode is ECO (R44). -/
theorem decideMode_eco (s : State) (h : atLeastWarn s.lamp.level = true ∨ s.power.dimmed = true) :
    (decideMode s).1 = .eco := by
  unfold decideMode
  rcases h with h | h
  · rw [if_pos h]
  · simp only [h, if_true]
    split <;> rfl

/-- Else the momentary mode decides, then the booking's, then the default (R44). -/
theorem decideMode_ordered (s : State) (h : ¬ (atLeastWarn s.lamp.level = true ∨ s.power.dimmed = true)) :
    (decideMode s).1 = s.power.momentaryMode.getD ((bookingMode s).getD s.store.room.lampMode) := by
  rw [not_or] at h
  unfold decideMode
  rw [if_neg h.1, if_neg h.2]
  cases s.power.momentaryMode <;> cases bookingMode s <;> rfl

/-- Settles O36: the mode by its inputs, BLANK by its operation, SET LAMP MODE by its scope. -/
theorem blankAndLampMode : Obligations.BlankAndLampMode := by
  unfold Obligations.BlankAndLampMode
  intro mode handed
  have hmode (u : State) : (decideMode u).1 = mode u := by
    have hhigh : (u.lamp.level = some .warn ∨ u.lamp.level = some .atEnd ∨ u.lamp.level = some .hardStop ∨
        u.power.dimmed = true) ↔ (atLeastWarn u.lamp.level = true ∨ u.power.dimmed = true) := by
      rw [atLeastWarn_iff]
      tauto
    simp only [mode, hhigh]
    split
    · next h => exact decideMode_eco u h
    · next h =>
      rw [decideMode_ordered u h, bookingMode, currentBooking]
      cases u.power.momentaryMode with
      | some m => rfl
      | none =>
        by_cases hv : u.room.state = .vacant
        · simp [hv]
        · cases u.room.current.bind fun o => u.room.bookings[o.id] with
          | none => simp [hv]
          | some b => cases hb : b.lampMode <;> simp [hv, hb]
  simp only [← hmode, true_and]
  refine ⟨fun u => ⟨evalLampMode_same u, evalLampMode_changed u⟩, fun p f q s h => ?_, fun p f q m s h hm => ?_⟩
  · refine ⟨fun h2 => ?_, fun h1 => ?_⟩
    · refine congrArg Host.Outcome.next ((request_taken _ p f _ q s h).trans ?_)
      rw [ownBlank_refused _ _ h2]
      rfl
    · rcases Nat.le_one_iff_eq_zero_or_eq_one.mp h1 with h0 | h1
      · obtain ⟨hshut, hmoves, hstays, hhanded⟩ := blank_closed p f s
        exact ⟨_, exec_blank p f q s _ h (enumAt_close _ h0), answered_of _ _ _ _ _ _ (by simp),
          fun _ => ⟨hshut, hmoves, hstays⟩, fun h1 => absurd (h0.symm.trans h1) (by decide), hhanded,
          shutterActed_after .blank p f done (closeManual_acted (begun p f s))⟩
      · obtain ⟨hshut, hmoves, hhanded⟩ := blank_opened p f s
        exact ⟨_, exec_blank p f q s _ h (enumAt_openIt _ h1), answered_of _ _ _ _ _ _ (by simp),
          fun h0 => absurd (h0.symm.trans h1) (by decide), fun _ => ⟨hshut, hmoves⟩, hhanded,
          shutterActed_after .blank p f done (openShutter_acted (begun p f s))⟩
  · refine ⟨fun r hq hne hr => ?_, fun hc => ?_⟩
    · obtain ⟨k, rfl⟩ := Option.ne_none_iff_exists'.mp hne
      refine congrArg Host.Outcome.next ((request_taken _ p f _ q s h).trans ?_)
      rw [ownSetLampMode_refused p q _ k r (begun p f s) hm hq hr]
      rfl
    · obtain ⟨hmodes, hkeeps, hhanded⟩ := mode_after_evaluation .setLampMode p
        (if q.scope = .standing then doneQueued false [] else done) (lampModeSet p q.scope m (begun p f s))
      refine ⟨_, exec_setLampMode p f q m s h hm hc, fun hq => ?_, fun k hq hk => ?_, fun he => hmodes (by simpa using he),
        fun hne hl => hhanded (by simpa using hne) (by simpa using hl), fun he => ?_, ?_⟩
      · rw [hq]
        exact ⟨answered_of _ _ _ _ _ _ (by simp), by simp [lampModeSet, setMomentaryMode],
          by simp [lampModeSet, setMomentaryMode]⟩
      · subst hk
        rw [hq]
        have hroom : (after .setLampMode p (doneQueued false [])
            (finish (evalLampMode (lampModeSet p .standing (some k) (begun p f s))))).store.room =
              { s.store.room with lampMode := k } := by
          simp [lampModeSet, writeRoom, setMomentaryMode]
        refine ⟨answered_of _ _ _ _ _ _ (by simp), by simp [lampModeSet, setMomentaryMode], hroom, ?_⟩
        rw [if_pos rfl, hroom]
        exact lampModeSet_sent p k (begun p f s) (unprotected_of_standingCheck (hc hq).2)
      · simpa using hkeeps (by simpa using he)
      · simp [LampUnit.eq_iff, linkServed_iff]

end Sys2Proof.Machine
end

section
namespace Sys2Proof.Machine

/-! ## A FORMAT on a link that is PRESENT (R65, R178) -/

/-- A FORMAT is none when its width or its height is 0 (R178). -/
theorem formatOf_eq (w h : Word) (r : Byte) : formatOf w h r =
    if w ≠ 0 ∧ h ≠ 0 then some { width := w, height := h, refresh := r } else none := by
  unfold formatOf
  by_cases hs : w ≠ 0 ∧ h ≠ 0
  · rw [if_neg (by simpa using hs), if_pos hs]
  · rw [if_pos (by simpa [or_iff_not_imp_left] using hs), if_neg hs]

/-- The state in which a FORMAT reaches the Source Router: the head is heard, and the FORMAT recorded (R59, R65). -/
def formatHeard (f : Option SignalFormat) (s : State) : State :=
  { s with link := { heard s.link with lastFormat := some f } }

/-- A FORMAT that is heard changes the link alone before the Source Router acts. -/
@[simp] theorem formatHeard_frame (f : Option SignalFormat) (s : State) : (formatHeard f s).ports = s.ports ∧
    (formatHeard f s).lamp = s.lamp ∧ (formatHeard f s).power = s.power ∧ (formatHeard f s).router = s.router ∧
    (formatHeard f s).geometry = s.geometry ∧ (formatHeard f s).room = s.room ∧
    (formatHeard f s).lockout = s.lockout ∧ (formatHeard f s).store = s.store ∧
    (formatHeard f s).link.state = .present :=
  ⟨rfl, rfl, rfl, rfl, rfl, rfl, rfl, rfl, rfl⟩

theorem exec_format_present (w h : Word) (r : Byte) (s : State) (hp : s.link.state = .present) :
    exec (.format w h r) s =
      .next (finish (routerFormat (formatOf w h r) (formatHeard (formatOf w h r) s))) := by
  have ha := headArrives_present .format s hp
  simp only [exec, execFormat, formatTaken, ha]
  rfl

/-! ## The end of a settle (R73 to R75) -/

/-- A settle's end before the request held and the deferred re-resolution (R75, steps 1 to 3). -/
def settleEnded (dest : RouteState) (f : FormatImage) (s : State) : State :=
  let a := { s with router := { s.router with state := dest, format := f, settle := none } }
  let b := handRoute a.router.routedSource f (postRoute s.router.settleOrigin a)
  syncNoSignal (noSignalHolds s) (if dest = .stable then routeStable b else b)

theorem endSettle_eq (dest : RouteState) (f : FormatImage) (s : State) :
    endSettle dest f s = settleTail (settleEnded dest f s) := rfl

/-- The route after a settle's end (R73, R74). -/
theorem settleEnded_router (dest : RouteState) (f : FormatImage) (s : State) : (settleEnded dest f s).router =
    { s.router with state := dest, format := f, settle := none, noSignal := (settleEnded dest f s).router.noSignal } := by
  unfold settleEnded
  dsimp only
  split <;> simp [syncNoSignal]

/-- The no-signal timer starts where the lamp is ON and the timeout is not 0 (R84). -/
theorem settleEnded_noSignal (f : FormatImage) (s : State) (hs : s.router.state = .settling)
    (hr : s.router.resolved = true) (hp : s.power.state = .on) (ht : s.store.room.noSignal ≠ 0) :
    (settleEnded .noSignal f s).router.noSignal = some (s.store.room.noSignal * 60000) := by
  simp [settleEnded, syncNoSignal, noSignalHolds, noSignalTimeout, hs, hr, hp, ht]

/-- A shutter closed with reason AUTO opens when the route is STABLE, and no other shutter moves (R48). -/
theorem routeStable_shutter (s : State) : (routeStable s).power.shutter =
    if s.power.shutter = some .closedAuto then some .opened else s.power.shutter := by
  unfold routeStable
  split
  · simp [openShutter_shutter, *]
  all_goals simp_all

/-- A shutter not closed with reason AUTO stays (R48). -/
theorem routeStable_other (s : State) (h : s.power.shutter ≠ some .closedAuto) : routeStable s = s := by
  unfold routeStable
  split
  · contradiction
  all_goals rfl

theorem settleEnded_shutter (dest : RouteState) (f : FormatImage) (s : State) :
    (settleEnded dest f s).power.shutter =
      if dest = .stable ∧ s.power.shutter = some .closedAuto then some .opened else s.power.shutter := by
  unfold settleEnded
  dsimp only
  by_cases hd : dest = .stable <;> simp [hd, routeStable_shutter]

/-- A trigger evaluation of a started engine leaves a current set (R97). -/
theorem triggerEval_current (s : State) (h : s.geometry.started = true) :
    (triggerEval s).geometry.current.isSome = true := by
  unfold triggerEval
  rw [if_pos h]
  dsimp only
  cases hc : s.geometry.current with
  | none =>
    have hd : inputsDiffer (recordActive s) = true := by simp [inputsDiffer, recordActive, hc]
    simp [hd, makeSet]
  | some g =>
    split
    · simp [makeSet]
    · simp [recordActive, hc]

/-- The Geometry Engine has the routed source and the image, and a set (R75, R97). -/
theorem settleEnded_geometry (dest : RouteState) (f : FormatImage) (s : State) :
    (settleEnded dest f s).geometry.routed = s.router.routedSource ∧ (settleEnded dest f s).geometry.format = f ∧
      (settleEnded dest f s).geometry.started = true ∧ (settleEnded dest f s).geometry.current.isSome = true ∧
      (settleEnded dest f s).geometry.presets = s.geometry.presets ∧
      (settleEnded dest f s).geometry.overlay = s.geometry.overlay := by
  have hset : (settleEnded dest f s).geometry = (handRoute s.router.routedSource f (postRoute s.router.settleOrigin
      { s with router := { s.router with state := dest, format := f, settle := none } })).geometry := by
    unfold settleEnded
    dsimp only
    split <;> simp [syncNoSignal]
  rw [hset]
  refine ⟨?_, ?_, ?_, ?_, by simp, by simp⟩
  · simp [handRoute]
  · simp [handRoute]
  · simp [handRoute]
  · exact triggerEval_current _ rfl

/-- What a settle's end leaves (R75). -/
theorem settleEnded_leaves (dest : RouteState) (f : FormatImage) (s : State) :
    let v := settleEnded dest f s
    v.power = { s.power with shutter := v.power.shutter, blankDim := v.power.blankDim, dimmed := v.power.dimmed
                             effectiveMode := v.power.effectiveMode } ∧
      lampModed s.lamp v.lamp ∧ v.link.state = s.link.state ∧ v.store = s.store ∧ v.room = s.room ∧
      v.lockout = s.lockout ∧ quietPorts v.ports = quietPorts s.ports ∧ grown s.ports v.ports := by
  unfold settleEnded
  dsimp only
  by_cases hd : dest = .stable <;>
    simp [hd, PowerUnit.eq_iff, lampModed, LampUnit.eq_iff, syncNoSignal]

/-- ROUTE CHANGED tells of the end, with the settle's origin (R75). -/
theorem settleEnded_told (dest : RouteState) (f : FormatImage) (s : State) :
    told (originPort s.router.settleOrigin) .routeChanged s.router.settleOrigin
      (pairWord (sourceNumber s.router.routedSource) (inputNumber s.router.routedInput))
      (pairWord (sourceNumber s.router.requested) (position routeStateList dest)) s (settleEnded dest f s) := by
  refine told_of { s with router := { s.router with state := dest, format := f, settle := none } } (grown_refl _) rfl rfl ?_
  unfold settleEnded
  dsimp only
  split <;> simp [syncNoSignal, postRoute, postFor]

/-- With no request held and none deferred the settle's end ends there (R75). -/
theorem settleTail_idle (s : State) (hp : s.router.pendingSlot = none) (hd : s.router.deferred = false) :
    settleTail s = { s with router := { s.router with pendingSlot := none, deferred := false } } := by
  simp [settleTail, hp, hd]

/-- The state in which the request held and the deferred re-resolution are served (R75, steps 4 and 5). -/
def slotCleared (s : State) : State := { s with router := { s.router with pendingSlot := none, deferred := false } }

/-- A request held and still permitted is applied (R82). -/
theorem settleTail_permitted (q : RouteRequest) (s : State) (hp : s.router.pendingSlot = some q)
    (hq : stillPermitted q (slotCleared s) = true) : settleTail s = (applyRoute q.origin q.source true (slotCleared s)).2 := by
  simp only [settleTail, hp, applyHeld]
  exact if_pos hq

/-- One no longer permitted is told of, and a deferred re-resolution made (R82). -/
theorem settleTail_refused (q : RouteRequest) (s : State) (hp : s.router.pendingSlot = some q)
    (hq : stillPermitted q (slotCleared s) = false) : settleTail s =
      if s.router.deferred then reResolve (postDisplaced q .notPermitted noneByte (slotCleared s))
      else postDisplaced q .notPermitted noneByte (slotCleared s) := by
  simp only [settleTail, hp, applyHeld]
  exact if_neg (Bool.eq_false_iff.mp hq)

/-- With no request held a deferred re-resolution is made (R75). -/
theorem settleTail_deferred (s : State) (hp : s.router.pendingSlot = none) (hd : s.router.deferred = true) :
    settleTail s = reResolve (slotCleared s) := by
  simp [settleTail, hp, hd, slotCleared]

/-- Outside a settle a re-resolution is made at once, with origin AUTO (R78). -/
theorem reResolve_now (s : State) (hr : s.router.resolved = true) (hs : s.router.state ≠ .settling) :
    reResolve s = (resolve .auto false s).2 := by
  simp [reResolve, hr, hs]

/-! ## A resolution (R70, R71) -/

/-- The route of `t` is that of the requested source `m` in `s`, and a settle of origin `o` when the input is another
(R70 to R72). -/
def routedTo (o : Origin) (m : Fin 8) (s t : State) : Prop :=
  let chain := chainOf s.router.sources m
  let dest := routedOf s.router.debounced chain
  t.router.requested = some m ∧ t.router.chain = chain ∧ t.router.routedSource = dest.1 ∧
    t.router.routedInput = dest.2 ∧ t.router.pendingSlot = s.router.pendingSlot ∧ t.router.deferred = false ∧
    (dest.2 ≠ s.router.routedInput → t.router.state = .settling ∧ t.router.settleOrigin = o ∧
      t.router.settle = some s.store.room.settleTime ∧ t.router.format = .unknown) ∧
    (dest.2 = s.router.routedInput → t.router.state = s.router.state ∧ t.router.settle = s.router.settle)

theorem resolve_routedTo (o : Origin) (tell : Bool) (m : Fin 8) (s : State) (h : s.router.requested = some m) :
    routedTo o m s (resolve o tell s).2 := by
  have hchain : chainNow s = chainOf s.router.sources m := by simp [chainNow, h]
  unfold routedTo resolve
  rw [hchain]
  dsimp only
  split
  · next hi => simp [startSettle, syncNoSignal, h, hi]
  · next hi =>
    have hi : (routedOf s.router.debounced (chainOf s.router.sources m)).2 = s.router.routedInput := by simpa using hi
    split
    · simp [h, hi]
    · next hs =>
      have hs : (routedOf s.router.debounced (chainOf s.router.sources m)).1 = s.router.routedSource := by simpa using hs
      split <;> simp [h, hi, hs]

/-- A resolution that keeps the input, asked to tell, is told by ROUTE CHANGED (R71, R80). -/
theorem resolve_told (o : Origin) (m : Fin 8) (s : State) (h : s.router.requested = some m)
    (hi : (routedOf s.router.debounced (chainOf s.router.sources m)).2 = s.router.routedInput) :
    let t := (resolve o true s).2
    told (originPort o) .routeChanged o
      (pairWord (sourceNumber t.router.routedSource) (inputNumber t.router.routedInput))
      (pairWord m.val (position routeStateList s.router.state)) s t := by
  have hchain : chainNow s = chainOf s.router.sources m := by simp [chainNow, h]
  have posted (v : State) (hg : grown s.ports v.ports) (hq : quietPorts v.ports = quietPorts s.ports)
      (hc : v.room.clock = s.room.clock) (hm : v.router.requested = some m) (hs : v.router.state = s.router.state) :
      told (originPort o) .routeChanged o
        (pairWord (sourceNumber (postRoute o v).router.routedSource) (inputNumber (postRoute o v).router.routedInput))
        (pairWord m.val (position routeStateList s.router.state)) s (postRoute o v) := by
    refine told_of v hg hq hc ?_
    rw [← hs, show (postRoute o v).router = v.router by simp]
    simp [postRoute, postFor, hm, sourceNumber]
  unfold resolve
  rw [hchain]
  dsimp only
  rw [if_neg (by simpa using hi)]
  split
  · exact posted _ (by simp) (by simp) (by simp) (by simp [h]) (by simp)
  · exact posted { s with router := { s.router with chain := chainOf s.router.sources m, deferred := false } }
      (by simp) (by simp) (by simp) h rfl

/-- A request held is permitted still when the permission decision permits the port of its origin (R82, R143). -/
theorem stillPermitted_iff (q : RouteRequest) (s : State) : stillPermitted q s = true ↔
    ∀ p : Port, originPort q.origin = some p → permission s p .source .momentary = none := by
  unfold stillPermitted permission
  split
  · next h => simp [h]
  · next p h => simp [h]

/-- The permission decision reads the lockout unit alone (R143). -/
theorem permission_congr (s t : State) (h : t.lockout = s.lockout) (p : Port) (c : CommandClass) (x : Scope) :
    permission t p c x = permission s p c x := by
  cases s; cases t
  simp only at h
  subst h
  rfl

/-- REQUEST DISPLACED tells of a request no longer permitted (R82). -/
theorem postDisplaced_told (q : RouteRequest) (s : State) : told (originPort q.origin) .requestDisplaced q.origin
    (word q.source.val) (pairWord (position reasonList .notPermitted) 0xFF) s
    (postDisplaced q .notPermitted noneByte s) :=
  told_of s (grown_refl _) rfl rfl (grown_refl _)

/-! ## A FORMAT outside a settle (R76) -/

/-- The route after a FORMAT, before the Geometry Engine is told of a new size (R76). -/
def formatMoved (f : Option SignalFormat) (s : State) : State :=
  let a := { s with router := { s.router with format := imageOf f } }
  match f, s.router.state with
  | none, .stable =>
    syncNoSignal (noSignalHolds s)
      (post .signalLost .auto (some (word (inputNumber s.router.routedInput))) (some noneWord)
        { a with router := { a.router with state := .noSignal } })
  | some x, .noSignal =>
    routeStable (syncNoSignal (noSignalHolds s)
      (post .signalFound .auto (some (word (inputNumber s.router.routedInput))) (some x.width)
        { a with router := { a.router with state := .stable } }))
  | _, _ => a

theorem formatMoves_eq (f : Option SignalFormat) (s : State) : formatMoves f s =
    if imageSize (imageOf f) = imageSize s.router.format then formatMoved f s
    else handFormat (imageOf f) (formatMoved f s) := rfl

/-- A signal is found (R76). -/
theorem formatMoved_found (x : SignalFormat) (s : State) (h : s.router.state = .noSignal) :
    formatMoved (some x) s = routeStable (syncNoSignal (noSignalHolds s)
      (post .signalFound .auto (some (word (inputNumber s.router.routedInput))) (some x.width)
        { s with router := { s.router with format := .signal x, state := .stable } })) := by
  simp only [formatMoved, h]
  rfl

/-- A signal is lost (R76). -/
theorem formatMoved_lost (s : State) (h : s.router.state = .stable) :
    formatMoved none s = syncNoSignal (noSignalHolds s)
      (post .signalLost .auto (some (word (inputNumber s.router.routedInput))) (some noneWord)
        { s with router := { s.router with format := .noSignal, state := .noSignal } }) := by
  simp only [formatMoved, h]
  rfl

/-- The route stays on a signal that stays, and without one that stays away (R76). -/
theorem formatMoved_stays (f : Option SignalFormat) (s : State)
    (h : s.router.state = if f.isSome then .stable else .noSignal) :
    formatMoved f s = { s with router := { s.router with format := imageOf f } } := by
  cases f <;> simp only [formatMoved, h] <;> rfl

/-- Outside a settle one of these three happens (R76). -/
theorem format_cases (f : Option SignalFormat) (s : State) (h : s.router.state ≠ .settling) :
    (∃ x, f = some x ∧ s.router.state = .noSignal) ∨ (f = none ∧ s.router.state = .stable) ∨
      s.router.state = if f.isSome then .stable else .noSignal := by
  cases f <;> cases hs : s.router.state <;> simp_all

/-- The route is STABLE on a signal, and in NO SIGNAL otherwise (R76). -/
theorem formatMoved_router (f : Option SignalFormat) (s : State) (h : s.router.state ≠ .settling) :
    (formatMoved f s).router = { s.router with
      state := if f.isSome then .stable else .noSignal, format := imageOf f
      noSignal := (formatMoved f s).router.noSignal } := by
  rcases format_cases f s h with ⟨x, rfl, hs⟩ | ⟨rfl, hs⟩ | hs
  · rw [formatMoved_found x s hs]
    simp [syncNoSignal, imageOf]
  · rw [formatMoved_lost s hs]
    simp [syncNoSignal, imageOf]
  · rw [formatMoved_stays f s hs, ← hs]

/-- What a FORMAT outside a settle leaves (R76). -/
theorem formatMoved_leaves (f : Option SignalFormat) (s : State) (h : s.router.state ≠ .settling) :
    let v := formatMoved f s
    v.geometry = s.geometry ∧ v.room = s.room ∧ v.lockout = s.lockout ∧ v.store = s.store ∧
      quietPorts v.ports = quietPorts s.ports ∧ grown s.ports v.ports := by
  rcases format_cases f s h with ⟨x, rfl, hs⟩ | ⟨rfl, hs⟩ | hs
  · rw [formatMoved_found x s hs]
    simp [syncNoSignal]
  · rw [formatMoved_lost s hs]
    simp [syncNoSignal]
  · rw [formatMoved_stays f s hs]
    simp

/-- The lamp and the shutter are concerned by a signal found alone (R48, R76). -/
theorem formatMoved_quiet (f : Option SignalFormat) (s : State) (h : s.router.state ≠ .settling)
    (hq : f = none ∨ s.router.state = .stable) :
    (formatMoved f s).power = s.power ∧ (formatMoved f s).lamp = s.lamp := by
  rcases format_cases f s h with ⟨x, rfl, hs⟩ | ⟨rfl, hs⟩ | hs
  · simp [hs] at hq
  · rw [formatMoved_lost s hs]
    simp [syncNoSignal]
  · rw [formatMoved_stays f s hs]
    simp

/-- SIGNAL FOUND, the no-signal timer stopped, and an AUTO shutter opened (R48, R76, R84). -/
theorem formatMoved_found_spec (x : SignalFormat) (s : State) (h : s.router.state = .noSignal) :
    let v := formatMoved (some x) s
    v.router.noSignal = none ∧
      told none .signalFound .auto (word (inputNumber s.router.routedInput)) x.width s v ∧
      v.power.shutter = (if s.power.shutter = some .closedAuto then some .opened else s.power.shutter) := by
  rw [formatMoved_found x s h]
  refine ⟨by simp [syncNoSignal, noSignalHolds], ?_, ?_⟩
  · refine told_of { s with router := { s.router with format := .signal x, state := .stable } } (grown_refl _) rfl rfl ?_
    simp [syncNoSignal, post]
  · rw [routeStable_shutter]
    simp [syncNoSignal]

/-- SIGNAL LOST (R76). -/
theorem formatMoved_lost_told (s : State) (h : s.router.state = .stable) :
    told none .signalLost .auto (word (inputNumber s.router.routedInput)) 0xFFFF s (formatMoved none s) := by
  rw [formatMoved_lost s h]
  exact told_of { s with router := { s.router with format := .noSignal, state := .noSignal } } (grown_refl _) rfl rfl
    (grown_refl _)

/-- The Geometry Engine is told of a new size, and of nothing else (R76, R97). -/
theorem formatMoves_geometry (f : Option SignalFormat) (s : State) (h : s.router.state ≠ .settling) :
    (imageSize (imageOf f) ≠ imageSize s.router.format → (formatMoves f s).geometry.format = imageOf f) ∧
      (imageSize (imageOf f) = imageSize s.router.format → (formatMoves f s).geometry = s.geometry) := by
  rw [formatMoves_eq]
  refine ⟨fun hn => ?_, fun he => ?_⟩
  · rw [if_neg hn]
    simp [handFormat]
  · rw [if_pos he]
    exact (formatMoved_leaves f s h).1

/-- Telling the Geometry Engine leaves the other blocks (R76). -/
theorem formatMoves_leaves (f : Option SignalFormat) (s : State) :
    let v := formatMoves f s
    let w := formatMoved f s
    v.ports = w.ports ∧ v.lamp = w.lamp ∧ v.power = w.power ∧ v.router = w.router ∧ v.room = w.room ∧
      v.lockout = w.lockout ∧ v.store = w.store := by
  dsimp only
  rw [formatMoves_eq]
  split <;> simp [handFormat]

end Sys2Proof.Machine
end

section
namespace Sys2Proof.Machine

/-! ## The settle's end in full (R73 to R76, R82) -/

theorem exec_settleTimerExpiry (s : State) (h : s.router.settle ≠ none) :
    exec .settleTimerExpiry s = .next (finish (settleTail (settleEnded .noSignal .unknown s))) := by
  simp [exec, execSettleTimerExpiry, Option.isSome_iff_ne_none, h, settleExpires, endSettle_eq]

/-- A FORMAT while SETTLING ends the settle (R73). -/
theorem exec_format_settling (w h : Word) (r : Byte) (s : State) (hp : s.link.state = .present)
    (hr : s.router.resolved = true) (hs : s.router.state = .settling) :
    exec (.format w h r) s = .next (finish (settleTail (settleEnded
      (if (formatOf w h r).isSome then .stable else .noSignal) (imageOf (formatOf w h r))
      (formatHeard (formatOf w h r) s)))) := by
  rw [exec_format_present w h r s hp]
  simp [routerFormat, hr, hs, endSettle_eq]

/-- A FORMAT outside a settle (R76). -/
theorem exec_format_moves (w h : Word) (r : Byte) (s : State) (hp : s.link.state = .present)
    (hr : s.router.resolved = true) (hs : s.router.state ≠ .settling) :
    exec (.format w h r) s = .next (finish (formatMoves (formatOf w h r) (formatHeard (formatOf w h r) s))) := by
  rw [exec_format_present w h r s hp]
  simp [routerFormat, hr, hs]

/-- The slot that the settle's end left, served after it, is the one it found (R75). -/
theorem settleEnded_held (dest : RouteState) (f : FormatImage) (s : State) :
    (settleEnded dest f s).router.pendingSlot = s.router.pendingSlot ∧
      (settleEnded dest f s).router.deferred = s.router.deferred ∧
      (settleEnded dest f s).router.resolved = s.router.resolved ∧ (settleEnded dest f s).router.state = dest := by
  rw [settleEnded_router]
  exact ⟨rfl, rfl, rfl, rfl⟩

/-- The request held is judged by the permissions of the command's beginning (R82). -/
theorem stillPermitted_ended (q : RouteRequest) (s : State) :
    stillPermitted q (slotCleared (settleEnded .noSignal .unknown s)) = true ↔
      ∀ p : Port, originPort q.origin = some p → permission s p .source .momentary = none := by
  have h : (slotCleared (settleEnded .noSignal .unknown s)).lockout = s.lockout := (settleEnded_leaves _ _ s).2.2.2.2.2.1
  simp only [stillPermitted_iff, permission_congr _ _ h]

/-- What a resolution makes of the settle's end is the route named from the command's beginning (R70, R75). -/
theorem routedTo_ended {o : Origin} {m : Fin 8} {s v t : State}
    (hv : v.router.sources = s.router.sources ∧ v.router.debounced = s.router.debounced ∧
      v.router.routedInput = s.router.routedInput ∧ v.store = s.store)
    (hs : v.router.state = .noSignal ∧ v.router.settle = none ∧ v.router.pendingSlot = none)
    (h : routedTo o m v t) :
    let chain := chainOf s.router.sources m
    let dest := routedOf s.router.debounced chain
    t.router.requested = some m ∧ t.router.chain = chain ∧ t.router.routedSource = dest.1 ∧
      t.router.routedInput = dest.2 ∧ t.router.pendingSlot = none ∧ t.router.deferred = false ∧
      (dest.2 ≠ s.router.routedInput → t.router.state = .settling ∧ t.router.settleOrigin = o ∧
        t.router.settle = some s.store.room.settleTime ∧ t.router.format = .unknown) ∧
      (dest.2 = s.router.routedInput → t.router.state = .noSignal ∧ t.router.settle = none) := by
  obtain ⟨hsources, hdeb, hinput, hstore⟩ := hv
  obtain ⟨hstate, hsettle, hslot⟩ := hs
  unfold routedTo at h
  rwa [hsources, hdeb, hinput, hstore, hstate, hsettle, hslot] at h

/-- The settle's end, its slot cleared, on the router (R74, R75). -/
theorem slotCleared_ended (s : State) :
    let v := slotCleared (settleEnded .noSignal .unknown s)
    (v.router.sources = s.router.sources ∧ v.router.debounced = s.router.debounced ∧
      v.router.routedInput = s.router.routedInput ∧ v.store = s.store) ∧
    (v.router.state = .noSignal ∧ v.router.settle = none ∧ v.router.pendingSlot = none) ∧
    v.router.requested = s.router.requested ∧ v.router.resolved = s.router.resolved := by
  have hr := settleEnded_router .noSignal .unknown s
  obtain ⟨-, -, -, hstore, -, -, -, -⟩ := settleEnded_leaves .noSignal .unknown s
  refine ⟨⟨?_, ?_, ?_, hstore⟩, ⟨?_, ?_, rfl⟩, ?_, ?_⟩ <;> (dsimp only [slotCleared]; rw [hr])

end Sys2Proof.Machine
end

section
namespace Sys2Proof.Machine

/-- What is told since the settle's end is told since the command's beginning. -/
theorem told_since_ended {dest : Option Port} {kind : NoticeKind} {o : Origin} {x y : Word} {s t : State}
    (h : told dest kind o x y (slotCleared (settleEnded .noSignal .unknown s)) t) : told dest kind o x y s t := by
  obtain ⟨-, -, -, -, hroom, -, hquiet, hgrown⟩ := settleEnded_leaves .noSignal .unknown s
  exact told_since hgrown hquiet (congrArg RoomUnit.clock hroom) h

/-- A source requested, before its resolution (R80). -/
def requesting (x : Fin 8) (s : State) : State := { s with router := { s.router with requested := some x } }

@[simp] theorem requesting_frame (x : Fin 8) (s : State) : (requesting x s).router.state = s.router.state ∧
    (requesting x s).router.sources = s.router.sources ∧ (requesting x s).router.debounced = s.router.debounced ∧
    (requesting x s).router.routedInput = s.router.routedInput ∧ (requesting x s).router.settle = s.router.settle ∧
    (requesting x s).router.pendingSlot = s.router.pendingSlot ∧ (requesting x s).store = s.store :=
  ⟨rfl, rfl, rfl, rfl, rfl, rfl, rfl⟩

/-- A request applied that is to be told (R80, R82). -/
theorem applyRoute_told (o : Origin) (x : Fin 8) (s : State) :
    applyRoute o x true s = resolve o true (requesting x s) := rfl

/-- The settle of `s` has ended in `t`, in a route state and with an image, nothing being held (R73 to R75). -/
def settledIn (dest : RouteState) (i : FormatImage) (s t : State) : Prop :=
  t.geometry.routed = s.router.routedSource ∧ t.geometry.format = i ∧ t.geometry.started = true ∧
    t.geometry.current.isSome = true ∧
    t.power.shutter = (if dest = .stable ∧ s.power.shutter = some .closedAuto then some .opened else s.power.shutter) ∧
    (dest = .noSignal → s.power.state = .on → s.store.room.noSignal ≠ 0 →
      t.router.noSignal = some (s.store.room.noSignal * 60000)) ∧
    told (originPort s.router.settleOrigin) .routeChanged s.router.settleOrigin
      (pairWord (sourceNumber s.router.routedSource) (inputNumber s.router.routedInput))
      (pairWord (sourceNumber s.router.requested) (position routeStateList dest)) s t ∧
    t.router = { s.router with state := dest, format := i, settle := none, noSignal := t.router.noSignal } ∧
    t.geometry.presets = s.geometry.presets ∧ t.geometry.overlay = s.geometry.overlay ∧
    t.power = { s.power with shutter := t.power.shutter, blankDim := t.power.blankDim, dimmed := t.power.dimmed
                             effectiveMode := t.power.effectiveMode } ∧
    lampModed s.lamp t.lamp ∧ t.link.state = s.link.state ∧ storeServed s.store t.store ∧
    t.room = s.room ∧ t.lockout = s.lockout ∧ contexts t = contexts s

theorem finish_settledIn (dest : RouteState) (i : FormatImage) (s : State) (hs : s.router.state = .settling)
    (hr : s.router.resolved = true) (hslot : s.router.pendingSlot = none) (hdef : s.router.deferred = false) :
    settledIn dest i s (finish (settleTail (settleEnded dest i s))) := by
  obtain ⟨hheld, hdeferred, -, -⟩ := settleEnded_held dest i s
  rw [settleTail_idle _ (hheld.trans hslot) (hdeferred.trans hdef)]
  obtain ⟨hrouted, hformat, hstarted, hcurrent, hpresets, hoverlay⟩ := settleEnded_geometry dest i s
  obtain ⟨hpow, hlamp, hlink, hstore, hroom, hlock, hports, -⟩ := settleEnded_leaves dest i s
  have hrouter := settleEnded_router dest i s
  refine ⟨by simpa using hrouted, by simpa using hformat, by simpa using hstarted, by simpa using hcurrent,
    by simpa using settleEnded_shutter dest i s, fun hd hon ht => ?_, told_later (settleEnded_told dest i s) (by simp), ?_,
    by simpa using hpresets, by simpa using hoverlay, by simpa using hpow, by simpa using hlamp, by simpa using hlink, ?_,
    by simpa using hroom, by simpa using hlock, by simpa [contexts] using hports⟩
  · subst hd
    simpa using settleEnded_noSignal i s hs hr hon ht
  · simp only [finish_frame]
    rw [hrouter]
    simp [hslot, hdef]
  · simp [storeServed_iff, hstore]

/-- The FORMAT that ends a settle changes the link alone before it does so (R59, R65). -/
theorem settledIn_of_heard {dest : RouteState} {i : FormatImage} {f : Option SignalFormat} {s t : State}
    (hp : s.link.state = .present) (h : settledIn dest i (formatHeard f s) t) : settledIn dest i s t := by
  obtain ⟨hrouted, hformat, hstarted, hcurrent, hshutter, htimer, htold, hrouter, hpresets, hoverlay, hpow, hlamp, hlink,
    hstore, hroom, hlock, hctx⟩ := h
  exact ⟨hrouted, hformat, hstarted, hcurrent, hshutter, htimer, told_since (grown_refl _) rfl rfl htold, hrouter,
    hpresets, hoverlay, hpow, hlamp, hlink.trans hp.symm, hstore, hroom, hlock, hctx⟩

/-- Settles O43: the settle's end with nothing held; the request held and the re-resolution deferred; a FORMAT outside a
settle. -/
theorem settleEndsInARouteState : Obligations.SettleEndsInARouteState := by
  unfold Obligations.SettleEndsInARouteState
  refine ⟨fun s hs hr hslot hdef => ?_, fun s hs hr ht => ?_, fun w h r s hp hr hs => ?_⟩
  · have byFormat (w h : Word) (r : Byte) (hp : s.link.state = .present) {dest : RouteState} {i : FormatImage}
        (hd : (if (formatOf w h r).isSome then RouteState.stable else .noSignal) = dest)
        (hi : imageOf (formatOf w h r) = i) : ∃ t, exec (.format w h r) s = .next t ∧ settledIn dest i s t := by
      refine ⟨_, exec_format_settling w h r s hp hr hs, ?_⟩
      rw [hd, hi]
      exact settledIn_of_heard hp (finish_settledIn dest i _ hs hr hslot hdef)
    refine ⟨fun w h r hp hw hh => ?_, fun w h r hp hn => ?_, fun ht => ?_⟩
    · have hsome : formatOf w h r = some ⟨w, h, r⟩ := by rw [formatOf_eq, if_pos ⟨hw, hh⟩]
      exact byFormat w h r hp (by simp [hsome]) (by simp [hsome, imageOf])
    · have hnone : formatOf w h r = none := by
        rw [formatOf_eq, if_neg (by rcases hn with hn | hn <;> simp [hn])]
      exact byFormat w h r hp (by simp [hnone]) (by simp [hnone, imageOf])
    · exact ⟨_, exec_settleTimerExpiry s ht, finish_settledIn .noSignal .unknown s hs hr hslot hdef⟩
  · obtain ⟨hv, hcleared, hreq, hres⟩ := slotCleared_ended s
    obtain ⟨hheld, hdeferred, -, -⟩ := settleEnded_held .noSignal .unknown s
    have hnot : (slotCleared (settleEnded .noSignal .unknown s)).router.state ≠ .settling := by simp [hcleared.1]
    refine ⟨fun q hq hperm => ?_, fun q hq hperm => ?_, fun m hq hd hm => ?_⟩
    · have he := settleTail_permitted q _ (hheld.trans hq) ((stillPermitted_ended q s).mpr hperm)
      rw [applyRoute_told] at he
      refine ⟨_, exec_settleTimerExpiry s ht, ?_, fun hi => ?_⟩
      · rw [he]
        simpa using routedTo_ended (by simpa using hv) (by simpa using hcleared)
          (resolve_routedTo q.origin true q.source (requesting q.source _) rfl)
      · have hend := resolve_told q.origin q.source (requesting q.source (slotCleared (settleEnded .noSignal .unknown s)))
          rfl (by simpa [hv] using hi)
        rw [(requesting_frame _ _).1, hcleared.1] at hend
        rw [he]
        simpa using told_later (told_since_ended (told_since (grown_refl _) rfl rfl hend)) (finish_grown _ _ (grown_refl _))
    · have he := settleTail_refused q _ (hheld.trans hq)
        (Bool.eq_false_iff.mpr (mt (stillPermitted_ended q s).mp hperm))
      refine ⟨_, exec_settleTimerExpiry s ht, ?_⟩
      rw [he]
      have hend := postDisplaced_told q (slotCleared (settleEnded .noSignal .unknown s))
      cases hd : s.router.deferred with
      | false =>
        rw [if_neg (by simp [hdeferred, hd])]
        refine ⟨by simpa using hreq, by simpa using hcleared.2.2, told_later (told_since_ended hend) (by simp),
          fun _ => ?_, by simp⟩
        simpa using ⟨hcleared.1, hv.2.2.1⟩
      | true =>
        rw [if_pos (by simp [hdeferred, hd]), reResolve_now _ (by simpa using hres.trans hr) (by simpa using hnot)]
        refine ⟨by simpa using hreq, by simpa using hcleared.2.2, told_later (told_since_ended hend) (by simp), by simp,
          fun m _ hm => ?_⟩
        have hroute := resolve_routedTo .auto false m (postDisplaced q .notPermitted noneByte
          (slotCleared (settleEnded .noSignal .unknown s))) (by simpa using hreq.trans hm)
        simpa using routedTo_ended (by simpa using hv) (by simpa using hcleared) hroute
    · have he := settleTail_deferred _ (hheld.trans hq) (hdeferred.trans hd)
      refine ⟨_, exec_settleTimerExpiry s ht, ?_⟩
      rw [he, reResolve_now _ (hres.trans hr) hnot]
      simpa using routedTo_ended hv hcleared (resolve_routedTo .auto false m _ (hreq.trans hm))
  · intro signal i size
    have hsize : size = imageSize := by
      funext x
      cases x <;> rfl
    have himage : i = imageOf (formatOf w h r) := by
      simp only [i, signal]
      rw [formatOf_eq]
      split <;> rfl
    have hsignal : (formatOf w h r).isSome = true ↔ signal := by
      simp only [signal]
      rw [formatOf_eq]
      split <;> simp_all
    rw [hsize, himage]
    obtain ⟨hports, hlamp, hpow, hrouter, -, -, -⟩ :=
      formatMoves_leaves (formatOf w h r) (formatHeard (formatOf w h r) s)
    obtain ⟨-, -, -, -, hquiet, hgrown⟩ :=
      formatMoved_leaves (formatOf w h r) (formatHeard (formatOf w h r) s) hs
    have hroute := formatMoved_router (formatOf w h r) (formatHeard (formatOf w h r) s) hs
    obtain ⟨hnew, hsame⟩ := formatMoves_geometry (formatOf w h r) (formatHeard (formatOf w h r) s) hs
    have hkeeps := formatMoved_quiet (formatOf w h r) (formatHeard (formatOf w h r) s) hs
    have later {kind : NoticeKind} {x y : Word}
        (ht : told none kind .auto x y (formatHeard (formatOf w h r) s)
          (formatMoved (formatOf w h r) (formatHeard (formatOf w h r) s))) :
        told none kind .auto x y s (finish (formatMoves (formatOf w h r) (formatHeard (formatOf w h r) s))) :=
      told_later (told_since (grown_refl _) rfl rfl ht) (by simp [hports])
    refine ⟨_, exec_format_moves w h r s hp hr hs, ?_, fun hsig hno => ?_, fun hsig hst => ?_, fun hq => ?_,
      fun hn => by simpa using hnew hn, fun he => by simpa using hsame he, by simp, by simp, by simp [storeServed_iff],
      by simp [contexts]⟩
    · simp only [finish_frame]
      rw [hrouter, hroute]
      simp [hsignal]
    · obtain ⟨x, hx⟩ := Option.isSome_iff_exists.mp (hsignal.mpr hsig)
      have hw : x.width = w := by
        rw [formatOf_eq, if_pos hsig] at hx
        cases hx
        rfl
      obtain ⟨hstop, hfound, hshutter⟩ := formatMoved_found_spec x (formatHeard (some x) s) hno
      rw [hx] at hrouter hpow later ⊢
      rw [hw] at hfound
      simp only [finish_frame, hrouter, hpow]
      exact ⟨hstop, later hfound, hshutter⟩
    · have hf : formatOf w h r = none := by simpa using mt hsignal.mp hsig
      rw [hf] at later ⊢
      exact later (formatMoved_lost_told _ hst)
    · simp only [finish_frame]
      rw [hpow, hlamp]
      exact hkeeps (hq.imp_left fun hsig => by simpa using mt hsignal.mp hsig)

end Sys2Proof.Machine
end

section
namespace Sys2Proof.Machine

/-! ## The line and the answer timer (R53 to R55) -/

/-- The message has left, and its answer is awaited (R53). -/
theorem headMessageSent_awaited (s : State) (o : Outstanding) (ho : s.link.outstanding = some o)
    (ht : s.link.transmit ≠ []) : exec .headMessageSent s =
      .next { s with link := { s.link with answer := some 250, transmit := [] } } := by
  have hl : messageLeaves s = { s with link := { s.link with answer := some 250, transmit := [] } } := by
    simp [messageLeaves, ht, ho, answerLength]
  have hb : serveLink (messageLeaves s) = messageLeaves s := serveLink_busy _ (.inr (.inl (by simp [hl, ho])))
  exact congrArg Host.Outcome.next (hb.trans hl)

/-- The bytes of an exchange that has ended have left: the line is free, and no timer runs (R53; log entry 26). -/
def lineFreed (s : State) : State := { s with link := { s.link with answer := none, transmit := [] } }

theorem headMessageSent_freed (s : State) (ho : s.link.outstanding = none) (ht : s.link.transmit ≠ []) :
    exec .headMessageSent s = .next (serveLink (lineFreed s)) := by
  have hl : messageLeaves s = lineFreed s := by simp [messageLeaves, ht, ho, lineFreed]
  exact congrArg (fun u => Host.Outcome.next (serveLink u)) hl

/-- A freed line takes the next message of the serving order (R58). -/
theorem serveLink_freed (s : State) (hp : s.link.state = .present) (ho : s.link.outstanding = none) (m : HeadMsg)
    (hm : (s.link.control.head?.map HeadMsg.control).or (s.link.lane.map laneMessage) = some m) :
    serveLink (lineFreed s) = { lineFreed s with link := { (lineFreed s).link with
      outstanding := some { msg := m, tag := s.link.nextTag, sends := 1, ofLane := s.link.control.isEmpty }
      nextTag := s.link.nextTag + 1, control := s.link.control.drop 1
      transmit := messageBytes s.link.nextTag m } } := by
  rw [serveLink_free (lineFreed s) hp ho rfl]
  cases hc : s.link.control with
  | cons x rest =>
    obtain rfl : HeadMsg.control x = m := by simpa [hc] using hm
    simp [lineFreed, hc, sendMessage]
  | nil =>
    cases hl : s.link.lane with
    | none => simp [hc, hl] at hm
    | some l =>
      obtain rfl : laneMessage l = m := by simpa [hc, hl] using hm
      simp [lineFreed, hc, hl, sendMessage]

/-- With nothing to send the line stays free (R58). -/
theorem serveLink_nothing (s : State) (hc : s.link.control = []) (hl : s.link.lane = none) : serveLink s = s := by
  unfold serveLink
  split
  · simp [hc, hl]
  · rfl

/-- The outstanding message goes out again with its tag (R55). -/
theorem answerTimerExpiry_resends (s : State) (o : Outstanding) (ho : s.link.outstanding = some o)
    (ha : s.link.answer ≠ none) (h : o.sends < s.store.install.retryCount + 1) :
    exec .answerTimerExpiry s = .next (finish (resend o s)) := by
  obtain ⟨n, hn⟩ := Option.ne_none_iff_exists'.mp ha
  simp [exec, execAnswerTimerExpiry, answerExpires, ho, hn, sendLimit, h]

/-- The sends used up, the head is lost (R55, R60). -/
theorem answerTimerExpiry_loses (s : State) (o : Outstanding) (ho : s.link.outstanding = some o)
    (ha : s.link.answer ≠ none) (h : s.store.install.retryCount + 1 ≤ o.sends) :
    exec .answerTimerExpiry s = .next (finish (linkLost .retriesExhausted s)) := by
  obtain ⟨n, hn⟩ := Option.ne_none_iff_exists'.mp ha
  simp [exec, execAnswerTimerExpiry, answerExpires, ho, hn, sendLimit, Nat.not_lt.mpr h]

theorem silenceTimerExpiry_loses (s : State) (hp : s.link.state = .present) (hs : s.link.silence ≠ none) :
    exec .silenceTimerExpiry s = .next (finish (linkLost .silence s)) := by
  simp [exec, execSilenceTimerExpiry, silenceExpires, hp, Option.isSome_iff_ne_none, hs]

/-- A message sent again on its link, which stays busy (R53, R55). -/
theorem finish_resend_link (o : Outstanding) (s : State) : (finish (resend o s)).link =
    { s.link with outstanding := some { o with sends := o.sends + 1 }, answer := none
                  transmit := messageBytes o.tag o.msg } := by
  rw [finish_link, serveLink_busy _ (.inr (.inl (by simp [resend])))]
  rfl

/-! ## The loss of the head (R6, R43, R60) -/

/-- While the link is LOST the evaluation of the mode sends nothing (R56). -/
theorem evalLampMode_lost (s : State) (h : s.link.state = .lost) : (evalLampMode s).link = s.link := by
  by_cases hs : s.power.modeEvaluated = false ∨ s.power.effectiveMode = (decideMode s).1
  · rw [evalLampMode_same s hs]
  · simp only [not_or, Bool.not_eq_false] at hs
    exact (evalLampMode_changed s hs.1 hs.2).2.2 h

theorem levelBecomes_lost (ask : Bool) (old : Option Level) (v : Level) (wear : Nat) (s : State)
    (h : s.link.state = .lost) : (levelBecomes ask old v wear s).link = s.link := by
  unfold levelBecomes
  dsimp only
  split
  · rfl
  · split
    · rw [evalLampMode_lost _ (by split <;> simpa using h)]
      split <;> simp
    · exact evalLampMode_lost _ h

theorem relevel_lost (s : State) (h : s.link.state = .lost) : (relevel s).link = s.link := by
  unfold relevel relevelAsking
  split
  · rfl
  · exact levelBecomes_lost _ _ _ _ _ h

theorem countStrike_lost (s : State) (h : s.link.state = .lost) : (countStrike s).link = s.link := by
  unfold countStrike
  dsimp only
  split
  · rfl
  · exact relevel_lost _ h

theorem countFailed_lost (s : State) (h : s.link.state = .lost) : (countFailed s).link = s.link := by
  unfold countFailed
  split
  · rfl
  · exact relevel_lost _ h

theorem countLost_lost (s : State) (h : s.link.state = .lost) : (countLost s).link = s.link := by
  unfold countLost
  split
  · rw [countFailed_lost _ (by simpa using h), countStrike_lost s h]
  · exact countFailed_lost s h
  · rfl

/-- A change of power state from a lamp held dark sends nothing (R26). -/
theorem setPower_link_dark (dest : PowerState) (o : Origin) (r : Option Reason) (s : State)
    (h : isLit s.power.state = false) : (setPower dest o r s).link = s.link := by
  simp only [setPower, postFor_frame, enterPower, h]
  repeat' split
  all_goals simp_all [syncNoSignal, enteredCooling]

/-- The entry to LOST leaves the flushed link as it is (R43, R60). -/
theorem powerLinkLost_lost (s : State) (h : s.link.state = .lost) : (powerLinkLost s).link = s.link := by
  unfold powerLinkLost
  split
  · next hi =>
    unfold settleDark
    rw [setPower_link_dark _ _ _ _ (by simp [clearIntents, hi, isLit])]
    exact countLost_lost s h
  · rfl

theorem linkLost_link (c : LossCause) (s : State) : (linkLost c s).link = flushLink s.link := by
  unfold linkLost
  dsimp only
  rw [show (geometryLinkLost _).link = _ from (geometryLinkLost_frame _).2.2.2.1, powerLinkLost_lost _ (by simp [flushLink])]
  simp

/-- A strike sequence ends in COOLING (R43). -/
theorem powerLinkLost_igniting (s : State) (h : s.power.state = .igniting) :
    (powerLinkLost s).power.state = .cooling ∧ (powerLinkLost s).power.restartPending = false ∧
      (powerLinkLost s).power.offPending = false ∧ (powerLinkLost s).power.ignitionOrigin = none ∧
      toldPower (originPort (ignitionOf s)) (ignitionOf s) .igniting .cooling (some .headLost) s (powerLinkLost s) := by
  unfold powerLinkLost
  rw [if_pos h]
  have ht := settleDark_told .cooling (ignitionOf s) (some .headLost) (countLost s)
  rw [show (countLost s).power.state = .igniting by simpa using h] at ht
  refine ⟨?_, ?_, ?_, ?_, told_since (by simp) (by simp) (by simp) ht⟩ <;>
    (rw [settleDark_power]; rfl)

theorem powerLinkLost_other (s : State) (h : s.power.state ≠ .igniting) : powerLinkLost s = s := if_neg h

/-- The geometry waits for the head (R99). -/
theorem geometryLinkLost_geometry (s : State) :
    (geometryLinkLost s).geometry = { s.geometry with status := .held } := by
  unfold geometryLinkLost
  split
  · next h => rw [← h]
  · simp

theorem geometryLinkLost_told (s : State) (h : s.geometry.status ≠ .held) :
    told none .geometryHeld .auto (s.geometry.setNumber.setWidth 16) (pairWord 1 0xFF) s (geometryLinkLost s) := by
  unfold geometryLinkLost
  rw [if_neg h]
  exact told_of { s with geometry := { s.geometry with status := .held } } (grown_refl _) rfl rfl (grown_refl _)

/-- HEAD LOST with its cause and the type flushed, before the Power Sequencer and the Geometry Engine act (R60). -/
def lossTold (c : LossCause) (s : State) : State :=
  post .headLost .auto (some (word (position lossCauseList c))) (some (match s.link.outstanding with
    | some o => typeWord (headMsgType o.msg)
    | none => noneWord)) { s with link := flushLink s.link }

theorem linkLost_eq (c : LossCause) (s : State) : linkLost c s = geometryLinkLost (powerLinkLost (lossTold c s)) := rfl

theorem lossTold_told (c : LossCause) (s : State) : told none .headLost .auto (word (position lossCauseList c))
    (match s.link.outstanding with
      | some o => typeWord (headMsgType o.msg)
      | none => 0xFFFF#16) s (lossTold c s) :=
  told_of { s with link := flushLink s.link } (grown_refl _) rfl rfl (grown_refl _)

/-- What is posted after HEAD LOST is told within the command. -/
theorem told_since_loss {dest : Option Port} {kind : NoticeKind} {o : Origin} {x y : Word} {s t : State} (c : LossCause)
    (h : told dest kind o x y (lossTold c s) t) : told dest kind o x y s t :=
  told_since (by simp [lossTold]) (by simp [lossTold]) (by simp [lossTold]) h

/-- `t` is what the entry to LOST makes of `s`, for a cause of R60: the link flushed, the geometry held, and a strike
sequence ended in COOLING (R43, R60, R99). -/
def headLostIn (cause : Word) (s t : State) : Prop :=
  t.link.state = .lost ∧ t.link.outstanding = none ∧ t.link.answer = none ∧
    t.link.silence = none ∧ t.link.control = [] ∧ t.link.lane = none ∧ t.link.reportImage = none ∧
    t.link.nextTag = s.link.nextTag ∧ t.link.lostFor = some 0 ∧
    t.geometry = { s.geometry with status := .held } ∧
    told none .headLost .auto cause (match s.link.outstanding with
      | some o => typeWord (headMsgType o.msg)
      | none => 0xFFFF#16) s t ∧
    (s.geometry.status ≠ .held → told none .geometryHeld .auto (s.geometry.setNumber.setWidth 16) (pairWord 1 0xFF) s t) ∧
    (s.power.state = .igniting → t.power.state = .cooling ∧ t.power.restartPending = false ∧
      t.power.offPending = false ∧ t.power.ignitionOrigin = none ∧
      toldPower (originPort (s.power.ignitionOrigin.getD .auto)) (s.power.ignitionOrigin.getD .auto)
        .igniting .cooling (some .headLost) s t) ∧
    (s.power.state ≠ .igniting → t.power = s.power ∧ t.lamp = s.lamp) ∧ routerTimed s.router t.router ∧
    t.room = s.room ∧ t.lockout = s.lockout ∧ storeServed s.store t.store ∧ contexts t = contexts s

theorem finish_linkLost (c : LossCause) (s : State) :
    headLostIn (word (position lossCauseList c)) s (finish (linkLost c s)) := by
  have hlink : (finish (linkLost c s)).link = flushLink s.link := by
    rw [finish_link, serveLink_busy _ (.inl (by simp [linkLost_link, flushLink])), linkLost_link]
  have hgeo : (powerLinkLost (lossTold c s)).geometry = s.geometry := by simp [lossTold]
  have hend : grown (linkLost c s).ports (finish (linkLost c s)).ports := by simp
  rw [headLostIn, hlink]
  refine ⟨rfl, rfl, rfl, rfl, rfl, rfl, rfl, rfl, rfl, ?_, ?_, fun hs => ?_, fun hi => ?_, fun hi => ?_, ?_, by simp,
    by simp, by simp [storeServed_iff], by simp [contexts]⟩
  · have h := geometryLinkLost_geometry (powerLinkLost (lossTold c s))
    rw [hgeo] at h
    simpa [linkLost_eq] using h
  · have h : grown (lossTold c s).ports (geometryLinkLost (powerLinkLost (lossTold c s))).ports := by simp
    exact told_later (told_later (lossTold_told c s) h) hend
  · have h := geometryLinkLost_told (powerLinkLost (lossTold c s)) (by rw [hgeo]; exact hs)
    rw [hgeo] at h
    exact told_later (told_since_loss c (told_since (by simp) (by simp) (by simp) h)) hend
  · obtain ⟨hstate, hrestart, hoff, horigin, htold⟩ := powerLinkLost_igniting (lossTold c s) (by simpa [lossTold] using hi)
    rw [linkLost_eq]
    refine ⟨by simpa using hstate, by simpa using hrestart, by simpa using hoff, by simpa using horigin, ?_⟩
    exact told_later (told_since_loss c htold) (by simp)
  · rw [linkLost_eq, powerLinkLost_other _ (by simpa [lossTold] using hi)]
    simp [lossTold]
  · simp [routerTimed, RouterUnit.eq_iff]

/-! ## The exchange that an ACK OK ends, and the invalid message (R50, R54; log entry 26) -/

/-- An ACK OK while the bytes go out ends the exchange and leaves the line to them (log entry 26). -/
theorem exec_ack_sending (o : Outstanding) (s : State) (hp : s.link.state = .present)
    (ho : s.link.outstanding = some o) (ht : s.link.transmit ≠ []) : ∃ t, exec (.ack o.tag true) s = .next t ∧
      t.link.outstanding = none ∧ t.link.answer = none ∧ t.link.transmit = s.link.transmit ∧
      t.link.nextTag = s.link.nextTag := by
  refine ⟨_, exec_ack_match o.tag true o s hp ho rfl, ?_⟩
  rw [finish_link, if_pos rfl, serveLink_busy _ (.inr (.inr (by simpa [heard] using ht)))]
  simp [heard]

end Sys2Proof.Machine
end

section
namespace Sys2Proof.Machine

/-! ## Messages that no change of the power state hands over (R44, R46, R56, R61) -/

/-- A message of the shutter or for the status: no part of a strike and no LAMP MODE. -/
def besidePower (m : ControlMsg) : Prop :=
  controlType m ≠ .lampMode ∧ controlType m ≠ .ignite ∧ controlType m ≠ .extinguish

@[simp] theorem besidePower_statusRequest : besidePower .statusRequest :=
  ⟨by simp [controlType], by simp [controlType], by simp [controlType]⟩

@[simp] theorem besidePower_shutter (b : Bool) : besidePower (.shutter b) :=
  ⟨by simp [controlType], by simp [controlType], by simp [controlType]⟩

/-- A message handed over displaces none beside the power state of another type (R56). -/
theorem handControl_other (x m : ControlMsg) (s : State) (hm : besidePower m) (h : controlType x ≠ controlType m) :
    m ∈ (handControl x s).link.control ↔ m ∈ s.link.control := by
  obtain ⟨-, hi, he⟩ := hm
  have hlane : m ∈ laneWith s.link.control x ↔ m ∈ s.link.control :=
    ⟨fun hl => (mem_laneWith _ _ _ hl).resolve_left (by rintro rfl; exact h rfl),
      fun hl => laneWith_keeps _ _ _ hl h (by rintro ⟨-, rfl⟩; exact he rfl) (by rintro ⟨-, rfl⟩; exact hi rfl)⟩
  unfold handControl
  dsimp only
  split
  · rfl
  · exact hlane

@[simp] theorem handIgnite_beside (m : ControlMsg) (s : State) (hm : besidePower m) :
    m ∈ (handControl .ignite s).link.control ↔ m ∈ s.link.control := handControl_other _ _ _ hm (Ne.symm hm.2.1)

@[simp] theorem handExtinguish_beside (m : ControlMsg) (s : State) (hm : besidePower m) :
    m ∈ (handControl .extinguish s).link.control ↔ m ∈ s.link.control := handControl_other _ _ _ hm (Ne.symm hm.2.2)

@[simp] theorem applyMode_beside (m : ControlMsg) (k : LampMode) (s : State) (hm : besidePower m) :
    m ∈ (applyMode k s).link.control ↔ m ∈ s.link.control := handControl_other (.lampMode k) m _ hm (Ne.symm hm.1)

@[simp] theorem firstEvaluation_beside (m : ControlMsg) (s : State) (hm : besidePower m) :
    m ∈ (firstEvaluation s).link.control ↔ m ∈ s.link.control := by
  unfold firstEvaluation
  split <;> simp [hm]

@[simp] theorem countFailed_beside (m : ControlMsg) (s : State) (hm : besidePower m) :
    m ∈ (countFailed s).link.control ↔ m ∈ s.link.control := countFailed_lane _ _ (sameButModes_refl _) m hm.1

@[simp] theorem setPower_beside (m : ControlMsg) (dest : PowerState) (o : Origin) (r : Option Reason) (s : State)
    (hm : besidePower m) : m ∈ (setPower dest o r s).link.control ↔ m ∈ s.link.control :=
  setPower_lane _ _ _ _ _ (sameButModes_refl _) m hm.1

@[simp] theorem settleDark_beside (m : ControlMsg) (dest : PowerState) (o : Origin) (r : Option Reason) (s : State)
    (hm : besidePower m) : m ∈ (settleDark dest o r s).link.control ↔ m ∈ s.link.control := by
  simp [settleDark, hm]

@[simp] theorem putOut_beside (m : ControlMsg) (o : Origin) (s : State) (hm : besidePower m) :
    m ∈ (putOut o s).link.control ↔ m ∈ s.link.control := by simp [putOut, hm]

@[simp] theorem beginSequence_beside (m : ControlMsg) (o : Origin) (s : State) (hm : besidePower m) :
    m ∈ (beginSequence o s).link.control ↔ m ∈ s.link.control := by simp [beginSequence, beginAttempt, hm]

@[simp] theorem attemptSucceeds_beside (m : ControlMsg) (s : State) (hm : besidePower m) :
    m ∈ (attemptSucceeds s).link.control ↔ m ∈ s.link.control := by simp [attemptSucceeds, hm]

@[simp] theorem attemptFails_beside (m : ControlMsg) (timeout : Bool) (s : State) (hm : besidePower m) :
    m ∈ (attemptFails timeout s).link.control ↔ m ∈ s.link.control := by
  unfold attemptFails
  dsimp only
  repeat' split
  all_goals simp [enterFault, hm]

@[simp] theorem strikeResultTaken_beside (m : ControlMsg) (ok : Bool) (s : State) (hm : besidePower m) :
    m ∈ (strikeResultTaken ok s).link.control ↔ m ∈ s.link.control := by
  unfold strikeResultTaken
  split <;> simp [hm]

@[simp] theorem setRestart_beside (m : ControlMsg) (o : Origin) (s : State) :
    m ∈ (setRestart o s).link.control ↔ m ∈ s.link.control := Iff.rfl

@[simp] theorem powerOff_beside (m : ControlMsg) (o : Origin) (s : State) (hm : besidePower m) :
    m ∈ (powerOff o s).2.link.control ↔ m ∈ s.link.control := by
  unfold powerOff
  repeat' split
  all_goals simp [setOff, hm]

@[simp] theorem applyOnInStandby_beside (m : ControlMsg) (s : State) (hm : besidePower m) :
    m ∈ (applyOnInStandby s).link.control ↔ m ∈ s.link.control := by
  unfold applyOnInStandby tellDropped
  repeat' split
  all_goals simp [hm, postPowerRefused]

@[simp] theorem applyIntent_beside (m : ControlMsg) (s : State) (hm : besidePower m) :
    m ∈ (applyIntent s).link.control ↔ m ∈ s.link.control := by
  unfold applyIntent
  repeat' split
  all_goals simp [hm]

@[simp] theorem adopt_beside (m : ControlMsg) (r : Report) (s : State) (hm : besidePower m) :
    m ∈ (adopt r s).link.control ↔ m ∈ s.link.control := by
  unfold adopt restartSecond adoptShutter
  dsimp only
  rw [applyIntent_beside _ _ hm]
  repeat' split
  all_goals simp [hm, markThermal, beginSecond, holdClosed, holdOpen]

@[simp] theorem reportStrike_beside (m : ControlMsg) (r : Report) (s : State) (hm : besidePower m) :
    m ∈ (reportStrike r s).link.control ↔ m ∈ s.link.control := by
  unfold reportStrike
  split <;> simp [hm]

@[simp] theorem reportLampOut_beside (m : ControlMsg) (r : Report) (s : State) (hm : besidePower m) :
    m ∈ (reportLampOut r s).link.control ↔ m ∈ s.link.control := by
  unfold reportLampOut
  dsimp only
  repeat' split
  all_goals simp [hm]

@[simp] theorem reportBurning_beside (m : ControlMsg) (r : Report) (s : State) (hm : besidePower m) :
    m ∈ (reportBurning r s).link.control ↔ m ∈ s.link.control := by
  unfold reportBurning
  split <;> simp [hm]

@[simp] theorem reportThermal_beside (m : ControlMsg) (r : Report) (s : State) (hm : besidePower m) :
    m ∈ (reportThermal r s).link.control ↔ m ∈ s.link.control := by
  unfold reportThermal overheated
  repeat' split
  all_goals simp [hm, markThermal, setOff]

@[simp] theorem reportDeferred_beside (m : ControlMsg) (r : Report) (s : State) (hm : besidePower m) :
    m ∈ (reportDeferred r s).link.control ↔ m ∈ s.link.control := by
  unfold reportDeferred
  split <;> simp [hm]

/-- The lamp's part of a REPORT, before the shutter's (R64). -/
def powerHeard (r : Report) (s : State) : State :=
  if s.power.state = .unknown then adopt r s
  else reportDeferred r (reportThermal r (reportBurning r (reportLampOut r (reportStrike r s))))

theorem powerReport_eq (r : Report) (s : State) : powerReport r s = reportShutter r (powerHeard r s) := rfl

/-- The lamp's part of a REPORT hands over messages of a strike and LAMP MODE alone (R64). -/
@[simp] theorem powerHeard_beside (m : ControlMsg) (r : Report) (s : State) (hm : besidePower m) :
    m ∈ (powerHeard r s).link.control ↔ m ∈ s.link.control := by
  unfold powerHeard
  split <;> simp [hm]

/-- A REPORT's shutter part hands over SHUTTER or nothing (R46). -/
theorem reportShutter_status (r : Report) (s : State) :
    .statusRequest ∈ (reportShutter r s).link.control ↔ .statusRequest ∈ s.link.control := by
  unfold reportShutter
  repeat' split
  · rfl
  · exact handControl_other _ _ _ besidePower_statusRequest (by simp [controlType])
  · rfl

end Sys2Proof.Machine
end

section
namespace Sys2Proof.Machine

/-! ## STATUS REQUEST stays in the lane under the head's messages (R61, R62, R65) -/

@[simp] theorem evalLampMode_beside (m : ControlMsg) (s : State) (hm : besidePower m) :
    m ∈ (evalLampMode s).link.control ↔ m ∈ s.link.control := evalLampMode_lane _ _ (sameButModes_refl _) m hm.1

theorem handShutter_status (b : Bool) (s : State) :
    .statusRequest ∈ (handControl (.shutter b) s).link.control ↔ .statusRequest ∈ s.link.control :=
  handControl_other _ _ _ besidePower_statusRequest (by simp [controlType])

@[simp] theorem routeStable_status (s : State) :
    .statusRequest ∈ (routeStable s).link.control ↔ .statusRequest ∈ s.link.control := by
  unfold routeStable openShutter
  repeat' split
  all_goals simp [handShutter_status, holdOpen]

@[simp] theorem endSettle_status (dest : RouteState) (f : FormatImage) (s : State) :
    .statusRequest ∈ (endSettle dest f s).link.control ↔ .statusRequest ∈ s.link.control := by
  rw [endSettle_eq, (settleTail_frame _).2.2.2.2.2.2.2.1]
  unfold settleEnded
  dsimp only
  split <;> simp [syncNoSignal]

theorem formatMoved_status (f : Option SignalFormat) (s : State) (h : s.router.state ≠ .settling) :
    .statusRequest ∈ (formatMoved f s).link.control ↔ .statusRequest ∈ s.link.control := by
  rcases format_cases f s h with ⟨x, rfl, hs⟩ | ⟨rfl, hs⟩ | hs
  · simp [formatMoved_found x s hs, syncNoSignal]
  · simp [formatMoved_lost s hs, syncNoSignal]
  · simp [formatMoved_stays f s hs]

theorem routerFormat_status (f : Option SignalFormat) (s : State) :
    .statusRequest ∈ (routerFormat f s).link.control ↔ .statusRequest ∈ s.link.control := by
  unfold routerFormat
  split
  · rfl
  · split
    · exact endSettle_status _ _ _
    · next h =>
      rw [formatMoves_eq]
      split <;> simp [formatMoved_status f s h]

/-! ## What the head's arrival hands over (R61, R62) -/

/-- LAMP MODE with the mode in force, and SHUTTER with the position held, if any (R61, step 3). -/
def modesOf (s : State) : List ControlMsg :=
  .lampMode s.power.effectiveMode :: (match s.power.shutter with
    | none => []
    | some h => [.shutter (decide (h ≠ .opened))])

theorem shutterIsClosed_eq (h : Shutter) : shutterIsClosed h = decide (h ≠ .opened) := by cases h <;> rfl

theorem modesOf_beside {m : ControlMsg} {s : State} (h : m ∈ modesOf s) :
    controlType m = .lampMode ∨ controlType m = .shutter := by
  unfold modesOf at h
  split at h
  · obtain rfl : m = _ := by simpa using h
    exact .inl rfl
  · rcases (by simpa using h : m = _ ∨ m = _) with rfl | rfl
    · exact .inl rfl
    · exact .inr rfl

theorem handMode_hands (s : State) (hl : s.link.state ≠ .lost) (m : ControlMsg) (h : m ∈ modesOf s) :
    m ∈ (handMode s).link.control := by
  have hmode : .lampMode s.power.effectiveMode ∈ (handControl (.lampMode s.power.effectiveMode) s).link.control :=
    handControl_mem _ _ hl
  unfold handMode
  unfold modesOf at h
  dsimp only
  split at h
  · next hs =>
    obtain rfl : m = _ := by simpa using h
    simpa [hs] using hmode
  · next x hs =>
    simp only [hs]
    rcases (by simpa using h : m = _ ∨ m = _) with rfl | rfl
    · simp only [handControl, hl, if_false] at hmode ⊢
      exact laneWith_keeps _ _ _ hmode (by simp [controlType]) (by simp) (by simp)
    · have := handControl_mem (.shutter (shutterIsClosed x)) (handControl (.lampMode s.power.effectiveMode) s) (by simpa)
      simpa [shutterIsClosed_eq] using this

/-- A message in the lane after one is handed over is that one, or was there before (R56). -/
theorem mem_handControl {x m : ControlMsg} {s : State} (h : m ∈ (handControl x s).link.control) :
    m = x ∨ m ∈ s.link.control := by
  unfold handControl at h
  dsimp only at h
  split at h
  · exact .inr h
  · exact mem_laneWith _ _ _ h

theorem mem_handMode {m : ControlMsg} {s : State} (h : m ∈ (handMode s).link.control) :
    m ∈ modesOf s ∨ m ∈ s.link.control := by
  unfold handMode at h
  dsimp only at h
  split at h
  · next x hs =>
    rcases mem_handControl h with rfl | h
    · simp [modesOf, hs, shutterIsClosed_eq]
    · rcases mem_handControl h with rfl | h
      · simp [modesOf]
      · exact .inr h
  · rcases mem_handControl h with rfl | h
    · simp [modesOf]
    · exact .inr h

theorem handMode_status (s : State) : .statusRequest ∈ (handMode s).link.control ↔ .statusRequest ∈ s.link.control := by
  unfold handMode
  dsimp only
  have hmode := handControl_other (.lampMode s.power.effectiveMode) .statusRequest s besidePower_statusRequest
    (by simp [controlType])
  split
  · rw [handShutter_status, hmode]
  · exact hmode

theorem askStatus_hands (ty : HeadType) (s : State) (hl : s.link.state ≠ .lost) (ht : ty ≠ .report) :
    .statusRequest ∈ (askStatus ty s).link.control := by
  rw [askStatus, if_neg ht]
  exact handControl_mem _ _ hl

theorem askStatus_keeps (ty : HeadType) (s : State) (m : ControlMsg) (h : m ∈ s.link.control) :
    m ∈ (askStatus ty s).link.control := by
  unfold askStatus handControl
  split
  · exact h
  · dsimp only
    split
    · exact h
    · by_cases hm : controlType .statusRequest = controlType m
      · obtain rfl : m = .statusRequest := by cases m <;> simp_all [controlType]
        exact laneWith_mem _ _
      · exact laneWith_keeps _ _ _ h hm (by simp) (by simp)

theorem mem_askStatus {ty : HeadType} {m : ControlMsg} {s : State} (h : m ∈ (askStatus ty s).link.control) :
    (m = .statusRequest ∧ ty ≠ .report) ∨ m ∈ s.link.control := by
  unfold askStatus at h
  split at h
  · exact .inr h
  · next ht => exact (mem_handControl h).imp (⟨·, ht⟩) id

/-! ## The set made again (R61, R63, R97, R98) -/

/-- The inputs of a set depend on the geometry, the source map, and the booking and the default that stand. -/
theorem inputsNow_congr {s t : State} (hg : t.geometry = s.geometry) (hr : t.router.sources = s.router.sources)
    (hroom : t.room = s.room) (hs : t.store.room = s.store.room) : inputsNow t = inputsNow s := by
  simp [inputsNow, effectivePreset, effectiveAspect, activePreset, choosePreset, bookingPreset, boundPreset,
    currentBooking, hg, hr, hroom, hs]

/-- The resend asked for: kept until the first settle end, and afterwards a new set (R61, R63). -/
def resentIn (s t : State) : Prop :=
  (s.geometry.started = false → t.geometry = { s.geometry with keptResend := true, status := t.geometry.status }) ∧
    (s.geometry.started = true → t.geometry.setNumber = s.geometry.setNumber + 1 ∧ t.geometry.status = .pending ∧
      t.geometry.current = some (computeSet (s.geometry.setNumber + 1) (inputsNow t)) ∧
      t.link.lane = t.geometry.current.map fun g => { set := g, progress := 0 })

/-- A new set is PENDING, recorded, and at the head of the geometry lane (R97, R98). -/
theorem makeSet_made (s : State) (hl : s.link.state ≠ .lost) :
    (makeSet s).geometry = { s.geometry with
      current := some (computeSet (s.geometry.setNumber + 1) (inputsNow s)), setNumber := s.geometry.setNumber + 1
      commitAcked := false, keptResend := false, status := .pending } ∧
    (makeSet s).link.lane = some { set := computeSet (s.geometry.setNumber + 1) (inputsNow s), progress := 0 } := by
  simp [makeSet, handSet, hl, computeSet]

theorem makeSet_inputs (s : State) (ha : s.geometry.active ≠ none) (hl : s.link.state ≠ .lost) :
    inputsNow (makeSet s) = inputsNow s := by
  obtain ⟨a, ha⟩ := Option.ne_none_iff_exists'.mp ha
  simp [inputsNow, effectivePreset, effectiveAspect, activePreset, (makeSet_made s hl).1, ha]

theorem askResend_resent (s : State) (hl : s.link.state ≠ .lost) : resentIn s (askResend s) := by
  refine ⟨fun h => by simp [askResend, h], fun h => ?_⟩
  obtain ⟨hgeo, hlane⟩ := makeSet_made (recordActive s) (by simpa)
  have hin := makeSet_inputs (recordActive s) (by simp [recordActive]) (by simpa)
  rw [askResend, if_pos h, hgeo, hlane, hin]
  simp

theorem askResend_acked (s : State) (hl : s.link.state ≠ .lost) (h : s.geometry.started = true) :
    (askResend s).geometry.commitAcked = false := by
  rw [askResend, if_pos h, (makeSet_made (recordActive s) (by simpa)).1]

/-- What becomes of the resend in a later state with the same geometry, but for a status before the first settle. -/
theorem resentIn_later {s v t : State} (h : resentIn s v)
    (hg : t.geometry = { v.geometry with status := t.geometry.status })
    (hs : s.geometry.started = true → t.geometry.status = v.geometry.status)
    (hr : t.router.sources = v.router.sources) (hroom : t.room = v.room) (hstore : t.store.room = v.store.room)
    (hlane : t.link.lane = v.link.lane) : resentIn s t := by
  obtain ⟨hkept, hmade⟩ := h
  refine ⟨fun h => ?_, fun h => ?_⟩
  · rw [hg, hkept h]
  · have hgeo : t.geometry = v.geometry := by rw [hg, hs h]
    rw [inputsNow_congr hgeo hr hroom hstore, hlane, hgeo]
    exact hmade h

end Sys2Proof.Machine
end

section
namespace Sys2Proof.Machine

/-! ## The head's return (R61, R132) -/

/-- The state that the runner meets at the head's return: the head heard and told of, the mode, the shutter and the
status handed, and the resend asked for (R61). -/
def headBack (ty : HeadType) (s : State) : State :=
  askResend (askStatus ty (handMode
    (post .headReturned .auto (some (heldWord (s.link.lostFor.getD 0 / 1000))) (some (typeWord ty))
      { s with link := heard s.link })))

theorem headArrives_lost (ty : HeadType) (s : State) (h : s.link.state = .lost) :
    headArrives ty s = headReturnedRoom (headBack ty s) := by
  unfold headArrives
  rw [h]
  rfl

theorem headArrives_awaiting (ty : HeadType) (s : State) (h : s.link.state = .awaiting) :
    headArrives ty s = askStatus ty { s with link := heard s.link } := by
  unfold headArrives
  rw [h]
  rfl

theorem askResend_outstanding (s : State) (h : s.link.outstanding = none) : (askResend s).link.outstanding = none := by
  unfold askResend makeSet handSet
  repeat' split
  all_goals simp [h]

/-- What the head's return leaves as it was. -/
theorem headBack_leaves (ty : HeadType) (s : State) : (headBack ty s).power = s.power ∧ (headBack ty s).lamp = s.lamp ∧
    (headBack ty s).router = s.router ∧ (headBack ty s).room = s.room ∧ (headBack ty s).lockout = s.lockout ∧
    (headBack ty s).store = s.store ∧ quietPorts (headBack ty s).ports = quietPorts s.ports ∧
    (headBack ty s).pending = s.pending := by
  simp [headBack]

theorem headBack_link (ty : HeadType) (s : State) : (headBack ty s).link.state = .present ∧
    (headBack ty s).link.silence = some 3000 ∧ (headBack ty s).link.lostFor = none ∧
    (headBack ty s).link.sinceMessage = some 0 := by
  simp [headBack, heard]

theorem headBack_outstanding (ty : HeadType) (s : State) (h : s.link.outstanding = none) :
    (headBack ty s).link.outstanding = none := askResend_outstanding _ (by simpa [heard] using h)

theorem headBack_resent (ty : HeadType) (s : State) : resentIn s (headBack ty s) := by
  have h := askResend_resent (askStatus ty (handMode
    (post .headReturned .auto (some (heldWord (s.link.lostFor.getD 0 / 1000))) (some (typeWord ty))
      { s with link := heard s.link }))) (by simp [heard])
  have hgeo : (askStatus ty (handMode
    (post .headReturned .auto (some (heldWord (s.link.lostFor.getD 0 / 1000))) (some (typeWord ty))
      { s with link := heard s.link }))).geometry = s.geometry := by simp
  unfold resentIn at h ⊢
  rw [hgeo] at h
  exact h

theorem headBack_acked (ty : HeadType) (s : State) (h : s.geometry.started = true) :
    (headBack ty s).geometry.commitAcked = false :=
  askResend_acked _ (by simp [heard]) (by simpa using h)

theorem headBack_told (ty : HeadType) (s : State) : told none .headReturned .auto
    (heldWord (s.link.lostFor.getD 0 / 1000)) (typeWord ty) s (headBack ty s) :=
  told_of { s with link := heard s.link } (grown_refl _) rfl rfl (by simp [headBack, post])

theorem headBack_modes (ty : HeadType) (s : State) (m : ControlMsg) (h : m ∈ modesOf s) :
    m ∈ (headBack ty s).link.control := by
  simp only [headBack, askResend_frame]
  exact askStatus_keeps _ _ _ (handMode_hands _ (by simp [heard]) _ (by simpa [modesOf] using h))

theorem headBack_status (ty : HeadType) (s : State) (ht : ty ≠ .report) :
    .statusRequest ∈ (headBack ty s).link.control := by
  simp only [headBack, askResend_frame]
  exact askStatus_hands _ _ (by simp [heard]) ht

theorem mem_headBack {ty : HeadType} {s : State} {m : ControlMsg} (h : m ∈ (headBack ty s).link.control) :
    (m = .statusRequest ∧ ty ≠ .report) ∨ m ∈ modesOf s ∨ m ∈ s.link.control := by
  simp only [headBack, askResend_frame] at h
  refine (mem_askStatus h).imp id fun h => ?_
  simpa [modesOf, heard] using mem_handMode h

/-! ## The runner at the head's return (R132) -/

/-- In a room not VACANT a dark lamp is struck, a cooling one struck again later, or the refusal told of; elsewhere
nothing happens (R28, R132). -/
theorem headReturnedRoom_cases (s : State) : headReturnedRoom s = s ∨
    (s.room.state ≠ .vacant ∧ s.power.state = .standby ∧ headReturnedRoom s = beginSequence .schedule s) ∨
    (s.power.state = .cooling ∧ headReturnedRoom s = setRestart .schedule s) ∨
    ∃ r, headReturnedRoom s = postPowerRefused r s := by
  unfold headReturnedRoom schedulePowerOn powerOn
  by_cases hr : s.room.state = .vacant
  · exact .inl (if_pos hr)
  rw [if_neg hr]
  cases hp : s.power.state with
  | standby =>
    dsimp only
    cases ht : refusalTest s .schedule with
    | none => exact .inr (.inl ⟨hr, rfl, rfl⟩)
    | some r => exact .inr (.inr (.inr ⟨r, rfl⟩))
  | cooling =>
    dsimp only
    split
    · exact .inl rfl
    · cases ht : refusalTest s .schedule with
      | none => exact .inr (.inr (.inl ⟨rfl, rfl⟩))
      | some r => exact .inr (.inr (.inr ⟨r, rfl⟩))
  | unknown | igniting | warming | on | fault => exact .inl rfl

theorem headReturnedRoom_vacant (s : State) (h : s.room.state = .vacant) : headReturnedRoom s = s := if_pos h

/-- The runner strikes a dark lamp that nothing bars (R27, R132). -/
theorem headReturnedRoom_strikes (s : State) (hr : s.room.state ≠ .vacant) (hp : s.power.state = .standby)
    (ht : refusalTest s .schedule = none) : headReturnedRoom s = beginSequence .schedule s := by
  unfold headReturnedRoom schedulePowerOn powerOn
  rw [if_neg hr]
  simp only [hp, ht]
  rfl

/-- A sequence begun from a lamp held dark hands IGNITE over and nothing else (R30). -/
theorem beginSequence_link (o : Origin) (s : State) (h : isLit s.power.state = false) :
    (beginSequence o s).link = (handControl .ignite s).link := by
  unfold beginSequence
  rw [setPower_link_dark _ _ _ _ (by simpa [clearIntents] using h)]
  rfl

/-- What the runner does at the return keeps every message that is not IGNITE or EXTINGUISH (R56). -/
theorem headReturnedRoom_keeps (s : State) (m : ControlMsg) (hm : m ≠ .ignite) (hm' : m ≠ .extinguish)
    (h : m ∈ s.link.control) : m ∈ (headReturnedRoom s).link.control := by
  rcases headReturnedRoom_cases s with he | ⟨-, hs, he⟩ | ⟨-, he⟩ | ⟨r, he⟩
  · rwa [he]
  · rw [he, beginSequence_link _ _ (by simp [hs, isLit])]
    unfold handControl
    dsimp only
    split
    · exact h
    · exact laneWith_keeps _ _ _ h (by cases m <;> simp_all [controlType]) (by simp [hm']) (by simp)
  · rwa [he]
  · rw [he]; simpa [postPowerRefused] using h

/-- A strike sequence that the runner begins waits for its IGNITE (R30). -/
theorem headReturnedRoom_step (s : State) (h : s.power.state ≠ .igniting)
    (hi : (headReturnedRoom s).power.state = .igniting) : (headReturnedRoom s).power.step = .sending := by
  rcases headReturnedRoom_cases s with he | ⟨-, hs, he⟩ | ⟨hs, he⟩ | ⟨r, he⟩
  · exact absurd (he ▸ hi) h
  · rw [he, beginSequence_power _ _ (by simp [hs, isLit])]
  · rw [he] at hi; exact absurd hi h
  · rw [he] at hi; exact absurd (by simpa [postPowerRefused] using hi) h

end Sys2Proof.Machine
end

section
namespace Sys2Proof.Machine

/-! ## Commands of the head that a return or a first message handles alone (R61, R62) -/

/-- A head message other than a REPORT, with its type (R50). -/
def answerOf (c : Instr) (ty : HeadType) : Prop :=
  (ty = .ack ∧ ∃ tag ok, c = .ack tag ok) ∨ (ty = .strikeResult ∧ ∃ ok, c = .strikeResult ok) ∨
    (ty = .format ∧ ∃ w k r, c = .format w k r)

/-- One that calls for nothing further: no strike awaits it, and the signal stands (R54, R65, R76). -/
def quietAnswer (s : State) (c : Instr) (ty : HeadType) : Prop :=
  (ty = .ack ∧ ∃ tag ok, c = .ack tag ok) ∨
    (ty = .strikeResult ∧ s.power.state ≠ .igniting ∧ ∃ ok, c = .strikeResult ok) ∨
    (ty = .format ∧ s.router.resolved = true ∧ s.router.state = .stable ∧ ∃ x : SignalFormat, x.width ≠ 0 ∧
      x.height ≠ 0 ∧ s.router.format = .signal x ∧ c = .format x.width x.height x.refresh)

/-- A REPORT that calls for nothing further. -/
def calmReport (s : State) (r : Report) : Prop := s.power.state = .standby ∧ r.lamp = .dark ∧ r.temperature = .warm

/-- The effect of a head message other than a REPORT: what it does once the head is heard (R54, R65). -/
def answerTaken (c : Instr) (v : State) : State :=
  match c with
  | .ack tag ok => ackTaken tag ok v
  | .strikeResult ok => if v.power.state = .igniting then strikeResultTaken ok v else v
  | .format w k r => routerFormat (formatOf w k r) { v with link := { v.link with lastFormat := some (formatOf w k r) } }
  | _ => v

theorem exec_answer {c : Instr} {ty : HeadType} (h : answerOf c ty) (s : State) :
    exec c s = .next (finish (answerTaken c (headArrives ty s))) := by
  rcases h with ⟨rfl, tag, ok, rfl⟩ | ⟨rfl, ok, rfl⟩ | ⟨rfl, w, k, r, rfl⟩ <;> rfl

theorem answerOf_ne_report {c : Instr} {ty : HeadType} (h : answerOf c ty) : ty ≠ .report := by
  rcases h with ⟨rfl, -⟩ | ⟨rfl, -⟩ | ⟨rfl, -⟩ <;> simp

theorem quietAnswer.answerOf {s : State} {c : Instr} {ty : HeadType} (h : quietAnswer s c ty) : answerOf c ty := by
  rcases h with h | ⟨hty, -, hc⟩ | ⟨hty, -, -, x, -, -, -, hc⟩
  · exact .inl h
  · exact .inr (.inl ⟨hty, hc⟩)
  · exact .inr (.inr ⟨hty, _, _, _, hc⟩)

/-- With nothing outstanding the effect keeps the link's timers, the STATUS REQUEST and the notices told. -/
theorem answerTaken_keeps {c : Instr} {ty : HeadType} (h : answerOf c ty) (v : State)
    (ho : v.link.outstanding = none) : let t := answerTaken c v
    t.link.state = v.link.state ∧ t.link.silence = v.link.silence ∧ t.link.lostFor = v.link.lostFor ∧
      t.link.sinceMessage = v.link.sinceMessage ∧
      (.statusRequest ∈ t.link.control ↔ .statusRequest ∈ v.link.control) ∧ grown v.ports t.ports := by
  rcases h with ⟨-, tag, ok, rfl⟩ | ⟨-, ok, rfl⟩ | ⟨-, w, k, r, rfl⟩
  · simp [answerTaken, ackTaken_nothing _ _ _ ho]
  · simp only [answerTaken]
    split <;> simp
  · simp [answerTaken, routerFormat_status]

/-- The last FORMAT recorded, and nothing else (R65). -/
def formatRecorded (f : Option (Option SignalFormat)) (v : State) : State :=
  { v with link := { v.link with lastFormat := f } }

/-- A FORMAT of the signal that stands leaves a STABLE route (R76). -/
theorem routerFormat_same (x : SignalFormat) (v : State) (hr : v.router.resolved = true) (hs : v.router.state = .stable)
    (hf : v.router.format = .signal x) : routerFormat (some x) v = v := by
  rw [routerFormat, if_neg (by simp [hr]), if_neg (by simp [hs]), formatMoves_eq,
    if_pos (by simp [hf, imageOf]), formatMoved_stays _ _ (by simp [hs])]
  rw [imageOf, ← hf]

/-- A quiet message changes at most the FORMAT recorded (R54, R65). -/
theorem quietAnswer_taken {s : State} {c : Instr} {ty : HeadType} (h : quietAnswer s c ty) (v : State)
    (ho : v.link.outstanding = none) (hr : v.router.resolved = s.router.resolved)
    (hs : v.router.state = s.router.state) (hf : v.router.format = s.router.format)
    (hi : s.power.state ≠ .igniting → v.power.state = .igniting → v.power.step = .sending) :
    ∃ f, answerTaken c v = formatRecorded f v ∧ (ty ≠ .format → f = v.link.lastFormat) := by
  rcases h with ⟨-, tag, ok, rfl⟩ | ⟨-, hn, ok, rfl⟩ | ⟨rfl, hres, hst, x, hw, hh, hx, rfl⟩
  · exact ⟨_, ackTaken_nothing _ _ _ ho, fun _ => rfl⟩
  · refine ⟨v.link.lastFormat, ?_, fun _ => rfl⟩
    simp only [answerTaken]
    split
    · next hv => exact strikeResultTaken_idle ok v (.inl (hi hn hv))
    · rfl
  · refine ⟨some (some x), ?_, by simp⟩
    have hx' : formatOf x.width x.height x.refresh = some x := by
      rw [formatOf, if_neg (by simpa using ⟨hw, hh⟩)]
    simp only [answerTaken, hx']
    exact routerFormat_same x _ (hr.trans hres) (hs.trans hst) (hf.trans hx)

/-! ## The return by a quiet message (R61) -/

/-- Nothing outstanding before a return, nothing is outstanding before the runner's part of it. -/
theorem headArrives_lost_outstanding (ty : HeadType) (s : State) (hl : s.link.state = .lost)
    (ho : s.link.outstanding = none) : (headArrives ty s).link.outstanding = none := by
  rw [headArrives_lost ty s hl, (headReturnedRoom_frame _).2.2.2.2.2.2.1]
  exact headBack_outstanding ty s ho

/-- The timers of a link that has returned, and the notice (R59, R61). -/
def returnedBy (ty : HeadType) (s t : State) : Prop :=
  t.link.state = .present ∧ t.link.silence = some 3000 ∧ t.link.lostFor = none ∧ t.link.sinceMessage = some 0 ∧
    told none .headReturned .auto (heldWord (s.link.lostFor.getD 0 / 1000)) (typeWord ty) s t

theorem headArrives_returned (ty : HeadType) (s : State) (hl : s.link.state = .lost) :
    returnedBy ty s (headArrives ty s) := by
  obtain ⟨hp, hs, hf, hm⟩ := headBack_link ty s
  rw [headArrives_lost ty s hl]
  exact ⟨by simpa using hp, by simpa using hs, by simpa using hf, by simpa using hm,
    told_later (headBack_told ty s) (by simp)⟩

/-- What keeps the link's timers and the notices keeps the return. -/
theorem returnedBy_later {ty : HeadType} {s v t : State} (h : returnedBy ty s v) (hp : t.link.state = v.link.state)
    (hs : t.link.silence = v.link.silence) (hf : t.link.lostFor = v.link.lostFor)
    (hm : t.link.sinceMessage = v.link.sinceMessage) (hg : grown v.ports t.ports) : returnedBy ty s t := by
  obtain ⟨h1, h2, h3, h4, htold⟩ := h
  exact ⟨hp.trans h1, hs.trans h2, hf.trans h3, hm.trans h4, told_later htold hg⟩

theorem headArrives_modes (ty : HeadType) (s : State) (hl : s.link.state = .lost) (m : ControlMsg)
    (h : m ∈ modesOf s) : m ∈ (headArrives ty s).link.control := by
  rw [headArrives_lost ty s hl]
  have hm := modesOf_beside h
  exact headReturnedRoom_keeps _ _ (by rintro rfl; simp [controlType] at hm) (by rintro rfl; simp [controlType] at hm)
    (headBack_modes ty s m h)

theorem headArrives_status (ty : HeadType) (s : State) (hl : s.link.state = .lost) (ht : ty ≠ .report) :
    .statusRequest ∈ (headArrives ty s).link.control := by
  rw [headArrives_lost ty s hl]
  exact headReturnedRoom_keeps _ _ (by simp) (by simp) (headBack_status ty s ht)

/-- A message in the lane is in hand at the end of the command (R58). -/
theorem finish_hands {m : ControlMsg} {v : State} (h : m ∈ v.link.control) : messageInHand m (finish v) :=
  (finish_inHand m v).mpr (.inl h)

/-- A message of the head other than a REPORT returns it and asks for the status (R61). -/
theorem answer_returns {c : Instr} {ty : HeadType} (h : answerOf c ty) (s : State) (hl : s.link.state = .lost)
    (ho : s.link.outstanding = none) : ∃ t, exec c s = .next t ∧ returnedBy ty s t ∧
      messageInHand .statusRequest t := by
  obtain ⟨hp, hs, hf, hm, hstatus, hg⟩ := answerTaken_keeps h _ (headArrives_lost_outstanding ty s hl ho)
  have hret := returnedBy_later (headArrives_returned ty s hl) hp hs hf hm hg
  exact ⟨_, exec_answer h s, returnedBy_later hret (by simp) (by simp) (by simp) (by simp) (by simp),
    finish_hands (hstatus.mpr (headArrives_status ty s hl (answerOf_ne_report h)))⟩

/-- The REPORT recorded (R64). -/
def reportRecorded (r : Report) (s : State) : State := { s with link := { s.link with reportImage := some r } }

/-- The state in which a REPORT acts: the head heard, its restart met, and the REPORT recorded (R61 to R64). -/
def reportMet (r : Report) (s : State) : State :=
  reportRecorded r (if isRestart r s.link.reportImage then
      headRestarts r s.link.lastSet (s.link.state == .lost) (headArrives .report s)
    else headArrives .report s)

theorem reportMet_quiet (r : Report) (s : State) (h : r.restarted = false) :
    reportMet r s = reportRecorded r (headArrives .report s) := by simp [reportMet, isRestart, h]

theorem reportTaken_eq (r : Report) (s : State) :
    reportTaken r s = geometryReport r.committed (powerReport r (reportMet r s)) := rfl

/-- A head restart leaves the link's timers, and only adds to the notices (R63). -/
theorem reportMet_keeps (r : Report) (s : State) : let a := headArrives .report s
    (reportMet r s).link.state = a.link.state ∧ (reportMet r s).link.silence = a.link.silence ∧
      (reportMet r s).link.lostFor = a.link.lostFor ∧ (reportMet r s).link.sinceMessage = a.link.sinceMessage ∧
      (reportMet r s).link.reportImage = some r ∧ grown a.ports (reportMet r s).ports := by
  unfold reportMet
  split <;> simp [reportRecorded]

/-- A REPORT returns the head and is recorded (R61, R64). -/
theorem report_returns (r : Report) (s : State) (hl : s.link.state = .lost) : ∃ t, exec (.report r) s = .next t ∧
    returnedBy .report s t ∧ t.link.reportImage = some r := by
  obtain ⟨hp, hs, hf, hm, himage, hg⟩ := reportMet_keeps r s
  have hret := returnedBy_later (headArrives_returned .report s hl) hp hs hf hm hg
  have hacts : returnedBy .report s (reportTaken r s) := by
    rw [reportTaken_eq]
    exact returnedBy_later hret (by simp) (by simp) (by simp) (by simp) (by simp)
  exact ⟨_, rfl, returnedBy_later hacts (by simp) (by simp) (by simp) (by simp) (by simp),
    by simp [reportTaken_eq, himage]⟩

end Sys2Proof.Machine
end

section
namespace Sys2Proof.Machine

/-! ## The state after a quiet return (R61, R97, R132) -/

/-- `v` is `a` but for the notices told, the REPORT and the FORMAT recorded, and a status before the first settle. -/
def quietEffect (a v : State) : Prop :=
  v.link.control = a.link.control ∧ v.link.outstanding = a.link.outstanding ∧ v.link.lane = a.link.lane ∧
    v.power = a.power ∧ v.lamp = a.lamp ∧ v.router = a.router ∧ v.room = a.room ∧ v.lockout = a.lockout ∧
    v.store = a.store ∧ quietPorts v.ports = quietPorts a.ports ∧
    v.geometry = { a.geometry with status := v.geometry.status } ∧
    (a.geometry.commitAcked = false → v.geometry.status = a.geometry.status)

theorem quietEffect_format (f : Option (Option SignalFormat)) (a : State) : quietEffect a (formatRecorded f a) :=
  ⟨rfl, rfl, rfl, rfl, rfl, rfl, rfl, rfl, rfl, rfl, rfl, fun _ => rfl⟩

theorem geometryReport_geometry (n : Option (BitVec 8)) (s : State) :
    (geometryReport n s).geometry = { s.geometry with status := (geometryReport n s).geometry.status } := by
  simp [GeometryUnit.eq_iff]

/-- Without an acknowledged COMMIT the number committed says nothing (R99). -/
theorem geometryReport_unacked (n : Option (BitVec 8)) (s : State) (h : s.geometry.commitAcked = false) :
    geometryReport n s = s := by simp [geometryReport, h]

/-- A REPORT of a cold lamp that nothing is due for changes nothing (R32, R38, R39, R40, R43, R46). -/
theorem powerReport_calm (r : Report) (v : State)
    (hs : v.power.state = .standby ∨ (v.power.state = .igniting ∧ v.power.step = .sending)) (hd : r.lamp = .dark)
    (hw : r.temperature = .warm) (hh : v.power.shutter ≠ none → controlInHand v .shutter = true) : powerReport r v = v := by
  have hlamp : powerHeard r v = v := by
    rcases hs with hs | ⟨hs, hstep⟩
    · simp [powerHeard, reportStrike, reportLampOut, reportBurning, reportThermal, reportDeferred, hs, hd, hw, isLit]
    · simp [powerHeard, reportStrike, reportLampOut, reportBurning, reportThermal, reportDeferred, hs, hd, hw, isLit]
  rw [powerReport_eq, hlamp]
  unfold reportShutter
  split
  · rfl
  · next h hsh => simp [hh (by simp [hsh])]

theorem quietEffect_report (r : Report) (a : State)
    (hs : a.power.state = .standby ∨ (a.power.state = .igniting ∧ a.power.step = .sending)) (hd : r.lamp = .dark)
    (hw : r.temperature = .warm) (hh : a.power.shutter ≠ none → controlInHand a .shutter = true) :
    quietEffect a (geometryReport r.committed (powerReport r (reportRecorded r a))) := by
  rw [powerReport_calm r (reportRecorded r a) hs hd hw hh]
  have hgeo := geometryReport_geometry r.committed (reportRecorded r a)
  simp only [quietEffect, geometryReport_frame]
  refine ⟨rfl, rfl, rfl, rfl, rfl, rfl, rfl, rfl, rfl, rfl, hgeo, fun h => ?_⟩
  rw [geometryReport_unacked _ (reportRecorded r a) h]
  rfl

/-- What stays at a quiet return to a VACANT room. -/
def restKept (s t : State) : Prop :=
  t.lamp = s.lamp ∧ t.router = s.router ∧ t.room = s.room ∧ t.lockout = s.lockout ∧ storeServed s.store t.store ∧
    contexts t = contexts s

/-- The runner strikes the lamp at a return that nothing bars (R132). -/
def runnerStrikes (s t : State) : Prop :=
  s.room.state ≠ .vacant → s.power.state = .standby → s.lamp.replaceInFlight = false →
    s.lamp.level ≠ some .hardStop → s.power.thermalHold = false →
    t.power.state = .igniting ∧ t.power.attempt = 1 ∧ t.power.ignitionOrigin = some .schedule ∧ messageInHand .ignite t

/-- A return that calls for nothing further (R61). -/
def returnedQuietly (ty : HeadType) (s t : State) : Prop :=
  (∀ m, m ∈ modesOf s → messageInHand m t) ∧ resentIn s t ∧ runnerStrikes s t ∧
    (s.room.state = .vacant → (ty ≠ .report → messageInHand .statusRequest t) ∧
      (∀ m, messageInHand m t → (m = .statusRequest ∧ ty ≠ .report) ∨ m ∈ modesOf s ∨ m ∈ s.link.control) ∧
      t.power = s.power ∧ restKept s t)

theorem returnedQuietly_of (ty : HeadType) (s v : State) (hl : s.link.state = .lost) (ho : s.link.outstanding = none)
    (h : quietEffect (headArrives ty s) v) : returnedQuietly ty s (finish v) := by
  have hout : v.link.outstanding = none := h.2.1.trans (headArrives_lost_outstanding ty s hl ho)
  obtain ⟨hcontrol, -, hlane, hpower, hlamp, hrouter, hroom, hlock, hstore, hports, hgeo, hstatus⟩ := h
  obtain ⟨bpower, blamp, brouter, broom, block, bstore, bports, -⟩ := headBack_leaves ty s
  have inHand_iff (m : ControlMsg) : messageInHand m (finish v) ↔ m ∈ (headArrives ty s).link.control := by
    rw [finish_inHand]
    simp [messageInHand, hout, hcontrol]
  refine ⟨fun m hm => (inHand_iff m).mpr (headArrives_modes ty s hl m hm), ?_, ?_, ?_⟩
  · have hb := headBack_resent ty s
    have hacked := headBack_acked ty s
    rw [headArrives_lost ty s hl] at hgeo hstatus hrouter hroom hstore hlane
    simp only [headReturnedRoom_frame] at hgeo hstatus hroom hlane
    refine resentIn_later hb (by simpa using hgeo) (fun h => by simpa using hstatus (hacked h)) ?_ (by simpa using hroom)
      ?_ (by simpa using hlane)
    · simp [hrouter]
    · simp [hstore]
  · intro hr hp hrep hlev hth
    have hstrike : headArrives ty s = beginSequence .schedule (headBack ty s) := by
      rw [headArrives_lost ty s hl]
      refine headReturnedRoom_strikes _ (by rwa [broom]) (by rwa [bpower]) ?_
      simp [refusalTest, bpower, blamp, hp, hrep, hlev, hth, (headBack_link ty s).1]
    have hpow := beginSequence_power .schedule (headBack ty s) (by simp [bpower, hp, isLit])
    refine ⟨?_, ?_, ?_, ?_⟩
    · simp [hpower, hstrike, hpow]
    · simp [hpower, hstrike, hpow]
    · simp [hpower, hstrike, hpow]
    · rw [inHand_iff, hstrike]
      exact beginSequence_ignite _ _ (by simp [(headBack_link ty s).1])
  · intro hr
    have hback : headArrives ty s = headBack ty s := by
      rw [headArrives_lost ty s hl, headReturnedRoom_vacant _ (by rwa [broom])]
    rw [hback] at hpower hlamp hrouter hroom hlock hstore hports
    refine ⟨fun ht => (inHand_iff _).mpr (headArrives_status ty s hl ht), fun m hm => ?_, ?_, ?_⟩
    · rw [inHand_iff, hback] at hm
      exact mem_headBack hm
    · simp [hpower, bpower]
    · refine ⟨by simp [hlamp, blamp], by simp [hrouter, brouter], by simp [hroom, broom], by simp [hlock, block], ?_, ?_⟩
      · simp [storeServed_iff, hstore, bstore]
      · simp [contexts, hports, bports]

theorem quietAnswer_returns {c : Instr} {ty : HeadType} (s : State) (h : quietAnswer s c ty) (hl : s.link.state = .lost)
    (ho : s.link.outstanding = none) : ∃ t, exec c s = .next t ∧ returnedQuietly ty s t := by
  have hpow := (headBack_leaves ty s).1
  obtain ⟨f, hf, -⟩ := quietAnswer_taken h (headArrives ty s) (headArrives_lost_outstanding ty s hl ho) (by simp) (by simp)
    (by simp) (fun hn hi => by
      rw [headArrives_lost ty s hl] at hi ⊢
      exact headReturnedRoom_step _ (by rwa [hpow]) hi)
  refine ⟨_, exec_answer h.answerOf s, ?_⟩
  rw [hf]
  exact returnedQuietly_of ty s _ hl ho (quietEffect_format f _)

/-- A message of a type in the lane is in hand (R39, R46). -/
theorem controlInHand_of_mem {m : ControlMsg} {s : State} (h : m ∈ s.link.control) :
    controlInHand s (controlType m) = true := by
  simp only [controlInHand, Bool.or_eq_true, List.any_eq_true, beq_iff_eq]
  exact .inl ⟨m, h, rfl⟩

/-- The modes in the lane, a shutter that is held is in hand (R46). -/
theorem shutter_inHand {s v : State} (h : ∀ m, m ∈ modesOf s → m ∈ v.link.control) (hs : s.power.shutter ≠ none) :
    controlInHand v .shutter = true := by
  obtain ⟨x, hx⟩ := Option.ne_none_iff_exists'.mp hs
  exact controlInHand_of_mem (m := .shutter (decide (x ≠ .opened))) (h _ (by simp [modesOf, hx]))

/-- At a return in STANDBY the lamp stays dark, or waits for its first IGNITE; the shutter stays (R61, R132). -/
theorem headArrives_standby (ty : HeadType) (s : State) (hl : s.link.state = .lost) (hs : s.power.state = .standby) :
    let a := headArrives ty s
    (a.power.state = .standby ∨ (a.power.state = .igniting ∧ a.power.step = .sending)) ∧
      a.power.shutter = s.power.shutter := by
  have hpow := (headBack_leaves ty s).1
  dsimp only
  rw [headArrives_lost ty s hl]
  rcases headReturnedRoom_cases (headBack ty s) with he | ⟨-, -, he⟩ | ⟨hc, he⟩ | ⟨r, he⟩
  · simp [he, hpow, hs]
  · rw [he, beginSequence_power _ _ (by simp [hpow, hs, isLit])]
    simp [hpow]
  · rw [hpow, hs] at hc
    simp at hc
  · simp [he, postPowerRefused, hpow, hs]

theorem calmReport_returns (r : Report) (s : State) (h : calmReport s r) (hr : r.restarted = false)
    (hl : s.link.state = .lost) (ho : s.link.outstanding = none) :
    ∃ t, exec (.report r) s = .next t ∧ returnedQuietly .report s t := by
  obtain ⟨hs, hd, hw⟩ := h
  obtain ⟨hstate, hshutter⟩ := headArrives_standby .report s hl hs
  refine ⟨finish (reportTaken r s), rfl, returnedQuietly_of .report s _ hl ho ?_⟩
  rw [reportTaken_eq, reportMet_quiet r s hr]
  exact quietEffect_report r _ hstate hd hw fun h => shutter_inHand (headArrives_modes .report s hl) (hshutter ▸ h)

/-! ## The first message of a link that waits (R62) -/

theorem quietAnswer_first {c : Instr} {ty : HeadType} (s : State) (h : quietAnswer s c ty)
    (hl : s.link.state = .awaiting) (ho : s.link.outstanding = none) : ∃ t, exec c s = .next t ∧
      linkServed { heard s.link with lastFormat := t.link.lastFormat } t.link ∧
      (ty ≠ .format → t.link.lastFormat = s.link.lastFormat) ∧
      (messageInHand .statusRequest t ∧ ∀ m, messageInHand m t → m = .statusRequest ∨ m ∈ s.link.control) ∧
      (∀ m, m ∈ s.link.control → messageInHand m t) ∧ t.power = s.power ∧ t.geometry = s.geometry ∧ restKept s t := by
  have harrive := headArrives_awaiting ty s hl
  have hout : (headArrives ty s).link.outstanding = none := by simp [harrive, heard, ho]
  obtain ⟨f, hf, hlast⟩ := quietAnswer_taken h (headArrives ty s) hout (by simp) (by simp) (by simp)
    (fun hn hi => absurd (by simpa [harrive] using hi) hn)
  refine ⟨_, exec_answer h.answerOf s, ?_⟩
  rw [hf]
  have inHand_iff (m : ControlMsg) : messageInHand m (finish (formatRecorded f (headArrives ty s))) ↔
      m ∈ (headArrives ty s).link.control := by
    rw [finish_inHand]
    simp [messageInHand, formatRecorded, hout]
  refine ⟨?_, fun ht => ?_, ⟨?_, fun m hm => ?_⟩, fun m hm => ?_, ?_, ?_, ?_⟩
  · simp [linkServed_iff, formatRecorded, harrive, heard]
  · simpa [formatRecorded, harrive, heard] using hlast ht
  · rw [inHand_iff, harrive]
    exact askStatus_hands _ _ (by simp [heard]) (answerOf_ne_report h.answerOf)
  · rw [inHand_iff, harrive] at hm
    exact (mem_askStatus hm).imp And.left id
  · rw [inHand_iff, harrive]
    exact askStatus_keeps _ _ _ hm
  · simp [formatRecorded, harrive]
  · simp [formatRecorded, harrive]
  · simp [restKept, formatRecorded, harrive, storeServed_iff, contexts]

/-- A first message that is a REPORT asks for no status (R62). -/
theorem report_first (r : Report) (s : State) (hr : r.restarted = false) (hl : s.link.state = .awaiting)
    (ho : s.link.outstanding = none) : ∃ t, exec (.report r) s = .next t ∧ t.link.state = .present ∧
      (messageInHand .statusRequest t → .statusRequest ∈ s.link.control) := by
  have harrive : headArrives .report s = { s with link := heard s.link } := headArrives_awaiting .report s hl
  refine ⟨finish (reportTaken r s), rfl, ?_, fun h => ?_⟩
  · simp [reportTaken_eq, reportMet_quiet r s hr, harrive, reportRecorded, heard]
  · rw [finish_inHand, reportTaken_eq, reportMet_quiet r s hr, harrive] at h
    rcases h with h | ⟨x, hx, -⟩
    · simpa [powerReport_eq, reportShutter_status, reportRecorded, heard] using h
    · simp [reportRecorded, heard, ho] at hx

/-! ## A head restart (R63) -/

theorem optSetWord_eq (n : Option (BitVec 8)) : optSetWord n = match n with
    | some n => n.setWidth 16
    | none => 0xFFFF#16 := by cases n <;> rfl

/-- The restart is told before the mode is handed and the resend asked for (R63). -/
theorem headRestarts_told (r : Report) (n : Option (BitVec 8)) (s : State) :
    told none .headRestarted .auto (optSetWord r.committed) (optSetWord n) s (headRestarts r n false s) :=
  told_of s (grown_refl _) rfl rfl (by simp [headRestarts, post])

theorem isRestart_iff (r : Report) (image : Option Report) : isRestart r image = true ↔
    r.restarted = true ∧ ∀ x, image = some x → x.restarted = false := by
  cases image <;> simp [isRestart]

/-- The state of a head restart on a link that is PRESENT: the head heard and told of, the modes handed, and the resend
asked for (R59, R63). -/
def headRestarted (r : Report) (s : State) : State :=
  headRestarts r s.link.lastSet false { s with link := heard s.link }

theorem reportMet_restart (r : Report) (s : State) (hp : s.link.state = .present) (hr : r.restarted = true)
    (hi : ∀ x, s.link.reportImage = some x → x.restarted = false) :
    reportMet r s = reportRecorded r (headRestarted r s) := by
  rw [reportMet, if_pos ((isRestart_iff _ _).mpr ⟨hr, hi⟩), headArrives_present _ s hp, hp]
  rfl

theorem headRestarted_leaves (r : Report) (s : State) : (headRestarted r s).power = s.power ∧
    (headRestarted r s).lamp = s.lamp ∧ (headRestarted r s).router = s.router ∧ (headRestarted r s).room = s.room ∧
    (headRestarted r s).lockout = s.lockout ∧ (headRestarted r s).store = s.store ∧
    quietPorts (headRestarted r s).ports = quietPorts s.ports := by
  simp [headRestarted]

theorem headRestarted_modes (r : Report) (s : State) (m : ControlMsg) (hm : m ∈ modesOf s) :
    m ∈ (headRestarted r s).link.control := by
  simp only [headRestarted, headRestarts, Bool.false_eq_true, if_false, askResend_frame]
  exact handMode_hands _ (by simp [heard]) _ (by simpa [modesOf] using hm)

theorem headRestarted_resent (r : Report) (s : State) : resentIn s (headRestarted r s) := by
  have h := askResend_resent (handMode (post .headRestarted .auto (some (optSetWord r.committed))
    (some (optSetWord s.link.lastSet)) { s with link := heard s.link })) (by simp [heard])
  simpa [resentIn, headRestarted, headRestarts] using h

theorem headRestarted_acked (r : Report) (s : State) (h : s.geometry.started = true) :
    (headRestarted r s).geometry.commitAcked = false := askResend_acked _ (by simp [heard]) (by simpa using h)

theorem calmReport_restarts (r : Report) (s : State) (hp : s.link.state = .present) (hr : r.restarted = true)
    (hi : ∀ x, s.link.reportImage = some x → x.restarted = false) (h : calmReport s r) :
    ∃ t, exec (.report r) s = .next t ∧ t.link.reportImage = some r ∧
      told none .headRestarted .auto (optSetWord r.committed) (optSetWord s.link.lastSet) s t ∧
      (∀ m, m ∈ modesOf s → messageInHand m t) ∧ resentIn s t ∧ t.power = s.power ∧ restKept s t := by
  obtain ⟨hs, hd, hw⟩ := h
  obtain ⟨apower, alamp, arouter, aroom, alock, astore, aports⟩ := headRestarted_leaves r s
  have hmet := reportMet_restart r s hp hr hi
  have heffect : quietEffect (headRestarted r s) (reportTaken r s) := by
    rw [reportTaken_eq, hmet]
    exact quietEffect_report r _ (.inl (by rwa [apower])) hd hw
      fun hsh => shutter_inHand (headRestarted_modes r s) (by rwa [apower] at hsh)
  have htold : told none .headRestarted .auto (optSetWord r.committed) (optSetWord s.link.lastSet) s (reportTaken r s) := by
    have h : grown (headRestarted r s).ports (reportTaken r s).ports := by simp [reportTaken_eq, hmet, reportRecorded]
    exact told_later (told_since (grown_refl _) rfl rfl (headRestarts_told r s.link.lastSet { s with link := heard s.link })) h
  refine ⟨_, rfl, by simp [reportTaken_eq, hmet, reportRecorded], told_later htold (by simp), ?_⟩
  obtain ⟨hcontrol, -, hlane, hpower, hlamp, hrouter, hroom, hlock, hstore, hports, hgeo, hstatus⟩ := heffect
  refine ⟨fun m hm => ?_, ?_, ?_, ?_⟩
  · exact finish_hands (by rw [hcontrol]; exact headRestarted_modes r s m hm)
  · exact resentIn_later (headRestarted_resent r s) (by simpa using hgeo)
      (fun h => by simpa using hstatus (headRestarted_acked r s h)) (by simp only [finish_frame, hrouter])
      (by simp only [finish_frame, hroom]) (by simp only [finish_frame, hstore]) (by simp only [finish_frame, hlane])
  · simp only [finish_frame, hpower, apower]
  · simp only [restKept, storeServed_iff, contexts, finish_frame, hlamp, alamp, hrouter, arouter, hroom, aroom, hlock,
      alock, hstore, astore, hports, aports, and_self]

/-! ## The obligation -/

/-- The answer timer, the silence timer and the invalid message (R50, R53 to R55, R60). -/
theorem linkTimers (s : State) :
    (∀ o : Outstanding, s.link.outstanding = some o → s.link.transmit ≠ [] →
      exec .headMessageSent s = .next { s with link := { s.link with answer := some 250, transmit := [] } }) ∧
    (s.link.outstanding = none → s.link.transmit ≠ [] → ∃ t, exec .headMessageSent s = .next t ∧
      (s.link.state ≠ .present → t = lineFreed s) ∧
      (s.link.state = .present → (s.link.control = [] → s.link.lane = none → t = lineFreed s) ∧
        ∀ m : HeadMsg, (s.link.control.head?.map HeadMsg.control).or (s.link.lane.map laneMessage) = some m →
          t = { lineFreed s with link := { (lineFreed s).link with
            outstanding := some { msg := m, tag := s.link.nextTag, sends := 1, ofLane := s.link.control.isEmpty }
            nextTag := s.link.nextTag + 1, control := s.link.control.drop 1
            transmit := messageBytes s.link.nextTag m } })) ∧
    (∀ o : Outstanding, s.link.outstanding = some o → s.link.answer ≠ none → s.link.state = .present →
      ∃ t, exec .answerTimerExpiry s = .next t ∧
      (o.sends < s.store.install.retryCount + 1 →
        t.link = { s.link with outstanding := some { o with sends := o.sends + 1 }, answer := none
                               transmit := messageBytes o.tag o.msg } ∧
        actionsKept s t ∧ t.room = s.room ∧ storeServed s.store t.store ∧ contexts t = contexts s) ∧
      (s.store.install.retryCount + 1 ≤ o.sends → headLostIn 1 s t)) ∧
    (s.link.state = .present → s.link.silence ≠ none → ∃ t, exec .silenceTimerExpiry s = .next t ∧
      headLostIn 0 s t) := by
  refine ⟨fun o ho ht => headMessageSent_awaited s o ho ht, fun ho ht => ?_, fun o ho ha hp => ?_, fun hp hs => ?_⟩
  · refine ⟨_, headMessageSent_freed s ho ht, fun hp => ?_, fun hp => ⟨fun hc hl => ?_, fun m hm => ?_⟩⟩
    · exact serveLink_busy _ (.inl hp)
    · exact serveLink_nothing _ hc hl
    · exact serveLink_freed s hp ho m hm
  · by_cases h : o.sends < s.store.install.retryCount + 1
    · refine ⟨_, answerTimerExpiry_resends s o ho ha h, fun _ => ⟨finish_resend_link o s, ?_⟩, fun h' => by omega⟩
      simp [actionsKept, storeServed_iff, contexts]
    · exact ⟨_, answerTimerExpiry_loses s o ho ha (by omega), fun h' => absurd h' h, fun _ => finish_linkLost _ s⟩
  · exact ⟨_, silenceTimerExpiry_loses s hp hs, finish_linkLost _ s⟩

/-- Settles O40, by the timers, the return, the first message, and the restart. -/
theorem linkTimersResendOrLose : Obligations.LinkTimersResendOrLose := by
  unfold Obligations.LinkTimersResendOrLose
  refine ⟨fun s => ?_, fun s => ?_⟩
  · obtain ⟨hsent, hfreed, hanswer, hsilence⟩ := linkTimers s
    refine ⟨hsent, hfreed, ?_, hanswer, hsilence, rfl⟩
    rintro tag o hp ho rfl ht
    exact exec_ack_sending o s hp ho ht
  · refine ⟨fun hl ho => ⟨fun c ty h => ?_, fun r => ?_, fun c ty h => ?_, fun r h hr => ?_⟩, fun hl ho => ⟨fun c ty h => ?_,
      fun r hr => ?_⟩, fun r hp hr hi h => ?_⟩
    · exact answer_returns h s hl ho
    · exact report_returns r s hl
    · obtain ⟨t, ht, hmodes, hresent, hrunner, hvacant⟩ := quietAnswer_returns s h hl ho
      refine ⟨t, ht, hmodes, hresent, hrunner, fun hv => ?_⟩
      obtain ⟨hstatus, hall, hpower, hrest⟩ := hvacant hv
      refine ⟨⟨fun m hm => ?_, fun m hm => ?_⟩, hpower, hrest⟩
      · rcases List.mem_append.mp hm with hm | hm
        · exact hmodes m hm
        · rw [List.mem_singleton.mp hm]
          exact hstatus (answerOf_ne_report (quietAnswer.answerOf h))
      · rcases hall m hm with ⟨rfl, -⟩ | hm | hm
        · exact .inl (by simp)
        · exact .inl (List.mem_append_left _ hm)
        · exact .inr hm
    · obtain ⟨t, ht, hmodes, hresent, hrunner, hvacant⟩ := calmReport_returns r s h hr hl ho
      refine ⟨t, ht, hmodes, hresent, hrunner, fun hv => ?_⟩
      obtain ⟨-, hall, hpower, hrest⟩ := hvacant hv
      exact ⟨⟨hmodes, fun m hm => (hall m hm).resolve_left fun h => h.2 rfl⟩, hpower, hrest⟩
    · obtain ⟨t, ht, hlink, hlast, ⟨hstatus, hall⟩, hkept, hpower, hgeo, hrest⟩ := quietAnswer_first s h hl ho
      refine ⟨t, ht, hlink, hlast, ⟨fun m hm => ?_, fun m hm => ?_⟩, hkept, hpower, hgeo, hrest⟩
      · rw [List.mem_singleton.mp hm]
        exact hstatus
      · simpa using hall m hm
    · exact report_first r s hr hl ho
    · obtain ⟨t, ht, himage, htold, hrest⟩ := calmReport_restarts r s hp hr hi h
      rw [optSetWord_eq, optSetWord_eq] at htold
      exact ⟨t, ht, himage, htold, hrest⟩

end Sys2Proof.Machine
end

section
namespace Sys2Proof.Machine

/-! ## A REPORT on a link that is not LOST (R59, R64) -/

/-- The state in which the Power Sequencer meets a REPORT that is no restart: the head heard and the REPORT recorded. -/
def reportHeard (r : Report) (s : State) : State := reportRecorded r { s with link := heard s.link }

@[simp] theorem reportHeard_frame (r : Report) (s : State) : (reportHeard r s).ports = s.ports ∧
    (reportHeard r s).lamp = s.lamp ∧ (reportHeard r s).power = s.power ∧ (reportHeard r s).router = s.router ∧
    (reportHeard r s).geometry = s.geometry ∧ (reportHeard r s).room = s.room ∧
    (reportHeard r s).lockout = s.lockout ∧ (reportHeard r s).store = s.store ∧
    (reportHeard r s).link = { heard s.link with reportImage := some r } :=
  ⟨rfl, rfl, rfl, rfl, rfl, rfl, rfl, rfl, rfl⟩

/-- The end of a REPORT, after the lamp's part: the shutter, the geometry, and the end of the command (R46, R58, R99). -/
def reportEnds (r : Report) (v : State) : State := finish (geometryReport r.committed (reportShutter r v))

theorem exec_report_heard (r : Report) (s : State) (hl : s.link.state ≠ .lost) (hr : r.restarted = false) :
    exec (.report r) s = .next (reportEnds r (powerHeard r (reportHeard r s))) := by
  have harrive : headArrives .report s = { s with link := heard s.link } := by
    cases h : s.link.state with
    | awaiting => exact headArrives_awaiting .report s h
    | present => exact headArrives_present .report s h
    | lost => exact absurd h hl
  have h : exec (.report r) s = .next (finish (reportTaken r s)) := rfl
  rw [h, reportTaken_eq, reportMet_quiet r s hr, harrive]
  rfl

@[simp] theorem reportEnds_frame (r : Report) (v : State) : (reportEnds r v).power = v.power ∧
    (reportEnds r v).lamp = v.lamp ∧ (reportEnds r v).router = v.router ∧ (reportEnds r v).room = v.room ∧
    (reportEnds r v).lockout = v.lockout ∧ quietPorts (reportEnds r v).ports = quietPorts v.ports ∧
    (reportEnds r v).geometry = (geometryReport r.committed (reportShutter r v)).geometry := by
  simp [reportEnds]

/-- What every such REPORT leaves (R64). -/
theorem report_leaves (r : Report) (s : State) : let t := reportEnds r (powerHeard r (reportHeard r s))
    linkServed { heard s.link with reportImage := some r } t.link ∧ storeServed s.store t.store ∧
      routerTimed s.router t.router ∧ t.geometry = { s.geometry with status := t.geometry.status } ∧
      t.room = s.room ∧ t.lockout = s.lockout ∧ contexts t = contexts s := by
  dsimp only
  rw [show reportEnds r (powerHeard r (reportHeard r s)) =
    finish (geometryReport r.committed (powerReport r (reportHeard r s))) from rfl]
  refine ⟨?_, ?_, ?_, ?_, by simp, by simp, by simp [contexts]⟩
  · simp [linkServed_iff]
  · simp [storeServed_iff]
  · simp [routerTimed, RouterUnit.eq_iff]
  · simp [GeometryUnit.eq_iff]

/-- What the lamp's part tells is told by the command (R64). -/
theorem told_report {dest : Option Port} {kind : NoticeKind} {o : Origin} {x y : Word} {r : Report} {s v : State}
    (h : told dest kind o x y (reportHeard r s) v) : told dest kind o x y s (reportEnds r v) :=
  told_later (told_since (grown_refl _) rfl rfl h) (by simp [reportEnds])

/-! ## Messages in hand at the end of a REPORT (R39, R46) -/

/-- A control message of a type is queued or outstanding (R39, R46). -/
def typeInHand (ty : HeadType) (t : State) : Prop :=
  (∃ m ∈ t.link.control, controlType m = ty) ∨ ∃ x, t.link.outstanding = some x ∧ headMsgType x.msg = ty

theorem controlInHand_iff (ty : HeadType) (s : State) : controlInHand s ty = true ↔ typeInHand ty s := by
  unfold controlInHand typeInHand
  cases s.link.outstanding <;> simp

theorem headMsgType_extinguish (m : HeadMsg) : headMsgType m = .extinguish ↔ m = .control .extinguish := by
  cases m with
  | control c => cases c <;> simp [headMsgType, controlType]
  | row | column | commit => simp [headMsgType]

theorem typeInHand_extinguish (t : State) : typeInHand .extinguish t ↔ messageInHand .extinguish t := by
  have h (m : ControlMsg) : controlType m = .extinguish ↔ m = .extinguish := by cases m <;> simp [controlType]
  simp [typeInHand, messageInHand, h, headMsgType_extinguish]

/-- A REPORT's shutter part leaves the messages of another type (R46). -/
theorem reportShutter_other (r : Report) (m : ControlMsg) (v : State) (hm : controlType m ≠ .shutter) :
    m ∈ (reportShutter r v).link.control ↔ m ∈ v.link.control := by
  unfold reportShutter
  split
  · rfl
  · next h _ =>
    split
    · refine ⟨fun hc => (mem_handControl hc).resolve_left (by rintro rfl; exact hm rfl), fun hc => ?_⟩
      unfold handControl
      dsimp only
      split
      · exact hc
      · exact laneWith_keeps _ _ _ hc (Ne.symm hm) (by simp) (by simp)
    · rfl

theorem reportEnds_inHand (r : Report) (m : ControlMsg) (v : State) (hm : controlType m ≠ .shutter) :
    messageInHand m (reportEnds r v) ↔ messageInHand m v := by
  rw [reportEnds, finish_inHand]
  simp [messageInHand, reportShutter_other r m v hm]

/-- The end of a command adds no message to the lane (R58). -/
theorem mem_finish {m : ControlMsg} {s : State} (h : m ∈ (finish s).link.control) : m ∈ s.link.control := by
  rw [finish_link] at h
  unfold serveLink at h
  split at h
  · cases hc : s.link.control with
    | cons a rest =>
      rw [hc] at h
      exact List.mem_cons_of_mem _ (by simpa using h)
    | nil =>
      rw [hc] at h
      cases hl : s.link.lane <;> simp [hl, hc] at h
  · exact h

theorem mem_reportEnds {r : Report} {m : ControlMsg} {v : State} (h : m ∈ (reportEnds r v).link.control) :
    m ∈ (reportShutter r v).link.control := by simpa using mem_finish h

/-! ## The shutter in a REPORT (R46) -/

/-- A shutter in hand before a REPORT is in hand before its shutter part, and no other (R46). -/
theorem typeInHand_heard (r : Report) (s : State) :
    typeInHand .shutter (powerHeard r (reportHeard r s)) ↔ typeInHand .shutter s := by
  have hout : (powerHeard r (reportHeard r s)).link.outstanding = s.link.outstanding := by
    have h : (powerReport r (reportHeard r s)).link.outstanding = (reportHeard r s).link.outstanding := by simp
    rw [powerReport_eq] at h
    simpa [heard] using h
  have hmem (m : ControlMsg) : (m ∈ (powerHeard r (reportHeard r s)).link.control ∧ controlType m = .shutter) ↔
      m ∈ s.link.control ∧ controlType m = .shutter := by
    refine and_congr_left fun hm => ?_
    rw [powerHeard_beside _ _ _ (by unfold besidePower; simp [hm])]
    rfl
  simp [typeInHand, hout, hmem]

theorem reportShutter_hands (r : Report) (v : State) (h : Shutter) (hs : v.power.shutter = some h)
    (hd : decide (h ≠ .opened) ≠ r.shutterClosed) (hi : ¬ typeInHand .shutter v) (hl : v.link.state ≠ .lost) :
    .shutter (decide (h ≠ .opened)) ∈ (reportShutter r v).link.control := by
  have hi : controlInHand v .shutter = false := by simpa [← controlInHand_iff] using hi
  have he : reportShutter r v = handControl (.shutter (decide (h ≠ .opened))) v := by
    simp only [reportShutter, hs, shutterIsClosed_eq]
    rw [if_pos (by simpa [hi] using hd)]
  rw [he]
  exact handControl_mem _ _ hl

theorem reportShutter_quiet (r : Report) (v : State) (h : Shutter) (hs : v.power.shutter = some h)
    (hq : decide (h ≠ .opened) = r.shutterClosed ∨ typeInHand .shutter v) : reportShutter r v = v := by
  simp only [reportShutter, hs, shutterIsClosed_eq]
  rw [if_neg]
  rcases hq with hq | hq
  · simp [hq]
  · simp [(controlInHand_iff _ _).mpr hq]

/-! ## The set shown by a REPORT (R99) -/

theorem geometryReport_hidden (n : Option (BitVec 8)) (s : State)
    (h : ¬ (s.geometry.status = .pending ∧ s.geometry.commitAcked = true ∧ n = some s.geometry.setNumber)) :
    geometryReport n s = s := by
  unfold geometryReport
  rw [if_neg]
  simpa [and_assoc] using h

theorem geometryReport_shown (n : Option (BitVec 8)) (s : State) (hp : s.geometry.status = .pending)
    (ha : s.geometry.commitAcked = true) (hn : n = some s.geometry.setNumber) :
    (geometryReport n s).geometry = { s.geometry with status := .applied } ∧
    ∀ g n' c, s.geometry.current = some g → s.geometry.active = some (n', c) →
      told none .geometryApplied .auto (s.geometry.setNumber.setWidth 16)
        (pairWord (if g.limited then 1 else 0) n'.val) s (geometryReport n s) := by
  unfold geometryReport
  rw [if_pos (by simp [hp, ha, hn])]
  refine ⟨rfl, fun g n' c hg hc => ?_⟩
  rw [show isLimited s = g.limited by simp [isLimited, hg], show activePreset s = n' by simp [activePreset, hc]]
  exact told_of { s with geometry := { s.geometry with status := .applied } } (grown_refl _) rfl rfl (grown_refl _)

end Sys2Proof.Machine
end

section
namespace Sys2Proof.Machine

/-! ## Thermal hold in a REPORT (R40) -/

/-- The hold set by OVER, with its notice unless it stands already (R40). -/
def holdSet (s : State) : State := if s.power.thermalHold then s else markThermal true s

theorem holdSet_power (s : State) : (holdSet s).power = { s.power with thermalHold := true } := by
  unfold holdSet
  split
  · next h => simp [PowerUnit.eq_iff, h]
  · simp [markThermal]

@[simp] theorem holdSet_frame (s : State) : (holdSet s).lamp = s.lamp ∧ (holdSet s).link = s.link ∧
    (holdSet s).store = s.store ∧ (holdSet s).room = s.room ∧ quietPorts (holdSet s).ports = quietPorts s.ports := by
  unfold holdSet
  split <;> simp [markThermal]

@[simp] theorem holdSet_grown (s : State) : grown s.ports (holdSet s).ports := by
  unfold holdSet
  split <;> simp

/-- The mark of the hold is told, its word 1 when it is set (R40; log entry 8). -/
theorem markThermal_told (b : Bool) (s : State) :
    ∃ w, told none .thermalHold .auto (if b then 1 else 0) w s (markThermal b s) := by
  have hw : markWord b = if b then 1 else 0 := by cases b <;> rfl
  rw [← hw]
  exact told_of_free { s with power := { s.power with thermalHold := b } } (grown_refl _) rfl rfl (grown_refl _)

theorem holdSet_told (s : State) (h : s.power.thermalHold = false) :
    ∃ w, told none .thermalHold .auto 1 w s (holdSet s) := by
  rw [holdSet, if_neg (by simp [h])]
  exact markThermal_told true s

theorem reportThermal_over (r : Report) (s : State) (h : r.temperature = .over) :
    reportThermal r s = overheated (holdSet s) := by simp [reportThermal, h, holdSet]

/-- Where no hold is released, a REPORT that is not OVER leaves it (R40). -/
theorem reportThermal_same (r : Report) (s : State) (h : r.temperature ≠ .over)
    (hs : r.temperature = .ok → s.power.state ≠ .standby ∧ s.power.state ≠ .fault ∧ s.power.state ≠ .unknown) :
    reportThermal r s = s := by
  unfold reportThermal
  split
  · next ht => exact absurd ht h
  · next ht =>
    obtain ⟨hstandby, hfault, hunknown⟩ := hs ht
    simp [hstandby, hfault, hunknown]
  · rfl

/-- OK releases the hold of a dark, cold lamp or of a FAULT (R40). -/
theorem reportThermal_release (r : Report) (s : State) (h : r.temperature = .ok)
    (hs : s.power.state = .standby ∨ s.power.state = .fault) :
    reportThermal r s = if s.power.thermalHold then markThermal false s else s := by
  rcases hs with hs | hs <;> simp [reportThermal, h, hs]

/-! ## The lamp's part of a REPORT, by power state (R32, R38 to R40, R43, R64) -/

theorem powerHeard_known (r : Report) (u : State) (h : u.power.state ≠ .unknown) : powerHeard r u =
    reportDeferred r (reportThermal r (reportBurning r (reportLampOut r (reportStrike r u)))) := if_neg h

theorem reportStrike_other (r : Report) (u : State)
    (h : u.power.state ≠ .igniting ∨ u.power.step = .sending ∨ r.lamp ≠ .lit) : reportStrike r u = u := by
  unfold reportStrike
  rw [if_neg]
  rcases h with h | h | h <;> simp [h]

theorem reportLampOut_other (r : Report) (u : State)
    (h : isLit u.power.state = false ∨ r.lamp ≠ .dark ∨ r.temperature = .over) : reportLampOut r u = u := by
  unfold reportLampOut
  rw [if_neg]
  rcases h with h | h | h <;> simp [h]

/-- A power state in which a lamp that burns is put out again (R39). -/
def burnsAgainst (x : PowerState) : Prop := x = .standby ∨ x = .cooling ∨ x = .fault

theorem reportBurning_other (r : Report) (u : State) (h : ¬ burnsAgainst u.power.state ∨ r.lamp = .dark) :
    reportBurning r u = u := by
  unfold reportBurning
  rw [if_neg]
  rcases h with h | h
  · have h : u.power.state ≠ .standby ∧ u.power.state ≠ .cooling ∧ u.power.state ≠ .fault := by simpa [burnsAgainst] using h
    simp [h]
  · simp [h]

theorem reportDeferred_other (r : Report) (u : State)
    (h : u.power.state ≠ .on ∨ u.power.offPending = false ∨ r.lamp = .dark) : reportDeferred r u = u := by
  unfold reportDeferred
  rw [if_neg]
  rcases h with h | h | h <;> simp [h]

/-- A sequence that the REPORT does not end goes on, but for OVER (R32, R40). -/
theorem powerHeard_igniting (r : Report) (u : State) (hs : u.power.state = .igniting)
    (h : u.power.step = .sending ∨ r.lamp ≠ .lit) : powerHeard r u =
      if r.temperature = .over then overheated (holdSet u) else u := by
  rw [powerHeard_known _ _ (by simp [hs]), reportStrike_other _ _ (.inr h),
    reportLampOut_other _ _ (.inl (by simp [hs, isLit])), reportBurning_other _ _ (.inl (by simp [hs, burnsAgainst]))]
  split
  · next ho =>
    rw [reportThermal_over _ _ ho]
    refine reportDeferred_other _ _ (.inl ?_)
    unfold overheated
    rw [holdSet_power]
    simp only [hs]
    split
    · rw [settleDark_power]; simp [placePower]
    · split <;> simp [setOff, holdSet_power, hs]
  · next ho =>
    rw [reportThermal_same _ _ ho (fun _ => by simp [hs]), reportDeferred_other _ _ (.inl (by simp [hs]))]

/-- OVER in WARMING or ON puts the lamp out (R40). -/
theorem overheated_lit (u : State) (hs : u.power.state = .warming ∨ u.power.state = .on) :
    overheated u = putOut .auto u := by
  rcases hs with hs | hs <;> simp [overheated, hs]

theorem thermalDeferred_over (r : Report) (u : State) (hs : u.power.state = .warming ∨ u.power.state = .on)
    (ho : r.temperature = .over) : reportDeferred r (reportThermal r u) = putOut .auto (holdSet u) := by
  rw [reportThermal_over _ _ ho, overheated_lit _ (by rwa [holdSet_power])]
  exact reportDeferred_other _ _ (.inl (by simp [(putOut_spec _ _).1]))

/-- A head that shows the lamp lit ends the strike: WARMING, and OVER then puts it out (R32, R40). -/
theorem powerHeard_struck (r : Report) (u : State) (hs : u.power.state = .igniting) (hstep : u.power.step ≠ .sending)
    (hl : r.lamp = .lit) : powerHeard r u =
      if r.temperature = .over then putOut .auto (holdSet (attemptSucceeds u)) else attemptSucceeds u := by
  have hw : (attemptSucceeds u).power.state = .warming := by rw [(attemptSucceeds_spec u hs).1]
  rw [powerHeard_known _ _ (by simp [hs]), show reportStrike r u = attemptSucceeds u by simp [reportStrike, hs, hstep, hl],
    reportLampOut_other _ _ (.inr (.inl (by simp [hl]))), reportBurning_other _ _ (.inl (by simp [hw, burnsAgainst]))]
  split
  · next ho => exact thermalDeferred_over _ _ (.inl hw) ho
  · next ho =>
    rw [reportThermal_same _ _ ho (fun _ => by simp [hw]), reportDeferred_other _ _ (.inl (by simp [hw]))]

/-- OVER changes no state in which the lamp is held dark outside a strike (R40). -/
theorem overheated_dark (u : State) (hs : burnsAgainst u.power.state) : overheated u = u := by
  rcases hs with hs | hs | hs <;> simp [overheated, hs]

/-- A REPORT leaves a lamp held dark outside a strike, but for the hold (R39, R40). -/
theorem reportThermal_dark (r : Report) (u : State) (hs : burnsAgainst u.power.state) :
    (reportThermal r u).lamp = u.lamp ∧
      (reportThermal r u).power = { u.power with thermalHold := (reportThermal r u).power.thermalHold } ∧
      (reportThermal r u).link = u.link := by
  by_cases ho : r.temperature = .over
  · rw [reportThermal_over _ _ ho, overheated_dark _ (by rwa [holdSet_power]), holdSet_power]
    simp
  · unfold reportThermal
    split
    · next h => exact absurd h ho
    · split <;> simp [markThermal]
    · simp

theorem powerHeard_dark (r : Report) (u : State) (hs : burnsAgainst u.power.state) :
    powerHeard r u = reportThermal r (reportBurning r u) := by
  have hfacts : u.power.state ≠ .unknown ∧ u.power.state ≠ .igniting ∧ isLit u.power.state = false ∧
      u.power.state ≠ .on := by rcases hs with hs | hs | hs <;> simp [hs, isLit]
  obtain ⟨hu, hi, hl, hon⟩ := hfacts
  rw [powerHeard_known _ _ hu, reportStrike_other _ _ (.inl hi), reportLampOut_other _ _ (.inl hl)]
  refine reportDeferred_other _ _ (.inl ?_)
  rw [(reportThermal_dark r (reportBurning r u) (by simpa using hs)).2.1]
  simpa using hon

/-- A lamp that burns against the record is sent EXTINGUISH unless one is in hand (R39). -/
theorem reportBurning_hands (r : Report) (u : State) (hs : burnsAgainst u.power.state) (hd : r.lamp ≠ .dark)
    (hl : u.link.state ≠ .lost) : messageInHand .extinguish (reportBurning r u) := by
  by_cases hi : controlInHand u .extinguish = true
  · have h : reportBurning r u = u := by simp [reportBurning, hi]
    rw [h]
    exact (typeInHand_extinguish u).mp ((controlInHand_iff _ _).mp hi)
  · have h : reportBurning r u = handControl .extinguish u := by
      unfold reportBurning
      rw [if_pos]
      rcases hs with hs | hs | hs <;> simp [hs, hd, hi]
    rw [h]
    exact .inl (handControl_mem _ _ hl)

theorem reportBurning_quiet (r : Report) (u : State) (h : r.lamp = .dark ∨ typeInHand .extinguish u) :
    reportBurning r u = u := by
  unfold reportBurning
  rw [if_neg]
  rcases h with h | h
  · simp [h]
  · simp [(controlInHand_iff _ _).mpr h]

/-- A lit lamp that the head shows lit is left, but for OVER and for a deferred off (R40, R43). -/
theorem powerHeard_lit (r : Report) (u : State) (hs : u.power.state = .warming ∨ u.power.state = .on)
    (hd : r.lamp ≠ .dark) (ho : r.temperature ≠ .over) : powerHeard r u =
      if u.power.state = .on ∧ u.power.offPending = true then putOut (offOf u) u else u := by
  have hfacts : u.power.state ≠ .unknown ∧ u.power.state ≠ .igniting ∧ u.power.state ≠ .standby ∧
      u.power.state ≠ .fault ∧ ¬ burnsAgainst u.power.state := by rcases hs with hs | hs <;> simp [hs, burnsAgainst]
  obtain ⟨hu, hi, hstandby, hfault, hb⟩ := hfacts
  rw [powerHeard_known _ _ hu, reportStrike_other _ _ (.inl hi), reportLampOut_other _ _ (.inr (.inl hd)),
    reportBurning_other _ _ (.inl hb), reportThermal_same _ _ ho (fun _ => ⟨hstandby, hfault, hu⟩)]
  unfold reportDeferred
  simp [hd]

/-- OVER puts a lit lamp out, whatever the head shows of it (R40). -/
theorem powerHeard_lit_over (r : Report) (u : State) (hs : u.power.state = .warming ∨ u.power.state = .on)
    (ho : r.temperature = .over) : powerHeard r u = putOut .auto (holdSet u) := by
  have hfacts : u.power.state ≠ .unknown ∧ u.power.state ≠ .igniting ∧ ¬ burnsAgainst u.power.state := by
    rcases hs with hs | hs <;> simp [hs, burnsAgainst]
  obtain ⟨hu, hi, hb⟩ := hfacts
  rw [powerHeard_known _ _ hu, reportStrike_other _ _ (.inl hi), reportLampOut_other _ _ (.inr (.inr ho)),
    reportBurning_other _ _ (.inl hb)]
  exact thermalDeferred_over r u hs ho

/-- A lit lamp that the head shows dark is a lamp out (R38). -/
theorem powerHeard_out (r : Report) (u : State) (hs : u.power.state = .warming ∨ u.power.state = .on)
    (hd : r.lamp = .dark) (ho : r.temperature ≠ .over) : powerHeard r u = reportLampOut r u := by
  have hfacts : u.power.state ≠ .unknown ∧ u.power.state ≠ .igniting ∧ isLit u.power.state = true := by
    rcases hs with hs | hs <;> simp [hs, isLit]
  obtain ⟨hu, hi, hl⟩ := hfacts
  have hc : (reportLampOut r u).power.state = .cooling := by
    unfold reportLampOut
    rw [if_pos (by simp [hl, hd, ho])]
    dsimp only
    split
    · simp only [setRestart]; rw [settleDark_power]; rfl
    · rw [settleDark_power]; rfl
  rw [powerHeard_known _ _ hu, reportStrike_other _ _ (.inl hi), reportBurning_other _ _ (.inr hd),
    reportThermal_same _ _ ho (fun _ => by simp [hc]), reportDeferred_other _ _ (.inl (by simp [hc]))]

end Sys2Proof.Machine
end

section
namespace Sys2Proof.Machine

/-! ## Adoption (R42) -/

/-- The state that a REPORT finds before it is adopted: its shutter, unless one is held, and the hold of OVER (R40, R42). -/
def adoptStart (r : Report) (u : State) : State :=
  if r.temperature = .over then markThermal true (adoptShutter r.shutterClosed u) else adoptShutter r.shutterClosed u

/-- The state adopted, before an intent held is applied (R42). -/
def adopted (r : Report) (u : State) : State :=
  restartSecond (firstEvaluation (setPower (adoptedState r) .auto none (adoptStart r u)))

theorem adopt_eq (r : Report) (u : State) : adopt r u = applyIntent (adopted r u) := rfl

@[simp] theorem adoptStart_frame (r : Report) (u : State) : (adoptStart r u).lamp = u.lamp ∧
    (adoptStart r u).link = u.link ∧ (adoptStart r u).store = u.store ∧ (adoptStart r u).room = u.room ∧
    quietPorts (adoptStart r u).ports = quietPorts u.ports := by
  unfold adoptStart adoptShutter
  repeat' split
  all_goals simp [markThermal, holdClosed, holdOpen]

@[simp] theorem adoptStart_grown (r : Report) (u : State) : grown u.ports (adoptStart r u).ports := by
  unfold adoptStart
  split <;> simp

/-- The shutter of the REPORT is taken unless one is held (R42). -/
def shutterAdopted (r : Report) (u : State) : Option Shutter :=
  u.power.shutter.or (some (if r.shutterClosed then .closedManual else .opened))

theorem adoptStart_power (r : Report) (u : State) : (adoptStart r u).power = { u.power with
    shutter := shutterAdopted r u, thermalHold := decide (r.temperature = .over) || u.power.thermalHold
    blankDim := (adoptStart r u).power.blankDim, dimmed := (adoptStart r u).power.dimmed } := by
  have hmark (b : Bool) (v : State) : (markThermal b v).power = { v.power with thermalHold := b } := by simp [markThermal]
  have hshut : (adoptShutter r.shutterClosed u).power = { u.power with
      shutter := shutterAdopted r u, blankDim := (adoptShutter r.shutterClosed u).power.blankDim
      dimmed := (adoptShutter r.shutterClosed u).power.dimmed } := by
    unfold adoptShutter shutterAdopted
    cases hs : u.power.shutter with
    | some x => simp [PowerUnit.eq_iff, hs]
    | none => cases r.shutterClosed <;> simp [holdClosed, holdOpen]
  unfold adoptStart
  split
  · next h => rw [hmark, hshut]; simp [h]
  · next h => rw [hshut]; simp [h]

/-- The record adopted: the state, its timers, the shutter, the hold and the mode; the intents stay (R41, R42, R44). -/
theorem adopted_power (r : Report) (u : State) (hu : u.power.state = .unknown) : (adopted r u).power =
    { placePower (adoptedState r) u.store.install u.power with
      shutter := shutterAdopted r u, thermalHold := decide (r.temperature = .over) || u.power.thermalHold
      blankDim := (adopted r u).power.blankDim, dimmed := (adopted r u).power.dimmed
      effectiveMode := (adopted r u).power.effectiveMode, modeEvaluated := (adopted r u).power.modeEvaluated } := by
  have hstart := adoptStart_power r u
  have hset := setPower_quiet (adoptedState r) .auto none (adoptStart r u) (by rw [hstart]; simp [hu, isLit])
  have hfirst (v : State) : (firstEvaluation v).power = { v.power with
      effectiveMode := (firstEvaluation v).power.effectiveMode
      modeEvaluated := (firstEvaluation v).power.modeEvaluated } := by simp [PowerUnit.eq_iff]
  have h : (adopted r u).power = _ := (restartSecond_frame _).2.2.2.2.2.2.2.2.2.1.trans (hfirst _)
  rw [h, hset, hstart]
  simp [placePower]

/-- A lamp adopted lit begins its burn second (R3, R42). -/
theorem adopted_burn (r : Report) (u : State) (hu : u.power.state = .unknown) (h : isLit (adoptedState r) = true) :
    (adopted r u).lamp.burn = some 0 := by
  have hs : (firstEvaluation (setPower (adoptedState r) .auto none (adoptStart r u))).power.state = adoptedState r := by
    have := congrArg PowerUnit.state (adopted_power r u hu)
    simpa [adopted, placePower] using this
  unfold adopted restartSecond
  rw [hs, if_pos h]
  rfl

/-- A lamp adopted dark and cold leaves the lamp account (R42). -/
theorem adopted_standby_lamp (r : Report) (u : State) (hu : u.power.state = .unknown) (h : adoptedState r = .standby) :
    (adopted r u).lamp.hotWindow = u.lamp.hotWindow ∧ (adopted r u).lamp.level = u.lamp.level ∧
      (adopted r u).lamp.replaceInFlight = u.lamp.replaceInFlight := by
  have hdark : isLit (adoptStart r u).power.state = false := by rw [adoptStart_power]; simp [hu, isLit]
  have hlamp := setPower_lamp .standby .auto none _ hdark rfl (by decide)
  unfold adopted
  rw [h]
  simp [hlamp]

/-- A lamp adopted hot starts the hot window (R5, R42). -/
theorem adopted_cooling_lamp (r : Report) (u : State) (h : adoptedState r = .cooling) :
    (adopted r u).lamp.hotWindow = some 1800000 := by
  unfold adopted
  rw [h]
  simp [(setPower_cooling .auto none (adoptStart r u)).1]

@[simp] theorem adopted_frame (r : Report) (u : State) : (adopted r u).link.state = u.link.state ∧
    (adopted r u).link.outstanding = u.link.outstanding ∧
    (adopted r u).store.loaded = u.store.loaded ∧ (adopted r u).store.install = u.store.install ∧
    (adopted r u).room = u.room ∧ quietPorts (adopted r u).ports = quietPorts u.ports := by
  simp [adopted]

@[simp] theorem adopted_grown (r : Report) (u : State) : grown u.ports (adopted r u).ports := by
  simp [adopted]

/-- The adoption is told with AUTO (R26, R42). -/
theorem adopted_told (r : Report) (u : State) (hu : u.power.state = .unknown) :
    toldPower none .auto .unknown (adoptedState r) none u (adopted r u) := by
  have h := setPower_told (adoptedState r) .auto none (adoptStart r u)
  rw [show (adoptStart r u).power.state = .unknown by rw [adoptStart_power]; exact hu] at h
  exact told_later (told_since (by simp) (by simp) (by simp) h) (by simp [adopted])

/-! ## The intent held at adoption (R41, R42) -/

theorem applyIntent_none (v : State) (hr : v.power.restartPending = false) (ho : v.power.offPending = false) :
    applyIntent v = v := by simp [applyIntent, hr, ho]

/-- A lamp adopted lit satisfies a POWER ON held (R42). -/
theorem applyIntent_on_lit (v : State) (hr : v.power.restartPending = true) (hs : isLit v.power.state = true) :
    (applyIntent v).power.state = v.power.state ∧ (applyIntent v).power.restartPending = false := by
  cases h : v.power.state <;> simp_all [applyIntent, isLit]

theorem applyIntent_on_cooling (v : State) (hs : v.power.state = .cooling) (hr : v.power.restartPending = true) :
    applyIntent v = v := by simp [applyIntent, hr, hs]

/-- In STANDBY a POWER ON held waits for the load (R41, R42). -/
theorem applyIntent_on_waits (v : State) (hs : v.power.state = .standby) (hr : v.power.restartPending = true)
    (hl : v.store.loaded = false) : applyIntent v = v := by simp [applyIntent, applyOnInStandby, hr, hs, hl]

theorem applyIntent_on_strikes (v : State) (hs : v.power.state = .standby) (hr : v.power.restartPending = true)
    (hl : v.store.loaded = true) (ht : refusalTest v (ignitionOf v) = none) :
    applyIntent v = beginSequence (ignitionOf v) v := by
  simp only [applyIntent, applyOnInStandby, hr, hs, hl, ht]
  rfl

theorem applyIntent_on_refused (v : State) (x : Reason) (hs : v.power.state = .standby)
    (hr : v.power.restartPending = true) (hl : v.store.loaded = true) (ht : refusalTest v (ignitionOf v) = some x) :
    applyIntent v = tellDropped (ignitionOf v) x (settleDark .standby (ignitionOf v) (some x) v) := by
  simp only [applyIntent, applyOnInStandby, hr, hs, hl, ht]
  rfl

/-- A lamp adopted ON is put out for a POWER OFF held (R42). -/
theorem applyIntent_off_on (v : State) (hs : v.power.state = .on) (hr : v.power.restartPending = false)
    (ho : v.power.offPending = true) (hl : v.link.state ≠ .lost) : applyIntent v =
      putOut (offOf v) { v with power := { v.power with offPending := false, offOrigin := none } } := by
  simp [applyIntent, powerOff, hr, ho, hs, hl]

theorem applyIntent_off_warming (v : State) (hs : v.power.state = .warming) (hr : v.power.restartPending = false) :
    applyIntent v = v := by simp [applyIntent, hr, hs]

theorem applyIntent_off_dark (v : State) (hs : v.power.state = .cooling ∨ v.power.state = .standby)
    (hr : v.power.restartPending = false) (ho : v.power.offPending = true) :
    applyIntent v = { v with power := { v.power with offPending := false, offOrigin := none } } := by
  rcases hs with hs | hs <;> simp [applyIntent, hr, ho, hs]

/-- A change of power state keeps the shutter and the hold (R26). -/
@[simp] theorem setPower_keeps (dest : PowerState) (o : Origin) (r : Option Reason) (v : State) :
    (setPower dest o r v).power.shutter = v.power.shutter ∧
      (setPower dest o r v).power.thermalHold = v.power.thermalHold := by
  rw [setPower_power]
  exact ⟨rfl, rfl⟩

@[simp] theorem settleDark_keeps (dest : PowerState) (o : Origin) (r : Option Reason) (v : State) :
    (settleDark dest o r v).power.shutter = v.power.shutter ∧
      (settleDark dest o r v).power.thermalHold = v.power.thermalHold := by simp [settleDark, clearIntents]

@[simp] theorem putOut_keeps (o : Origin) (v : State) : (putOut o v).power.shutter = v.power.shutter ∧
    (putOut o v).power.thermalHold = v.power.thermalHold := by simp [putOut]

@[simp] theorem beginSequence_keeps (o : Origin) (v : State) : (beginSequence o v).power.shutter = v.power.shutter ∧
    (beginSequence o v).power.thermalHold = v.power.thermalHold := by simp [beginSequence, beginAttempt, clearIntents]

theorem applyOnInStandby_keeps (v : State) : (applyOnInStandby v).power.shutter = v.power.shutter ∧
    (applyOnInStandby v).power.thermalHold = v.power.thermalHold := by
  unfold applyOnInStandby
  split
  · split <;> simp
  · exact ⟨rfl, rfl⟩

theorem powerOff_keeps (o : Origin) (v : State) : (powerOff o v).2.power.shutter = v.power.shutter ∧
    (powerOff o v).2.power.thermalHold = v.power.thermalHold := by
  unfold powerOff
  repeat' split
  all_goals simp [setOff]

/-- No intent moves the shutter or the hold (R42). -/
theorem applyIntent_keeps (v : State) : (applyIntent v).power.shutter = v.power.shutter ∧
    (applyIntent v).power.thermalHold = v.power.thermalHold := by
  unfold applyIntent
  repeat' split
  all_goals simp [applyOnInStandby_keeps, powerOff_keeps]

end Sys2Proof.Machine
end

section
namespace Sys2Proof.Machine

/-! ## What a REPORT keeps of the shutter and of the hold (R40, R46) -/

theorem overheated_keeps (v : State) : (overheated v).power.shutter = v.power.shutter ∧
    (overheated v).power.thermalHold = v.power.thermalHold := by
  unfold overheated
  repeat' split
  all_goals simp [setOff]

theorem reportStrike_keeps (r : Report) (v : State) : (reportStrike r v).power.shutter = v.power.shutter ∧
    (reportStrike r v).power.thermalHold = v.power.thermalHold := by
  unfold reportStrike
  split <;> simp [attemptSucceeds]

theorem reportLampOut_keeps (r : Report) (v : State) : (reportLampOut r v).power.shutter = v.power.shutter ∧
    (reportLampOut r v).power.thermalHold = v.power.thermalHold := by
  unfold reportLampOut
  dsimp only
  repeat' split
  all_goals simp [setRestart]

theorem reportDeferred_keeps (r : Report) (v : State) : (reportDeferred r v).power.shutter = v.power.shutter ∧
    (reportDeferred r v).power.thermalHold = v.power.thermalHold := by
  unfold reportDeferred
  split <;> simp

theorem reportThermal_shutter (r : Report) (v : State) : (reportThermal r v).power.shutter = v.power.shutter := by
  by_cases ho : r.temperature = .over
  · rw [reportThermal_over _ _ ho, (overheated_keeps _).1, holdSet_power]
  · unfold reportThermal
    split
    · next h => exact absurd h ho
    · split <;> simp [markThermal]
    · rfl

/-- The lamp as the strike, a lamp out and a burning lamp leave it, before the temperature is read (R64). -/
def lampHeard (r : Report) (u : State) : State := reportBurning r (reportLampOut r (reportStrike r u))

theorem powerHeard_eq (r : Report) (u : State) (h : u.power.state ≠ .unknown) :
    powerHeard r u = reportDeferred r (reportThermal r (lampHeard r u)) := powerHeard_known r u h

theorem lampHeard_keeps (r : Report) (u : State) : (lampHeard r u).power.shutter = u.power.shutter ∧
    (lampHeard r u).power.thermalHold = u.power.thermalHold := by
  simp [lampHeard, reportLampOut_keeps, reportStrike_keeps]

/-- A strike that succeeds is in WARMING and a lamp out in COOLING; no other state changes (R32, R38). -/
theorem lampHeard_state (r : Report) (u : State) : (lampHeard r u).power.state = u.power.state ∨
    (lampHeard r u).power.state = .warming ∨ (lampHeard r u).power.state = .cooling := by
  have hstrike : (reportStrike r u).power.state = u.power.state ∨ (reportStrike r u).power.state = .warming := by
    unfold reportStrike
    split
    · right
      unfold attemptSucceeds
      rw [setPower_power]
      rfl
    · exact .inl rfl
  have hout (v : State) : (reportLampOut r v).power.state = v.power.state ∨ (reportLampOut r v).power.state = .cooling := by
    unfold reportLampOut
    dsimp only
    repeat' split
    · right; simp only [setRestart]; rw [settleDark_power]; rfl
    · right; rw [settleDark_power]; rfl
    · exact .inl rfl
  have h : (lampHeard r u).power.state = (reportLampOut r (reportStrike r u)).power.state := by simp [lampHeard]
  rw [h]
  rcases hout (reportStrike r u) with ho | ho
  · rw [ho]
    exact hstrike.imp id .inl
  · exact .inr (.inr ho)

/-- A shutter that is held stays as it is through a REPORT (R42, R46). -/
theorem powerHeard_shutter (r : Report) (u : State) (h : Shutter) (hs : u.power.shutter = some h) :
    (powerHeard r u).power.shutter = some h := by
  by_cases hu : u.power.state = .unknown
  · rw [powerHeard, if_pos hu, adopt_eq, (applyIntent_keeps _).1, adopted_power r u hu]
    simp [shutterAdopted, hs]
  · rw [powerHeard_eq r u hu, (reportDeferred_keeps _ _).1, reportThermal_shutter, (lampHeard_keeps _ _).1, hs]

/-- WARM leaves the hold (R40). -/
theorem powerHeard_hold_warm (r : Report) (u : State) (hw : r.temperature = .warm) :
    (powerHeard r u).power.thermalHold = u.power.thermalHold := by
  by_cases hu : u.power.state = .unknown
  · rw [powerHeard, if_pos hu, adopt_eq, (applyIntent_keeps _).2, adopted_power r u hu]
    simp [hw]
  · rw [powerHeard_eq r u hu, (reportDeferred_keeps _ _).2, reportThermal_same _ _ (by simp [hw]) (by simp [hw]),
      (lampHeard_keeps _ _).2]

/-- OK leaves the hold outside STANDBY, FAULT and UNKNOWN (R40). -/
theorem powerHeard_hold_ok (r : Report) (u : State) (hk : r.temperature = .ok) (hs : u.power.state ≠ .standby)
    (hf : u.power.state ≠ .fault) (hu : u.power.state ≠ .unknown) :
    (powerHeard r u).power.thermalHold = u.power.thermalHold := by
  rw [powerHeard_eq r u hu, (reportDeferred_keeps _ _).2, reportThermal_same _ _ (by simp [hk]) (fun _ => ?_),
    (lampHeard_keeps _ _).2]
  rcases lampHeard_state r u with h | h | h <;> simp [h, hs, hf, hu]

/-- OVER sets the hold, and tells of it where it did not stand (R40). -/
theorem powerHeard_hold_over (r : Report) (u : State) (ho : r.temperature = .over) (hu : u.power.state ≠ .unknown) :
    (powerHeard r u).power.thermalHold = true ∧
      (u.power.thermalHold = false → ∃ w, told none .thermalHold .auto 1 w u (powerHeard r u)) := by
  rw [powerHeard_eq r u hu, reportThermal_over _ _ ho]
  refine ⟨?_, fun hf => ?_⟩
  · rw [(reportDeferred_keeps _ _).2, (overheated_keeps _).2, holdSet_power]
  · obtain ⟨w, hw⟩ := holdSet_told (lampHeard r u) (by rw [(lampHeard_keeps _ _).2, hf])
    have hold : told none .thermalHold .auto 1 w u (holdSet (lampHeard r u)) :=
      told_since (by simp [lampHeard]) (by simp [lampHeard]) (by simp [lampHeard]) hw
    exact ⟨w, told_later hold (by simp)⟩

/-! ## Lamp out (R38) -/

/-- The lamp out told, and the lamp held dark, in COOLING (R38). -/
def lampOutTold (u : State) : State :=
  settleDark .cooling .auto none
    (post .lampOut .auto (some (word (position powerStateList u.power.state)))
      (some (markWord (u.room.state == .occupied && !u.power.offPending))) u)

theorem reportLampOut_eq (r : Report) (u : State) (hs : isLit u.power.state = true) (hd : r.lamp = .dark)
    (ho : r.temperature ≠ .over) : reportLampOut r u =
      if u.room.state = .occupied ∧ u.power.offPending = false then setRestart .auto (lampOutTold u) else lampOutTold u := by
  unfold reportLampOut
  rw [if_pos (by simp [hs, hd, ho])]
  simp [lampOutTold]

theorem lampOutTold_spec (u : State) (hs : isLit u.power.state = true) :
    (lampOutTold u).power.state = .cooling ∧ (lampOutTold u).power.offPending = false ∧
      (lampOutTold u).power.restartPending = false ∧
      (lampOutTold u).power.coolingTimer = some (u.store.install.coolingTime * 1000) ∧
      (lampOutTold u).lamp.hotWindow = some 1800000 ∧ (lampOutTold u).lamp.burn = none ∧
      sameButModes u.link.control (lampOutTold u).link.control := by
  have hpow : (lampOutTold u).power = _ := settleDark_power _ _ _ _
  have hcool := setPower_cooling .auto none { (post .lampOut .auto (some (word (position powerStateList u.power.state)))
      (some (markWord (u.room.state == .occupied && !u.power.offPending))) u) with power := clearIntents u.power }
  refine ⟨?_, ?_, ?_, ?_, hcool.1, hcool.2 hs, by simp [lampOutTold]⟩
  · rw [hpow]; rfl
  · rw [hpow]; rfl
  · rw [hpow]; rfl
  · rw [hpow]; simp [placePower]

theorem lampOutTold_told (u : State) : toldPower none .auto u.power.state .cooling none u (lampOutTold u) ∧
    told none .lampOut .auto (word (position powerStateList u.power.state))
      (if u.room.state = .occupied ∧ u.power.offPending = false then 1 else 0) u (lampOutTold u) := by
  have hw : markWord (u.room.state == .occupied && !u.power.offPending) =
      if u.room.state = .occupied ∧ u.power.offPending = false then 1 else 0 := by
    cases hr : u.room.state <;> cases ho : u.power.offPending <;> rfl
  constructor
  · have h := settleDark_told .cooling .auto none (post .lampOut .auto (some (word (position powerStateList u.power.state)))
      (some (markWord (u.room.state == .occupied && !u.power.offPending))) u)
    exact told_since (s := u) (by simp) (by simp) (by simp) h
  · rw [← hw]
    exact told_of u (grown_refl _) rfl rfl (settleDark_grown _ _ _ _ _ (grown_refl _))

end Sys2Proof.Machine
end

section
namespace Sys2Proof.Machine

/-! ## A REPORT taken, clause by clause (R32, R38 to R40, R43, R46, R99) -/

/-- The state after a REPORT that is no restart, on a link that is not LOST (R64). -/
def reportDone (r : Report) (s : State) : State := reportEnds r (powerHeard r (reportHeard r s))

theorem reportDone_power (r : Report) (s : State) : (reportDone r s).power = (powerHeard r (reportHeard r s)).power ∧
    (reportDone r s).lamp = (powerHeard r (reportHeard r s)).lamp := by simp [reportDone]

/-- The geometry moves to APPLIED where the REPORT shows the set (R99). -/
theorem reportDone_shown (r : Report) (s : State) (hp : s.geometry.status = .pending)
    (ha : s.geometry.commitAcked = true) (hn : r.committed = some s.geometry.setNumber) :
    (reportDone r s).geometry = { s.geometry with status := .applied } ∧
    ∀ g n c, s.geometry.current = some g → s.geometry.active = some (n, c) →
      told none .geometryApplied .auto (s.geometry.setNumber.setWidth 16)
        (pairWord (if g.limited then 1 else 0) n.val) s (reportDone r s) := by
  have hgeo : (powerReport r (reportHeard r s)).geometry = s.geometry := by simp
  obtain ⟨happlied, htold⟩ := geometryReport_shown r.committed (powerReport r (reportHeard r s)) (by rwa [hgeo])
    (by rwa [hgeo]) (by rwa [hgeo])
  rw [hgeo] at happlied htold
  refine ⟨?_, fun g n c hg hc => ?_⟩
  · rw [← happlied]
    simp [reportDone, powerReport_eq]
  · exact told_later (told_since (s := s) (by simp) (by simp) (by simp) (htold g n c hg hc))
      (by simp [reportDone, reportEnds, powerReport_eq])

theorem reportDone_hidden (r : Report) (s : State) (h : ¬ (s.geometry.status = .pending ∧
    s.geometry.commitAcked = true ∧ r.committed = some s.geometry.setNumber)) :
    (reportDone r s).geometry = s.geometry := by
  have hgeo : (powerReport r (reportHeard r s)).geometry = s.geometry := by simp
  have hsame := geometryReport_hidden r.committed (powerReport r (reportHeard r s)) (by rwa [hgeo])
  rw [← hgeo, ← hsame]
  simp [reportDone, powerReport_eq]

theorem powerHeard_link (r : Report) (u : State) : (powerHeard r u).link.state = u.link.state ∧
    (powerHeard r u).link.outstanding = u.link.outstanding := by
  have hstate : (powerReport r u).link.state = u.link.state := by simp
  have hout : (powerReport r u).link.outstanding = u.link.outstanding := by simp
  rw [powerReport_eq] at hstate hout
  exact ⟨by simpa using hstate, by simpa using hout⟩

/-- A shutter that is not the one held is sent again, and no other message of the type (R46). -/
theorem reportDone_shutter (r : Report) (s : State) (h : Shutter) (hs : s.power.shutter = some h) :
    (reportDone r s).power.shutter = some h ∧
      (decide (h ≠ .opened) ≠ r.shutterClosed → ¬ typeInHand .shutter s →
        messageInHand (.shutter (decide (h ≠ .opened))) (reportDone r s)) ∧
      ((decide (h ≠ .opened) = r.shutterClosed ∨ typeInHand .shutter s) →
        ∀ b, .shutter b ∈ (reportDone r s).link.control → .shutter b ∈ s.link.control) := by
  have hheld := powerHeard_shutter r (reportHeard r s) h hs
  have hlink : (powerHeard r (reportHeard r s)).link.state ≠ .lost := by
    rw [(powerHeard_link _ _).1]
    simp [heard]
  refine ⟨by rw [(reportDone_power r s).1, hheld], fun hd hi => ?_, fun hq b hb => ?_⟩
  · have hm := reportShutter_hands r _ h hheld hd (by rwa [typeInHand_heard]) hlink
    exact finish_hands (by simpa using hm)
  · have hm := mem_reportEnds hb
    rw [reportShutter_quiet r _ h hheld (by rwa [typeInHand_heard]), powerHeard_beside _ _ _ (besidePower_shutter b)] at hm
    exact hm

/-- LIT in AWAITING RESULT or PAUSE is a success (R32). -/
theorem reportDone_struck (r : Report) (s : State) (hi : s.power.state = .igniting) (ho : r.temperature ≠ .over)
    (hstep : s.power.step ≠ .sending) (hl : r.lamp = .lit) :
    (reportDone r s).power = { s.power with
      state := .warming, attempt := 0, strikeTimer := none, pauseTimer := none
      warmingTimer := some (s.store.install.warmingTime * 1000), coolingTimer := none } ∧
    (reportDone r s).lamp.account = s.lamp.account ∧ (reportDone r s).lamp.burn = some 0 ∧
    toldPower (originPort (ignitionOf s)) (ignitionOf s) .igniting .warming none s (reportDone r s) := by
  obtain ⟨hpower, hlamp, htold⟩ := attemptSucceeds_spec (reportHeard r s) hi
  have he := powerHeard_struck r (reportHeard r s) hi hstep hl
  rw [if_neg ho] at he
  obtain ⟨hp, hm⟩ := reportDone_power r s
  rw [hp, hm, he, hpower, hlamp]
  refine ⟨rfl, rfl, rfl, ?_⟩
  rw [← he] at htold
  exact told_report htold

/-- A strike that awaits its IGNITE, or that the head shows not lit, goes on (R32). -/
theorem reportDone_igniting (r : Report) (s : State) (hi : s.power.state = .igniting) (ho : r.temperature ≠ .over)
    (h : s.power.step = .sending ∨ r.lamp ≠ .lit) : (reportDone r s).power = s.power ∧ (reportDone r s).lamp = s.lamp := by
  obtain ⟨hp, hm⟩ := reportDone_power r s
  rw [hp, hm, powerHeard_igniting r (reportHeard r s) hi h, if_neg ho]
  exact ⟨rfl, rfl⟩

/-- A lamp held dark outside a strike stays so; one that burns is sent EXTINGUISH, unless one is in hand (R39). -/
theorem reportDone_dark (r : Report) (s : State) (hs : burnsAgainst s.power.state) :
    (reportDone r s).lamp = s.lamp ∧
      (reportDone r s).power = { s.power with thermalHold := (reportDone r s).power.thermalHold } ∧
      (r.lamp ≠ .dark → typeInHand .extinguish (reportDone r s)) ∧
      ((r.lamp = .dark ∨ typeInHand .extinguish s) → .extinguish ∈ (reportDone r s).link.control →
        .extinguish ∈ s.link.control) := by
  have he := powerHeard_dark r (reportHeard r s) hs
  obtain ⟨hlamp, hpower, hlink⟩ := reportThermal_dark r (reportBurning r (reportHeard r s)) (by simpa using hs)
  rw [← he] at hlamp hpower hlink
  obtain ⟨hp, hm⟩ := reportDone_power r s
  refine ⟨by rw [hm, hlamp]; simp, ?_, fun hd => ?_, fun hq hx => ?_⟩
  · rw [hp, hpower]; simp
  · rw [typeInHand_extinguish, reportDone, reportEnds_inHand _ _ _ (by simp [controlType])]
    have h := reportBurning_hands r (reportHeard r s) hs hd (by simp [heard])
    unfold messageInHand at h ⊢
    rwa [hlink]
  · have hx := (reportShutter_other _ _ _ (by simp [controlType])).mp (mem_reportEnds hx)
    rw [hlink, reportBurning_quiet r (reportHeard r s) hq] at hx
    exact hx

/-- The lamp put out by a REPORT: EXTINGUISH is in hand, no intent is left, and the change is told (R40, R43). -/
theorem putOut_reported (r : Report) (o : Origin) (s v : State) (x : PowerState)
    (he : powerHeard r (reportHeard r s) = putOut o v) (hx : v.power.state = x) (hl : v.link.state ≠ .lost)
    (hg : grown (reportHeard r s).ports v.ports) (hq : quietPorts v.ports = quietPorts (reportHeard r s).ports)
    (hc : v.room = s.room) : (reportDone r s).power.state = .cooling ∧ messageInHand .extinguish (reportDone r s) ∧
      (reportDone r s).power.offPending = false ∧ (reportDone r s).power.restartPending = false ∧
      (reportDone r s).power.ignitionOrigin = none ∧ toldPower (originPort o) o x .cooling none s (reportDone r s) := by
  obtain ⟨hp, -⟩ := reportDone_power r s
  have htold := (putOut_spec o v).2.1
  rw [← he, hx] at htold
  refine ⟨?_, ?_, ?_, ?_, ?_, told_report (told_since hg hq (congrArg RoomUnit.clock hc) htold)⟩
  · rw [hp, he, putOut_power]
  · rw [reportDone, reportEnds_inHand _ _ _ (by simp [controlType]), he]
    exact .inl (putOut_extinguish o v hl)
  all_goals rw [hp, he, putOut_power]

/-- OVER puts a lit lamp out (R40). -/
theorem reportDone_lit_over (r : Report) (s : State) (hs : s.power.state = .warming ∨ s.power.state = .on)
    (ho : r.temperature = .over) : (reportDone r s).power.state = .cooling ∧
      messageInHand .extinguish (reportDone r s) ∧ (reportDone r s).power.offPending = false ∧
      (reportDone r s).power.restartPending = false ∧ (reportDone r s).power.ignitionOrigin = none ∧
      toldPower none .auto s.power.state .cooling none s (reportDone r s) :=
  putOut_reported r .auto s (holdSet (reportHeard r s)) _ (powerHeard_lit_over r _ hs ho)
    (by rw [holdSet_power]; rfl) (by simp [heard]) (holdSet_grown _) (by simp) (by simp)

/-- A deferred off is carried out in ON (R43). -/
theorem reportDone_deferred (r : Report) (s : State) (hs : s.power.state = .on) (hoff : s.power.offPending = true)
    (hd : r.lamp ≠ .dark) (ho : r.temperature ≠ .over) : (reportDone r s).power.state = .cooling ∧
      messageInHand .extinguish (reportDone r s) ∧ (reportDone r s).power.offPending = false ∧
      (reportDone r s).power.restartPending = false ∧ (reportDone r s).power.ignitionOrigin = none ∧
      toldPower (originPort (offOf s)) (offOf s) .on .cooling none s (reportDone r s) := by
  have he := powerHeard_lit r (reportHeard r s) (.inr hs) hd ho
  rw [if_pos ⟨hs, hoff⟩] at he
  exact putOut_reported r (offOf s) s (reportHeard r s) _ he hs (by simp [heard]) (grown_refl _) rfl rfl

/-- A lit lamp that the head shows lit stays as it is (R64). -/
theorem reportDone_lit (r : Report) (s : State)
    (hs : s.power.state = .warming ∨ (s.power.state = .on ∧ s.power.offPending = false)) (hd : r.lamp ≠ .dark)
    (ho : r.temperature ≠ .over) : (reportDone r s).power = s.power ∧ (reportDone r s).lamp = s.lamp := by
  obtain ⟨hp, hm⟩ := reportDone_power r s
  have he := powerHeard_lit r (reportHeard r s) (hs.imp id And.left) hd ho
  rw [if_neg (by rcases hs with hs | ⟨-, hs⟩ <;> simp [hs])] at he
  rw [hp, hm, he]
  exact ⟨rfl, rfl⟩

/-- OVER abandons a pause (R40). -/
theorem reportDone_pause_over (r : Report) (s : State) (hi : s.power.state = .igniting) (hstep : s.power.step = .pause)
    (hl : r.lamp ≠ .lit) (ho : r.temperature = .over) : (reportDone r s).power.state = .standby ∧
      (reportDone r s).power.attempt = 0 ∧ (reportDone r s).power.pauseTimer = none ∧
      (reportDone r s).power.ignitionOrigin = none ∧
      toldPower (originPort (ignitionOf s)) (ignitionOf s) .igniting .standby (some .thermalHold) s (reportDone r s) := by
  have hpow := holdSet_power (reportHeard r s)
  have hi' : (holdSet (reportHeard r s)).power.state = .igniting := by rw [hpow]; exact hi
  have he : powerHeard r (reportHeard r s) =
      settleDark .standby (ignitionOf s) (some .thermalHold) (holdSet (reportHeard r s)) := by
    rw [powerHeard_igniting r (reportHeard r s) hi (.inr hl), if_pos ho]
    simp [overheated, hpow, hi, hstep, ignitionOf]
  have htold := settleDark_told .standby (ignitionOf s) (some .thermalHold) (holdSet (reportHeard r s))
  rw [← he, hi'] at htold
  have hend := settleDark_standby_power (ignitionOf s) (some .thermalHold) _ (by rw [hi']; rfl)
  rw [(reportDone_power r s).1, he, hend]
  exact ⟨rfl, rfl, rfl, rfl, told_report (told_since (holdSet_grown _) (by simp) (by simp) htold)⟩

/-- OVER sets an off pending in a strike under way, with AUTO unless one stands (R40). -/
theorem reportDone_strike_over (r : Report) (s : State) (hi : s.power.state = .igniting) (hstep : s.power.step ≠ .pause)
    (h : s.power.step = .sending ∨ r.lamp ≠ .lit) (ho : r.temperature = .over) :
    (reportDone r s).power = { s.power with
      thermalHold := true, offPending := true
      offOrigin := if s.power.offPending then s.power.offOrigin else some .auto } := by
  rw [(reportDone_power r s).1, powerHeard_igniting r (reportHeard r s) hi h, if_pos ho]
  have hpow := holdSet_power (reportHeard r s)
  unfold overheated
  rw [hpow]
  simp only [reportHeard_frame, hi, hstep, if_false]
  split
  · next hoff => rw [hpow]; simp [hoff, hi]
  · next hoff => simp [setOff, hpow, hoff, hi]

/-- OVER sets the hold and tells of it (R40). -/
theorem reportDone_over (r : Report) (s : State) (ho : r.temperature = .over) (hu : s.power.state ≠ .unknown) :
    (reportDone r s).power.thermalHold = true ∧
      (s.power.thermalHold = false → ∃ w, told none .thermalHold .auto 1 w s (reportDone r s)) := by
  obtain ⟨hhold, htold⟩ := powerHeard_hold_over r (reportHeard r s) ho hu
  refine ⟨by rw [(reportDone_power r s).1, hhold], fun hf => ?_⟩
  obtain ⟨w, hw⟩ := htold hf
  exact ⟨w, told_report hw⟩

/-- OK releases the hold in STANDBY and FAULT, and tells of it (R40). -/
theorem reportDone_release (r : Report) (s : State) (hk : r.temperature = .ok)
    (hs : s.power.state = .standby ∨ s.power.state = .fault) : (reportDone r s).power.thermalHold = false ∧
      (s.power.thermalHold = true → ∃ w, told none .thermalHold .auto 0 w s (reportDone r s)) := by
  have hb : burnsAgainst (reportHeard r s).power.state := hs.imp id .inr
  have he := powerHeard_dark r (reportHeard r s) hb
  rw [reportThermal_release r _ hk (by simpa using hs)] at he
  have hhold : (reportBurning r (reportHeard r s)).power.thermalHold = s.power.thermalHold := by simp
  rw [hhold] at he
  rw [(reportDone_power r s).1, he]
  refine ⟨?_, fun ht => ?_⟩
  · split
    · simp [markThermal]
    · next ht => simpa using ht
  · rw [if_pos ht] at he
    obtain ⟨w, hw⟩ := markThermal_told false (reportBurning r (reportHeard r s))
    rw [← he] at hw
    exact ⟨w, told_report (told_since (by simp) (by simp) (by simp) hw)⟩

end Sys2Proof.Machine
end

section
namespace Sys2Proof.Machine

/-! ## Adoption by a REPORT (R41, R42) -/

theorem powerHeard_unknown (r : Report) (u : State) (hu : u.power.state = .unknown) :
    powerHeard r u = applyIntent (adopted r u) := if_pos hu

/-- The intents meet the adopted record as they were held (R41). -/
theorem adopted_intents (r : Report) (s : State) (hu : s.power.state = .unknown) :
    let v := adopted r (reportHeard r s)
    v.power.state = adoptedState r ∧ v.power.restartPending = s.power.restartPending ∧
      v.power.offPending = s.power.offPending ∧ v.power.ignitionOrigin = s.power.ignitionOrigin ∧
      ignitionOf v = ignitionOf s := by
  have hp := adopted_power r (reportHeard r s) hu
  dsimp only
  unfold ignitionOf
  rw [hp]
  exact ⟨rfl, rfl, rfl, rfl, rfl⟩

/-- Adoption with no intent held (R42). -/
theorem reportDone_adopts (r : Report) (s : State) (hu : s.power.state = .unknown)
    (hon : s.power.restartPending = false) (hoff : s.power.offPending = false) :
    (reportDone r s).power = (adopted r (reportHeard r s)).power ∧
      (reportDone r s).lamp = (adopted r (reportHeard r s)).lamp ∧
      toldPower none .auto .unknown (adoptedState r) none s (reportDone r s) := by
  obtain ⟨-, hr, ho, -, -⟩ := adopted_intents r s hu
  have he := powerHeard_unknown r (reportHeard r s) hu
  rw [applyIntent_none _ (hr.trans hon) (ho.trans hoff)] at he
  obtain ⟨hp, hm⟩ := reportDone_power r s
  have htold := adopted_told r (reportHeard r s) hu
  rw [← he] at htold
  rw [hp, hm, he]
  exact ⟨rfl, rfl, told_report htold⟩

/-- The record of a REPORT adopted with no intent held (R42). -/
theorem reportDone_adopted (r : Report) (s : State) (hu : s.power.state = .unknown)
    (hon : s.power.restartPending = false) (hoff : s.power.offPending = false) : let t := reportDone r s
    (r.temperature = .over → t.power.state = .cooling ∧ t.power.thermalHold = true) ∧
    (r.temperature ≠ .over → t.power.thermalHold = s.power.thermalHold ∧
      (r.lamp = .lit → t.power.state = .on ∧ t.lamp.burn = some 0) ∧
      (r.lamp = .striking → t.power.state = .warming ∧ t.lamp.burn = some 0 ∧
        t.power.warmingTimer = some (s.store.install.warmingTime * 1000)) ∧
      (r.lamp = .dark → r.hot = true → t.power.state = .cooling) ∧
      (r.lamp = .dark → r.hot = false → t.power.state = .standby ∧ t.lamp.hotWindow = s.lamp.hotWindow)) ∧
    (t.power.state = .cooling → t.power.coolingTimer = some (s.store.install.coolingTime * 1000) ∧
      t.lamp.hotWindow = some 1800000) ∧
    t.power.shutter = shutterAdopted r s := by
  obtain ⟨hp, hm, -⟩ := reportDone_adopts r s hu hon hoff
  have hpow := adopted_power r (reportHeard r s) hu
  have hstate : (adopted r (reportHeard r s)).power.state = adoptedState r := by rw [hpow]; rfl
  dsimp only
  rw [hp, hm]
  refine ⟨fun ho => ⟨?_, ?_⟩, fun ho => ⟨?_, fun hl => ⟨?_, ?_⟩, fun hl => ⟨?_, ?_, ?_⟩, fun hl hh => ?_,
    fun hl hh => ⟨?_, ?_⟩⟩, fun hc => ⟨?_, ?_⟩, ?_⟩
  · simp [hstate, adoptedState, ho]
  · rw [hpow]; simp [ho]
  · rw [hpow]; simp [ho]
  · simp [hstate, adoptedState, ho, hl]
  · exact adopted_burn r _ hu (by simp [adoptedState, ho, hl, isLit])
  · simp [hstate, adoptedState, ho, hl]
  · exact adopted_burn r _ hu (by simp [adoptedState, ho, hl, isLit])
  · rw [hpow]; simp [placePower, adoptedState, ho, hl]
  · simp [hstate, adoptedState, ho, hl, hh]
  · simp [hstate, adoptedState, ho, hl, hh]
  · exact (adopted_standby_lamp r (reportHeard r s) hu (by simp [adoptedState, ho, hl, hh])).1
  · rw [hpow]; simp [placePower, hstate.symm.trans hc]
  · exact adopted_cooling_lamp r _ (hstate.symm.trans hc)
  · rw [hpow]; rfl

/-- The refusal test of a POWER ON held, met in STANDBY on a link that is PRESENT (R27, R42). -/
theorem refusalTest_adopted (r : Report) (s : State) (o : Origin) (hu : s.power.state = .unknown)
    (ha : adoptedState r = .standby) (ho : r.temperature ≠ .over) : refusalTest (adopted r (reportHeard r s)) o =
      if s.lamp.replaceInFlight then some .lampChangeInProgress
      else if s.lamp.level = some .hardStop ∧ o ≠ .service then some .lampExpired
      else if s.power.thermalHold then some .thermalHold
      else none := by
  obtain ⟨-, hlevel, hreplace⟩ := adopted_standby_lamp r (reportHeard r s) hu ha
  have hpow := adopted_power r (reportHeard r s) hu
  have hstate : (adopted r (reportHeard r s)).power.state = .standby := by rw [hpow]; exact ha
  have hhold : (adopted r (reportHeard r s)).power.thermalHold = s.power.thermalHold := by rw [hpow]; simp [ho]
  have hlink : (adopted r (reportHeard r s)).link.state = .present := by simp [heard]
  unfold refusalTest
  rw [hlevel, hreplace, hstate, hhold, hlink]
  simp

/-- A POWER ON held is satisfied by a lamp that burns (R42). -/
theorem reportDone_on_burning (r : Report) (s : State) (hu : s.power.state = .unknown)
    (hon : s.power.restartPending = true) (hl : isLit (adoptedState r) = true) :
    (reportDone r s).power.state = adoptedState r ∧ (reportDone r s).power.restartPending = false := by
  obtain ⟨hs, hr, -, -, -⟩ := adopted_intents r s hu
  obtain ⟨hstate, hpending⟩ := applyIntent_on_lit (adopted r (reportHeard r s)) (hr.trans hon) (by rwa [hs])
  rw [(reportDone_power r s).1, powerHeard_unknown r (reportHeard r s) hu]
  exact ⟨hstate.trans hs, hpending⟩

/-- It stays held in COOLING, and in STANDBY until the load has completed (R41, R42). -/
theorem reportDone_on_waits (r : Report) (s : State) (hu : s.power.state = .unknown)
    (hon : s.power.restartPending = true)
    (hw : adoptedState r = .cooling ∨ (adoptedState r = .standby ∧ s.store.loaded = false)) :
    (reportDone r s).power.state = adoptedState r ∧ (reportDone r s).power.restartPending = true ∧
      (reportDone r s).power.ignitionOrigin = s.power.ignitionOrigin := by
  obtain ⟨hs, hr, -, ho, -⟩ := adopted_intents r s hu
  have he : applyIntent (adopted r (reportHeard r s)) = adopted r (reportHeard r s) := by
    rcases hw with hw | ⟨hw, hload⟩
    · exact applyIntent_on_cooling _ (hs.trans hw) (hr.trans hon)
    · exact applyIntent_on_waits _ (hs.trans hw) (hr.trans hon) (by simpa using hload)
  rw [(reportDone_power r s).1, powerHeard_unknown r (reportHeard r s) hu, he]
  exact ⟨hs, hr.trans hon, ho⟩

/-- In STANDBY after the load it begins a strike sequence where nothing bars it (R41, R42). -/
theorem reportDone_on_strikes (r : Report) (s : State) (hu : s.power.state = .unknown)
    (hon : s.power.restartPending = true) (ha : adoptedState r = .standby) (hload : s.store.loaded = true)
    (ht : refusalTest (adopted r (reportHeard r s)) (ignitionOf s) = none) :
    (reportDone r s).power.state = .igniting ∧ (reportDone r s).power.attempt = 1 ∧
      (reportDone r s).power.restartPending = false ∧ (reportDone r s).power.ignitionOrigin = some (ignitionOf s) ∧
      messageInHand .ignite (reportDone r s) ∧
      toldPower (originPort (ignitionOf s)) (ignitionOf s) .standby .igniting none s (reportDone r s) := by
  obtain ⟨hs, hr, -, -, ho⟩ := adopted_intents r s hu
  have hstate := hs.trans ha
  have he := (powerHeard_unknown r (reportHeard r s) hu).trans
    (applyIntent_on_strikes _ hstate (hr.trans hon) (by simpa using hload) (by rwa [ho]))
  rw [ho] at he
  have hpow := beginSequence_power (ignitionOf s) (adopted r (reportHeard r s)) (by rw [hstate]; rfl)
  have htold := beginSequence_told (ignitionOf s) (adopted r (reportHeard r s))
  rw [hstate, ← he] at htold
  rw [(reportDone_power r s).1, he, hpow]
  refine ⟨rfl, rfl, rfl, rfl, ?_, told_report (told_since (adopted_grown _ _) (by simp) (by simp) htold)⟩
  rw [reportDone, reportEnds_inHand _ _ _ (by simp [controlType]), he]
  exact .inl (beginSequence_ignite _ _ (by simp [heard]))

/-- Where something bars it, it is dropped in STANDBY with a second notice (R41, R42). -/
theorem reportDone_on_refused (r : Report) (s : State) (x : Reason) (hu : s.power.state = .unknown)
    (hon : s.power.restartPending = true) (ha : adoptedState r = .standby) (hload : s.store.loaded = true)
    (ht : refusalTest (adopted r (reportHeard r s)) (ignitionOf s) = some x) :
    (reportDone r s).power.state = .standby ∧ (reportDone r s).power.restartPending = false ∧
      (reportDone r s).power.ignitionOrigin = none ∧
      toldPower (originPort (ignitionOf s)) (ignitionOf s) .standby .standby (some x) s (reportDone r s) := by
  obtain ⟨hs, hr, -, -, ho⟩ := adopted_intents r s hu
  have hstate := hs.trans ha
  have he := (powerHeard_unknown r (reportHeard r s) hu).trans
    (applyIntent_on_refused _ x hstate (hr.trans hon) (by simpa using hload) (by rwa [ho]))
  rw [ho] at he
  have hpow := settleDark_standby_power (ignitionOf s) (some x) (adopted r (reportHeard r s)) (by rw [hstate]; rfl)
  have htold := (dropped_told (ignitionOf s) x (adopted r (reportHeard r s))).1
  rw [hstate, ← he] at htold
  rw [(reportDone_power r s).1, he, (tellDropped_frame _ _ _).2.2.1, hpow]
  exact ⟨rfl, rfl, rfl, told_report (told_since (adopted_grown _ _) (by simp) (by simp) htold)⟩

/-- A POWER OFF held puts an adopted ON out, waits in WARMING, and ends in the dark states (R42). -/
theorem reportDone_off (r : Report) (s : State) (hu : s.power.state = .unknown)
    (hon : s.power.restartPending = false) (hoff : s.power.offPending = true) :
    (adoptedState r = .on → (reportDone r s).power.state = .cooling ∧ (reportDone r s).power.offPending = false ∧
      messageInHand .extinguish (reportDone r s)) ∧
    (adoptedState r = .warming → (reportDone r s).power.state = .warming ∧ (reportDone r s).power.offPending = true) ∧
    (adoptedState r = .cooling ∨ adoptedState r = .standby →
      (reportDone r s).power.state = adoptedState r ∧ (reportDone r s).power.offPending = false) := by
  obtain ⟨hs, hr, ho, -, -⟩ := adopted_intents r s hu
  have hr := hr.trans hon
  have ho := ho.trans hoff
  have he := powerHeard_unknown r (reportHeard r s) hu
  refine ⟨fun ha => ?_, fun ha => ?_, fun ha => ?_⟩
  · rw [applyIntent_off_on _ (hs.trans ha) hr ho (by simp [heard])] at he
    refine ⟨?_, ?_, ?_⟩
    · rw [(reportDone_power r s).1, he, putOut_power]
    · rw [(reportDone_power r s).1, he, putOut_power]
    · rw [reportDone, reportEnds_inHand _ _ _ (by simp [controlType]), he]
      exact .inl (putOut_extinguish _ _ (by simp [heard]))
  · rw [(reportDone_power r s).1, he, applyIntent_off_warming _ (hs.trans ha) hr]
    exact ⟨hs.trans ha, ho⟩
  · rw [(reportDone_power r s).1, he, applyIntent_off_dark _ (by rwa [hs]) hr ho]
    exact ⟨hs, rfl⟩

/-! ## Lamp out by a REPORT (R38) -/

/-- A control message outstanding at the end of a command was outstanding before it, or waited in the lane (R58). -/
theorem outstanding_finish {m : ControlMsg} {x : Outstanding} {s : State} (h : (finish s).link.outstanding = some x)
    (hx : x.msg = .control m) : s.link.outstanding = some x ∨ m ∈ s.link.control := by
  rw [finish_link] at h
  by_cases hp : s.link.state = .present ∧ s.link.outstanding = none ∧ s.link.transmit = []
  · obtain ⟨hp, ho, ht⟩ := hp
    rw [serveLink_free s hp ho ht] at h
    split at h
    · next hc =>
      obtain rfl := Option.some.inj h
      obtain rfl := HeadMsg.control.inj hx
      simp [hc]
    · obtain rfl := Option.some.inj h
      exact absurd hx (laneMessage_ne_control _ _)
    · exact .inl h
  · rw [serveLink_busy s (by by_contra hn; simp_all)] at h
    exact .inl h

theorem reportDone_out (r : Report) (s : State) (hs : s.power.state = .warming ∨ s.power.state = .on)
    (hd : r.lamp = .dark) (ho : r.temperature ≠ .over) : let t := reportDone r s
    t.power.state = .cooling ∧ toldPower none .auto s.power.state .cooling none s t ∧
    told none .lampOut .auto (word (position powerStateList s.power.state))
      (if s.room.state = .occupied ∧ s.power.offPending = false then 1 else 0) s t ∧
    t.power.coolingTimer = some (s.store.install.coolingTime * 1000) ∧ t.lamp.hotWindow = some 1800000 ∧
    t.lamp.burn = none ∧ t.power.offPending = false ∧
    (s.room.state = .occupied → s.power.offPending = false →
      t.power.restartPending = true ∧ t.power.ignitionOrigin = some .auto) ∧
    ((s.room.state ≠ .occupied ∨ s.power.offPending = true) → t.power.restartPending = false) ∧
    (.extinguish ∈ t.link.control → .extinguish ∈ s.link.control) ∧
    (∀ x, t.link.outstanding = some x → x.msg = .control .extinguish →
      s.link.outstanding = some x ∨ .extinguish ∈ s.link.control) := by
  have hlit : isLit (reportHeard r s).power.state = true := by rcases hs with hs | hs <;> simp [hs, isLit]
  have he := (powerHeard_out r (reportHeard r s) hs hd ho).trans (reportLampOut_eq r _ hlit hd ho)
  obtain ⟨hstate, hoff, hrestart, htimer, hwindow, hburn, hlane⟩ := lampOutTold_spec (reportHeard r s) hlit
  obtain ⟨hchange, hout⟩ := lampOutTold_told (reportHeard r s)
  have hlamp : (powerHeard r (reportHeard r s)).lamp = (lampOutTold (reportHeard r s)).lamp := by
    rw [he]; split <;> rfl
  have hports : (powerHeard r (reportHeard r s)).ports = (lampOutTold (reportHeard r s)).ports := by
    rw [he]; split <;> rfl
  have hlink : (powerHeard r (reportHeard r s)).link = (lampOutTold (reportHeard r s)).link := by
    rw [he]; split <;> rfl
  have hgrown : grown (lampOutTold (reportHeard r s)).ports (powerHeard r (reportHeard r s)).ports := by simp [hports]
  have hcontrol : .extinguish ∈ (powerHeard r (reportHeard r s)).link.control → .extinguish ∈ s.link.control := by
    rw [hlink]
    exact (hlane _ (by simp [controlType])).mp
  obtain ⟨hp, hm⟩ := reportDone_power r s
  dsimp only
  rw [hp, hm, hlamp]
  refine ⟨?_, told_report (told_later hchange hgrown), told_report (told_later hout hgrown), ?_, hwindow, hburn, ?_,
    fun hr hf => ?_, fun hr => ?_, fun hx => ?_, fun x hx hmsg => ?_⟩
  · rw [he]; split <;> simpa [setRestart] using hstate
  · rw [he]; split <;> simpa [setRestart] using htimer
  · rw [he]; split <;> simp [setRestart, hoff]
  · rw [he, if_pos ⟨hr, hf⟩]
    exact ⟨rfl, rfl⟩
  · rw [he, if_neg (by rcases hr with hr | hr <;> simp [hr])]
    exact hrestart
  · exact hcontrol ((reportShutter_other _ _ _ (by simp [controlType])).mp (mem_reportEnds hx))
  · rcases outstanding_finish hx hmsg with h | h
    · refine .inl ?_
      simpa [(powerHeard_link _ _).2, heard] using h
    · exact .inr (hcontrol ((reportShutter_other _ _ _ (by simp [controlType])).mp (by simpa using h)))

end Sys2Proof.Machine
end

section
namespace Sys2Proof.Machine

/-! ## The obligation, part by part (R32, R38 to R43, R46, R99) -/

/-- The end of every REPORT that is no restart, with what it leaves (R64). -/
theorem exec_report_done (r : Report) (s : State) (hl : s.link.state ≠ .lost) (hr : r.restarted = false) :
    exec (.report r) s = .next (reportDone r s) ∧
      linkServed { heard s.link with reportImage := some r } (reportDone r s).link ∧
      storeServed s.store (reportDone r s).store ∧ routerTimed s.router (reportDone r s).router ∧
      (reportDone r s).geometry = { s.geometry with status := (reportDone r s).geometry.status } ∧
      (reportDone r s).room = s.room ∧ (reportDone r s).lockout = s.lockout ∧ contexts (reportDone r s) = contexts s :=
  ⟨exec_report_heard r s hl hr, report_leaves r s⟩

/-- The state adopted from a REPORT that is not OVER, by its lamp (R42). -/
theorem adoptedState_lamp (r : Report) (ho : r.temperature ≠ .over) : (r.lamp = .lit → adoptedState r = .on) ∧
    (r.lamp = .striking → adoptedState r = .warming) ∧
    (r.lamp = .dark → adoptedState r = if r.hot then .cooling else .standby) := by
  refine ⟨fun h => ?_, fun h => ?_, fun h => ?_⟩ <;> simp [adoptedState, ho, h]

/-- A POWER ON held at adoption (R41, R42). -/
theorem reportDone_on (r : Report) (s : State) (hu : s.power.state = .unknown) (ho : r.temperature ≠ .over)
    (hon : s.power.restartPending = true) :
    let cold := r.lamp = .dark ∧ r.hot = false
    let o := s.power.ignitionOrigin.getD .auto
    let barred : Option Reason := if s.lamp.replaceInFlight then some .lampChangeInProgress
      else if s.lamp.level = some .hardStop ∧ o ≠ .service then some .lampExpired
      else if s.power.thermalHold then some .thermalHold
      else none
    let t := reportDone r s
    (r.lamp = .lit → t.power.state = .on) ∧ (r.lamp = .striking → t.power.state = .warming) ∧
    (r.lamp ≠ .dark → t.power.restartPending = false) ∧
    (r.lamp = .dark → r.hot = true → t.power.state = .cooling ∧ t.power.restartPending = true ∧
      t.power.ignitionOrigin = s.power.ignitionOrigin) ∧
    (cold → s.store.loaded = false → t.power.state = .standby ∧ t.power.restartPending = true) ∧
    (cold → s.store.loaded = true → barred = none → t.power.state = .igniting ∧ t.power.attempt = 1 ∧
      t.power.restartPending = false ∧ t.power.ignitionOrigin = some o ∧ messageInHand .ignite t ∧
      toldPower (originPort o) o .standby .igniting none s t) ∧
    (∀ x, cold → s.store.loaded = true → barred = some x → t.power.state = .standby ∧
      t.power.restartPending = false ∧ t.power.ignitionOrigin = none ∧
      toldPower (originPort o) o .standby .standby (some x) s t) := by
  obtain ⟨hlit, hstriking, hdark⟩ := adoptedState_lamp r ho
  have burning (x : PowerState) (ha : adoptedState r = x) (hx : isLit x = true) :
      (reportDone r s).power.state = x ∧ (reportDone r s).power.restartPending = false := by
    subst ha
    exact reportDone_on_burning r s hu hon hx
  have standby (h : r.lamp = .dark ∧ r.hot = false) : adoptedState r = .standby := by simp [hdark h.1, h.2]
  refine ⟨fun h => (burning .on (hlit h) rfl).1, fun h => (burning .warming (hstriking h) rfl).1, fun h => ?_,
    fun h hh => ?_, fun h hload => ?_, fun h hload hb => ?_, fun x h hload hb => ?_⟩
  · cases hm : r.lamp with
    | dark => exact absurd hm h
    | striking => exact (burning .warming (hstriking hm) rfl).2
    | lit => exact (burning .on (hlit hm) rfl).2
  · have ha : adoptedState r = .cooling := by simp [hdark h, hh]
    obtain ⟨hstate, hpending, horigin⟩ := reportDone_on_waits r s hu hon (.inl ha)
    exact ⟨hstate.trans ha, hpending, horigin⟩
  · obtain ⟨hstate, hpending, -⟩ := reportDone_on_waits r s hu hon (.inr ⟨standby h, hload⟩)
    exact ⟨hstate.trans (standby h), hpending⟩
  · exact reportDone_on_strikes r s hu hon (standby h) hload ((refusalTest_adopted r s _ hu (standby h) ho).trans hb)
  · exact reportDone_on_refused r s x hu hon (standby h) hload ((refusalTest_adopted r s _ hu (standby h) ho).trans hb)

/-- What a REPORT shows of a lamp in a strike, held dark, or lit, and of its temperature, on a link that is PRESENT. -/
theorem reportDone_acts (r : Report) (s : State) :
    let o := s.power.ignitionOrigin.getD .auto
    let t := reportDone r s
    (s.power.state = .igniting → r.temperature ≠ .over →
      (s.power.step ≠ .sending → r.lamp = .lit →
        t.power = { s.power with state := .warming, attempt := 0, strikeTimer := none, pauseTimer := none
                                 warmingTimer := some (s.store.install.warmingTime * 1000), coolingTimer := none } ∧
        t.lamp.account = s.lamp.account ∧ t.lamp.burn = some 0 ∧
        toldPower (originPort o) o .igniting .warming none s t) ∧
      ((s.power.step = .sending ∨ r.lamp ≠ .lit) → t.power = s.power ∧ t.lamp = s.lamp)) ∧
    ((s.power.state = .standby ∨ s.power.state = .cooling ∨ s.power.state = .fault) →
      (t.lamp = s.lamp ∧ t.power = { s.power with thermalHold := t.power.thermalHold }) ∧
      (r.lamp ≠ .dark → typeInHand .extinguish t) ∧
      ((r.lamp = .dark ∨ typeInHand .extinguish s) → .extinguish ∈ t.link.control → .extinguish ∈ s.link.control)) ∧
    (r.temperature = .over → s.power.state ≠ .unknown → t.power.thermalHold = true ∧
      (s.power.thermalHold = false → ∃ w, told none .thermalHold .auto 1 w s t) ∧
      (s.power.state = .warming ∨ s.power.state = .on → t.power.state = .cooling ∧ typeInHand .extinguish t ∧
        t.power.offPending = false ∧ t.power.restartPending = false ∧ t.power.ignitionOrigin = none ∧
        toldPower none .auto s.power.state .cooling none s t) ∧
      (s.power.state = .igniting → s.power.step = .pause → r.lamp ≠ .lit → t.power.state = .standby ∧
        t.power.attempt = 0 ∧ t.power.pauseTimer = none ∧ t.power.ignitionOrigin = none ∧
        toldPower (originPort o) o .igniting .standby (some .thermalHold) s t) ∧
      (s.power.state = .igniting → s.power.step ≠ .pause → (s.power.step = .sending ∨ r.lamp ≠ .lit) →
        t.power = { s.power with thermalHold := true, offPending := true
                                 offOrigin := if s.power.offPending then s.power.offOrigin else some .auto })) ∧
    (r.temperature = .ok → (s.power.state = .standby ∨ s.power.state = .fault) → t.power.thermalHold = false ∧
      (s.power.thermalHold = true → ∃ w, told none .thermalHold .auto 0 w s t)) ∧
    (r.temperature = .ok → s.power.state ≠ .standby → s.power.state ≠ .fault → s.power.state ≠ .unknown →
      t.power.thermalHold = s.power.thermalHold) ∧
    (r.temperature = .warm → t.power.thermalHold = s.power.thermalHold) ∧
    (s.power.state = .on → s.power.offPending = true → r.lamp ≠ .dark → r.temperature ≠ .over →
      t.power.state = .cooling ∧ t.power.offPending = false ∧ typeInHand .extinguish t ∧
      toldPower (originPort (s.power.offOrigin.getD .auto)) (s.power.offOrigin.getD .auto) .on .cooling none s t) ∧
    ((s.power.state = .warming ∨ (s.power.state = .on ∧ s.power.offPending = false)) → r.lamp ≠ .dark →
      r.temperature ≠ .over → t.power = s.power ∧ t.lamp = s.lamp) := by
  dsimp only
  refine ⟨fun hi ho => ⟨fun hstep hl => reportDone_struck r s hi ho hstep hl, fun h => reportDone_igniting r s hi ho h⟩,
    fun hs => ?_, fun ho hu => ⟨(reportDone_over r s ho hu).1, (reportDone_over r s ho hu).2, fun hs => ?_,
      fun hi hstep hl => reportDone_pause_over r s hi hstep hl ho,
      fun hi hstep h => reportDone_strike_over r s hi hstep h ho⟩,
    fun hk hs => reportDone_release r s hk hs, fun hk hs hf hu => ?_, fun hw => ?_, fun hs hoff hd ho => ?_,
    fun hs hd ho => reportDone_lit r s hs hd ho⟩
  · obtain ⟨hlamp, hpower, hands, hkept⟩ := reportDone_dark r s hs
    exact ⟨⟨hlamp, hpower⟩, hands, hkept⟩
  · obtain ⟨hstate, hhand, hoff, hrestart, horigin, htold⟩ := reportDone_lit_over r s hs ho
    exact ⟨hstate, (typeInHand_extinguish _).mpr hhand, hoff, hrestart, horigin, htold⟩
  · rw [(reportDone_power r s).1]
    exact powerHeard_hold_ok r (reportHeard r s) hk hs hf hu
  · rw [(reportDone_power r s).1]
    exact powerHeard_hold_warm r (reportHeard r s) hw
  · obtain ⟨hstate, hhand, hnone, -, -, htold⟩ := reportDone_deferred r s hs hoff hd ho
    exact ⟨hstate, hnone, (typeInHand_extinguish _).mpr hhand, htold⟩

/-- Settles O35, by adoption, the intent held, the REPORT on a link that is PRESENT, and lamp out. -/
theorem reportsAreActedOn : Obligations.ReportsAreActedOn := by
  unfold Obligations.ReportsAreActedOn
  refine ⟨fun r s hu hl hr hon hoff => ?_, fun r s hu hl hr ho => ⟨fun hon => ?_, fun hon hoff => ?_⟩,
    fun r s hp hr => ?_, fun r s hs hp hr hd ho => ?_⟩
  · obtain ⟨hexec, hlink, hstore, hrouter, hgeo, hroom, hlock, hctx⟩ := exec_report_done r s hl hr
    obtain ⟨hover, hother, hcool, hshut⟩ := reportDone_adopted r s hu hon hoff
    obtain ⟨hpow, -, htold⟩ := reportDone_adopts r s hu hon hoff
    have hstate : (reportDone r s).power.state = adoptedState r := by rw [hpow, (adopted_intents r s hu).1]
    rw [← hstate] at htold
    refine ⟨_, hexec, htold, hover, hother, hcool, fun hs => ?_, fun hs => ?_, hlink, hstore, hrouter, hgeo, hroom, hlock,
      hctx⟩
    · simp [hshut, shutterAdopted, hs]
    · obtain ⟨x, hx⟩ := Option.ne_none_iff_exists'.mp hs
      simp [hshut, shutterAdopted, hx]
  · exact ⟨_, (exec_report_done r s hl hr).1, reportDone_on r s hu ho hon⟩
  · obtain ⟨hlit, hstriking, hdark⟩ := adoptedState_lamp r ho
    obtain ⟨putout, waits, ends⟩ := reportDone_off r s hu hon hoff
    refine ⟨_, (exec_report_done r s hl hr).1, fun h => putout (hlit h), fun h => waits (hstriking h), fun h => ?_⟩
    rw [← hdark h]
    exact ends (by rw [hdark h]; cases r.hot <;> simp)
  · obtain ⟨hexec, -, -, hrouter, -, hroom, hlock, hctx⟩ := exec_report_done r s (by simp [hp]) hr
    refine ⟨_, hexec, hroom, hlock, hrouter, hctx, fun h => ?_, fun h => ?_, fun h hs => ?_, reportDone_acts r s⟩
    · obtain ⟨hpend, hacked, hcommitted⟩ := h
      exact reportDone_shown r s hpend hacked hcommitted
    · exact reportDone_hidden r s h
    · exact reportDone_shutter r s h hs
  · obtain ⟨hexec, hlink, hstore, hrouter, hgeo, hroom, hlock, hctx⟩ := exec_report_done r s (by simp [hp]) hr
    obtain ⟨hstate, hchange, hout, htimer, hwindow, hburn, hoff, hrestart, hnone, hlane, houtstanding⟩ :=
      reportDone_out r s hs hd ho
    exact ⟨_, hexec, hstate, hchange, hout, htimer, hwindow, hburn, hoff, hrestart, hnone, hlane, houtstanding, hlink,
      hstore, hrouter, hgeo, hroom, hlock, hctx⟩

end Sys2Proof.Machine
end

section
namespace Sys2Proof.Machine

/-! ## The control lane by types (R56) -/

/-- A message that is the only one of its type is in a lane when its type is. -/
theorem type_mem_iff (m : ControlMsg) (l : List ControlMsg) (only : ∀ x, controlType x = controlType m → x = m) :
    controlType m ∈ l.map controlType ↔ m ∈ l := by
  refine ⟨fun h => ?_, fun h => List.mem_map_of_mem h⟩
  obtain ⟨x, hx, ht⟩ := List.mem_map.mp h
  exact only x ht ▸ hx

theorem ignite_type_mem (l : List ControlMsg) : HeadType.ignite ∈ l.map controlType ↔ ControlMsg.ignite ∈ l :=
  type_mem_iff .ignite l fun x h => by
    cases x with
    | ignite => rfl
    | _ => cases h

theorem extinguish_type_mem (l : List ControlMsg) :
    HeadType.extinguish ∈ l.map controlType ↔ ControlMsg.extinguish ∈ l :=
  type_mem_iff .extinguish l fun x h => by
    cases x with
    | extinguish => rfl
    | _ => cases h

/-- The bounds of a lane speak of the types in it alone (R56). -/
theorem laneWithin_iff_types (l : List ControlMsg) : laneWithin l ↔ (l.map controlType).Nodup ∧
    ¬ (HeadType.ignite ∈ l.map controlType ∧ HeadType.extinguish ∈ l.map controlType) := by
  rw [laneWithin, ignite_type_mem, extinguish_type_mem]

/-- A message of a type queued takes that one's place: the types stand as they did (R56). -/
theorem laneWith_types_of_queued (m : ControlMsg) (l : List ControlMsg) (h : controlType m ∈ l.map controlType) :
    (laneWith l m).map controlType = l.map controlType := by
  have hany : l.any (fun x => controlType x == controlType m) = true := by
    simpa only [List.any_eq_true, beq_iff_eq, List.mem_map] using h
  rw [laneWith, if_pos hany, List.map_map]
  refine List.map_congr_left fun x _ => ?_
  by_cases hx : controlType x = controlType m <;> simp [hx]

/-- What stays of a lane that a message of a new type joins: all but the opposite of an IGNITE or EXTINGUISH (R56). -/
def laneBeside (m : ControlMsg) (l : List ControlMsg) : List ControlMsg :=
  l.filter fun x => !((m == .ignite && x == .extinguish) || (m == .extinguish && x == .ignite))

theorem mem_laneBeside (m x : ControlMsg) (l : List ControlMsg) : x ∈ laneBeside m l ↔
    x ∈ l ∧ ¬ (m = .ignite ∧ x = .extinguish) ∧ ¬ (m = .extinguish ∧ x = .ignite) := by
  simp only [laneBeside, List.mem_filter, Bool.not_eq_true', ← Bool.not_eq_true, Bool.or_eq_true, Bool.and_eq_true,
    beq_iff_eq, not_or]

/-- A message of a type not queued joins the end (R56). -/
theorem laneWith_of_new_type (m : ControlMsg) (l : List ControlMsg) (h : controlType m ∉ l.map controlType) :
    laneWith l m = laneBeside m l ++ [m] := by
  have hany : ¬ l.any (fun x => controlType x == controlType m) = true := by
    simpa only [List.any_eq_true, beq_iff_eq, List.mem_map] using h
  rw [laneWith, if_neg hany, laneBeside]

/-- A message of a new type joins within the bounds, for its opposite has left the lane (R56). -/
theorem laneWithin_joined (m : ControlMsg) (l : List ControlMsg) (hl : laneWithin l)
    (h : controlType m ∉ l.map controlType) : laneWithin (laneBeside m l ++ [m]) := by
  obtain ⟨hnodup, hpair⟩ := hl
  have hsub : ((laneBeside m l).map controlType).Sublist (l.map controlType) := (List.filter_sublist).map _
  refine ⟨?_, ?_⟩
  · rw [List.map_append, List.map_singleton, ← List.concat_eq_append]
    exact (hnodup.sublist hsub).concat fun hm => h (hsub.subset hm)
  · simp only [List.mem_append, List.mem_singleton, mem_laneBeside]
    rintro ⟨⟨hi, -, hi'⟩ | hi, ⟨he, he', -⟩ | he⟩
    · exact hpair ⟨hi, he⟩
    · exact hi' ⟨he.symm, trivial⟩
    · exact he' ⟨hi.symm, trivial⟩
    · exact ControlMsg.noConfusion (hi.trans he.symm)

/-- The bounds of the lane are kept by every message handed over (R56). -/
theorem laneWithin_laneWith (m : ControlMsg) (l : List ControlMsg) (hl : laneWithin l) : laneWithin (laneWith l m) := by
  by_cases h : controlType m ∈ l.map controlType
  · rw [laneWithin_iff_types, laneWith_types_of_queued m l h]
    exact (laneWithin_iff_types l).mp hl
  · rw [laneWith_of_new_type m l h]
    exact laneWithin_joined m l hl h

/-! ## A message handed to the control lane (R56) -/

theorem handControl_lost (m : ControlMsg) (s : State) (h : s.link.state = .lost) : handControl m s = s := by
  simp only [handControl, if_pos h]

theorem handControl_control (m : ControlMsg) (s : State) (h : s.link.state ≠ .lost) :
    (handControl m s).link.control = laneWith s.link.control m := by
  simp only [handControl, if_neg h]

theorem laneWithin_handControl (m : ControlMsg) (s : State) (hl : laneWithin s.link.control) :
    laneWithin (handControl m s).link.control := by
  by_cases h : s.link.state = .lost
  · rwa [handControl_lost m s h]
  · rw [handControl_control m s h]
    exact laneWithin_laneWith m _ hl

/-! ## The serving order (R53, R58) -/

/-- The serving changes the control lane, the exchange, the tag and the line, and nothing else (R53, R58). -/
theorem serveLink_changes (s : State) : serveLink s = { s with link := { s.link with
    control := (serveLink s).link.control, outstanding := (serveLink s).link.outstanding
    answer := (serveLink s).link.answer, nextTag := (serveLink s).link.nextTag
    transmit := (serveLink s).link.transmit } } := by
  unfold serveLink
  split
  · split
    · rfl
    · split <;> rfl
  · rfl

section
variable {s : State} (hp : s.link.state = .present) (ho : s.link.outstanding = none) (ht : s.link.transmit = [])
include hp ho ht

/-- A control message is served before the geometry lane (R58). -/
theorem serveLink_of_control {m : ControlMsg} {l : List ControlMsg} (hc : s.link.control = m :: l) :
    serveLink s = sendMessage (.control m) false { s with link := { s.link with control := l } } := by
  rw [serveLink_free s hp ho ht, hc]

/-- With no control message queued the geometry lane's entry is served (R57, R58). -/
theorem serveLink_of_lane {x : LaneSet} (hc : s.link.control = []) (hx : s.link.lane = some x) :
    serveLink s = sendMessage (laneMessage x) true s := by
  rw [serveLink_free s hp ho ht, hc, hx]

/-- With both lanes empty nothing is sent (R58). -/
theorem serveLink_of_empty (hc : s.link.control = []) (hx : s.link.lane = none) : serveLink s = s := by
  rw [serveLink_free s hp ho ht, hc, hx]

/-- A control message handed to an idle link goes out at once (R58). -/
theorem finish_handControl_idle (hc : s.link.control = []) (m : ControlMsg) :
    (finish (handControl m s)).link.outstanding =
      some { msg := .control m, tag := s.link.nextTag, sends := 1, ofLane := false } := by
  have hlane : (handControl m s).link.control = [m] := by
    rw [handControl_control m s (by simp [hp]), hc]
    rfl
  rw [finish_link, serveLink_of_control (by simpa using hp) (by simpa using ho) (by simpa using ht) hlane]
  simp [sendMessage]

/-- A geometry set handed to an idle link starts with its first entry at once (R57, R58). -/
theorem finish_handSet_idle (hc : s.link.control = []) (g : GeomSet) :
    (finish (handSet g s)).link.outstanding =
      some { msg := laneMessage { set := g, progress := 0 }, tag := s.link.nextTag, sends := 1, ofLane := true } := by
  have hlane : (handSet g s).link.lane = some { set := g, progress := 0 } := by simp [handSet, hp]
  have hout : (handSet g s).link.outstanding = none := by simp [handSet, hp, ho]
  rw [finish_link, serveLink_of_lane (by simpa using hp) hout (by simpa using ht) (by simpa using hc) hlane]
  simp [sendMessage]

end

/-! ## The obligation -/

/-- Settles O39, by the lane with the message in it, the three cases of a free line, and the serving at a command's
end. -/
theorem controlLaneAndServingOrder : Obligations.ControlLaneAndServingOrder := by
  unfold Obligations.ControlLaneAndServingOrder
  refine ⟨fun m s hl => ?_, fun s => ⟨fun hp ho ht => ?_, serveLink_busy s, serveLink_changes s⟩,
    fun s hp ho ht hc => ⟨finish_handControl_idle hp ho ht hc, finish_handSet_idle hp ho ht hc⟩⟩
  · refine ⟨laneWithin_handControl m s hl, handControl_lost m s, fun h => ?_, rfl⟩
    refine ⟨handControl_mem m s h, ?_, ?_⟩ <;> rw [handControl_control m s h]
    · exact laneWith_types_of_queued m _
    · exact fun hn => ⟨_, laneWith_of_new_type m _ hn, fun x => mem_laneBeside m x _⟩
  · refine ⟨fun m l hc => ?_, fun x hc hx => ?_, serveLink_of_empty hp ho ht⟩
    · rw [serveLink_of_control hp ho ht hc]
      exact ⟨⟨⟨false, rfl⟩, rfl, rfl, rfl⟩, rfl⟩
    · rw [serveLink_of_lane hp ho ht hc hx]
      exact ⟨⟨⟨true, rfl⟩, rfl, rfl, rfl⟩, hc, rfl⟩

end Sys2Proof.Machine
end

section
namespace Sys2Proof.Machine

/-! ## The walk of the fallback chain (R70) -/

/-- Where the walk of a fallback chain ends, once it has come to `m` after `w`: at an unused entry, at a fallback of
NONE, at four members, or at a fallback already walked (R70). -/
def walkStops (sources : Vector SourceEntry 8) (m : Fin 8) (w : List (Fin 8)) : Prop :=
  sources[m].input = none ∨ sources[m].fallback = none ∨ 4 ≤ w.length ∨ ∃ f, sources[m].fallback = some f ∧ f ∈ w

/-- A walk that has come to `m` ends there, or goes on to the fallback of its used entry, not yet walked (R70). -/
theorem walkFrom_succ (sources : Vector SourceEntry 8) (fuel : Nat) (m : Fin 8) (walked : List (Fin 8)) :
    (walkFrom sources (fuel + 1) m walked = walked ++ [m] ∧ walkStops sources m (walked ++ [m])) ∨
    ∃ f, sources[m].input.isSome = true ∧ sources[m].fallback = some f ∧ (walked ++ [m]).length < 4 ∧
      f ∉ walked ++ [m] ∧ walkFrom sources (fuel + 1) m walked = walkFrom sources fuel f (walked ++ [m]) := by
  simp only [walkFrom, walkStops]
  split
  · next hi => exact .inl ⟨rfl, .inl (Option.isNone_iff_eq_none.mp hi)⟩
  · next hi =>
    split
    · next hf => exact .inl ⟨rfl, .inr (.inl hf)⟩
    · next f hf =>
      split
      · next hc =>
        simp only [Bool.or_eq_true, decide_eq_true_eq, List.contains_iff_mem] at hc
        exact .inl ⟨rfl, .inr (.inr (hc.imp_right fun h => ⟨f, hf, h⟩))⟩
      · next hc =>
        simp only [Bool.or_eq_true, decide_eq_true_eq, List.contains_iff_mem, not_or, Nat.not_le] at hc
        exact .inr ⟨f, by simpa [Option.isSome_iff_ne_none] using hi, hf, hc.1, hc.2, rfl⟩

/-- The members of a walk follow each other by the fallbacks of used entries (R70). -/
def fallbackChain (sources : Vector SourceEntry 8) (w : List (Fin 8)) : Prop :=
  w.IsChain fun a b => sources[a].input.isSome = true ∧ sources[a].fallback = some b

/-- What a walk is that goes on to `m` from distinct members that follow each other (R70). -/
theorem walkFrom_spec (sources : Vector SourceEntry 8) (fuel : Nat) (m : Fin 8) (walked : List (Fin 8))
    (hlen : walked.length + (fuel + 1) = 4) (hnew : (walked ++ [m]).Nodup) (hchain : fallbackChain sources (walked ++ [m])) :
    let w := walkFrom sources (fuel + 1) m walked
    walked ++ [m] <+: w ∧ w.length ≤ 4 ∧ w.Nodup ∧ fallbackChain sources w ∧
      ∃ a, w.getLast? = some a ∧ walkStops sources a w := by
  have ends (h : walkStops sources m (walked ++ [m])) :
      walked ++ [m] <+: walked ++ [m] ∧ (walked ++ [m]).length ≤ 4 ∧ (walked ++ [m]).Nodup ∧
        fallbackChain sources (walked ++ [m]) ∧
        ∃ a, (walked ++ [m]).getLast? = some a ∧ walkStops sources a (walked ++ [m]) :=
    ⟨List.prefix_rfl, by simp; omega, hnew, hchain, m, by simp, h⟩
  induction fuel generalizing m walked with
  | zero =>
    rcases walkFrom_succ sources 0 m walked with ⟨he, hs⟩ | ⟨f, -, -, hl, -, -⟩
    · rw [he]; exact ends hs
    · simp at hl; omega
  | succ n ih =>
    rcases walkFrom_succ sources (n + 1) m walked with ⟨he, hs⟩ | ⟨f, hi, hf, hl, hn, he⟩
    · rw [he]; exact ends hs
    · rw [he]
      have hnew' : (walked ++ [m] ++ [f]).Nodup := by
        rw [List.nodup_append]
        exact ⟨hnew, by simp, fun a ha b hb => by rintro rfl; exact hn (List.mem_singleton.mp hb ▸ ha)⟩
      have hchain' : fallbackChain sources (walked ++ [m] ++ [f]) := by
        refine List.isChain_append.mpr ⟨hchain, by simp, ?_⟩
        simpa [-Fin.getElem_fin] using ⟨hi, hf⟩
      have hlen' : (walked ++ [m]).length + (n + 1) = 4 := by simp; omega
      obtain ⟨hpre, hrest⟩ := ih f (walked ++ [m]) hlen' hnew' hchain'
        fun h => ⟨List.prefix_rfl, by simp; omega, hnew', hchain', f, by simp, h⟩
      exact ⟨(List.prefix_append _ _).trans hpre, hrest⟩

/-- The walk from a requested source: it starts there, is short and distinct, follows the fallbacks, and ends as it must
(R70). -/
theorem walk_spec (sources : Vector SourceEntry 8) (m : Fin 8) :
    (∃ r, walk sources m = m :: r) ∧ (walk sources m).length ≤ 4 ∧ (walk sources m).Nodup ∧
      fallbackChain sources (walk sources m) ∧
      ∃ a, (walk sources m).getLast? = some a ∧ walkStops sources a (walk sources m) := by
  obtain ⟨⟨r, hr⟩, hrest⟩ := walkFrom_spec sources 3 m [] rfl (by simp) (by simp [fallbackChain])
  exact ⟨⟨r, hr.symm⟩, hrest⟩

/-- The walk from an unused entry is that entry alone (R70). -/
theorem walk_of_unused (sources : Vector SourceEntry 8) (m : Fin 8) (h : sources[m].input = none) :
    walk sources m = [m] := by
  simp [walk, walkFrom, h, -Fin.getElem_fin]

/-- The routed source is the first member whose input is PRESENT (R70). -/
theorem routedOf_present (d : Option (Vector Bool 6)) (l r : List (Fin 8 × Option (Fin 6))) (y : Fin 8 × Option (Fin 6))
    (hy : isPresent d y.2 = true) (hl : ∀ z ∈ l, isPresent d z.2 = false) :
    routedOf d (l ++ y :: r) = (some y.1, y.2) := by
  have hf : (l ++ y :: r).find? (fun m => isPresent d m.2) = some y := by
    rw [List.find?_append, List.find?_eq_none.mpr fun z hz => by simp [hl z hz]]
    simp [hy]
  simp [routedOf, hf]

/-- With no member PRESENT it is the first member, where that is used, else none on MUTE (R70). -/
theorem routedOf_absent (d : Option (Vector Bool 6)) (x : Fin 8) (i : Option (Fin 6)) (l : List (Fin 8 × Option (Fin 6)))
    (hx : l.head? = some (x, i)) (h : ∀ z ∈ l, isPresent d z.2 = false) :
    routedOf d l = if i.isSome then (some x, i) else (none, none) := by
  have hf : l.find? (fun m => isPresent d m.2) = none := List.find?_eq_none.mpr fun z hz => by simp [h z hz]
  simp only [routedOf, hf, hx]
  cases i <;> rfl

/-- The route of a walk whose member `i` is PRESENT, and none before it (R70). -/
theorem routedOf_chainOf_present (d : Option (Vector Bool 6)) (sources : Vector SourceEntry 8) (m : Fin 8) (i : Nat)
    (a : Fin 8) (ha : (walk sources m)[i]? = some a) (hp : isPresent d sources[a].input = true)
    (hb : ∀ (k : Nat) (b : Fin 8), k < i → (walk sources m)[k]? = some b → isPresent d sources[b].input = false) :
    routedOf d (chainOf sources m) = (some a, sources[a].input) := by
  obtain ⟨hi, rfl⟩ := List.getElem?_eq_some_iff.mp ha
  have hsplit : walk sources m = (walk sources m).take i ++ (walk sources m)[i] :: (walk sources m).drop (i + 1) := by
    rw [List.getElem_cons_drop, List.take_append_drop]
  have hchain := congrArg (List.map fun x => (x, sources[x].input)) hsplit
  rw [List.map_append, List.map_cons] at hchain
  rw [chainOf, hchain]
  refine routedOf_present d _ _ _ hp fun z hz => ?_
  obtain ⟨b, hbm, rfl⟩ := List.mem_map.mp hz
  obtain ⟨k, hk, rfl⟩ := List.getElem_of_mem hbm
  simp only [List.length_take, Nat.lt_min] at hk
  exact hb k _ hk.1 (by rw [List.getElem_take, List.getElem?_eq_getElem hk.2])

/-- The route of a walk none of whose members is PRESENT (R70). -/
theorem routedOf_chainOf_absent (d : Option (Vector Bool 6)) (sources : Vector SourceEntry 8) (m : Fin 8)
    (h : ∀ a ∈ walk sources m, isPresent d sources[a].input = false) : routedOf d (chainOf sources m) =
      if sources[m].input.isSome then (some m, sources[m].input) else (none, none) := by
  obtain ⟨⟨r, hr⟩, -⟩ := walk_spec sources m
  refine routedOf_absent d _ _ _ (by simp [chainOf, hr]) fun z hz => ?_
  obtain ⟨a, ha, rfl⟩ := List.mem_map.mp hz
  exact h a ha

/-- Settles O41, from the walk's invariant and the two cases of its route. -/
theorem fallbackWalkIsShortAndDistinct : Obligations.FallbackWalkIsShortAndDistinct := by
  unfold Obligations.FallbackWalkIsShortAndDistinct
  intro sources m
  obtain ⟨⟨r, hr⟩, hlen, hnodup, hchain, last, hlast, hstops⟩ := walk_spec sources m
  refine ⟨by rw [hr]; rfl, hlen, hnodup, fun i a b ha hb => ?_, fun a ha => ?_, fun d => ⟨?_, fun h => ?_⟩⟩
  · obtain ⟨hi, rfl⟩ := List.getElem?_eq_some_iff.mp ha
    obtain ⟨hj, rfl⟩ := List.getElem?_eq_some_iff.mp hb
    exact List.isChain_iff_getElem.mp hchain i hj
  · obtain rfl : last = a := Option.some.inj (hlast.symm.trans ha)
    exact hstops.imp_right (.imp_right (.imp_left (Nat.le_antisymm hlen)))
  · exact fun i a ha hp hb => routedOf_chainOf_present d sources m i a ha hp hb
  · have hroute := routedOf_chainOf_absent d sources m h
    refine ⟨fun hi => ?_, fun hi => ⟨walk_of_unused sources m hi, ?_⟩⟩ <;> simpa [hi, -Fin.getElem_fin] using hroute

end Sys2Proof.Machine
end

section
namespace Sys2Proof.Machine

/-! ## A resolution in full (R70 to R72, R80) -/

/-- A settle begins when the routed input is another (R71). -/
theorem resolve_settles (o : Origin) (tell : Bool) (s : State) : (resolve o tell s).1 = true ↔
    (routedOf s.router.debounced (chainNow s)).2 ≠ s.router.routedInput := by
  unfold resolve
  dsimp only
  split
  · next h => simp [h]
  · next h => split <;> simp_all

/-- The route after a resolution (R70 to R72). -/
theorem resolve_router (o : Origin) (tell : Bool) (s : State) :
    let dest := routedOf s.router.debounced (chainNow s)
    let t := (resolve o tell s).2
    t.router = { s.router with
      chain := chainNow s, deferred := false, routedInput := dest.2, routedSource := dest.1
      state := t.router.state, format := t.router.format, settle := t.router.settle
      settleOrigin := t.router.settleOrigin, noSignal := t.router.noSignal } := by
  unfold resolve
  dsimp only
  split
  · simp [RouterUnit.eq_iff, startSettle]
  · next hi =>
    split
    · simp_all
    · split <;> simp_all

/-- A settle's beginning leaves the Geometry Engine (R71). -/
theorem resolve_geometry (o : Origin) (tell : Bool) (s : State)
    (h : (routedOf s.router.debounced (chainNow s)).2 ≠ s.router.routedInput) :
    (resolve o tell s).2.geometry = s.geometry := by
  simp [resolve, h]

/-- A routed source that changes on the same input is told though the caller asks for no telling (R71). -/
theorem resolve_of_new_source (o : Origin) (tell : Bool) (s : State)
    (h : (routedOf s.router.debounced (chainNow s)).1 ≠ s.router.routedSource) : resolve o tell s = resolve o true s := by
  simp [resolve, h]

/-! ## Numbers of items (R168) -/

theorem finOf_eq {n k : Nat} (x : Fin n) (h : k = x.val) : finOf n k = some x := by
  subst h
  simp [finOf]

theorem finOf_beyond {n k : Nat} (h : n ≤ k) : finOf n k = none := by
  simp [finOf, h]

/-! ## A request at the arbiter (R77, R79 to R81) -/

theorem routeRequest_unresolved (q : RouteRequest) (s : State) (h : s.router.resolved = false) :
    routeRequest q s = (done, { s with router := { s.router with requested := some q.source } }) := by
  simp [routeRequest, h]

theorem routeRequest_settling (q : RouteRequest) (s : State) (h : s.router.resolved = true)
    (hs : s.router.state = .settling) : routeRequest q s = holdRoute q s := by
  simp [routeRequest, h, hs]

/-- Outside a settle the source is requested and resolved at once (R80). -/
theorem routeRequest_now (q : RouteRequest) (s : State) (h : s.router.resolved = true)
    (hs : s.router.state ≠ .settling) :
    let r := resolve q.origin (s.router.requested != some q.source)
      { s with router := { s.router with requested := some q.source } }
    routeRequest q s = (if r.1 then started [] else done, r.2) := by
  simp [routeRequest, h, hs, applyRoute]

/-- What such a request is answered, and where it leaves the route (R70 to R72, R80). -/
theorem routeRequest_routed (q : RouteRequest) (s : State) (h : s.router.resolved = true)
    (hs : s.router.state ≠ .settling) :
    let chain := chainOf s.router.sources q.source
    let dest := routedOf s.router.debounced chain
    let t := (routeRequest q s).2
    (routeRequest q s).1 = (if dest.2 ≠ s.router.routedInput then started [] else done) ∧
      t.router = { s.router with
        requested := some q.source, chain := chain, deferred := false, routedInput := dest.2, routedSource := dest.1
        state := t.router.state, format := t.router.format, settle := t.router.settle
        settleOrigin := t.router.settleOrigin, noSignal := t.router.noSignal } ∧
      routedTo q.origin q.source s t ∧ (dest.2 ≠ s.router.routedInput → t.geometry = s.geometry) := by
  have he := routeRequest_now q s h hs
  dsimp only at he ⊢
  rw [he]
  refine ⟨?_, resolve_router _ _ _, resolve_routedTo _ _ q.source _ rfl,
    resolve_geometry q.origin _ { s with router := { s.router with requested := some q.source } }⟩
  simp only [resolve_settles]
  rfl

/-- A request takes the empty slot, or the place of one that it ranks at or above (R81). -/
theorem holdRoute_held (q : RouteRequest) (s : State)
    (h : ∀ held, s.router.pendingSlot = some held → ranksAtOrAbove s q.origin held.origin = true) :
    (holdRoute q s).1 = started [] ∧ (holdRoute q s).2.router = { s.router with pendingSlot := some q } := by
  unfold holdRoute
  dsimp only
  split
  · exact ⟨rfl, rfl⟩
  · next held hh =>
    rw [if_pos (h held hh)]
    exact ⟨rfl, by simp⟩

/-- The request that gives way is told (R81). -/
theorem holdRoute_told (q held : RouteRequest) (s : State) (hh : s.router.pendingSlot = some held)
    (h : ranksAtOrAbove s q.origin held.origin = true) :
    told (originPort held.origin) .requestDisplaced held.origin (word held.source.val)
      (pairWord (position reasonList .outranked) (position originList q.origin)) s (holdRoute q s).2 := by
  simp only [holdRoute, hh]
  rw [if_pos h]
  exact told_of { s with router := { s.router with pendingSlot := some q } } (grown_refl _) rfl rfl (grown_refl _)

/-- A request that the held one ranks above is refused (R81). -/
theorem holdRoute_outranked (q held : RouteRequest) (s : State) (hh : s.router.pendingSlot = some held)
    (h : ranksAtOrAbove s q.origin held.origin = false) : holdRoute q s = refuse .outranked s := by
  simp only [holdRoute, hh, h]
  rfl

/-! ## ROOM DEFAULTS written (R161) -/

@[simp] theorem writeRoom_room (r : RoomDefaults) (o : Origin) (s : State) : (writeRoom r o s).store.room = r := by
  simp [writeRoom]

/-- ROOM DEFAULTS is queued with its new content (R156). -/
theorem writeRoom_queued (r : RoomDefaults) (o : Origin) (s : State) :
    { key := .roomDefaults, image := roomImage r, origin := o, switch := none } ∈ (writeRoom r o s).store.queue := by
  simp only [writeRoom, queueLive_queue]
  exact enqueue_mem _ _

/-- An entry of a region that is not protected is on its way to storage at the end of the request that queued it
(R158). -/
theorem sent_of_queued (c : Command) (p : Port) (a : Answer) {k : Key} {image : List Word} {o : Origin} {s : State}
    (h : { key := k, image := image, origin := o, switch := none } ∈ s.store.queue)
    (hp : isProtected s (keyRegion k) = false) : sentToStore k image o (after c p a (finish s)) :=
  finish_sent s _ h (by simp [hp])

/-! ## SELECT SOURCE (R79) -/

/-- The standing part of SELECT SOURCE, where the scope asks for it (R79). -/
def sourceStored (scope : Scope) (x : Fin 8) (o : Origin) (s : State) : State :=
  match scope with
  | .momentary => s
  | .standing => storeSource x o s

@[simp] theorem sourceStored_frame (scope : Scope) (x : Fin 8) (o : Origin) (s : State) :
    quietPorts (sourceStored scope x o s).ports = quietPorts s.ports ∧ (sourceStored scope x o s).lamp = s.lamp ∧
    (sourceStored scope x o s).power = s.power ∧ (sourceStored scope x o s).router = s.router ∧
    (sourceStored scope x o s).geometry = s.geometry ∧ (sourceStored scope x o s).room = s.room ∧
    (sourceStored scope x o s).lockout = s.lockout ∧
    storeServed { s.store with room := (sourceStored scope x o s).store.room } (sourceStored scope x o s).store := by
  cases scope <;> simp [sourceStored, storeServed_iff, storeSource]

@[simp] theorem sourceStored_grown (qs : Ports) (scope : Scope) (x : Fin 8) (o : Origin) (s : State)
    (h : grown qs s.ports) : grown qs (sourceStored scope x o s).ports := by
  cases scope <;> simp [sourceStored, h]

/-- The request that SELECT SOURCE makes of the arbiter (R79). -/
def sourceRequest (p : Port) (q : Qualifier) (x : Fin 8) : RouteRequest :=
  { source := x, origin := portOrigin p, scope := q.scope }

/-- The answer of SELECT SOURCE, by its scope, to what the arbiter answers (R79). -/
def sourceAnswer (q : Qualifier) (a : Answer) : Answer := if q.scope = .standing then { a with queued := true } else a

section
variable {p : Port} {f : Frame} {q : Qualifier} {s : State} (h : taken .selectSource p f q s)
include h

/-- A source above 7 is refused (R79). -/
theorem exec_selectSource_beyond (hn : 7 < numAt (f.words.drop 1) 0) :
    exec (.selectSource p f) s = .next (after .selectSource p (refused .outOfRange) (begun p f s)) := by
  refine congrArg Host.Outcome.next ((request_taken _ p f _ q s h).trans ?_)
  simp only [ownSelectSource, finOf_beyond hn]
  rfl

/-- A standing request that fails a check is refused (R79, R155). -/
theorem exec_selectSource_unchecked (r : Reason) (hn : numAt (f.words.drop 1) 0 ≤ 7) (hq : q.scope = .standing)
    (hr : standingCheck s .c false [.roomDefaults] = some r) :
    exec (.selectSource p f) s = .next (after .selectSource p (refused r) (begun p f s)) := by
  refine congrArg Host.Outcome.next ((request_taken _ p f _ q s h).trans ?_)
  have hx := finOf_eq (⟨numAt (f.words.drop 1) 0, Nat.lt_succ_of_le hn⟩ : Fin 8) rfl
  simp only [ownSelectSource, hx, hq, standingCheck_begun, hr]
  rfl

variable {x : Fin 8} (hc : q.scope = .standing → standingCheck s .c false [.roomDefaults] = none)
  (hx : numAt (f.words.drop 1) 0 = x.val)
include hc hx

/-- A request that the arbiter refuses leaves nothing, in storage neither (R79, R81). -/
theorem exec_selectSource_refused (r : Reason)
    (hr : routeRequest (sourceRequest p q x) (begun p f s) = refuse r (begun p f s)) :
    exec (.selectSource p f) s = .next (after .selectSource p (refused r) (begun p f s)) := by
  refine congrArg Host.Outcome.next ((request_taken _ p f _ q s h).trans ?_)
  cases hq : q.scope with
  | momentary =>
    simp only [sourceRequest, hq] at hr
    simp only [ownSelectSource, finOf_eq x hx, hq, hr]
    rfl
  | standing =>
    simp only [sourceRequest, hq] at hr
    simp only [ownSelectSource, finOf_eq x hx, hq, standingCheck_begun, hc hq, hr]
    rfl

/-- A request that the arbiter takes, and its standing part (R79). -/
theorem exec_selectSource_taken {a : Answer} (ha : (routeRequest (sourceRequest p q x) (begun p f s)).1 = a)
    (hn : a.reason = none) : exec (.selectSource p f) s = .next (after .selectSource p (sourceAnswer q a)
      (finish (sourceStored q.scope x (portOrigin p) (routeRequest (sourceRequest p q x) (begun p f s)).2))) := by
  refine congrArg Host.Outcome.next ((request_taken _ p f _ q s h).trans ?_)
  cases hq : q.scope with
  | momentary =>
    simp only [sourceRequest, hq] at ha
    simp only [ownSelectSource, finOf_eq x hx, hq, sourceRequest]
    rw [finished_of_no_reason _ _ (ha ▸ hn), ha]
    simp [sourceAnswer, hq, sourceStored]
  | standing =>
    simp only [sourceRequest, hq] at ha
    simp only [ownSelectSource, finOf_eq x hx, hq, standingCheck_begun, hc hq, sourceRequest, ha]
    rw [if_neg (by simp [hn]), accept_of_no_reason { a with queued := true } _ hn]
    simp [sourceAnswer, hq, sourceStored]

omit h hx in
/-- What SELECT SOURCE leaves, and what it stores (R79). -/
theorem selectSource_leaves (a : Answer) :
    let v := (routeRequest (sourceRequest p q x) (begun p f s)).2
    let t := after .selectSource p a (finish (sourceStored q.scope x (portOrigin p) v))
    answered .selectSource p f a s t ∧ t.router = v.router ∧ t.geometry = v.geometry ∧
      (t.lamp = s.lamp ∧ t.power = s.power ∧ t.room = s.room ∧ t.lockout = s.lockout ∧
        t.router.sources = s.router.sources ∧ storeServed { s.store with room := t.store.room } t.store ∧
        (q.scope = .momentary → t.store.room = s.store.room) ∧
        (q.scope = .standing → t.store.room = { s.store.room with source := x } ∧
          sentToStore .roomDefaults (roomImage t.store.room) (portOrigin p) t)) := by
  dsimp only
  have hstore := (sourceStored_frame q.scope x (portOrigin p)
    (routeRequest (sourceRequest p q x) (begun p f s)).2).2.2.2.2.2.2.2
  refine ⟨answered_of _ _ _ _ _ _ (by simp), by simp, by simp, by simp, by simp, by simp, by simp, by simp, ?_,
    fun hq => by simp [hq, sourceStored], fun hq => ?_⟩
  · rw [storeServed_iff] at hstore ⊢
    simpa using hstore
  · have hroom : (after .selectSource p a (finish (sourceStored q.scope x (portOrigin p)
        (routeRequest (sourceRequest p q x) (begun p f s)).2))).store.room = { s.store.room with source := x } := by
      simp [hq, sourceStored, storeSource]
    refine ⟨hroom, ?_⟩
    rw [hroom, hq]
    refine sent_of_queued .selectSource p a ?_ ?_
    · have hw := writeRoom_queued { s.store.room with source := x } (portOrigin p)
        (routeRequest (sourceRequest p q x) (begun p f s)).2
      simpa [sourceStored, storeSource] using hw
    · simpa [isProtected, sourceStored, storeSource, keyRegion] using unprotected_of_standingCheck (hc hq)

end

/-- ROUTE CHANGED of a request that is applied, where the requested or the routed source is another (R80). -/
theorem routeRequest_told (q : RouteRequest) (s : State) (hr : s.router.resolved = true)
    (hs : s.router.state ≠ .settling)
    (hi : (routedOf s.router.debounced (chainOf s.router.sources q.source)).2 = s.router.routedInput)
    (hn : (routedOf s.router.debounced (chainOf s.router.sources q.source)).1 ≠ s.router.routedSource ∨
      s.router.requested ≠ some q.source) :
    let dest := routedOf s.router.debounced (chainOf s.router.sources q.source)
    told (originPort q.origin) .routeChanged q.origin (pairWord (sourceNumber dest.1) (inputNumber dest.2))
      (pairWord q.source.val (position routeStateList s.router.state)) s (routeRequest q s).2 := by
  rw [routeRequest_now q s hr hs]
  have htell : resolve q.origin (s.router.requested != some q.source)
      { s with router := { s.router with requested := some q.source } } =
        resolve q.origin true { s with router := { s.router with requested := some q.source } } := by
    rcases hn with hn | hn
    · exact resolve_of_new_source _ _ _ hn
    · rw [show (s.router.requested != some q.source) = true by simpa using hn]
  rw [htell]
  have ht := resolve_told q.origin q.source { s with router := { s.router with requested := some q.source } } rfl hi
  obtain ⟨-, -, hsource, hinput, -⟩ :=
    resolve_routedTo q.origin true q.source { s with router := { s.router with requested := some q.source } } rfl
  dsimp only at ht
  rw [hsource, hinput] at ht
  exact told_since (grown_refl _) rfl rfl ht

/-- Settles O42, by the checks, and by the arbiter's three states. -/
theorem selectSourceMomentary : Obligations.SelectSourceMomentary := by
  unfold Obligations.SelectSourceMomentary
  refine ⟨fun p f q s h => ⟨exec_selectSource_beyond h, fun r => exec_selectSource_unchecked h r⟩,
    fun p f q x s h hc hx => ?_⟩
  have leaves := selectSource_leaves (p := p) (f := f) (x := x) hc
  refine ⟨fun hr => ?_, fun hr hs => ?_, fun hr hs => ⟨fun hrank => ?_, fun held hh hrank => ?_⟩⟩
  · have he := routeRequest_unresolved (sourceRequest p q x) (begun p f s) hr
    obtain ⟨hans, hrouter, hgeo, hframe⟩ := leaves (sourceAnswer q done)
    exact ⟨_, exec_selectSource_taken h hc hx (congrArg Prod.fst he) rfl, hans, hrouter.trans (by rw [he]; rfl),
      hgeo.trans (by rw [he]; rfl), hframe⟩
  · obtain ⟨hanswer, hroute, ⟨-, -, -, -, -, -, hnew, hsame⟩, hgeos⟩ :=
      routeRequest_routed (sourceRequest p q x) (begun p f s) hr hs
    by_cases hi : (routedOf s.router.debounced (chainOf s.router.sources x)).2 = s.router.routedInput
    · replace hanswer := hanswer.trans (if_neg (not_not.mpr hi))
      obtain ⟨hans, hrouter, -, hframe⟩ := leaves (sourceAnswer q done)
      rw [← hrouter] at hroute hsame
      refine ⟨_, exec_selectSource_taken h hc hx hanswer rfl, hroute, hframe, fun hn => absurd hi hn,
        fun _ => ⟨hans, (hsame hi).1, fun hn => ?_⟩⟩
      have ht := routeRequest_told (sourceRequest p q x) (begun p f s) hr hs hi hn
      rw [show originPort (sourceRequest p q x).origin = some p from originPort_portOrigin p] at ht
      exact told_request .selectSource p f _ (told_later ht (by simp))
    · replace hanswer := hanswer.trans (if_pos hi)
      obtain ⟨hans, hrouter, hgeo, hframe⟩ := leaves (sourceAnswer q (started []))
      rw [← hrouter] at hroute hnew
      obtain ⟨hstate, horigin, hsettle, hformat⟩ := hnew hi
      exact ⟨_, exec_selectSource_taken h hc hx hanswer rfl, hroute, hframe,
        fun _ => ⟨hans, hstate, hformat, hsettle, horigin, hgeo.trans (hgeos hi)⟩, fun he => absurd he hi⟩
  · have he := routeRequest_settling (sourceRequest p q x) (begun p f s) hr hs
    have hranks : ∀ held, s.router.pendingSlot = some held →
        ranksAtOrAbove (begun p f s) (portOrigin p) held.origin = true := by
      intro held hh
      rcases hrank with hnone | ⟨y, hy, hle⟩
      · simp [hnone] at hh
      · obtain rfl : y = held := Option.some.inj (hy.symm.trans hh)
        exact decide_eq_true hle
    obtain ⟨hanswer, hslot⟩ := holdRoute_held (sourceRequest p q x) (begun p f s) hranks
    obtain ⟨hans, hrouter, hgeo, hframe⟩ := leaves (sourceAnswer q (started []))
    have hexec := exec_selectSource_taken h hc hx ((congrArg Prod.fst he).trans hanswer) rfl
    rw [he] at hexec hans hrouter hgeo hframe
    refine ⟨_, hexec, hans, hrouter.trans hslot, hgeo.trans (by simp), hframe, fun held hh => ?_⟩
    exact told_request .selectSource p f _
      (told_later (holdRoute_told (sourceRequest p q x) held (begun p f s) hh (hranks held hh)) (by simp))
  · exact exec_selectSource_refused h hc hx _ ((routeRequest_settling _ (begun p f s) hr hs).trans
      (holdRoute_outranked _ held _ hh (decide_eq_false (Nat.not_le.mpr hrank))))

end Sys2Proof.Machine
end

section
namespace Sys2Proof.Machine

/-! ## The presence lines (R69) -/

theorem exec_stabilityTimerExpiry (n : Fin 6) (s : State) (h : s.router.stability[n] ≠ none) :
    exec (.stabilityTimerExpiry n) s = .next (finish (stabilityExpires n s)) :=
  congrArg Host.Outcome.next (if_pos (Option.isSome_iff_ne_none.mpr h))

theorem exec_firstPresenceSample (s : State) (h : s.router.sample ≠ none) :
    exec .firstPresenceSample s = .next (finish (takeSample s)) :=
  congrArg Host.Outcome.next (if_pos (Option.isSome_iff_ne_none.mpr h))

/-- The input's timer has run out and its debounced value is the raw line's (R69). -/
def presenceTaken (n : Fin 6) (d : Vector Bool 6) (s : State) : State :=
  { s with router := { s.router with
    stability := s.router.stability.set n none, debounced := some (d.set n s.router.raw[n]) } }

/-- An expiry takes the raw value; the route acts where that is another (R69). -/
theorem stabilityExpires_eq (n : Fin 6) (d : Vector Bool 6) (s : State) (h : s.router.debounced = some d) :
    stabilityExpires n s =
      if d[n] = s.router.raw[n] then presenceTaken n d s else presenceActs n s.router.raw[n] (presenceTaken n d s) := by
  simp only [stabilityExpires, h]
  split
  · next he => simp [presenceTaken, ← he, ← h]
  · rfl

/-- An expiry leaves the raw value debounced, whatever the route does (R69). -/
theorem stabilityExpires_debounced (n : Fin 6) (d : Vector Bool 6) (s : State) (h : s.router.debounced = some d) :
    (stabilityExpires n s).router.debounced = some (d.set n s.router.raw[n]) ∧
      (stabilityExpires n s).router.stability = s.router.stability.set n none := by
  rw [stabilityExpires_eq n d s h]
  split <;> simp [presenceTaken]

/-- The first sample takes every raw value (R69). -/
theorem takeSample_router (s : State) :
    (takeSample s).router.debounced = some s.router.raw ∧ (takeSample s).router.sample = none := by
  simp [takeSample]

/-- With the load completed it makes the first resolution, into SETTLING with origin AUTO (R77). -/
theorem takeSample_resolves (s : State) (hl : s.store.loaded = true) (hr : s.router.resolved = false) :
    (takeSample s).router.state = .settling ∧ (takeSample s).router.resolved = true ∧
      (takeSample s).router.settleOrigin = .auto ∧ (takeSample s).router.settle = some s.store.room.settleTime := by
  simp [takeSample, firstResolution, hl, hr, startSettle]

/-! ## Auto-follow (R83) -/

theorem mem_flaggedEntries (s : State) (n : Fin 6) (x : Fin 8) : x ∈ flaggedEntries s n ↔
    s.router.sources[x].autoFollow = true ∧ s.router.sources[x].input = some n := by
  simp [flaggedEntries]

/-- The flagged entries are listed lowest first (R83). -/
theorem flaggedEntries_sorted (s : State) (n : Fin 6) : (flaggedEntries s n).Pairwise (· < ·) :=
  (List.pairwise_lt_finRange 8).filter _

/-- With no entry flagged there is no auto-follow request (R83). -/
theorem autoFollow_of_unflagged (s : State) (n : Fin 6) (h : ∀ x : Fin 8, s.router.sources[x].autoFollow = false) :
    autoFollow s n = none := by
  have hnil : flaggedEntries s n = [] := List.eq_nil_iff_forall_not_mem.mpr fun x hx =>
    Bool.false_ne_true ((h x).symm.trans ((mem_flaggedEntries s n x).mp hx).1)
  simp [autoFollow, hnil]

/-- The lowest flagged entry that names the input is followed, where none of them is requested (R83). -/
theorem autoFollow_of_lowest (s : State) (n : Fin 6) (x : Fin 8) (hx : s.router.sources[x].autoFollow = true)
    (hn : s.router.sources[x].input = some n)
    (hlow : ∀ z : Fin 8, s.router.sources[z].autoFollow = true → s.router.sources[z].input = some n →
      x.val ≤ z.val ∧ s.router.requested ≠ some z) : autoFollow s n = some x := by
  have hmem := (mem_flaggedEntries s n x).mpr ⟨hx, hn⟩
  have hsorted := flaggedEntries_sorted s n
  have hall (z : Fin 8) (hz : z ∈ flaggedEntries s n) : x.val ≤ z.val ∧ s.router.requested ≠ some z :=
    hlow z ((mem_flaggedEntries s n z).mp hz).1 ((mem_flaggedEntries s n z).mp hz).2
  unfold autoFollow
  cases he : flaggedEntries s n with
  | nil => simp [he] at hmem
  | cons y r =>
    rw [he] at hmem hsorted hall
    obtain rfl : x = y := by
      rcases List.mem_cons.mp hmem with hxy | hxr
      · exact hxy
      · have hlt : y.val < x.val := (List.pairwise_cons.mp hsorted).1 x hxr
        have hle := (hall y List.mem_cons_self).1
        omega
    refine if_neg ?_
    simpa using fun z hz => (hall z hz).2

/-! ## The route after a debounced change (R78, R83) -/

theorem onChain_iff (s : State) (n : Fin 6) : onChain s n = true ↔ ∃ m ∈ s.router.chain, m.2 = some n := by
  simp [onChain]

/-- A change of an input on no chain, which no entry follows, leaves the route (R78). -/
theorem presenceActs_elsewhere (n : Fin 6) (rise : Bool) (s : State) (hc : onChain s n = false)
    (ha : autoFollow s n = none) : presenceActs n rise s = s := by
  simp [presenceActs, hc, ha]

/-- A change of an input on the chain, which no entry follows, is a re-resolution (R78). -/
theorem presenceActs_onChain (n : Fin 6) (rise : Bool) (s : State) (hr : s.router.resolved = true)
    (hc : onChain s n = true) (ha : autoFollow s n = none) : presenceActs n rise s = reResolve s := by
  simp [presenceActs, hr, hc, ha]

/-- A rise that an entry follows is a request of origin AUTO; while SETTLING it joins the re-resolution of the chain
(R78, R83). -/
theorem presenceActs_followed (n : Fin 6) (x : Fin 8) (s : State) (hr : s.router.resolved = true)
    (ha : autoFollow s n = some x) :
    let q : RouteRequest := { source := x, origin := .auto, scope := .momentary }
    presenceActs n true s = if s.router.state = .settling then (holdRoute q (if onChain s n then reResolve s else s)).2
      else (routeRequest q s).2 := by
  simp [presenceActs, hr, ha]

/-- While SETTLING a re-resolution is deferred (R78). -/
theorem reResolve_deferred (s : State) (hr : s.router.resolved = true) (hs : s.router.state = .settling) :
    reResolve s = { s with router := { s.router with deferred := true } } := by
  simp [reResolve, hr, hs]

/-! ## The obligation, part by part (R69, R78, R83) -/

/-- A raw line that changes starts its timer, once the first values are taken (R69). -/
theorem exec_presenceLineChange (n : Fin 6) (b : Bool) (s : State) (h : s.router.raw[n] ≠ b) :
    ∃ t, exec (.presenceLineChange n b) s = .next t ∧ t.router.raw = s.router.raw.set n b ∧
      (s.router.debounced ≠ none → t.router.stability = s.router.stability.set n (some 500)) ∧
      t = { s with router := { s.router with raw := t.router.raw, stability := t.router.stability } } := by
  refine ⟨_, congrArg Host.Outcome.next (if_neg h), rfl, fun hd => ?_, rfl⟩
  exact if_pos (Option.isSome_iff_ne_none.mpr hd)

/-- An expiry on an input of no chain, which no entry follows, leaves the route (R69, R78). -/
theorem stabilityExpires_elsewhere (n : Fin 6) (d : Vector Bool 6) (s : State) (h : s.router.debounced = some d)
    (hc : ∀ m ∈ s.router.chain, m.2 ≠ some n) (hf : ∀ x : Fin 8, s.router.sources[x].autoFollow = false) :
    stabilityExpires n s = presenceTaken n d s := by
  have hon : onChain (presenceTaken n d s) n = false := by
    rw [← Bool.not_eq_true, onChain_iff]
    exact fun ⟨m, hm, hn⟩ => hc m hm hn
  rw [stabilityExpires_eq n d s h, presenceActs_elsewhere _ _ _ hon (autoFollow_of_unflagged _ _ hf), ite_self]

/-- The state in which the route acts on a debounced value that is new (R69). -/
theorem stabilityExpires_acts (n : Fin 6) (d : Vector Bool 6) (s : State) (h : s.router.debounced = some d)
    (hn : d[n] ≠ s.router.raw[n]) :
    stabilityExpires n s = presenceActs n s.router.raw[n] (presenceTaken n d s) := by
  rw [stabilityExpires_eq n d s h, if_neg hn]

/-- A change on the chain that no entry follows is a re-resolution (R78). -/
theorem stabilityExpires_onChain (n : Fin 6) (d : Vector Bool 6) (s : State) (h : s.router.debounced = some d)
    (hr : s.router.resolved = true) (hn : d[n] ≠ s.router.raw[n])
    (hf : ∀ x : Fin 8, s.router.sources[x].autoFollow = false) (hc : ∃ y ∈ s.router.chain, y.2 = some n) :
    stabilityExpires n s = reResolve (presenceTaken n d s) := by
  rw [stabilityExpires_acts n d s h hn]
  exact presenceActs_onChain n _ _ hr ((onChain_iff _ _).mpr hc) (autoFollow_of_unflagged _ _ hf)

/-- The route of a source whose own input is PRESENT (R70). -/
theorem routedOf_of_present (d : Option (Vector Bool 6)) (sources : Vector SourceEntry 8) (x : Fin 8) (n : Fin 6)
    (hx : sources[x].input = some n) (hp : isPresent d (some n) = true) :
    routedOf d (chainOf sources x) = (some x, some n) := by
  obtain ⟨⟨r, hr⟩, -⟩ := walk_spec sources x
  have hroute := routedOf_chainOf_present d sources x 0 x (by rw [hr]; rfl) (by rw [hx]; exact hp)
    fun k b hk => absurd hk (Nat.not_lt_zero k)
  rwa [hx] at hroute

/-- A rise outside a settle that an entry follows routes the entry's input at once (R83). -/
theorem followed_now (n : Fin 6) (x : Fin 8) (s : State) (hr : s.router.resolved = true)
    (hs : s.router.state ≠ .settling) (hx : s.router.sources[x].input = some n)
    (hp : isPresent s.router.debounced (some n) = true) :
    let t := (routeRequest { source := x, origin := .auto, scope := .momentary } s).2
    t.router.requested = some x ∧ t.router.routedSource = some x ∧ t.router.routedInput = some n ∧
      (s.router.routedInput ≠ some n → t.router.state = .settling ∧ t.router.settleOrigin = .auto ∧
        t.router.settle = some s.store.room.settleTime) := by
  obtain ⟨-, -, ⟨hreq, -, hsource, hinput, -, -, hnew, -⟩, -⟩ :=
    routeRequest_routed { source := x, origin := .auto, scope := .momentary } s hr hs
  have hroute := routedOf_of_present s.router.debounced s.router.sources x n hx hp
  dsimp only at hsource hinput hnew
  rw [hroute] at hsource hinput hnew
  refine ⟨hreq, hsource, hinput, fun hne => ?_⟩
  obtain ⟨hstate, horigin, hsettle, -⟩ := hnew (Ne.symm hne)
  exact ⟨hstate, horigin, hsettle⟩

/-- A rise while SETTLING that an entry follows is held in the empty slot (R81, R83). -/
theorem followed_settling (n : Fin 6) (x : Fin 8) (s : State) (hslot : s.router.pendingSlot = none) :
    let q : RouteRequest := { source := x, origin := .auto, scope := .momentary }
    let t := (holdRoute q (if onChain s n then reResolve s else s)).2
    t.router.requested = s.router.requested ∧ t.router.pendingSlot = some q := by
  have hkept : ((if onChain s n then reResolve s else s).router.pendingSlot = none) ∧
      (if onChain s n then reResolve s else s).router.requested = s.router.requested := by
    split <;> simp [hslot]
  obtain ⟨-, hheld⟩ := holdRoute_held { source := x, origin := .auto, scope := .momentary }
    (if onChain s n then reResolve s else s) fun held hh => by simp [hkept.1] at hh
  dsimp only
  rw [hheld]
  exact ⟨hkept.2, rfl⟩

/-- Settles O44, from the line, the two expiries, the first sample, and the route's part in a new debounced value. -/
theorem presenceIsDebounced : Obligations.PresenceIsDebounced := by
  unfold Obligations.PresenceIsDebounced
  refine ⟨fun n b s => ⟨exec_presenceLineChange n b s, fun d hd ht => ?_, fun ht => ?_⟩,
    fun n d s hd ht hr hn => ⟨fun m y hf hy hyn hm => ?_, fun x hraw hx hxn hlow => ?_⟩⟩
  · obtain ⟨hdeb, hstab⟩ := stabilityExpires_debounced n d s hd
    refine ⟨_, exec_stabilityTimerExpiry n s ht, by simpa using hdeb, by simpa using hstab, by simp, fun hc hf => ?_,
      by simp, by simp, by simp, by simp, by simp, by simp [storeServed_iff], by simp [contexts]⟩
    rw [stabilityExpires_elsewhere n d s hd hc hf]
    simp [presenceTaken]
  · obtain ⟨hdeb, hsample⟩ := takeSample_router s
    refine ⟨_, exec_firstPresenceSample s ht, by simpa using hdeb, by simpa using hsample, by simp, by simp,
      by simp [contexts], by simp, by simp, by simp, by simp, by simp, by simp [linkServed_iff], by simp [storeServed_iff],
      fun hl hres => by simpa using takeSample_resolves s hl hres⟩
  · have he := stabilityExpires_onChain n d s hd hr hn hf ⟨y, hy, hyn⟩
    refine ⟨_, exec_stabilityTimerExpiry n s ht, by simp [he, presenceTaken, hm], fun hs => ?_, fun hs => ?_⟩
    · rw [he, reResolve_deferred (presenceTaken n d s) hr hs]
      simp [presenceTaken]
    · rw [he, reResolve_now (presenceTaken n d s) hr hs]
      obtain ⟨-, hchain, hsource, hinput, -, -, hnew, hsame⟩ := resolve_routedTo .auto false m (presenceTaken n d s) hm
      have hfin : (finish (resolve .auto false (presenceTaken n d s)).2).router =
        (resolve .auto false (presenceTaken n d s)).2.router := by simp
      rw [hfin]
      refine ⟨hsource, hinput, hchain, fun hne => ?_, fun he => (hsame he).1⟩
      obtain ⟨hstate, horigin, hsettle, -⟩ := hnew hne
      exact ⟨hstate, horigin, hsettle⟩
  · have he := stabilityExpires_acts n d s hd hn
    rw [hraw, presenceActs_followed n x (presenceTaken n d s) hr
      (autoFollow_of_lowest (presenceTaken n d s) n x hx hxn hlow)] at he
    have hfin : (finish (stabilityExpires n s)).router = (stabilityExpires n s).router := by simp
    refine ⟨_, exec_stabilityTimerExpiry n s ht, fun hs => ?_, fun hs hslot => ?_⟩
    · rw [hfin, he.trans (if_neg hs)]
      exact followed_now n x (presenceTaken n d s) hr hs hxn (by simp [presenceTaken, isPresent, hraw])
    · rw [hfin, he.trans (if_pos hs)]
      exact followed_settling n x (presenceTaken n d s) hslot

end Sys2Proof.Machine
end

section
namespace Sys2Proof.Machine

/-! ## Entries that a checkpoint request leaves in the queue (R10, R156) -/

section
variable {e : Entry} {s : State} (he : e.key ≠ .lampCheckpoint) (h : e ∈ s.store.queue)
include he h

theorem checkpointRequest_queued : e ∈ (checkpointRequest s).store.queue := by
  unfold checkpointRequest
  repeat' split
  · exact h
  · exact h
  · rw [queueLive_queue]
    exact enqueue_keeps _ _ _ h he

theorem levelBecomes_queued (ask : Bool) (old : Option Level) (v : Level) (wear : Nat) :
    e ∈ (levelBecomes ask old v wear s).store.queue := by
  unfold levelBecomes
  dsimp only
  split
  · exact h
  · split
    · cases ask
      · simpa using h
      · simpa using checkpointRequest_queued he (s := postThreshold v wear _) (by simpa using h)
    · simpa using h

theorem relevel_queued : e ∈ (relevel s).store.queue := by
  unfold relevel relevelAsking
  split
  · exact h
  · exact levelBecomes_queued he h _ _ _ _

theorem advanceCadence_queued : e ∈ (advanceCadence s).store.queue := by
  unfold advanceCadence
  dsimp only
  split
  · exact checkpointRequest_queued he h
  · exact h

theorem chargeSecond_queued : e ∈ (chargeSecond s).store.queue := by
  unfold chargeSecond
  split
  · exact h
  · exact relevel_queued he (advanceCadence_queued he h)

theorem endBurn_queued : e ∈ (endBurn s).store.queue := by
  unfold endBurn
  dsimp only
  split
  · exact h
  · exact h
  · exact chargeSecond_queued he h

theorem setPower_queued (dest : PowerState) (o : Origin) (r : Option Reason) :
    e ∈ (setPower dest o r s).store.queue := by
  have hburn : e ∈ (if isLit s.power.state && !isLit dest then endBurn s else s).store.queue := by
    split
    · exact endBurn_queued he h
    · exact h
  simp only [setPower, postFor_frame, enterPower, syncNoSignal_frame]
  split
  · refine checkpointRequest_queued he ?_
    split <;> exact hburn
  · split <;> exact hburn

/-- The no-signal rule asks for a checkpoint at most (R10, R48). -/
theorem noSignalExpires_queued : e ∈ (noSignalExpires s).store.queue := by
  unfold noSignalExpires
  rw [noSignalActs_eq]
  repeat' split
  · exact h
  · exact setPower_queued he (by simpa using h) _ _ _
  · simpa using h
  · exact h

theorem timeoutChanged_queued (old : Nat) : e ∈ (timeoutChanged old s).store.queue := by
  unfold timeoutChanged
  dsimp only
  repeat' split
  all_goals first | exact h | exact noSignalExpires_queued he h

end

/-! ## Items of a request (R168, R176) -/

theorem itemAt_drop (ps : List Word) (k i : Nat) : itemAt (ps.drop k) i = itemAt ps (k + i) := by
  simp [itemAt, List.getD_eq_getElem?_getD]

theorem numAt_drop (ps : List Word) (k i : Nat) : numAt (ps.drop k) i = numAt ps (k + i) :=
  congrArg BitVec.toNat (itemAt_drop ps k i)

/-- A selector among value and KEEP (R176). -/
theorem choiceAt_keep (ps : List Word) (i : Nat) : choiceAt ps i [0, 1] =
    if numAt ps i = 0 then some (.value (itemAt ps (i + 1))) else if numAt ps i = 1 then some .keep else none := by
  unfold choiceAt
  by_cases h0 : numAt ps i = 0
  · simp [h0]
  · by_cases h1 : numAt ps i = 1 <;> simp [h0, h1]

/-- A selector among value and absent (R176). -/
theorem choiceAt_absent (ps : List Word) (i : Nat) : choiceAt ps i [0, 3] =
    if numAt ps i = 0 then some (.value (itemAt ps (i + 1))) else if numAt ps i = 3 then some .absent else none := by
  unfold choiceAt
  by_cases h0 : numAt ps i = 0
  · simp [h0]
  · by_cases h3 : numAt ps i = 3 <;> simp [h0, h3]

theorem absentItem_isSome {α : Type} (read : Word → Option α) (ps : List Word) (i : Nat) :
    (absentItem read ps i).isSome = true ↔
      numAt ps i = 3 ∨ (numAt ps i = 0 ∧ (read (itemAt ps (i + 1))).isSome = true) := by
  unfold absentItem
  rw [choiceAt_absent]
  by_cases h0 : numAt ps i = 0
  · simp [h0]
  · by_cases h3 : numAt ps i = 3 <;> simp [h0, h3]

theorem finOf_isSome (n k : Nat) : (finOf n k).isSome = true ↔ k < n := by
  unfold finOf
  split <;> simp [*]

theorem inputOf_isSome (w : Word) : (inputOf w).isSome = true ↔ 1 ≤ w.toNat ∧ w.toNat ≤ 6 := by
  unfold inputOf
  split
  · simp; omega
  · rw [finOf_isSome]; omega

theorem setOf_isSome (n : Nat) (w : Word) : (Sys2Proof.Machine.setOf n w).isSome = true ↔ w.toNat < 2 ^ n := by
  unfold Sys2Proof.Machine.setOf
  split <;> simp [*]

theorem enumAt_isSome {α : Type} (all : List α) (ps : List Word) (i : Nat) :
    (enumAt all ps i).isSome = true ↔ numAt ps i < all.length := by
  simp [enumAt]

/-- A number item is the value brought into range, or the old number at KEEP, with whether the value was changed
(R160, R161). -/
theorem numberItem_eq (fit : Nat → Nat) (old : Nat) (ps : List Word) (i : Nat) : numberItem fit old ps i =
    if numAt ps i = 0 then some (fit (numAt ps (i + 1)), fit (numAt ps (i + 1)) != numAt ps (i + 1))
    else if numAt ps i = 1 then some (old, false) else none := by
  unfold numberItem
  rw [choiceAt_keep]
  by_cases h0 : numAt ps i = 0
  · rw [if_pos h0, if_pos h0]
    rfl
  · by_cases h1 : numAt ps i = 1 <;> simp [h0, h1]

theorem numberItem_isSome (fit : Nat → Nat) (old : Nat) (ps : List Word) (i : Nat) :
    (numberItem fit old ps i).isSome = true ↔ numAt ps i ≤ 1 := by
  rw [numberItem_eq]
  split
  · next h0 => exact iff_of_true rfl (by omega)
  · split
    · next h1 => exact iff_of_true rfl (by omega)
    · exact iff_of_false (by simp) (by omega)

theorem numberItem_some {fit : Nat → Nat} {old now : Nat} {c : Bool} {ps : List Word} {i : Nat}
    (h : numberItem fit old ps i = some (now, c)) :
    ((∀ w, choiceAt ps i [0, 1] = some (.value w) → now = fit w.toNat) ∧
      (choiceAt ps i [0, 1] = some .keep → now = old)) ∧
    (c = true ↔ ∃ w, choiceAt ps i [0, 1] = some (.value w) ∧ now ≠ w.toNat) := by
  unfold numberItem at h
  generalize choiceAt ps i [0, 1] = item at h ⊢
  rcases item with _ | v | _ | _ | _
  · cases h
  · obtain ⟨rfl, rfl⟩ := Prod.mk.inj (Option.some.inj h)
    simp
  · obtain ⟨rfl, rfl⟩ := Prod.mk.inj (Option.some.inj h)
    simp
  · cases h
  · cases h

theorem keepItem_some {α : Type} {read : Word → Option α} {ps : List Word} {i : Nat} {v : Option α}
    (h : keepItem read ps i = some v) :
    (∀ w, choiceAt ps i [0, 1] = some (.value w) → v ≠ none ∧ read w = v) ∧
      (choiceAt ps i [0, 1] = some .keep → v = none) := by
  unfold keepItem at h
  generalize choiceAt ps i [0, 1] = item at h ⊢
  rcases item with _ | w | _ | _ | _
  · cases h
  · obtain ⟨a, ha, rfl⟩ := Option.map_eq_some_iff.mp h
    simp [ha]
  · obtain rfl := Option.some.inj h
    simp
  · cases h
  · cases h

/-- An item with a value that cannot be read, or with a selector not allowed, is none (R168). -/
theorem keepItem_none {α : Type} {read : Word → Option α} {ps : List Word} {i : Nat}
    (h : 1 < numAt ps i ∨ ∃ w, choiceAt ps i [0, 1] = some (.value w) ∧ read w = none) : keepItem read ps i = none := by
  unfold keepItem
  rcases h with h | ⟨w, hw, hr⟩
  · rw [choiceAt_keep, if_neg (by omega), if_neg (by omega)]
  · rw [hw]
    simp [hr]

/-! ## The four records (R68, R136, R160, R161) -/

theorem installItem_some {old r : InstallRecord} {c : Bool} {ps : List Word} (h : installItem old ps = some (r, c)) :
    ∃ a b d e vacant service, numberItem ratedLifeOf old.ratedLife ps 0 = some (r.ratedLife, a) ∧
      numberItem (clampNat 90 300) old.coolingTime ps 2 = some (r.coolingTime, b) ∧
      numberItem (clampNat 30 120) old.warmingTime ps 4 = some (r.warmingTime, d) ∧
      keepItem (fun w => finOf 8 w.toNat) ps 6 = some vacant ∧ r.vacantProfile = vacant.getD old.vacantProfile ∧
      keepItem (enumOf enabledList) ps 8 = some service ∧ r.serviceDefault = service.getD old.serviceDefault ∧
      numberItem (clampNat 0 7) old.retryCount ps 10 = some (r.retryCount, e) ∧ c = (a || b || d || e) := by
  unfold installItem at h
  split at h
  · next life a cooling b warming d vacant service retry e ha hb hd hv hs he =>
    obtain ⟨rfl, rfl⟩ := Prod.mk.inj (Option.some.inj h)
    exact ⟨a, b, d, e, vacant, service, ha, hb, hd, hv, rfl, hs, rfl, he, rfl⟩
  · cases h

theorem roomItem_some {old r : RoomDefaults} {c : Bool} {ps : List Word} (h : roomItem old ps = some (r, c)) :
    ∃ a b d e, numberItem settleTimeOf old.settleTime ps 0 = some (r.settleTime, a) ∧
      numberItem (clampNat 0 120) old.noSignal ps 2 = some (r.noSignal, b) ∧
      numberItem (clampNat 0 30) old.blankDim ps 4 = some (r.blankDim, d) ∧
      numberItem (clampNat 0 60) old.bridgeGap ps 6 = some (r.bridgeGap, e) ∧
      r = { old with settleTime := r.settleTime, noSignal := r.noSignal, blankDim := r.blankDim
                     bridgeGap := r.bridgeGap } ∧ c = (a || b || d || e) := by
  unfold roomItem at h
  split at h
  · next settle a noSignal b dim d gap e ha hb hd he =>
    obtain ⟨rfl, rfl⟩ := Prod.mk.inj (Option.some.inj h)
    exact ⟨a, b, d, e, ha, hb, hd, he, rfl, rfl⟩
  · cases h

theorem finOf_val {n k : Nat} {x : Fin n} (h : finOf n k = some x) : x.val = k := by
  unfold finOf at h
  split at h
  · exact congrArg Fin.val (Option.some.inj h).symm
  · cases h

/-- ENABLED is the word 0 (R142; log entry 8). -/
theorem enumOf_enabled {w : Word} {b : Bool} (h : enumOf enabledList w = some b) : b = decide (w = 0) := by
  have hlt : w.toNat < 2 := (List.getElem?_eq_some_iff.mp h).1
  have hw : w = 0 ↔ w.toNat = 0 := ⟨fun h => h ▸ rfl, fun h => BitVec.eq_of_toNat_eq h⟩
  have hcases : w.toNat = 0 ∨ w.toNat = 1 := by omega
  rcases hcases with h0 | h1
  · simp_all [enumOf, enabledList]
  · simp_all [enumOf, enabledList]

/-- The INSTALL RECORD made of the old one, field by field (R160). -/
theorem installItem_fields {old r : InstallRecord} {c : Bool} {ps : List Word} (h : installItem old ps = some (r, c)) :
    let value := fun (i : Nat) (w : Word) => choiceAt ps i [0, 1] = some (.value w)
    let keeps := fun (i : Nat) => choiceAt ps i [0, 1] = some .keep
    let number := fun (i : Nat) (fit : Nat → Nat) (was now : Nat) =>
      (∀ w, value i w → now = fit w.toNat) ∧ (keeps i → now = was)
    let altered := fun (i : Nat) (now : Nat) => ∃ w, value i w ∧ now ≠ w.toNat
    number 0 ratedLifeOf old.ratedLife r.ratedLife ∧ number 2 (clampNat 90 300) old.coolingTime r.coolingTime ∧
      number 4 (clampNat 30 120) old.warmingTime r.warmingTime ∧
      number 6 (fun n => n) old.vacantProfile.val r.vacantProfile.val ∧
      (∀ w, value 8 w → r.serviceDefault = decide (w = 0)) ∧ (keeps 8 → r.serviceDefault = old.serviceDefault) ∧
      number 10 (clampNat 0 7) old.retryCount r.retryCount ∧
      (c = true ↔
        altered 0 r.ratedLife ∨ altered 2 r.coolingTime ∨ altered 4 r.warmingTime ∨ altered 10 r.retryCount) := by
  obtain ⟨a, b, d, e, vacant, service, ha, hb, hd, hv, hvacant, hs, hservice, he, rfl⟩ := installItem_some h
  obtain ⟨hlife, hca⟩ := numberItem_some ha
  obtain ⟨hcooling, hcb⟩ := numberItem_some hb
  obtain ⟨hwarming, hcd⟩ := numberItem_some hd
  obtain ⟨hretry, hce⟩ := numberItem_some he
  obtain ⟨hvalue, hkeep⟩ := keepItem_some hv
  obtain ⟨hvalue', hkeep'⟩ := keepItem_some hs
  refine ⟨hlife, hcooling, hwarming, ⟨fun w hw => ?_, fun hk => ?_⟩, fun w hw => ?_, fun hk => ?_, hretry, ?_⟩
  · obtain ⟨hne, hread⟩ := hvalue w hw
    obtain ⟨x, rfl⟩ := Option.ne_none_iff_exists'.mp hne
    rw [hvacant]
    exact finOf_val hread
  · rw [hvacant, hkeep hk]
    rfl
  · obtain ⟨hne, hread⟩ := hvalue' w hw
    obtain ⟨x, rfl⟩ := Option.ne_none_iff_exists'.mp hne
    rw [hservice]
    exact enumOf_enabled hread
  · rw [hservice, hkeep' hk]
    rfl
  · rw [Bool.or_eq_true, Bool.or_eq_true, Bool.or_eq_true, hca, hcb, hcd, hce, or_assoc, or_assoc]

/-- ROOM DEFAULTS made of the old ones, field by field (R161). -/
theorem roomItem_fields {old r : RoomDefaults} {c : Bool} {ps : List Word} (h : roomItem old ps = some (r, c)) :
    let value := fun (i : Nat) (w : Word) => choiceAt ps i [0, 1] = some (.value w)
    let number := fun (i : Nat) (fit : Nat → Nat) (was now : Nat) =>
      (∀ w, value i w → now = fit w.toNat) ∧ (choiceAt ps i [0, 1] = some .keep → now = was)
    let altered := fun (i : Nat) (now : Nat) => ∃ w, value i w ∧ now ≠ w.toNat
    number 0 settleTimeOf old.settleTime r.settleTime ∧ number 2 (clampNat 0 120) old.noSignal r.noSignal ∧
      number 4 (clampNat 0 30) old.blankDim r.blankDim ∧ number 6 (clampNat 0 60) old.bridgeGap r.bridgeGap ∧
      r = { old with settleTime := r.settleTime, noSignal := r.noSignal, blankDim := r.blankDim
                     bridgeGap := r.bridgeGap } ∧
      (c = true ↔ altered 0 r.settleTime ∨ altered 2 r.noSignal ∨ altered 4 r.blankDim ∨ altered 6 r.bridgeGap) := by
  obtain ⟨a, b, d, e, ha, hb, hd, he, hr, rfl⟩ := roomItem_some h
  obtain ⟨hsettle, hca⟩ := numberItem_some ha
  obtain ⟨hsignal, hcb⟩ := numberItem_some hb
  obtain ⟨hdim, hcd⟩ := numberItem_some hd
  obtain ⟨hgap, hce⟩ := numberItem_some he
  refine ⟨hsettle, hsignal, hdim, hgap, hr, ?_⟩
  rw [Bool.or_eq_true, Bool.or_eq_true, Bool.or_eq_true, hca, hcb, hcd, hce, or_assoc, or_assoc]

/-- A value beyond its list, or a selector not allowed, is out of range (R160, R168). -/
theorem installItem_none (old : InstallRecord) (ps : List Word)
    (h : (∃ w, choiceAt ps 6 [0, 1] = some (.value w) ∧ 7 < w.toNat) ∨
      (∃ w, choiceAt ps 8 [0, 1] = some (.value w) ∧ 1 < w.toNat) ∨ ∃ i ∈ [0, 2, 4, 6, 8, 10], 1 < numAt ps i) :
    installItem old ps = none := by
  refine Option.eq_none_iff_forall_ne_some.mpr fun ⟨r, c⟩ hr => ?_
  obtain ⟨a, b, d, e, vacant, service, ha, hb, hd, hv, -, hs, -, he, -⟩ := installItem_some hr
  have number {fit : Nat → Nat} {was i : Nat} {x : Nat × Bool} (hx : numberItem fit was ps i = some x) :
      ¬ 1 < numAt ps i := Nat.not_lt.mpr ((numberItem_isSome fit was ps i).mp (by simp [hx]))
  have keep {α : Type} {read : Word → Option α} {i : Nat} {x : Option α} (hx : keepItem read ps i = some x) :
      ¬ (1 < numAt ps i ∨ ∃ w, choiceAt ps i [0, 1] = some (.value w) ∧ read w = none) := fun hn => by
    simp [keepItem_none hn] at hx
  rcases h with ⟨w, hw, hlt⟩ | ⟨w, hw, hlt⟩ | ⟨i, hi, hlt⟩
  · exact keep hv (.inr ⟨w, hw, finOf_beyond hlt⟩)
  · exact keep hs (.inr ⟨w, hw, List.getElem?_eq_none hlt⟩)
  · simp only [List.mem_cons, List.not_mem_nil, or_false] at hi
    rcases hi with rfl | rfl | rfl | rfl | rfl | rfl
    exacts [number ha hlt, number hb hlt, number hd hlt, keep hv (.inl hlt), keep hs (.inl hlt), number he hlt]

/-- ROOM DEFAULTS are made where each selector is a value or KEEP (R161). -/
theorem roomItem_isSome (old : RoomDefaults) (ps : List Word) :
    (roomItem old ps).isSome = true ↔ ∀ i ∈ [0, 2, 4, 6], numAt ps i ≤ 1 := by
  simp only [List.forall_mem_cons, List.not_mem_nil, false_implies, implies_true, and_true]
  rw [← numberItem_isSome settleTimeOf old.settleTime ps 0, ← numberItem_isSome (clampNat 0 120) old.noSignal ps 2,
    ← numberItem_isSome (clampNat 0 30) old.blankDim ps 4, ← numberItem_isSome (clampNat 0 60) old.bridgeGap ps 6]
  constructor
  · intro h
    obtain ⟨⟨r, c⟩, hr⟩ := Option.isSome_iff_exists.mp h
    obtain ⟨a, b, d, e, ha, hb, hd, he, -, -⟩ := roomItem_some hr
    simp [ha, hb, hd, he]
  · simp only [Option.isSome_iff_exists]
    rintro ⟨⟨⟨a, ca⟩, ha⟩, ⟨⟨b, cb⟩, hb⟩, ⟨⟨d, cd⟩, hd⟩, ⟨⟨e, ce⟩, he⟩⟩
    simp [roomItem, ha, hb, hd, he]

/-- A profile is made where each of its six sets is one of two members (R136). -/
theorem profileItem_isSome (ps : List Word) :
    (profileItem ps).isSome = true ↔ ∀ i : Nat, 1 ≤ i → i ≤ 6 → numAt ps i ≤ 3 := by
  have hset (i : Nat) : (Sys2Proof.Machine.setOf 2 (itemAt ps i)).isSome = true ↔ numAt ps i ≤ 3 := by
    rw [setOf_isSome]
    exact Nat.lt_succ_iff
  constructor
  · intro h i hi hi'
    rw [← hset]
    unfold profileItem at h
    split at h
    · next ha hb hc hd he hf =>
      interval_cases i <;> simp [*]
    · cases h
  · intro h
    have hsome (i : Nat) (hi : 1 ≤ i) (hi' : i ≤ 6) := Option.isSome_iff_exists.mp ((hset i).mpr (h i hi hi'))
    obtain ⟨a, ha⟩ := hsome 1 (by omega) (by omega)
    obtain ⟨b, hb⟩ := hsome 2 (by omega) (by omega)
    obtain ⟨c, hc⟩ := hsome 3 (by omega) (by omega)
    obtain ⟨d, hd⟩ := hsome 4 (by omega) (by omega)
    obtain ⟨e, he⟩ := hsome 5 (by omega) (by omega)
    obtain ⟨f, hf⟩ := hsome 6 (by omega) (by omega)
    simp [profileItem, ha, hb, hc, hd, he, hf]

/-- An entry is made where its name and each of its five fields are within their values (R67, R68). -/
theorem entryItem_isSome (ps : List Word) :
    let chosen := fun (i : Nat) (ok : Nat → Prop) => numAt ps i = 3 ∨ (numAt ps i = 0 ∧ ok (numAt ps (i + 1)))
    let k := 2 + (numAt ps 1 + 1) / 2
    (entryItem ps).isSome = true ↔ numAt ps 1 ≤ 12 ∧ chosen k (fun n => 1 ≤ n ∧ n ≤ 6) ∧
      chosen (k + 2) (fun n => n ≤ 7) ∧ chosen (k + 4) (fun n => n ≤ 15) ∧ numAt ps (k + 6) ≤ 1 ∧
      numAt ps (k + 7) ≤ 3 := by
  intro chosen k
  have hinput : (absentItem inputOf (ps.drop k) 0).isSome = true ↔ chosen k fun n => 1 ≤ n ∧ n ≤ 6 := by
    rw [absentItem_isSome, inputOf_isSome, numAt_drop, itemAt_drop]
    rfl
  have hfallback : (absentItem (fun w => finOf 8 w.toNat) (ps.drop k) 2).isSome = true ↔
      chosen (k + 2) fun n => n ≤ 7 := by
    rw [absentItem_isSome, finOf_isSome, numAt_drop, itemAt_drop, Nat.lt_succ_iff]
    rfl
  have hpreset : (absentItem (fun w => finOf 16 w.toNat) (ps.drop k) 4).isSome = true ↔
      chosen (k + 4) fun n => n ≤ 15 := by
    rw [absentItem_isSome, finOf_isSome, numAt_drop, itemAt_drop, Nat.lt_succ_iff]
    rfl
  have hfollow : (enumAt autoFollowList (ps.drop k) 6).isSome = true ↔ numAt ps (k + 6) ≤ 1 := by
    rw [enumAt_isSome, numAt_drop]
    exact Nat.lt_succ_iff
  have haspect : (enumAt aspectList (ps.drop k) 7).isSome = true ↔ numAt ps (k + 7) ≤ 3 := by
    rw [enumAt_isSome, numAt_drop]
    exact Nat.lt_succ_iff
  rw [← hinput, ← hfallback, ← hpreset, ← hfollow, ← haspect]
  have hk : k = 2 + textLength (itemAt ps 1) := rfl
  constructor
  · intro h
    simp only [entryItem, ← hk] at h
    split at h
    · next hi hf hp ha hs =>
      split at h
      · cases h
      · next hn => exact ⟨Nat.not_lt.mp hn, by simp [hi], by simp [hf], by simp [hp], by simp [ha], by simp [hs]⟩
    · cases h
  · simp only [Option.isSome_iff_exists]
    rintro ⟨hn, ⟨i, hi⟩, ⟨f, hf⟩, ⟨p, hp⟩, ⟨a, ha⟩, ⟨s, hs⟩⟩
    simp only [entryItem, ← hk, hi, hf, hp, ha, hs]
    exact ⟨_, if_neg (Nat.not_lt.mpr hn)⟩

/-! ## Requests that their block answers alone, or takes (R168) -/

section
variable {c : Command} {p : Port} {f : Frame} {q : Qualifier} {s : State} (h : taken c p f q s)
include h

/-- A request whose block leaves the state as it is leaves nothing but the answer (R168). -/
theorem request_answered {own : Qualifier → List Word → State → Answer × State} {a : Answer}
    (hr : own q (f.words.drop 1) (begun p f s) = (a, begun p f s)) :
    request c p f own s = after c p a (begun p f s) := by
  rw [request_taken c p f own q s h, hr]

/-- A request that its block takes has its effect and the command's end (R58, R158, R168). -/
theorem request_accepted {own : Qualifier → List Word → State → Answer × State} {a : Answer} {v : State}
    (ha : a.reason = none) (hr : own q (f.words.drop 1) (begun p f s) = accept a v) :
    request c p f own s = after c p a (finish v) := by
  rw [request_taken c p f own q s h, hr, accept_of_no_reason a v ha]

end

/-! ## SET SOURCE ENTRY (R68) -/

theorem ownSetSourceEntry_beyond (p : Port) (ps : List Word) (s : State)
    (h : ¬ (numAt ps 0 ≤ 7 ∧ (entryItem ps).isSome = true)) : ownSetSourceEntry p ps s = refuse .outOfRange s := by
  unfold ownSetSourceEntry
  split
  · next n e hn he =>
    have hlt := n.isLt
    rw [finOf_val hn] at hlt
    exact absurd ⟨Nat.le_of_lt_succ hlt, by simp [he]⟩ h
  · rfl

section
variable {p : Port} {ps : List Word} {s : State} {n : Fin 8} {e : SourceEntry} (hn : numAt ps 0 = n.val)
  (he : entryItem ps = some e)
include hn he

theorem ownSetSourceEntry_unchecked {r : Reason} (hr : standingCheck s .b true [.source n] = some r) :
    ownSetSourceEntry p ps s = refuse r s := by
  simp [ownSetSourceEntry, finOf_eq n hn, he, hr]

theorem ownSetSourceEntry_accepted (hc : standingCheck s .b true [.source n] = none) :
    ownSetSourceEntry p ps s = accept (doneQueued false []) (writeEntry n e (portOrigin p) s) := by
  simp [ownSetSourceEntry, finOf_eq n hn, he, hc]

end

/-- The live map becomes the edited one (R68). -/
theorem editSources_sources (new : Vector SourceEntry 8) (edited : List (Fin 8)) (s : State) :
    (editSources new edited s).router.sources = new := by
  unfold editSources
  dsimp only
  repeat' split
  all_goals simp

/-- The live entry is replaced, and its record queued (R68, R156). -/
theorem writeEntry_written (n : Fin 8) (e : SourceEntry) (o : Origin) (s : State) :
    (writeEntry n e o s).router.sources = s.router.sources.set n e ∧
      { key := .source n, image := sourceImage e, origin := o, switch := none } ∈ (writeEntry n e o s).store.queue := by
  refine ⟨editSources_sources _ _ _, ?_⟩
  simp [writeEntry, enqueue_mem]

/-! ## SET PROFILE (R136) -/

theorem ownSetProfile_beyond (p : Port) (ps : List Word) (s : State)
    (h : ¬ (numAt ps 0 ≤ 7 ∧ (profileItem ps).isSome = true)) : ownSetProfile p ps s = refuse .outOfRange s := by
  unfold ownSetProfile
  split
  · next n k hn hk =>
    have hlt := n.isLt
    rw [finOf_val hn] at hlt
    exact absurd ⟨Nat.le_of_lt_succ hlt, by simp [hk]⟩ h
  · rfl

section
variable {p : Port} {ps : List Word} {s : State} {n : Fin 8} {k : Profile} (hn : numAt ps 0 = n.val)
  (hk : profileItem ps = some k)
include hn hk

theorem ownSetProfile_unchecked {r : Reason} (hr : standingCheck s .b true [.profile n] = some r) :
    ownSetProfile p ps s = refuse r s := by
  simp [ownSetProfile, finOf_eq n hn, hk, hr]

theorem ownSetProfile_accepted (hc : standingCheck s .b true [.profile n] = none) :
    ownSetProfile p ps s = accept (doneQueued false []) (writeProfile n k (portOrigin p) s) := by
  simp [ownSetProfile, finOf_eq n hn, hk, hc]

end

/-- The live profile is replaced, and its record queued (R136, R156). -/
theorem writeProfile_written (n : Fin 8) (k : Profile) (o : Origin) (s : State) :
    (writeProfile n k o s).lockout.profiles = s.lockout.profiles.set n k ∧
      { key := .profile n, image := profileImage k, origin := o, switch := none } ∈
        (writeProfile n k o s).store.queue := by
  refine ⟨by simp [writeProfile], ?_⟩
  simp [writeProfile, liveImage, enqueue_mem]

/-! ## SET INSTALL RECORD (R160) -/

theorem ownSetInstallRecord_beyond (p : Port) (ps : List Word) (s : State)
    (h : installItem s.store.install ps = none) : ownSetInstallRecord p ps s = refuse .outOfRange s := by
  simp [ownSetInstallRecord, h]

theorem ownSetInstallRecord_unchecked {p : Port} {ps : List Word} {s : State} {r : InstallRecord} {c : Bool}
    {x : Reason} (h : installItem s.store.install ps = some (r, c)) (hx : standingCheck s .b true [.install] = some x) :
    ownSetInstallRecord p ps s = refuse x s := by
  simp [ownSetInstallRecord, h, hx]

/-- The new INSTALL RECORD in force: the level is judged by its rated life and the profile by its vacant one (R160). -/
def installActs (r : InstallRecord) (o : Origin) (s : State) : State :=
  refreshProfile o (relevel (writeInstall r o s))

theorem ownSetInstallRecord_accepted {p : Port} {ps : List Word} {s : State} {r : InstallRecord} {c : Bool}
    (h : installItem s.store.install ps = some (r, c)) (hc : standingCheck s .b true [.install] = none) :
    ownSetInstallRecord p ps s = accept (doneQueued c []) (installActs r (portOrigin p) s) := by
  simp [ownSetInstallRecord, h, hc, installActs]

/-- The live INSTALL RECORD is replaced, and its record queued (R156, R160). -/
theorem installActs_written (r : InstallRecord) (o : Origin) (s : State) :
    (installActs r o s).store.install = r ∧ { key := .install, image := installImage r, origin := o, switch := none } ∈
      (installActs r o s).store.queue := by
  refine ⟨by simp [installActs, writeInstall], ?_⟩
  have hq : { key := .install, image := installImage r, origin := o, switch := none } ∈
      (writeInstall r o s).store.queue := by
    simp [writeInstall, liveImage, enqueue_mem]
  simpa [installActs] using relevel_queued (by simp) hq

/-- The level judged again changes no tally: a checkpoint is asked for with a loaded account alone (R7, R15). -/
theorem relevel_tally (s : State) : (relevel s).lamp.tally = s.lamp.tally := by
  cases ha : s.lamp.account with
  | none => simp [relevel, relevelAsking, ha]
  | some a => rw [relevel_loaded s a ha, levelBecomes_tally _ _ _ _ _ (by simp [ha])]

/-! ## SET ROOM TIMES (R161) -/

theorem ownSetRoomTimes_beyond (p : Port) (ps : List Word) (s : State) (h : roomItem s.store.room ps = none) :
    ownSetRoomTimes p ps s = refuse .outOfRange s := by
  simp [ownSetRoomTimes, h]

theorem ownSetRoomTimes_unchecked {p : Port} {ps : List Word} {s : State} {r : RoomDefaults} {c : Bool} {x : Reason}
    (h : roomItem s.store.room ps = some (r, c)) (hx : standingCheck s .c false [.roomDefaults] = some x) :
    ownSetRoomTimes p ps s = refuse x s := by
  simp [ownSetRoomTimes, h, hx]

/-- The new times in force: the no-signal timeout and the blank-dim delay act at once (R47, R86, R161). -/
def timesAct (r : RoomDefaults) (o : Origin) (s : State) : State :=
  compareBlankDim (timeoutChanged s.store.room.noSignal (writeRoom r o s))

theorem ownSetRoomTimes_accepted {p : Port} {ps : List Word} {s : State} {r : RoomDefaults} {c : Bool}
    (h : roomItem s.store.room ps = some (r, c)) (hc : standingCheck s .c false [.roomDefaults] = none) :
    ownSetRoomTimes p ps s = accept (doneQueued c []) (timesAct r (portOrigin p) s) := by
  simp [ownSetRoomTimes, h, hc, timesAct]

/-- The live ROOM DEFAULTS are replaced, and their record queued (R156, R161). -/
theorem timesAct_written (r : RoomDefaults) (o : Origin) (s : State) :
    (timesAct r o s).store.room = r ∧ { key := .roomDefaults, image := roomImage r, origin := o, switch := none } ∈
      (timesAct r o s).store.queue := by
  refine ⟨by simp [timesAct], ?_⟩
  simpa [timesAct] using timeoutChanged_queued (by simp) (writeRoom_queued r o s) s.store.room.noSignal

/-- Outside ON a change of the no-signal timeout concerns its timer alone (R48, R86). -/
theorem timeoutChanged_dark (old : Nat) (s : State) (h : s.power.state ≠ .on) : timeoutChanged old s =
    { s with router := { s.router with noSignal := (timeoutChanged old s).router.noSignal } } := by
  unfold timeoutChanged
  dsimp only
  repeat' split
  · rfl
  · simp [noSignalExpires_otherwise s h]
  all_goals rfl

/-- Outside ON the new times reach the mode, by the blank-dim delay, and the no-signal timer alone (R47, R86). -/
theorem timesAct_dark (r : RoomDefaults) (o : Origin) (s : State) (h : s.power.state ≠ .on) :
    lampModed s.lamp (timesAct r o s).lamp ∧ (timesAct r o s).power = { s.power with
      dimmed := (timesAct r o s).power.dimmed, effectiveMode := (timesAct r o s).power.effectiveMode } := by
  unfold timesAct
  rw [timeoutChanged_dark _ _ (by simpa using h)]
  simp [lampModed, LampUnit.eq_iff, PowerUnit.eq_iff]

/-! ## The four writes, their checks passed -/

section
variable {p : Port} {f : Frame} {q : Qualifier} {s : State}

/-- SET SOURCE ENTRY, its checks passed (R68). -/
theorem exec_setSourceEntry_writes (h : taken .setSourceEntry p f q s) {n : Fin 8} {e : SourceEntry}
    (hn : numAt (f.words.drop 1) 0 = n.val) (he : entryItem (f.words.drop 1) = some e)
    (hc : standingCheck s .b true [.source n] = none) :
    ∃ t, exec (.setSourceEntry p f) s = .next t ∧ answered .setSourceEntry p f (doneQueued false []) s t ∧
      (t.router.sources = s.router.sources.set n e ∧ t.geometry.presets = s.geometry.presets ∧
        t.geometry.overlay = s.geometry.overlay ∧ storeServed s.store t.store ∧ t.lockout = s.lockout ∧
        t.lamp = s.lamp ∧ t.power = s.power) ∧
      sentToStore (.source n) (sourceImage e) (portOrigin p) t ∧ t.room = s.room ∧ t.pending = s.pending := by
  obtain ⟨hsources, hqueued⟩ := writeEntry_written n e (portOrigin p) (begun p f s)
  refine ⟨_, congrArg Host.Outcome.next (request_accepted h rfl (ownSetSourceEntry_accepted hn he (by simpa using hc))),
    answered_of _ _ _ _ _ _ (by simp), ⟨?_, by simp, by simp, by simp [storeServed_iff], by simp, by simp, by simp⟩,
    sent_of_queued _ _ _ hqueued ?_, by simp, by simp⟩
  · simpa using hsources
  · simpa [isProtected, keyRegion] using unprotected_of_standingCheck hc

/-- SET PROFILE, its checks passed (R136). -/
theorem exec_setProfile_writes (h : taken .setProfile p f q s) {n : Fin 8} {k : Profile}
    (hn : numAt (f.words.drop 1) 0 = n.val) (hk : profileItem (f.words.drop 1) = some k)
    (hc : standingCheck s .b true [.profile n] = none) :
    ∃ t, exec (.setProfile p f) s = .next t ∧ answered .setProfile p f (doneQueued false []) s t ∧
      (t.lockout = { s.lockout with profiles := s.lockout.profiles.set n k, active := t.lockout.active
                                    effective := t.lockout.effective } ∧
        storeServed s.store t.store ∧ linkServed s.link t.link ∧ t.lamp = s.lamp ∧ t.power = s.power ∧
        t.router = s.router ∧ t.geometry = s.geometry) ∧
      sentToStore (.profile n) (profileImage k) (portOrigin p) t ∧ t.room = s.room ∧ t.pending = s.pending := by
  obtain ⟨hprofiles, hqueued⟩ := writeProfile_written n k (portOrigin p) (begun p f s)
  refine ⟨_, congrArg Host.Outcome.next (request_accepted h rfl (ownSetProfile_accepted hn hk (by simpa using hc))),
    answered_of _ _ _ _ _ _ (by simp),
    ⟨?_, by simp [storeServed_iff], by simp [linkServed_iff], by simp, by simp, by simp, by simp⟩,
    sent_of_queued _ _ _ hqueued ?_, by simp, by simp⟩
  · rw [LockoutUnit.eq_iff]
    simpa using hprofiles
  · simpa [isProtected, keyRegion] using unprotected_of_standingCheck hc

/-- SET INSTALL RECORD, its checks passed (R160). -/
theorem exec_setInstallRecord_writes (h : taken .setInstallRecord p f q s) {r : InstallRecord} {c : Bool}
    (hr : installItem s.store.install (f.words.drop 1) = some (r, c)) (hc : standingCheck s .b true [.install] = none) :
    ∃ t, exec (.setInstallRecord p f) s = .next t ∧ answered .setInstallRecord p f (doneQueued c []) s t ∧
      (storeServed { s.store with install := r } t.store ∧ linkServed s.link t.link ∧ powerModed s.power t.power ∧
        t.lamp = { s.lamp with level := t.lamp.level, normalSeen := t.lamp.normalSeen, cadence := t.lamp.cadence } ∧
        t.lockout = { s.lockout with active := t.lockout.active } ∧ t.router = s.router ∧ t.geometry = s.geometry) ∧
      sentToStore .install (installImage r) (portOrigin p) t ∧ t.room = s.room ∧ t.pending = s.pending := by
  obtain ⟨hinstall, hqueued⟩ := installActs_written r (portOrigin p) (begun p f s)
  refine ⟨_, congrArg Host.Outcome.next (request_accepted h rfl (ownSetInstallRecord_accepted hr (by simpa using hc))),
    answered_of _ _ _ _ _ _ (by simp [installActs]),
    ⟨?_, by simp [installActs, linkServed_iff], by simp [installActs, powerModed, PowerUnit.eq_iff], ?_,
      by simp [installActs, LockoutUnit.eq_iff], by simp [installActs], by simp [installActs]⟩,
    sent_of_queued _ _ _ hqueued ?_, by simp [installActs], by simp [installActs]⟩
  · simp [installActs, storeServed_iff, writeInstall]
  · simp [installActs, LampUnit.eq_iff, relevel_tally]
  · simpa [installActs, isProtected, keyRegion] using unprotected_of_standingCheck hc

/-- SET ROOM TIMES, its checks passed (R161). -/
theorem exec_setRoomTimes_writes (h : taken .setRoomTimes p f q s) {r : RoomDefaults} {c : Bool}
    (hr : roomItem s.store.room (f.words.drop 1) = some (r, c))
    (hc : standingCheck s .c false [.roomDefaults] = none) :
    ∃ t, exec (.setRoomTimes p f) s = .next t ∧ answered .setRoomTimes p f (doneQueued c []) s t ∧
      (storeServed { s.store with room := r } t.store ∧ linkServed s.link t.link ∧ routerTimed s.router t.router ∧
        (s.power.state ≠ .on → lampModed s.lamp t.lamp ∧
          t.power = { s.power with dimmed := t.power.dimmed, effectiveMode := t.power.effectiveMode }) ∧
        t.geometry = s.geometry ∧ t.lockout = s.lockout) ∧
      sentToStore .roomDefaults (roomImage r) (portOrigin p) t ∧ t.room = s.room ∧ t.pending = s.pending := by
  obtain ⟨hroom, hqueued⟩ := timesAct_written r (portOrigin p) (begun p f s)
  refine ⟨_, congrArg Host.Outcome.next (request_accepted h rfl (ownSetRoomTimes_accepted hr (by simpa using hc))),
    answered_of _ _ _ _ _ _ (by simp [timesAct]),
    ⟨by simp [timesAct, storeServed_iff], by simp [timesAct, linkServed_iff],
      by simp [timesAct, routerTimed, RouterUnit.eq_iff], fun hdark => ?_, by simp [timesAct], by simp [timesAct]⟩,
    sent_of_queued _ _ _ hqueued ?_, by simp [timesAct], by simp [timesAct]⟩
  · simpa using timesAct_dark r (portOrigin p) (begun p f s) hdark
  · simpa [timesAct, isProtected, keyRegion] using unprotected_of_standingCheck hc

end

/-- Settles O56, by the fields of each record, by what makes one, and by the four writes. -/
theorem settingsWritesReplaceTheRecord : Obligations.SettingsWritesReplaceTheRecord := by
  unfold Obligations.SettingsWritesReplaceTheRecord
  refine ⟨fun ps => ⟨fun old r c hr => ?_, fun old r c hr => ?_,
      fun p f q s h hps => ⟨fun hbad => ?_, fun r c x hr hx => ?_⟩⟩,
    fun p f q s => ?_⟩
  · simpa only [clampNat, ratedLifeOf, Nat.zero_max] using installItem_fields hr
  · simpa only [clampNat, settleTimeOf, Nat.zero_max] using roomItem_fields hr
  · subst hps
    exact congrArg Host.Outcome.next (request_answered h (ownSetInstallRecord_beyond _ _ _ (installItem_none _ _ hbad)))
  · subst hps
    exact congrArg Host.Outcome.next (request_answered h (ownSetInstallRecord_unchecked hr (by simpa using hx)))
  · intro ps o refuses chosen k goodEntry goodProfile goodTimes
    have hentry : goodEntry → (entryItem ps).isSome = true := fun hg => (entryItem_isSome ps).mpr hg.2
    have hprofile : goodProfile → (profileItem ps).isSome = true := fun hg => (profileItem_isSome ps).mpr hg.2
    have htimes : (roomItem s.store.room ps).isSome = true ↔ goodTimes := roomItem_isSome s.store.room ps
    refine ⟨fun h => ⟨fun hbad => ?_, fun hg n r hn hr => ?_⟩, fun h => ⟨fun hbad => ?_, fun hg n r hn hr => ?_⟩,
      fun h => ⟨fun hbad => ?_, fun hg r hr => ?_⟩, hentry, hprofile, htimes.mpr,
      fun h n e hn he hc => exec_setSourceEntry_writes h hn he hc,
      fun h n k hn hk hc => exec_setProfile_writes h hn hk hc,
      fun h r c hr hc => exec_setInstallRecord_writes h hr hc, fun h r c hr hc => exec_setRoomTimes_writes h hr hc⟩
    · exact congrArg Host.Outcome.next (request_answered h (ownSetSourceEntry_beyond _ _ _
        fun hg => hbad ⟨hg.1, (entryItem_isSome ps).mp hg.2⟩))
    · obtain ⟨e, he⟩ := Option.isSome_iff_exists.mp (hentry hg)
      exact congrArg Host.Outcome.next (request_answered h (ownSetSourceEntry_unchecked hn he (by simpa using hr)))
    · exact congrArg Host.Outcome.next (request_answered h (ownSetProfile_beyond _ _ _
        fun hg => hbad ⟨hg.1, (profileItem_isSome ps).mp hg.2⟩))
    · obtain ⟨e, he⟩ := Option.isSome_iff_exists.mp (hprofile hg)
      exact congrArg Host.Outcome.next (request_answered h (ownSetProfile_unchecked hn he (by simpa using hr)))
    · refine congrArg Host.Outcome.next (request_answered h (ownSetRoomTimes_beyond _ _ _ ?_))
      exact Option.not_isSome_iff_eq_none.mp fun hg => hbad (htimes.mp hg)
    · obtain ⟨⟨e, c⟩, he⟩ := Option.isSome_iff_exists.mp (htimes.mpr hg)
      exact congrArg Host.Outcome.next (request_answered h (ownSetRoomTimes_unchecked he (by simpa using hr)))

end Sys2Proof.Machine
end

section
namespace Sys2Proof.Machine

/-! ## What the search for a day finds (R114) -/

theorem liveBooking_eq_some {s : State} {o : Occurrence} {b : Booking} : liveBooking s o = some b ↔
    s.room.bookings[o.id] = some b ∧ occursOn b.kind o.day = true ∧ o ∉ s.room.exceptions := by
  unfold liveBooking
  split
  · next c hc =>
    by_cases h : (occursOn c.kind o.day && !isCancelled s o) = true
    · rw [if_pos h]
      simp only [isCancelled, Bool.and_eq_true, Bool.not_eq_true', List.contains_eq_mem, decide_eq_false_iff_not] at h
      rw [hc, Option.some.injEq]
      exact ⟨fun he => he ▸ ⟨rfl, h⟩, fun he => he.1⟩
    · rw [if_neg h, hc]
      refine iff_of_false (by simp) ?_
      rintro ⟨hcb, ho, hx⟩
      cases hcb
      exact h (by simp [ho, isCancelled, hx])
  · next hc => simp [hc]

/-- A search over consecutive numbers finds one at or before any that it holds. -/
theorem find_range_le {P : Nat → Bool} {start n d : Nat} (hs : start ≤ d) (hn : d < start + n) (hd : P d = true) :
    ∃ e, e ≤ d ∧ ((List.range n).map (start + ·)).find? P = some e := by
  have hi : P (start + (d - start)) = true := by rwa [Nat.add_sub_cancel' hs]
  have hsome : ((List.range n).find? (P ∘ (start + ·))).isSome = true :=
    List.find?_isSome.mpr ⟨d - start, List.mem_range.mpr (by omega), hi⟩
  obtain ⟨j, hj⟩ := Option.isSome_iff_exists.mp hsome
  refine ⟨start + j, ?_, by rw [List.find?_map, hj]; rfl⟩
  by_contra hlt
  have hnot := (List.find?_range_eq_some.mp hj).2.2 (d - start) (by omega)
  simp [hi] at hnot

/-- Of as many days as there are exceptions and one more, one is not cancelled (R114). -/
theorem exists_uncancelled (s : State) (id : Fin 64) (r : Nat) :
    ∃ j, j ≤ s.room.exceptions.length ∧ (⟨id, r + 7 * j⟩ : Occurrence) ∉ s.room.exceptions := by
  by_contra hall
  push Not at hall
  let days := (List.range (s.room.exceptions.length + 1)).map fun j => (⟨id, r + 7 * j⟩ : Occurrence)
  have hnodup : days.Nodup := List.nodup_range.map fun i j h => by
    have := (Occurrence.mk.inj h).2
    omega
  have hsub : days ⊆ s.room.exceptions := by
    intro o ho
    obtain ⟨j, hj, rfl⟩ := List.mem_map.mp ho
    exact hall j (Nat.lt_succ_iff.mp (List.mem_range.mp hj))
  have := (List.subperm_of_subset hnodup hsub).length_le
  simp [days] at this

/-- A WEEKLY booking occurs on a day of the same week day, from its first day on, before one on which it occurs
(R114). -/
theorem occursOn_earlier {mask : BitVec 7} {first d e : Nat} {last : Option Nat}
    (h : occursOn (.weekly mask first last) d = true) (hf : first ≤ e) (he : e ≤ d) (hmod : e % 7 = d % 7) :
    occursOn (.weekly mask first last) e = true := by
  simp only [occursOn, Bool.and_eq_true, decide_eq_true_eq] at h ⊢
  obtain ⟨hday, ⟨hfirst, hlast⟩, hmask⟩ := h
  refine ⟨by omega, ⟨hf, ?_⟩, hmod ▸ hmask⟩
  cases last with
  | none => rfl
  | some l => exact decide_eq_true (Nat.le_trans he (of_decide_eq_true hlast))

/-- The day at which the search for an occurrence begins (R114). -/
def searchStart (k : BookingKind) (base : Nat) : Nat :=
  match k with
  | .oneOff day => day
  | .weekly _ first _ => max first base

theorem firstDay_eq {s : State} {id : Fin 64} {base : Nat} {ok : Booking → Nat → Bool} {b : Booking}
    (hb : s.room.bookings[id] = some b) : firstDay s id base ok =
      (((List.range ((s.room.exceptions.length + 5) * 7)).map (searchStart b.kind base + ·)).find?
        fun d => occursOn b.kind d && !isCancelled s ⟨id, d⟩ && ok b d).map fun d => (b, d) := by
  cases hk : b.kind <;> simp only [firstDay, hb, hk, searchStart]

/-- The search finds a day at or before any occurrence from `base` on that meets the condition, where every day of the
weeks after the base meets it: the exceptions cannot hide them all (R114). -/
theorem firstDay_le {s : State} {o : Occurrence} {base : Nat} {ok : Booking → Nat → Bool} {b : Booking}
    (h : liveBooking s o = some b) (hbase : base ≤ o.day) (hok : ok b o.day = true)
    (hlater : ∀ e, base + 2 ≤ e → ok b e = true) : ∃ e, e ≤ o.day ∧ firstDay s o.id base ok = some (b, e) := by
  obtain ⟨hb, hoccurs, hnot⟩ := liveBooking_eq_some.mp h
  have search {d : Nat} (hs : searchStart b.kind base ≤ d)
      (hn : d < searchStart b.kind base + (s.room.exceptions.length + 5) * 7) (hd : d ≤ o.day)
      (ho : occursOn b.kind d = true) (hx : (⟨o.id, d⟩ : Occurrence) ∉ s.room.exceptions) (hk : ok b d = true) :
      ∃ e, e ≤ o.day ∧ firstDay s o.id base ok = some (b, e) := by
    obtain ⟨e, hle, he⟩ := find_range_le (P := fun d => occursOn b.kind d && !isCancelled s ⟨o.id, d⟩ && ok b d) hs hn
      (by simp [ho, isCancelled, hx, hk])
    exact ⟨e, Nat.le_trans hle hd, by rw [firstDay_eq hb, he]; rfl⟩
  cases hkind : b.kind with
  | oneOff day =>
    rw [hkind] at hoccurs
    obtain ⟨-, rfl⟩ : o.day ≤ 65535 ∧ o.day = day := by simpa [occursOn] using hoccurs
    rw [hkind] at search
    exact search le_rfl (Nat.lt_add_of_pos_right (by omega)) le_rfl hoccurs hnot hok
  | weekly mask first last =>
    rw [hkind] at hoccurs
    have hfirst : first ≤ o.day := by
      simp only [occursOn, Bool.and_eq_true, decide_eq_true_eq] at hoccurs
      exact hoccurs.2.1.1
    have hstart : max first base ≤ o.day := max_le hfirst hbase
    simp only [hkind, searchStart] at search
    by_cases hd : o.day < max first base + (s.room.exceptions.length + 5) * 7
    · exact search hstart hd le_rfl hoccurs hnot hok
    · obtain ⟨j, hj, hx⟩ := exists_uncancelled s o.id (max first base + (o.day - max first base) % 7 + 14)
      exact search (by omega) (by omega) (by omega) (occursOn_earlier hoccurs (by omega) (by omega) (by omega)) hx
        (hlater _ (by omega))

/-- The least occurrence by start starts at or before any occurrence that meets the condition (R133). -/
theorem leastOccurrence_le {s : State} {base : Nat} {ok : Booking → Nat → Bool} {o : Occurrence} {b : Booking}
    (h : liveBooking s o = some b) (hbase : base ≤ o.day) (hok : ok b o.day = true)
    (hlater : ∀ e, base + 2 ≤ e → ok b e = true) :
    ∃ z, leastOccurrence s base startOf (fun _ => ok) = some z ∧ startOf z.2 z.1.day ≤ startOf b o.day := by
  obtain ⟨e, he, hfirst⟩ := firstDay_le h hbase hok hlater
  cases hl : leastOccurrence s base startOf (fun _ => ok) with
  | none => simp [leastOccurrence_none hl o.id] at hfirst
  | some z =>
    have hz := (leastOccurrence_some hl).2 o.id b e hfirst
    refine ⟨z, rfl, hz.trans ?_⟩
    simp only [startOf, absolute]
    omega

/-! ## The list of READ OCCURRENCES (R133) -/

/-- The occurrence that follows one in the list. -/
def listNext (s : State) (x : Occurrence × Booking) : Option (Occurrence × Booking) :=
  leastOccurrence s x.1.day startOf fun _ c d => startOf x.2 x.1.day < startOf c d

@[simp] theorem listFrom_none (s : State) (k : Nat) : listFrom s k none = [] := by cases k <;> rfl

theorem listFrom_succ (s : State) (k : Nat) (x : Occurrence × Booking) :
    listFrom s (k + 1) (some x) = x :: listFrom s k (listNext s x) := rfl

/-- A least occurrence is one of the table, not cancelled, that meets the condition (R114). -/
theorem leastOccurrence_live {s : State} {base : Nat} {m : Booking → Nat → Nat} {ok : Fin 64 → Booking → Nat → Bool}
    {z : Occurrence × Booking} (h : leastOccurrence s base m ok = some z) :
    liveBooking s z.1 = some z.2 ∧ ok z.1.id z.2 z.1.day = true := by
  obtain ⟨hb, ho, hx, hok⟩ := firstDay_some (leastOccurrence_some h).1
  exact ⟨liveBooking_eq_some.mpr ⟨hb, ho, hx⟩, hok⟩

theorem listNext_some {s : State} {x y : Occurrence × Booking} (h : listNext s x = some y) :
    liveBooking s y.1 = some y.2 ∧ startOf x.2 x.1.day < startOf y.2 y.1.day := by
  obtain ⟨hlive, hok⟩ := leastOccurrence_live h
  exact ⟨hlive, of_decide_eq_true hok⟩

/-- The times of a booking lie within the day. -/
def timelyBooking (b : Booking) : Prop := b.startMinute ≤ 1440 ∧ b.endMinute ≤ 1440

theorem listNext_le {s : State} {x y : Occurrence × Booking} (hx : timelyBooking x.2) (hy : timelyBooking y.2)
    (h : liveBooking s y.1 = some y.2) (hlt : startOf x.2 x.1.day < startOf y.2 y.1.day) :
    ∃ z, listNext s x = some z ∧ startOf z.2 z.1.day ≤ startOf y.2 y.1.day := by
  obtain ⟨hxs, -⟩ := hx
  obtain ⟨hys, -⟩ := hy
  refine leastOccurrence_le h ?_ (decide_eq_true hlt) fun e he => decide_eq_true ?_
  · simp only [startOf, absolute] at hlt
    omega
  · simp only [startOf, absolute]
    omega

theorem listFrom_length_le (s : State) (k : Nat) (h : Option (Occurrence × Booking)) : (listFrom s k h).length ≤ k := by
  induction k generalizing h with
  | zero => exact le_rfl
  | succ k ih =>
    cases h with
    | none => simp
    | some x => exact Nat.succ_le_succ (ih _)

theorem listFrom_head (s : State) (k : Nat) (h : Option (Occurrence × Booking)) : (listFrom s (k + 1) h).head? = h := by
  cases h <;> rfl

theorem listFrom_mem {s : State} {k : Nat} {h : Option (Occurrence × Booking)} {x : Occurrence × Booking}
    (hx : x ∈ listFrom s k h) : h = some x ∨ liveBooking s x.1 = some x.2 := by
  induction k generalizing h with
  | zero => cases hx
  | succ k ih =>
    cases h with
    | none => simp at hx
    | some y =>
      rcases List.mem_cons.mp hx with rfl | hx
      · exact .inl rfl
      · exact .inr ((ih hx).elim (fun hn => (listNext_some hn).1) id)

theorem listFrom_from {s : State} {k : Nat} {h : Option (Occurrence × Booking)} {y : Occurrence × Booking}
    (hy : y ∈ listFrom s k h) : ∃ x, h = some x ∧ startOf x.2 x.1.day ≤ startOf y.2 y.1.day := by
  induction k generalizing h with
  | zero => cases hy
  | succ k ih =>
    cases h with
    | none => simp at hy
    | some x =>
      rcases List.mem_cons.mp hy with rfl | hy
      · exact ⟨_, rfl, le_rfl⟩
      · obtain ⟨z, hz, hle⟩ := ih hy
        exact ⟨x, rfl, (listNext_some hz).2.le.trans hle⟩

/-- The list is in order of start (R133). -/
theorem listFrom_pairwise (s : State) (k : Nat) (h : Option (Occurrence × Booking)) :
    (listFrom s k h).Pairwise fun x y => startOf x.2 x.1.day < startOf y.2 y.1.day := by
  induction k generalizing h with
  | zero => exact .nil
  | succ k ih =>
    cases h with
    | none => simp
    | some x =>
      refine List.pairwise_cons.mpr ⟨fun y hy => ?_, ih _⟩
      obtain ⟨z, hz, hle⟩ := listFrom_from hy
      exact (listNext_some hz).2.trans_le hle

/-- The list passes over no start of an occurrence of the table, from that of its first on: it holds one with that
start, or it is full before (R133). -/
theorem listFrom_complete {s : State} {k : Nat} {x y : Occurrence × Booking}
    (hl : ∀ z ∈ listFrom s k (some x), timelyBooking z.2) (hy : timelyBooking y.2)
    (hlive : liveBooking s y.1 = some y.2) (hle : startOf x.2 x.1.day ≤ startOf y.2 y.1.day) :
    (∃ z ∈ listFrom s k (some x), startOf z.2 z.1.day = startOf y.2 y.1.day) ∨
      ((listFrom s k (some x)).length = k ∧
        ∀ z ∈ listFrom s k (some x), startOf z.2 z.1.day < startOf y.2 y.1.day) := by
  induction k generalizing x with
  | zero => exact .inr ⟨rfl, fun z hz => by cases hz⟩
  | succ k ih =>
    rw [listFrom_succ] at hl ⊢
    rcases hle.eq_or_lt with heq | hlt
    · exact .inl ⟨x, List.mem_cons_self, heq⟩
    · obtain ⟨z, hz, hzy⟩ := listNext_le (hl x List.mem_cons_self) hy hlive hlt
      rw [hz] at hl ⊢
      rcases ih (fun w hw => hl w (List.mem_cons_of_mem _ hw)) hzy with ⟨w, hw, heq⟩ | ⟨hlen, hall⟩
      · exact .inl ⟨w, List.mem_cons_of_mem _ hw, heq⟩
      · exact .inr ⟨congrArg (· + 1) hlen, List.forall_mem_cons.mpr ⟨hlt, hall⟩⟩

/-! ## The first of the list (R133) -/

theorem listHead_current {s : State} {o : Occurrence} {b : Booking} (hc : s.room.current = some o)
    (hb : s.room.bookings[o.id] = some b) : listHead s = some (o, b) := by
  simp [listHead, currentBooking, hc, hb, -Fin.getElem_fin]

theorem listHead_some {s : State} {x : Occurrence × Booking} (h : listHead s = some x) :
    s.room.bookings[x.1.id] = some x.2 ∧ (s.room.current = some x.1 ∨ liveBooking s x.1 = some x.2) := by
  cases hc : s.room.current with
  | none =>
    simp only [listHead, hc] at h
    obtain ⟨hlive, -⟩ := leastOccurrence_live h
    exact ⟨(liveBooking_eq_some.mp hlive).1, .inr hlive⟩
  | some o =>
    simp only [listHead, currentBooking, hc, Option.bind_some, Option.map_eq_some_iff] at h
    obtain ⟨b, hb, rfl⟩ := h
    exact ⟨hb, .inl rfl⟩

/-- Without a current occurrence the list begins with one that has not ended (R133). -/
theorem listHead_unended {s : State} {x : Occurrence × Booking} (hc : s.room.current = none) (h : listHead s = some x) :
    nowMinute s < endOf x.2 x.1.day := by
  simp only [listHead, hc] at h
  exact of_decide_eq_true (leastOccurrence_live h).2

/-- Without a current occurrence the list begins at or before any occurrence that has not ended (R133). -/
theorem listHead_le {s : State} {y : Occurrence × Booking} (hc : s.room.current = none)
    (hm : s.room.clock.minute ≤ 1440) (hy : timelyBooking y.2) (hlive : liveBooking s y.1 = some y.2)
    (hnow : nowMinute s < endOf y.2 y.1.day) :
    ∃ x, listHead s = some x ∧ startOf x.2 x.1.day ≤ startOf y.2 y.1.day := by
  obtain ⟨-, hend⟩ := hy
  simp only [listHead, hc]
  refine leastOccurrence_le hlive ?_ (decide_eq_true hnow) fun e he => decide_eq_true ?_
  · simp only [nowMinute, endOf, absolute] at hnow
    omega
  · simp only [nowMinute, endOf, absolute]
    omega

/-! ## The reads of one item (R87, R107, R133, R164) -/

/-- The list of READ OCCURRENCES: up to `k` occurrences from its first (R133). -/
def occurrenceList (k : Nat) (s : State) : List (Occurrence × Booking) := listFrom s k (listHead s)

theorem occurrenceList_mem {k : Nat} {s : State} {x : Occurrence × Booking} (h : x ∈ occurrenceList k s) :
    s.room.bookings[x.1.id] = some x.2 ∧
      (s.room.current = some x.1 ∨ (occursOn x.2.kind x.1.day = true ∧ x.1 ∉ s.room.exceptions)) := by
  have listed (hlive : liveBooking s x.1 = some x.2) := liveBooking_eq_some.mp hlive
  rcases listFrom_mem h with hhead | hlive
  · obtain ⟨hb, hor⟩ := listHead_some hhead
    exact ⟨hb, hor.imp_right fun hlive => (listed hlive).2⟩
  · exact ⟨(listed hlive).1, .inr (listed hlive).2⟩

/-- The list begins at or before any occurrence that it reaches (R133). -/
theorem listHead_reaches {s : State} {y : Occurrence × Booking} (hm : s.room.clock.minute ≤ 1440)
    (hy : timelyBooking y.2) (hlive : liveBooking s y.1 = some y.2)
    (hfrom : match s.room.current with
      | none => nowMinute s < endOf y.2 y.1.day
      | some o => ∃ b, s.room.bookings[o.id] = some b ∧ startOf b o.day < startOf y.2 y.1.day) :
    ∃ x, listHead s = some x ∧ startOf x.2 x.1.day ≤ startOf y.2 y.1.day := by
  cases hc : s.room.current with
  | none =>
    rw [hc] at hfrom
    exact listHead_le hc hm hy hlive hfrom
  | some o =>
    rw [hc] at hfrom
    obtain ⟨b, hb, hlt⟩ := hfrom
    exact ⟨(o, b), listHead_current hc hb, hlt.le⟩

section
variable {ps : List Word} {s : State}

theorem ownReadSourceMap_within (h : numAt ps 0 < 8) : ownReadSourceMap ps s = (doneWith
    ((((List.finRange 8).drop (numAt ps 0)).take 3).flatMap fun x => entryWords s.router.sources[x]), s) := by
  rw [ownReadSourceMap, finOf_eq ⟨numAt ps 0, h⟩ rfl]

theorem ownReadSourceMap_beyond (h : 8 ≤ numAt ps 0) : ownReadSourceMap ps s = refuse .outOfRange s := by
  rw [ownReadSourceMap, finOf_beyond h]

theorem ownReadPreset_within (h : numAt ps 0 < 16) :
    ownReadPreset ps s = (doneWith (presetWords s.geometry.presets[numAt ps 0]), s) := by
  rw [ownReadPreset, finOf_eq ⟨numAt ps 0, h⟩ rfl]
  rfl

theorem ownReadPreset_beyond (h : 16 ≤ numAt ps 0) : ownReadPreset ps s = refuse .outOfRange s := by
  rw [ownReadPreset, finOf_beyond h]

theorem ownReadGeometryTable_within {tb : Table} (ht : enumAt tableList ps 0 = some tb)
    (h : numAt ps 1 < tableSize tb) : ownReadGeometryTable ps s = (doneWith ((((tableEntries tb s).drop (numAt ps 1)).take 14).flatMap
      fun e => [word e.first, word e.second, word e.step]), s) := by
  simp [ownReadGeometryTable, ht, Nat.not_le.mpr h]

theorem ownReadGeometryTable_beyond {tb : Table} (ht : enumAt tableList ps 0 = some tb)
    (h : tableSize tb ≤ numAt ps 1) : ownReadGeometryTable ps s = refuse .outOfRange s := by
  simp [ownReadGeometryTable, ht, h]

theorem ownReadGeometryTable_unnamed (h : 2 ≤ numAt ps 0) : ownReadGeometryTable ps s = refuse .outOfRange s := by
  rw [ownReadGeometryTable, show enumAt tableList ps 0 = none from List.getElem?_eq_none h]

theorem ownReadBooking_held {n : Fin 64} {b : Booking} (hn : numAt ps 0 = n.val) (hb : s.room.bookings[n] = some b) :
    ownReadBooking ps s = (doneWith (bookingWords b ++ [optWord s.room.taken[n]]), s) := by
  simp [ownReadBooking, finOf_eq n hn, hb, -Fin.getElem_fin]

theorem ownReadBooking_free {n : Fin 64} (hn : numAt ps 0 = n.val) (hb : s.room.bookings[n] = none) :
    ownReadBooking ps s = refuse .noSuchEntry s := by
  simp [ownReadBooking, finOf_eq n hn, hb, -Fin.getElem_fin]

theorem ownReadBooking_beyond (h : 64 ≤ numAt ps 0) : ownReadBooking ps s = refuse .outOfRange s := by
  rw [ownReadBooking, finOf_beyond h]

theorem ownReadOccurrences_set (h : s.room.clock.isSet = true) : ownReadOccurrences ps s =
    (doneWith (((occurrenceList (numAt ps 0 + 4) s).drop (numAt ps 0)).flatMap fun x =>
      occurrenceWords x.1 x.2 ++ [yesWord (isTaken s x.1)]), s) := by
  simp [ownReadOccurrences, h, occurrenceList]

theorem ownReadOccurrences_unset (h : s.room.clock.isSet = false) :
    ownReadOccurrences ps s = refuse .clockUnset s := by
  simp [ownReadOccurrences, h]

theorem ownDigest_named {r : Region} (h : enumAt regionList ps 0 = some r) : ownDigest ps s =
    (doneWith [(if s.store.loaded then regionCrc s r else noneWord),
      word (s.store.queue.filter (fun e => keyRegion e.key == r)).length, yesWord (writingIn s r)], s) := by
  rw [ownDigest, h]

theorem ownDigest_unnamed (h : 4 ≤ numAt ps 0) : ownDigest ps s = refuse .outOfRange s := by
  rw [ownDigest, show enumAt regionList ps 0 = none from List.getElem?_eq_none h]

end

/-- A request in progress changes no image (R164). -/
theorem liveImage_begun (p : Port) (f : Frame) (s : State) : liveImage (begun p f s) = liveImage s := by
  funext k
  cases k <;> rfl

/-- Settles O22: each block's read by range, and the list of READ OCCURRENCES by its recursion. -/
theorem indexedReadsAnswerByRange : Obligations.IndexedReadsAnswerByRange := by
  unfold Obligations.IndexedReadsAnswerByRange
  intro p f q s ps u reads
  refine ⟨fun h => ⟨fun hn => ?_, fun hn => ?_⟩, fun h => ⟨fun hn => ?_, fun hn => ?_⟩,
    fun h => ⟨fun tb ht hn => ?_, fun tb ht hn => ?_, fun hn => ?_⟩,
    fun h => ⟨fun n hn => ⟨fun b hb => ?_, fun hb => ?_⟩, fun hn => ?_⟩,
    fun h => ⟨fun hn => ?_, fun hn => ?_⟩, fun h => ⟨fun hset => ?_, fun hset => ?_⟩,
    fun h => ⟨fun r hr => ?_, fun hn => ?_⟩⟩
  · exact congrArg Host.Outcome.next (request_answered h (ownReadSourceMap_within hn))
  · exact congrArg Host.Outcome.next (request_answered h (ownReadSourceMap_beyond hn))
  · exact congrArg Host.Outcome.next (request_answered h (ownReadPreset_within hn))
  · exact congrArg Host.Outcome.next (request_answered h (ownReadPreset_beyond hn))
  · exact congrArg Host.Outcome.next (request_answered h (ownReadGeometryTable_within ht hn))
  · exact congrArg Host.Outcome.next (request_answered h (ownReadGeometryTable_beyond ht hn))
  · exact congrArg Host.Outcome.next (request_answered h (ownReadGeometryTable_unnamed hn))
  · exact congrArg Host.Outcome.next (request_answered h (ownReadBooking_held hn hb))
  · exact congrArg Host.Outcome.next (request_answered h (ownReadBooking_free hn hb))
  · exact congrArg Host.Outcome.next (request_answered h (ownReadBooking_beyond hn))
  · exact congrArg Host.Outcome.next (request_answered h (if_neg (Nat.not_lt.mpr hn)))
  · exact congrArg Host.Outcome.next (request_answered h (if_pos hn))
  · refine ⟨occurrenceList (numAt ps 0 + 4) u,
      congrArg Host.Outcome.next (request_answered h (ownReadOccurrences_set hset)), listFrom_length_le _ _ _,
      listFrom_pairwise _ _ _, fun x hx => occurrenceList_mem (s := u) hx,
      fun o b hc hb => (listFrom_head _ _ _).trans (listHead_current hc hb),
      fun x hc hx => listHead_unended hc ((listFrom_head _ _ _).symm.trans hx), fun hm hl y hy => ?_⟩
    obtain ⟨hb, htimes, hoccurs, hnot, hfrom⟩ := hy
    have hlive : liveBooking u y.1 = some y.2 := liveBooking_eq_some.mpr ⟨hb, hoccurs, hnot⟩
    obtain ⟨x, hx, hle⟩ := listHead_reaches (s := u) hm htimes hlive hfrom
    simp only [occurrenceList, hx] at hl ⊢
    exact listFrom_complete hl htimes hlive hle
  · exact congrArg Host.Outcome.next (request_answered h (ownReadOccurrences_unset hset))
  · rw [← liveImage_begun p f s]
    exact congrArg Host.Outcome.next (request_answered h (ownDigest_named hr))
  · exact congrArg Host.Outcome.next (request_answered h (ownDigest_unnamed hn))

end Sys2Proof.Machine
end

section
namespace Sys2Proof.Machine

/-! ## The corners (R92 to R94) -/

theorem above_eq (k : Int) : above k = if 0 < k then k else 0 := by unfold above; split <;> omega

theorem below_eq (k : Int) : below k = if k < 0 then -k else 0 := by unfold below; split <;> omega

/-- An edge that was clamped at both ends and then, when too short, replaced by the minimum edge (R94). -/
def limitedEdge (half limit a b : Int) : Int × Int := minimumEdge half limit (clampInt 0 limit a) (clampInt 0 limit b)

/-- Each coordinate of a limited corner is an end of one limited edge: top and bottom edges run along x, left and right
edges along y (R94). -/
theorem limitCorners_edges (c : Corners) : limitCorners c =
    { tl := ⟨(limitedEdge 480 1920 c.tl.x c.tr.x).1, (limitedEdge 300 1200 c.tl.y c.bl.y).1⟩
      tr := ⟨(limitedEdge 480 1920 c.tl.x c.tr.x).2, (limitedEdge 300 1200 c.tr.y c.br.y).1⟩
      bl := ⟨(limitedEdge 480 1920 c.bl.x c.br.x).1, (limitedEdge 300 1200 c.tl.y c.bl.y).2⟩
      br := ⟨(limitedEdge 480 1920 c.bl.x c.br.x).2, (limitedEdge 300 1200 c.tr.y c.br.y).2⟩ } := rfl

section
variable {half limit : Int} (h0 : 0 ≤ half) (hl : 2 * half ≤ limit)
include h0 hl

/-- A limited edge lies within the panel and has the minimum length (R94). -/
theorem limitedEdge_within (a b : Int) : 0 ≤ (limitedEdge half limit a b).1 ∧
    (limitedEdge half limit a b).1 + 2 * half ≤ (limitedEdge half limit a b).2 ∧
    (limitedEdge half limit a b).2 ≤ limit := by
  unfold limitedEdge minimumEdge clampInt
  split
  · dsimp only; omega
  · dsimp only; omega

/-- The minimum edge stands about the middle of the one it replaces, moved into the panel (R94). -/
theorem limitedEdge_eq (a b : Int) : limitedEdge half limit a b =
    if clampInt 0 limit b - clampInt 0 limit a < 2 * half then
      (clampInt 0 (limit - 2 * half) ((clampInt 0 limit a + clampInt 0 limit b) / 2 - half),
        clampInt 0 (limit - 2 * half) ((clampInt 0 limit a + clampInt 0 limit b) / 2 - half) + 2 * half)
    else (clampInt 0 limit a, clampInt 0 limit b) := by
  unfold limitedEdge minimumEdge
  split
  · refine Prod.ext ?_ ?_
    · dsimp only [clampInt]; omega
    · dsimp only [clampInt]; omega
  · rfl

end

/-- The limited corners lie within the panel, and their edges are no shorter than the minimum (R94). -/
theorem limitCorners_within (r : Corners) :
    let c := limitCorners r
    let inside := fun (p : Point) => 0 ≤ p.x ∧ p.x ≤ 1920 ∧ 0 ≤ p.y ∧ p.y ≤ 1200
    inside c.tl ∧ inside c.tr ∧ inside c.bl ∧ inside c.br ∧ 960 ≤ c.tr.x - c.tl.x ∧ 960 ≤ c.br.x - c.bl.x ∧
      600 ≤ c.bl.y - c.tl.y ∧ 600 ≤ c.br.y - c.tr.y := by
  rw [limitCorners_edges]
  have horizontal := limitedEdge_within (half := 480) (limit := 1920) (by decide) (by decide)
  have vertical := limitedEdge_within (half := 300) (limit := 1200) (by decide) (by decide)
  have top := horizontal r.tl.x r.tr.x
  have bottom := horizontal r.bl.x r.br.x
  have left := vertical r.tl.y r.bl.y
  have right := vertical r.tr.y r.br.y
  dsimp only
  omega

/-! ## The tables (R95, R96) -/

/-- `v` is the nearest integer to `num / den`, halves upward, as the statement of R95 and R96 has it. -/
def isNearest (v num den : Int) : Prop := 2 * den * v ≤ 2 * num + den ∧ 2 * num + den < 2 * den * (v + 1)

theorem roundDiv_nearest (num : Int) {den : Int} (h : 0 < den) : isNearest (roundDiv num den) num den :=
  ⟨Int.mul_ediv_self_le (by omega), by
    rw [Int.mul_add, Int.mul_one]
    exact Int.lt_mul_ediv_self_add (by omega)⟩

/-- The line of a side, its two ends apart, is rounded once (R95, R96). -/
theorem lineAt_nearest (v0 v1 t : Int) {t0 t1 : Int} (h : 0 < t1 - t0) :
    isNearest (lineAt v0 v1 t0 t1 t) (16 * (v0 * (t1 - t0) + (v1 - v0) * (t - t0))) (t1 - t0) := by
  have e : 16 * (v0 * (t1 - t0) + (v1 - v0) * (t - t0)) = 16 * v0 * (t1 - t0) + 16 * (v1 - v0) * (t - t0) := by ring
  rw [e]
  exact roundDiv_nearest _ h

section
variable {limit : Int} (hl : 0 ≤ limit) (size : Nat) (a b : Int)
include hl

theorem tableEntry_first : ((tableEntry limit size a b).first : Int) = max 0 (min limit a) := by
  dsimp only [tableEntry, clampInt]; omega

theorem tableEntry_second : ((tableEntry limit size a b).second : Int) =
    max ((tableEntry limit size a b).first : Int) (max 0 (min limit b)) := by
  dsimp only [tableEntry, clampInt]; omega

/-- An entry is within the panel, its span is not negative, and its step is a word (R95, R96). -/
theorem tableEntry_within : (tableEntry limit size a b).first ≤ (tableEntry limit size a b).second ∧
    ((tableEntry limit size a b).second : Int) ≤ limit ∧ (tableEntry limit size a b).step ≤ 65535 := by
  have hfirst := tableEntry_first hl size a b
  have hsecond := tableEntry_second hl size a b
  refine ⟨by omega, by omega, ?_⟩
  dsimp only [tableEntry, entryStep]
  split <;> omega

end

theorem tableEntry_step_empty {limit : Int} {size : Nat} {a b : Int}
    (h : (tableEntry limit size a b).first = (tableEntry limit size a b).second) :
    (tableEntry limit size a b).step = 0 := if_pos h.symm

/-- The step is the source size over the span, in sixteenths of sixteenths, rounded and held at 65,535 (R95, R96). -/
theorem tableEntry_step (limit : Int) (size : Nat) (a b : Int) :
    let e := tableEntry limit size a b
    e.first < e.second → ∃ z : Int, isNearest z (65536 * size) ((e.second : Int) - e.first) ∧
      (e.step : Int) = min 65535 z := by
  intro e hspan
  have hden : (0 : Int) < (e.second : Int) - e.first := by omega
  have hz : 0 ≤ roundDiv (65536 * size) ((e.second : Int) - e.first) := Int.ediv_nonneg (by omega) (by omega)
  have hstep : e.step = min 65535 (roundDiv (65536 * size) ((e.second : Int) - e.first)).toNat := if_neg hspan.ne'
  exact ⟨_, roundDiv_nearest _ hden, by omega⟩

theorem computeSet_row (n : BitVec 8) (i : GeomInputs) {k : Nat} (h : k < 26) :
    (computeSet n i).rows[k]? = some (rowEntry (computeSet n i).corners i.ws k) := by
  simp [computeSet, h]

theorem computeSet_column (n : BitVec 8) (i : GeomInputs) {j : Nat} (h : j < 31) :
    (computeSet n i).columns[j]? = some (columnEntry (computeSet n i).corners i.hs j) := by
  simp [computeSet, h]

/-- Every entry of a set's tables is a row entry or a column entry (R95, R96). -/
theorem computeSet_entries (n : BitVec 8) (i : GeomInputs) (e : TableEntry) :
    (e ∈ (computeSet n i).rows → ∃ k, e = rowEntry (computeSet n i).corners i.ws k) ∧
      (e ∈ (computeSet n i).columns → ∃ j, e = columnEntry (computeSet n i).corners i.hs j) := by
  refine ⟨fun h => ?_, fun h => ?_⟩
  · obtain ⟨k, -, hk⟩ := List.mem_map.mp h
    exact ⟨k, hk.symm⟩
  · obtain ⟨j, -, hj⟩ := List.mem_map.mp h
    exact ⟨j, hj.symm⟩

theorem computeSet_tablesWithin (n : BitVec 8) (i : GeomInputs) : tablesWithin (computeSet n i) := by
  refine ⟨by simp [computeSet], by simp [computeSet], fun e he => ?_, fun e he => ?_⟩
  · obtain ⟨k, rfl⟩ := (computeSet_entries n i e).1 he
    obtain ⟨hspan, hsecond, hstep⟩ := tableEntry_within (limit := 30720) (by decide) i.ws _ _
    exact ⟨hspan, Int.ofNat_le.mp hsecond, hstep⟩
  · obtain ⟨j, rfl⟩ := (computeSet_entries n i e).2 he
    obtain ⟨hspan, hsecond, hstep⟩ := tableEntry_within (limit := 19200) (by decide) i.hs _ _
    exact ⟨hspan, Int.ofNat_le.mp hsecond, hstep⟩

theorem computeSet_step_empty (n : BitVec 8) (i : GeomInputs) (e : TableEntry)
    (he : e ∈ (computeSet n i).rows ++ (computeSet n i).columns) (hspan : e.first = e.second) : e.step = 0 := by
  rcases List.mem_append.mp he with he | he
  · obtain ⟨k, rfl⟩ := (computeSet_entries n i e).1 he
    exact tableEntry_step_empty hspan
  · obtain ⟨j, rfl⟩ := (computeSet_entries n i e).2 he
    exact tableEntry_step_empty hspan

/-- Settles O45: the corners by their four limited edges, and the tables by the one entry they are all made of. -/
theorem cornersAndTablesLieWithinThePanel : Obligations.CornersAndTablesLieWithinThePanel := by
  unfold Obligations.CornersAndTablesLieWithinThePanel
  refine ⟨fun i => ?_, fun i => limitCorners_within (rawCorners i), fun n i => ⟨computeSet_tablesWithin n i, rfl, ?_,
    computeSet_step_empty n i⟩, fun i => ?_, fun n i => ?_⟩
  · simp only [← above_eq, ← below_eq]
    cases hc : i.content <;> simp [rawCorners, trimmed, shift, keystone, rectangleCorners, contentRectangle, hc]
  · simp [computeSet]
  · have horizontal := limitedEdge_eq (half := 480) (limit := 1920) (by decide) (by decide)
    have vertical := limitedEdge_eq (half := 300) (limit := 1200) (by decide) (by decide)
    exact ⟨horizontal _ _, horizontal _ _, vertical _ _, vertical _ _⟩
  · obtain ⟨-, -, -, -, htop, hbottom, hleft, hright⟩ := limitCorners_within (rawCorners i)
    refine ⟨fun k hk => ⟨_, _, _, computeSet_row n i hk,
      ⟨tableEntry_first (by decide) _ _ _, tableEntry_second (by decide) _ _ _, tableEntry_step _ _ _ _⟩,
      lineAt_nearest _ _ _ (lt_of_lt_of_le (by decide) hleft), lineAt_nearest _ _ _ (lt_of_lt_of_le (by decide) hright)⟩,
      fun j hj => ⟨_, _, _, computeSet_column n i hj,
      ⟨tableEntry_first (by decide) _ _ _, tableEntry_second (by decide) _ _ _, tableEntry_step _ _ _ _⟩,
      lineAt_nearest _ _ _ (lt_of_lt_of_le (by decide) htop), lineAt_nearest _ _ _ (lt_of_lt_of_le (by decide) hbottom)⟩⟩

end Sys2Proof.Machine
end

section
namespace Sys2Proof.Machine

/-! ## The active preset and the inputs (R90, R91) -/

/-- The active preset depends on the momentary one, the booking and the routed source that stand, and the default. -/
theorem choosePreset_congr {s t : State} (hm : t.geometry.momentary = s.geometry.momentary)
    (hg : t.geometry.routed = s.geometry.routed) (hr : t.router.sources = s.router.sources) (hroom : t.room = s.room)
    (hs : t.store.room = s.store.room) : choosePreset t = choosePreset s := by
  simp [choosePreset, bookingPreset, boundPreset, currentBooking, hm, hg, hr, hroom, hs]

/-- The active preset in the order of R90. -/
theorem choosePreset_eq (s : State) : choosePreset s = match s.geometry.momentary, bookingPreset s, boundPreset s with
    | some n, _, _ => (n, .momentary)
    | none, some n, _ => (n, .booking)
    | none, none, some n => (n, .source)
    | none, none, none => (s.store.room.preset, .roomDefault) := by
  unfold choosePreset
  cases s.geometry.momentary with
  | some n => rfl
  | none =>
    cases bookingPreset s with
    | some n => rfl
    | none => cases boundPreset s <;> rfl

/-- The recorded active preset is the one in force (R90). -/
theorem effectivePreset_recorded {s : State} {n : Fin 16} {c : PresetCause} (h : s.geometry.active = some (n, c)) :
    effectivePreset s = overlaid s.geometry.overlay s.geometry.presets[n] := by
  simp [effectivePreset, activePreset, h]

/-- The effective aspect is the overlay's, the preset's override, the source's, or AUTO (R91). -/
theorem effectiveAspect_recorded {s : State} {n : Fin 16} {c : PresetCause} (h : s.geometry.active = some (n, c)) :
    effectiveAspect s = match s.geometry.overlay.aspect, s.geometry.presets[n].aspect, s.geometry.routed with
      | some a, _, _ => a
      | none, some a, _ => a
      | none, none, some m => s.router.sources[m].aspect
      | none, none, none => .auto := by
  have ha : (effectivePreset s).aspect = s.geometry.overlay.aspect.or s.geometry.presets[n].aspect := by
    rw [effectivePreset_recorded h]
    rfl
  rw [effectiveAspect, ha]
  generalize s.geometry.presets[n].aspect = override
  cases s.geometry.overlay.aspect with
  | some a => rfl
  | none =>
    cases override with
    | some a => rfl
    | none => cases s.geometry.routed <;> rfl

/-- An aspect other than AUTO is the content aspect (R91). -/
theorem contentAspect_chosen (f : FormatImage) : contentAspect .fill f = .fill ∧ contentAspect .wide f = .wide ∧
    contentAspect .standard f = .standard := ⟨rfl, rfl, rfl⟩

/-- The content aspect that AUTO gives a known source, by its width against its height (R91). -/
theorem contentAspect_auto_signal (k : SignalFormat) :
    (17 * k.height.toNat ≤ 10 * k.width.toNat → contentAspect .auto (.signal k) = .wide) ∧
      (10 * k.width.toNat < 17 * k.height.toNat → 10 * k.width.toNat ≤ 14 * k.height.toNat →
        contentAspect .auto (.signal k) = .standard) ∧
      (10 * k.width.toNat < 17 * k.height.toNat → 14 * k.height.toNat < 10 * k.width.toNat →
        contentAspect .auto (.signal k) = .fill) := by
  refine ⟨fun hw => if_pos hw, fun hw hs => ?_, fun hw hs => ?_⟩
  · exact (if_neg (Nat.not_le.mpr hw)).trans (if_pos hs)
  · exact (if_neg (Nat.not_le.mpr hw)).trans (if_neg (Nat.not_le.mpr hs))

/-- AUTO fills the panel for a source that is not known (R91). -/
theorem contentAspect_auto_unknown {f : FormatImage} (h : ∀ k, f ≠ .signal k) : contentAspect .auto f = .fill := by
  cases f with
  | signal k => exact absurd rfl (h k)
  | unknown => rfl
  | noSignal => rfl

/-- The size of a source that is not known is that of the content rectangle (R91, R92). -/
theorem sourceSize_unknown {f : FormatImage} (h : ∀ k, f ≠ .signal k) : sourceSize .fill f = (1920, 1200) ∧
    sourceSize .wide f = (1920, 1080) ∧ sourceSize .standard f = (1600, 1200) := by
  cases f with
  | signal k => exact absurd rfl (h k)
  | unknown => exact ⟨rfl, rfl, rfl⟩
  | noSignal => exact ⟨rfl, rfl, rfl⟩

/-! ## What a new set and an evaluation leave (R97, R98) -/

/-- A new set in the Geometry Engine: PENDING, or HELD while the link is LOST (R97, R98). -/
theorem makeSet_geometry (s : State) : (makeSet s).geometry = { s.geometry with
    current := some (computeSet (s.geometry.setNumber + 1) (inputsNow s)), setNumber := s.geometry.setNumber + 1
    commitAcked := false, keptResend := false, status := if s.link.state = .lost then .held else .pending } := by
  unfold makeSet handSet
  split <;> rfl

/-- While the link is LOST the lane takes no set (R57). -/
theorem makeSet_link_lost {s : State} (h : s.link.state = .lost) : (makeSet s).link = s.link := by
  simp [makeSet, handSet, h]

/-- A new set is made of the inputs in force after it, too. -/
theorem inputsNow_makeSet {s : State} (h : s.geometry.active ≠ none) : inputsNow (makeSet s) = inputsNow s := by
  obtain ⟨a, ha⟩ := Option.ne_none_iff_exists'.mp h
  simp [inputsNow, effectivePreset, effectiveAspect, activePreset, ha]

/-- `t` shows the Geometry Engine, what it reads, and the geometry lane as `v` does. -/
def shownAs (v t : State) : Prop :=
  t.geometry = v.geometry ∧ t.router.sources = v.router.sources ∧ t.room = v.room ∧ t.store.room = v.store.room ∧
    t.link.lane = v.link.lane

/-- The end of a command and its answer leave what the Geometry Engine shows. -/
theorem shownAs_ended (c : Command) (p : Port) (a : Answer) (v : State) : shownAs v (after c p a (finish v)) := by
  simp [shownAs]

theorem shownAs_inputs {v t : State} (h : shownAs v t) : inputsNow t = inputsNow v := by
  obtain ⟨hg, hr, hroom, hs, -⟩ := h
  exact inputsNow_congr hg hr hroom hs

theorem shownAs_preset {v t : State} (h : shownAs v t) : choosePreset t = choosePreset v := by
  obtain ⟨hg, hr, hroom, hs, -⟩ := h
  exact choosePreset_congr (by rw [hg]) (by rw [hg]) hr hroom hs

/-- `t` has a new set, numbered one on from that of `s` and made of the inputs in force: PENDING and at the head of the
lane, or HELD and kept from it while the link is LOST (R97, R98). -/
def remade (s t : State) : Prop :=
  t.geometry.setNumber = s.geometry.setNumber + 1 ∧
    t.geometry.current = some (computeSet (s.geometry.setNumber + 1) (inputsNow t)) ∧
    t.geometry.status = (if s.link.state = .lost then .held else .pending) ∧
    (s.link.state ≠ .lost → t.link.lane = t.geometry.current.map fun g => { set := g, progress := 0 }) ∧
    (s.link.state = .lost → t.link.lane = s.link.lane)

theorem makeSet_remade {s : State} (h : s.geometry.active ≠ none) : remade s (makeSet s) := by
  unfold remade
  rw [inputsNow_makeSet h, makeSet_geometry]
  exact ⟨rfl, rfl, rfl, fun hl => (makeSet_made s hl).2, fun hl => congrArg LinkUnit.lane (makeSet_link_lost hl)⟩

theorem remade_later {s v t : State} (h : remade s v) (ht : shownAs v t) : remade s t := by
  unfold remade
  rw [shownAs_inputs ht]
  obtain ⟨hg, -, -, -, hlane⟩ := ht
  rw [hg, hlane]
  exact h

/-- A trigger evaluation makes a set: an input differs, none has been computed, or the status is HELD (R97). -/
def setWanted (s : State) : Prop :=
  s.geometry.current.map (·.inputs) ≠ some (inputsNow (recordActive s)) ∨ s.geometry.status = .held

theorem inputsDiffer_iff (s : State) :
    inputsDiffer s = true ↔ s.geometry.current.map (·.inputs) ≠ some (inputsNow s) := by
  unfold inputsDiffer
  cases s.geometry.current with
  | none => simp
  | some g => simp

theorem triggerEval_unstarted {s : State} (h : s.geometry.started = false) : triggerEval s = s := by
  simp [triggerEval, h]

section
variable {s : State} (hs : s.geometry.started = true)
include hs

theorem triggerEval_makes (h : setWanted s) : triggerEval s = makeSet (recordActive s) := by
  have hc : (inputsDiffer (recordActive s) || (recordActive s).geometry.status == .held) = true := by
    rw [Bool.or_eq_true, inputsDiffer_iff, beq_iff_eq]
    exact h
  rw [triggerEval, if_pos hs]
  exact if_pos hc

theorem triggerEval_keeps (h : ¬ setWanted s) : triggerEval s = recordActive s := by
  have hc : ¬ (inputsDiffer (recordActive s) || (recordActive s).geometry.status == .held) = true := by
    rw [Bool.or_eq_true, inputsDiffer_iff, beq_iff_eq]
    exact h
  rw [triggerEval, if_pos hs]
  exact if_neg hc

/-- An evaluation records the active preset (R90). -/
theorem triggerEval_active : (triggerEval s).geometry.active = some (choosePreset s) := by
  by_cases h : setWanted s
  · rw [triggerEval_makes hs h, makeSet_geometry]
    rfl
  · rw [triggerEval_keeps hs h]
    rfl

/-- The inputs in force after an evaluation are those it has judged (R97). -/
theorem inputsNow_triggerEval : inputsNow (triggerEval s) = inputsNow (recordActive s) := by
  by_cases h : setWanted s
  · rw [triggerEval_makes hs h, inputsNow_makeSet (by simp [recordActive])]
  · rw [triggerEval_keeps hs h]

end

/-- An evaluation changes the Geometry Engine and the lane alone (R97). -/
theorem triggerEval_leaves (s : State) :
    triggerEval s = { s with geometry := (triggerEval s).geometry, link := (triggerEval s).link } := by
  simp [State.eq_iff]

/-! ## REAPPLY GEOMETRY (R106) -/

section
variable {p : Port} {f : Frame} {q : Qualifier} {s : State} (h : taken .reapplyGeometry p f q s)
include h

theorem exec_reapplyGeometry_unstarted (hs : s.geometry.started = false) :
    exec (.reapplyGeometry p f) s = .next (after .reapplyGeometry p (refused .wrongState) (begun p f s)) := by
  refine congrArg Host.Outcome.next (request_answered h ?_)
  simp [ownReapplyGeometry, hs, refuse]

/-- After the first settle end a new set is made, whatever the inputs. -/
theorem exec_reapplyGeometry_started (hs : s.geometry.started = true) : exec (.reapplyGeometry p f) s =
    .next (after .reapplyGeometry p done (finish (makeSet (recordActive (begun p f s))))) := by
  refine congrArg Host.Outcome.next (request_accepted h rfl ?_)
  simp [ownReapplyGeometry, hs]

end

/-- Settles O46, by what a new set and an evaluation leave. -/
theorem geometrySetsAreMade : Obligations.GeometrySetsAreMade := by
  unfold Obligations.GeometrySetsAreMade
  refine ⟨choosePreset_eq, fun n c s ha => ?_, fun s h => triggerEval_unstarted h, fun s hs => ?_, rfl, rfl, rfl,
    fun p f q s h => ⟨exec_reapplyGeometry_unstarted h, fun hs => ?_⟩⟩
  · intro y x i trim size
    have field {α : Type} (g : Preset → α) : g (effectivePreset s) = g (overlaid y x) :=
      congrArg g (effectivePreset_recorded ha)
    have hcontent {a : Aspect} (hf : i.aspect = a) : i.content = contentAspect a s.geometry.format :=
      congrArg (contentAspect · s.geometry.format) hf
    have hsize {r : Nat × Nat} {v : ContentAspect} (hv : i.content = v) (hr : sourceSize v s.geometry.format = r) :
        size r.1 r.2 := by
      subst hv hr
      exact ⟨rfl, rfl⟩
    refine ⟨field (·.kv), field (·.kh), ⟨field (·.tl.tx), field (·.tl.ty)⟩, ⟨field (·.tr.tx), field (·.tr.ty)⟩,
      ⟨field (·.bl.tx), field (·.bl.ty)⟩, ⟨field (·.br.tx), field (·.br.ty)⟩, effectiveAspect_recorded ha, hcontent,
      hcontent, hcontent, fun hf k hk => ?_, fun k hk => hsize rfl (congrArg (sourceSize _) hk), fun hf => ?_⟩
    · rw [hcontent hf, hk]
      exact contentAspect_auto_signal k
    · obtain ⟨hfill, hwide, hstandard⟩ := sourceSize_unknown hf
      exact ⟨fun hauto => (hcontent hauto).trans (contentAspect_auto_unknown hf), fun hv => hsize hv hfill,
        fun hv => hsize hv hwide, fun hv => hsize hv hstandard⟩
  · intro s' t differ
    refine ⟨fun hd => ?_, fun hn => triggerEval_keeps hs hn, triggerEval_leaves s⟩
    have ht : t = makeSet s' := triggerEval_makes hs hd
    rw [ht, makeSet_geometry]
    refine ⟨_, rfl, rfl, rfl, rfl, fun hl => ⟨if_neg hl, (makeSet_made s' hl).2⟩,
      fun hl => ⟨if_pos hl, makeSet_link_lost hl⟩⟩
  · obtain ⟨hnumber, hcurrent, hstatus, htaken, hlost⟩ := remade_later (makeSet_remade (s := recordActive (begun p f s))
      (by simp [recordActive])) (shownAs_ended .reapplyGeometry p done _)
    exact ⟨_, exec_reapplyGeometry_started h hs, answered_of _ _ _ _ _ _ (by simp), hnumber, hcurrent, hstatus, htaken,
      hlost, by simp, by simp, by simp, by simp, by simp, by simp, by simp, by simp [storeServed_iff]⟩

end Sys2Proof.Machine
end

section
namespace Sys2Proof.Machine

/-! ## The evaluation of a geometry command (R97) -/

theorem sameShape_iff (s t : State) : sameShape s t = true ↔ t.geometry.overlay = s.geometry.overlay ∧
    t.geometry.momentary = s.geometry.momentary ∧ t.geometry.presets = s.geometry.presets ∧
    t.store.room.preset = s.store.room.preset := by
  simp [sameShape, and_assoc]

theorem commandEval_unchanged {s t : State} (h : sameShape s t = true) : commandEval s t = t := if_pos h

theorem commandEval_changed {s t : State} (h : sameShape s t ≠ true) : commandEval s t = triggerEval t := if_neg h

/-- What an evaluation does in the Geometry Engine depends on what it reads, and on the link. -/
theorem triggerEval_geometry_congr {s t : State} (hg : t.geometry = s.geometry)
    (hr : t.router.sources = s.router.sources) (hroom : t.room = s.room) (hs : t.store.room = s.store.room)
    (hl : t.link.state = s.link.state) : (triggerEval t).geometry = (triggerEval s).geometry := by
  have hrecord : (recordActive t).geometry = (recordActive s).geometry := by
    simp [recordActive, choosePreset_congr (by rw [hg]) (by rw [hg]) hr hroom hs, hg]
  have hin : inputsNow (recordActive t) = inputsNow (recordActive s) :=
    inputsNow_congr hrecord (by simpa) (by simpa) (by simpa)
  by_cases hstart : s.geometry.started = true
  · by_cases hw : setWanted s
    · have hw' : setWanted t := by simpa only [setWanted, hg, hin] using hw
      rw [triggerEval_makes hstart hw, triggerEval_makes (by rw [hg]; exact hstart) hw', makeSet_geometry,
        makeSet_geometry, hrecord, hin]
      simp [hl]
    · have hw' : ¬ setWanted t := by simpa only [setWanted, hg, hin] using hw
      rw [triggerEval_keeps hstart hw, triggerEval_keeps (by rw [hg]; exact hstart) hw', hrecord]
  · have hstop : s.geometry.started = false := by simpa using hstart
    rw [triggerEval_unstarted hstop, triggerEval_unstarted (by rw [hg]; exact hstop), hg]

/-! ## The MOMENTARY commands (R102 to R104) -/

/-- The overlay and the momentary preset replaced: all that a MOMENTARY geometry command changes before its evaluation
(R101). -/
def reshaped (o : Overlay) (m : Option (Fin 16)) (s : State) : State :=
  { s with geometry := { s.geometry with overlay := o, momentary := m } }

@[simp] theorem reshaped_frame (o : Overlay) (m : Option (Fin 16)) (s : State) : (reshaped o m s).ports = s.ports ∧
    (reshaped o m s).lamp = s.lamp ∧ (reshaped o m s).power = s.power ∧ (reshaped o m s).link = s.link ∧
    (reshaped o m s).router = s.router ∧ (reshaped o m s).geometry = { s.geometry with overlay := o, momentary := m } ∧
    (reshaped o m s).room = s.room ∧ (reshaped o m s).lockout = s.lockout ∧ (reshaped o m s).store = s.store ∧
    (reshaped o m s).free = s.free ∧ (reshaped o m s).pending = s.pending :=
  ⟨rfl, rfl, rfl, rfl, rfl, rfl, rfl, rfl, rfl, rfl, rfl⟩

theorem sameShape_reshaped (o : Overlay) (m : Option (Fin 16)) (s : State) :
    sameShape s (reshaped o m s) = true ↔ o = s.geometry.overlay ∧ m = s.geometry.momentary := by
  simp [sameShape_iff]

/-- What MOMENTARY command `c` does on overlay `o` and momentary preset `m`, in the statement's words: the answer, the two
settings, the evaluation of a change, and all that stays. -/
def momentaryActs (p : Port) (f : Frame) (s : State) (c : Command) (clamped : Bool) (o : Overlay)
    (m : Option (Fin 16)) : Prop :=
  ∃ t, exec (instrOf c p f) s = .next t ∧ answered c p f { done with clamped := clamped } s t ∧
    t.geometry.overlay = o ∧ t.geometry.momentary = m ∧ t.geometry.presets = s.geometry.presets ∧
    (o = s.geometry.overlay → m = s.geometry.momentary → t.geometry = s.geometry) ∧
    ((o ≠ s.geometry.overlay ∨ m ≠ s.geometry.momentary) →
      t.geometry = (triggerEval { s with geometry := { s.geometry with overlay := o, momentary := m } }).geometry ∧
      (s.geometry.started = true → t.geometry.active = some (choosePreset t) ∧
        ((s.geometry.current.map (·.inputs) ≠ some (inputsNow t) ∨ s.geometry.status = .held) →
          t.geometry.setNumber = s.geometry.setNumber + 1 ∧
          t.geometry.current = some (computeSet (s.geometry.setNumber + 1) (inputsNow t)) ∧
          (s.link.state ≠ .lost → t.link.lane = t.geometry.current.map fun g => { set := g, progress := 0 })))) ∧
    t.lamp = s.lamp ∧ t.power = s.power ∧ t.router = s.router ∧ t.room = s.room ∧ t.lockout = s.lockout ∧
    storeServed s.store t.store ∧ t.pending = s.pending

/-- The evaluation of a started engine, as the state at the end of the command shows it: the active preset recorded, and
a set made where one is wanted (R90, R97). -/
theorem triggerEval_shown {v t : State} (hs : v.geometry.started = true) (ht : shownAs (triggerEval v) t) :
    t.geometry.active = some (choosePreset t) ∧
      ((v.geometry.current.map (·.inputs) ≠ some (inputsNow t) ∨ v.geometry.status = .held) → remade v t) := by
  have hpreset : choosePreset t = choosePreset v :=
    (shownAs_preset ht).trans (choosePreset_congr (by simp) (by simp) (by simp) (by simp) (by simp))
  have hin : inputsNow t = inputsNow (recordActive v) := (shownAs_inputs ht).trans (inputsNow_triggerEval hs)
  refine ⟨by rw [ht.1, hpreset, triggerEval_active hs], fun hd => ?_⟩
  rw [hin] at hd
  rw [triggerEval_makes hs hd] at ht
  exact remade_later (s := recordActive v) (makeSet_remade (by simp [recordActive])) ht

section
variable {c : Command} {p : Port} {f : Frame} {q : Qualifier} {s : State} (h : taken c p f q s)
include h

/-- A command whose block answers with the two settings replaced, and evaluates a change, acts as a MOMENTARY one. -/
theorem momentaryActs_of {own : Qualifier → List Word → State → Answer × State} {clamped : Bool} {o : Overlay}
    {m : Option (Fin 16)} (hexec : exec (instrOf c p f) s = .next (request c p f own s))
    (hown : own q (f.words.drop 1) (begun p f s) =
      accept (doneClamped clamped) (commandEval (begun p f s) (reshaped o m (begun p f s)))) :
    momentaryActs p f s c clamped o m := by
  have hshape := sameShape_reshaped o m (begun p f s)
  refine ⟨_, hexec.trans (congrArg Host.Outcome.next (request_accepted h rfl hown)), answered_of _ _ _ _ _ _ (by simp),
    by simp, by simp, by simp, fun ho hm => ?_, fun hchange => ?_, by simp, by simp, by simp, by simp, by simp,
    by simp [storeServed_iff], by simp⟩
  · subst ho hm
    rw [commandEval_unchanged (hshape.mpr ⟨rfl, rfl⟩)]
    simp
  · rw [commandEval_changed fun hc => hchange.elim (absurd (hshape.mp hc).1) (absurd (hshape.mp hc).2)]
    refine ⟨?_, fun hs => ?_⟩
    · exact (shownAs_ended c p _ _).1.trans (triggerEval_geometry_congr rfl rfl rfl rfl rfl)
    · obtain ⟨hactive, hmade⟩ := triggerEval_shown (v := reshaped o m (begun p f s)) hs (shownAs_ended c p _ _)
      refine ⟨hactive, fun hd => ?_⟩
      obtain ⟨hnumber, hcurrent, -, hlane, -⟩ := hmade hd
      exact ⟨hnumber, hcurrent, hlane⟩

end

/-- The commands of R103 and R104 replace the overlay alone. -/
theorem momentaryGeometry_eq (clamped : Bool) (o : Overlay) (s : State) : momentaryGeometry clamped o s =
    accept (doneClamped clamped) (commandEval s (reshaped o s.geometry.momentary s)) := rfl

section
variable {p : Port} {q : Qualifier} {ps : List Word} {s : State} (hq : q.scope = .momentary)
include hq

theorem ownSetKeystone_momentary {v h : Field} {a b : Bool} (hv : fieldAt (-40) 40 ps 0 = some (v, a))
    (hh : fieldAt (-30) 30 ps 2 = some (h, b)) : ownSetKeystone p q ps s = momentaryGeometry (a || b)
      { s.geometry.overlay with kv := overlayField v s.geometry.overlay.kv, kh := overlayField h s.geometry.overlay.kh }
      s := by
  simp only [ownSetKeystone, hv, hh, hq]

theorem ownNudgeKeystone_momentary {x : Axis} (hx : enumAt axisList ps 0 = some x) :
    let sum := axisValue s x + (itemAt ps 1).toInt
    let new := clampInt (-(axisLimit x)) (axisLimit x) sum
    ownNudgeKeystone p q ps s = momentaryGeometry (new != sum) (withAxis x (some new) s.geometry.overlay) s := by
  simp only [ownNudgeKeystone, hx, hq]

theorem ownSetCorner_momentary {k : Corner} {x y : Field} {a b : Bool} (hk : enumAt cornerList ps 0 = some k)
    (hx : fieldAt (-64) 64 ps 1 = some (x, a)) (hy : fieldAt (-64) 64 ps 3 = some (y, b)) :
    ownSetCorner p q ps s = momentaryGeometry (a || b)
      (mapCornerOverlay k (fun t => ⟨overlayField x t.tx, overlayField y t.ty⟩) s.geometry.overlay) s := by
  simp only [ownSetCorner, hk, hx, hy, hq]

theorem ownSetAspect_momentary {a : Option Aspect} {c : Bool} (ha : aspectItem ps = some (a, c)) :
    ownSetAspect p q ps s = momentaryGeometry c { s.geometry.overlay with aspect := a } s := by
  simp only [ownSetAspect, ha, hq]

/-- LOAD PRESET replaces the momentary preset alone (R102). -/
theorem ownLoadPreset_momentary {m : Option (Fin 16)} (hm : presetItem ps = some m) : ownLoadPreset p q ps s =
    accept (doneClamped false) (commandEval s (reshaped s.geometry.overlay m s)) := by
  simp only [ownLoadPreset, hm, hq]
  rfl

end

/-- Settles O47, by the two settings that each command replaces. -/
theorem momentaryGeometryCommands : Obligations.MomentaryGeometryCommands := by
  unfold Obligations.MomentaryGeometryCommands
  intro p f q s hq ps o does
  exact ⟨fun h _ _ _ _ hv hk => momentaryActs_of h rfl (ownSetKeystone_momentary hq hv hk),
    fun h _ hx => momentaryActs_of h rfl (ownNudgeKeystone_momentary hq hx),
    fun h _ _ _ _ _ hk hx hy => momentaryActs_of h rfl (ownSetCorner_momentary hq hk hx hy),
    fun h _ _ ha => momentaryActs_of h rfl (ownSetAspect_momentary hq ha),
    fun h _ hm => momentaryActs_of h rfl (ownLoadPreset_momentary hq hm)⟩

end Sys2Proof.Machine
end

section
namespace Sys2Proof.Machine

/-! ## The STANDING commands (R102 to R105) -/

/-- A record of a table is replaced by itself alone when the table stays. -/
theorem presets_set_eq_iff (v : Vector Preset 16) (k : Fin 16) (x : Preset) : v.set k x = v ↔ x = v[k] := by
  refine ⟨fun h => ?_, fun h => ?_⟩
  · simpa using congrArg (·[k]) h
  · subst h
    simp

/-- A record and the overlay replaced: all that a STANDING command on a record changes in the Geometry Engine before its
evaluation (R101). -/
def rewritten (k : Fin 16) (x : Preset) (o : Overlay) (s : State) : State :=
  { s with geometry := { s.geometry with presets := s.geometry.presets.set k x, overlay := o } }

/-- The state that a STANDING command on a record hands to its evaluation: the record written and queued, the overlay
replaced (R101, R156). -/
def presetWritten (k : Fin 16) (x : Preset) (o : Overlay) (r : Origin) (s : State) : State :=
  setOverlay o (writePreset k x r s)

@[simp] theorem presetWritten_geometry (k : Fin 16) (x : Preset) (o : Overlay) (r : Origin) (s : State) :
    (presetWritten k x o r s).geometry = (rewritten k x o s).geometry := by
  simp [presetWritten, setOverlay, writePreset, rewritten]

@[simp] theorem presetWritten_frame (k : Fin 16) (x : Preset) (o : Overlay) (r : Origin) (s : State) :
    quietPorts (presetWritten k x o r s).ports = quietPorts s.ports ∧ (presetWritten k x o r s).lamp = s.lamp ∧
    (presetWritten k x o r s).power = s.power ∧ (presetWritten k x o r s).link = s.link ∧
    (presetWritten k x o r s).router = s.router ∧ (presetWritten k x o r s).room = s.room ∧
    (presetWritten k x o r s).lockout = s.lockout ∧ (presetWritten k x o r s).store.room = s.store.room ∧
    (presetWritten k x o r s).store.protect = s.store.protect := by
  simp [presetWritten]

theorem presetWritten_same_overlay (k : Fin 16) (x : Preset) (r : Origin) (s : State) :
    presetWritten k x s.geometry.overlay r s = writePreset k x r s := by
  have ho : (writePreset k x r s).geometry.overlay = s.geometry.overlay := by simp
  rw [presetWritten, ← ho]
  rfl

/-- The record is queued with its new content (R156). -/
theorem presetWritten_queued (k : Fin 16) (x : Preset) (o : Overlay) (r : Origin) (s : State) :
    { key := .preset k, image := presetImage x, origin := r, switch := none } ∈
      (presetWritten k x o r s).store.queue := by
  simp [presetWritten, writePreset, liveImage, enqueue_mem]

theorem sameShape_presetWritten (k : Fin 16) (x : Preset) (o : Overlay) (r : Origin) (s : State) :
    sameShape s (presetWritten k x o r s) = true ↔ x = s.geometry.presets[k] ∧ o = s.geometry.overlay := by
  rw [sameShape_iff, presetWritten_geometry]
  simp [rewritten, presets_set_eq_iff, and_comm]

/-- What STANDING command `c` does that makes preset `k` the record `x` and the overlay `o`, in the statement's words: its
checks, the answer, the record on its way to storage, the evaluation of a change, and all that stays. -/
def standingActs (p : Port) (f : Frame) (s : State) (c : Command) (clamped : Bool) (k : Fin 16) (x : Preset)
    (o : Overlay) : Prop :=
  (∀ r, standingCheck s .c true [.preset k] = some r →
    exec (instrOf c p f) s = .next (after c p (refused r) (begun p f s))) ∧
  (standingCheck s .c true [.preset k] = none → ∃ t, exec (instrOf c p f) s = .next t ∧
    answered c p f (doneQueued clamped [word k.val]) s t ∧ t.geometry.presets = s.geometry.presets.set k x ∧
    t.geometry.overlay = o ∧
    (x = s.geometry.presets[k] → o = s.geometry.overlay → t.geometry = s.geometry) ∧
    ((x ≠ s.geometry.presets[k] ∨ o ≠ s.geometry.overlay) → t.geometry = (triggerEval { s with geometry := {
      s.geometry with presets := s.geometry.presets.set k x, overlay := o } }).geometry) ∧
    sentToStore (.preset k) (presetImage x) (portOrigin p) t ∧ t.lamp = s.lamp ∧
    t.power = s.power ∧ t.router = s.router ∧ t.room = s.room ∧ t.lockout = s.lockout ∧ storeServed s.store t.store)

section
variable {c : Command} {p : Port} {f : Frame} {q : Qualifier} {s : State} (h : taken c p f q s)
include h

/-- A command whose block refuses what the checks refuse, and else answers with the record written and evaluates a change,
acts as a STANDING one. -/
theorem standingActs_of {own : Qualifier → List Word → State → Answer × State} {clamped : Bool} {k : Fin 16}
    {x : Preset} {o : Overlay} (hexec : exec (instrOf c p f) s = .next (request c p f own s))
    (hrefused : ∀ r, standingCheck s .c true [.preset k] = some r →
      own q (f.words.drop 1) (begun p f s) = refuse r (begun p f s))
    (hown : standingCheck s .c true [.preset k] = none → own q (f.words.drop 1) (begun p f s) =
      accept (doneQueued clamped [word k.val])
        (commandEval (begun p f s) (presetWritten k x o (portOrigin p) (begun p f s)))) :
    standingActs p f s c clamped k x o := by
  have hshape := sameShape_presetWritten k x o (portOrigin p) (begun p f s)
  refine ⟨fun r hr => hexec.trans (congrArg Host.Outcome.next (request_answered h (hrefused r hr))), fun hcheck => ?_⟩
  refine ⟨_, hexec.trans (congrArg Host.Outcome.next (request_accepted h rfl (hown hcheck))),
    answered_of _ _ _ _ _ _ (by simp), by simp [rewritten], by simp [rewritten], fun hx ho => ?_, fun hchange => ?_,
    sent_of_queued c p _ (by simpa using presetWritten_queued k x o (portOrigin p) (begun p f s)) ?_, by simp, by simp,
    by simp, by simp, by simp, by simp [presetWritten, storeServed_iff]⟩
  · rw [commandEval_unchanged (hshape.mpr ⟨hx, ho⟩)]
    subst hx ho
    simp [rewritten]
  · rw [commandEval_changed fun hc => hchange.elim (absurd (hshape.mp hc).1) (absurd (hshape.mp hc).2)]
    exact (shownAs_ended c p _ _).1.trans (triggerEval_geometry_congr (s := rewritten k x o s) (by simp [rewritten])
      (by simp [rewritten]) (by simp [rewritten]) (by simp [rewritten]) (by simp [rewritten]))
  · simpa [isProtected, keyRegion] using unprotected_of_standingCheck hcheck

end

/-! ### The records that the commands write -/

section
variable {p : Port} {clamped : Bool} {x : Preset} {o : Overlay} {s : State}

theorem standingGeometry_refused {r : Reason} (h : standingCheck s .c true [.preset (activePreset s)] = some r) :
    standingGeometry p clamped x o s = refuse r s := by
  simp only [standingGeometry, h]

theorem standingGeometry_accepted (h : standingCheck s .c true [.preset (activePreset s)] = none) :
    standingGeometry p clamped x o s = accept (doneQueued clamped [word (activePreset s).val])
      (commandEval s (presetWritten (activePreset s) x o (portOrigin p) s)) := by
  simp only [standingGeometry, h]
  rfl

end

/-- A command that its block hands on as one on the active preset acts so (R101). -/
theorem standingActs_of_active {c : Command} {p : Port} {f : Frame} {q : Qualifier} {s : State} (h : taken c p f q s)
    {own : Qualifier → List Word → State → Answer × State} {clamped : Bool} {x : Preset} {o : Overlay}
    (hexec : exec (instrOf c p f) s = .next (request c p f own s))
    (hown : own q (f.words.drop 1) (begun p f s) = standingGeometry p clamped x o (begun p f s)) :
    standingActs p f s c clamped (activePreset s) x o :=
  standingActs_of h hexec (fun _ hr => hown.trans (standingGeometry_refused hr))
    (fun hc => hown.trans (standingGeometry_accepted hc))

section
variable {p : Port} {q : Qualifier} {ps : List Word} {s : State} (hq : q.scope = .standing)
include hq

theorem ownSetKeystone_standing {v h : Field} {a b : Bool} (hv : fieldAt (-40) 40 ps 0 = some (v, a))
    (hh : fieldAt (-30) 30 ps 2 = some (h, b)) : ownSetKeystone p q ps s = standingGeometry p (a || b)
      { activeRecord s with kv := presetField v (activeRecord s).kv, kh := presetField h (activeRecord s).kh }
      { s.geometry.overlay with
        kv := releasedField v s.geometry.overlay.kv, kh := releasedField h s.geometry.overlay.kh } s := by
  simp only [ownSetKeystone, hv, hh, hq]

theorem ownNudgeKeystone_standing {x : Axis} (hx : enumAt axisList ps 0 = some x) :
    let sum := axisValue s x + (itemAt ps 1).toInt
    let new := clampInt (-(axisLimit x)) (axisLimit x) sum
    ownNudgeKeystone p q ps s = standingGeometry p (new != sum) (presetAxis x new (activeRecord s))
      (withAxis x none s.geometry.overlay) s := by
  simp only [ownNudgeKeystone, hx, hq]

theorem ownSetCorner_standing {k : Corner} {x y : Field} {a b : Bool} (hk : enumAt cornerList ps 0 = some k)
    (hx : fieldAt (-64) 64 ps 1 = some (x, a)) (hy : fieldAt (-64) 64 ps 3 = some (y, b)) :
    ownSetCorner p q ps s = standingGeometry p (a || b)
      (mapCornerPreset k (fun t => ⟨presetField x t.tx, presetField y t.ty⟩) (activeRecord s))
      (mapCornerOverlay k (fun t => ⟨releasedField x t.tx, releasedField y t.ty⟩) s.geometry.overlay) s := by
  simp only [ownSetCorner, hk, hx, hy, hq]

theorem ownSetAspect_standing {a : Option Aspect} {c : Bool} (ha : aspectItem ps = some (a, c)) :
    ownSetAspect p q ps s = standingGeometry p c { activeRecord s with aspect := a }
      { s.geometry.overlay with aspect := none } s := by
  simp only [ownSetAspect, ha, hq]

end

section
variable {p : Port} {ps : List Word} {s : State} {k : Fin 16} {name : Option (List Byte)} (hk : numAt ps 0 = k.val)
  (hname : nameItem ps = some name)
include hk hname

theorem ownSavePreset_refused {r : Reason} (h : standingCheck s .c true [.preset k] = some r) :
    ownSavePreset p ps s = refuse r s := by
  simp only [ownSavePreset, finOf_eq k hk, hname, h]

/-- SAVE PRESET writes the effective values, and empties the overlay when they go to the active preset (R105). -/
theorem ownSavePreset_accepted (h : standingCheck s .c true [.preset k] = none) : ownSavePreset p ps s =
    accept (doneQueued false [word k.val]) (commandEval s (presetWritten k (savedPreset s k name)
      (if k = activePreset s then Overlay.empty else s.geometry.overlay) (portOrigin p) s)) := by
  simp only [ownSavePreset, finOf_eq k hk, hname, h]
  split
  · rfl
  · rw [presetWritten_same_overlay]

end

/-! ### LOAD PRESET of a default (R102) -/

/-- The state that a STANDING LOAD PRESET hands to its evaluation: the default preset written and queued, the momentary one
cleared (R102). -/
def defaultWritten (k : Fin 16) (r : Origin) (s : State) : State :=
  setMomentaryPreset none (writeRoom { s.store.room with preset := k } r s)

@[simp] theorem defaultWritten_frame (k : Fin 16) (r : Origin) (s : State) :
    quietPorts (defaultWritten k r s).ports = quietPorts s.ports ∧ (defaultWritten k r s).lamp = s.lamp ∧
    (defaultWritten k r s).power = s.power ∧ (defaultWritten k r s).link = s.link ∧
    (defaultWritten k r s).router = s.router ∧
    (defaultWritten k r s).geometry = { s.geometry with momentary := none } ∧
    (defaultWritten k r s).room = s.room ∧ (defaultWritten k r s).lockout = s.lockout ∧
    (defaultWritten k r s).store.room = { s.store.room with preset := k } ∧
    (defaultWritten k r s).store.protect = s.store.protect := by
  simp [defaultWritten, setMomentaryPreset]

/-- ROOM DEFAULTS is queued with the new default (R156). -/
theorem defaultWritten_queued (k : Fin 16) (r : Origin) (s : State) :
    { key := .roomDefaults, image := roomImage { s.store.room with preset := k }, origin := r, switch := none } ∈
      (defaultWritten k r s).store.queue := by
  simpa [defaultWritten] using writeRoom_queued { s.store.room with preset := k } r s

theorem sameShape_defaultWritten (k : Fin 16) (r : Origin) (s : State) :
    sameShape s (defaultWritten k r s) = true ↔ k = s.store.room.preset ∧ s.geometry.momentary = none := by
  rw [sameShape_iff]
  simp only [defaultWritten_frame, true_and]
  exact ⟨fun ⟨hm, hk⟩ => ⟨hk, hm.symm⟩, fun ⟨hk, hm⟩ => ⟨hm.symm, hk⟩⟩

theorem exec_loadPreset_standing {p : Port} {f : Frame} {q : Qualifier} {s : State} {k : Fin 16}
    (h : taken .loadPreset p f q s) (hq : q.scope = .standing) (hk : presetItem (f.words.drop 1) = some (some k))
    (hc : standingCheck s .c false [.roomDefaults] = none) : exec (.loadPreset p f) s =
      .next (after .loadPreset p (doneQueued false [word 36])
        (finish (commandEval (begun p f s) (defaultWritten k (portOrigin p) (begun p f s))))) := by
  refine congrArg Host.Outcome.next (request_accepted h rfl ?_)
  simp only [ownLoadPreset, hk, hq, standingCheck_begun, hc]
  rfl

/-- Settles O48, by the record that each command writes, and the default preset that LOAD PRESET writes. -/
theorem standingGeometryCommands : Obligations.StandingGeometryCommands := by
  unfold Obligations.StandingGeometryCommands
  intro p f q s hq ps o n x does
  refine ⟨fun h _ _ _ _ hv hk => standingActs_of_active h rfl (ownSetKeystone_standing hq hv hk),
    fun h _ hx => standingActs_of_active h rfl (ownNudgeKeystone_standing hq hx),
    fun h _ _ _ _ _ hk hx hy => standingActs_of_active h rfl (ownSetCorner_standing hq hk hx hy),
    fun h _ _ ha => standingActs_of_active h rfl (ownSetAspect_standing hq ha),
    fun h _ _ hk hname => standingActs_of h rfl (fun _ hr => ownSavePreset_refused hk hname hr)
      (fun hc => ownSavePreset_accepted hk hname hc), fun h k hk hc => ?_⟩
  have hshape := sameShape_defaultWritten k (portOrigin p) (begun p f s)
  refine ⟨_, exec_loadPreset_standing h hq hk hc, answered_of _ _ _ _ _ _ (by simp), by simp, by simp, by simp,
    fun hsame hnone => ?_, fun hchange => ?_, ?_, by simp, by simp, by simp, by simp, by simp⟩
  · rw [commandEval_unchanged (hshape.mpr ⟨hsame, hnone⟩)]
    simp [← hnone]
  · rw [commandEval_changed fun hs => hchange.elim (absurd (hshape.mp hs).1) (absurd (hshape.mp hs).2)]
    exact (shownAs_ended .loadPreset p _ _).1.trans
      (triggerEval_geometry_congr (by simp) (by simp) (by simp) (by simp) (by simp))
  · refine sent_of_queued .loadPreset p _ ?_ ?_
    · simpa using defaultWritten_queued k (portOrigin p) (begun p f s)
    · simpa [isProtected, keyRegion] using unprotected_of_standingCheck hc

end Sys2Proof.Machine
end

section
namespace Sys2Proof.Machine

/-! ## Conflicts are mutual (R115) -/

theorem rangesMeet_comm (a b : Booking) : rangesMeet a b = rangesMeet b a := Bool.and_comm _ _

/-- A ONE-OFF booking occurs on its day (R114). -/
theorem occursOn_oneOff (e d : Nat) : occursOn (.oneOff e) d = true ↔ d = e ∧ d ≤ 65535 := by
  simp [occursOn, and_comm]

theorem le_of_occursOn {k : BookingKind} {d : Nat} (h : occursOn k d = true) : d ≤ 65535 := by
  simp only [occursOn, Bool.and_eq_true, decide_eq_true_eq] at h
  exact h.1

/-- A ONE-OFF booking shares its day with a kind that occurs on it (R115). -/
theorem shareDay_oneOff (d : Nat) (k : BookingKind) : shareDay (.oneOff d) k = occursOn k d := by
  cases h : occursOn k d <;> simp [shareDay, h]
  exact le_of_occursOn h

/-- Two kinds share a day both ways (R115). -/
theorem shareDay_comm (a b : BookingKind) : shareDay a b = shareDay b a := by
  cases a with
  | oneOff d =>
    cases b with
    | oneOff e =>
      rw [shareDay_oneOff, shareDay_oneOff, Bool.eq_iff_iff, occursOn_oneOff, occursOn_oneOff]
      omega
    | weekly => rw [shareDay_oneOff]; rfl
  | weekly m f l =>
    cases b with
    | oneOff => rw [shareDay_oneOff]; rfl
    | weekly n g k =>
      simp only [shareDay, Nat.max_comm f g]
      exact List.any_congr rfl fun i => Bool.and_comm _ _

theorem conflicts_comm (a b : Booking) : conflicts a b = conflicts b a := by
  rw [conflicts, rangesMeet_comm, shareDay_comm, conflicts]

/-! ## One slot of the table (R115 to R117, R131) -/

theorem tableClear_set_none {t : Vector (Option Booking) 64} (h : tableClear t) (id : Fin 64) :
    tableClear (t.set id none) := by
  intro i j hij a b ha hb
  have old {k : Fin 64} {x : Booking} (hx : (t.set id none)[k] = some x) : t[k] = some x := by
    by_cases hk : k = id
    · subst hk; simp at hx
    · rwa [getElem_set_other t id k none hk] at hx
  exact h i j hij a b (old ha) (old hb)

/-- A booking that conflicts with no other slot's may stand in a clear table (R115). -/
theorem tableClear_set {t : Vector (Option Booking) 64} (h : tableClear t) {id : Fin 64} {c : Booking}
    (hc : ∀ j, j ≠ id → ∀ x, t[j] = some x → conflicts c x = false) : tableClear (t.set id (some c)) := by
  intro i j hij a b ha hb
  by_cases hi : i = id
  · subst hi
    rw [getElem_set_other t i j _ (Ne.symm hij)] at hb
    obtain rfl : c = a := by simpa using ha
    exact hc j (Ne.symm hij) b hb
  · rw [getElem_set_other t id i _ hi] at ha
    by_cases hj : j = id
    · subst hj
      obtain rfl : c = b := by simpa using hb
      rw [conflicts_comm]
      exact hc i hi a ha
    · rw [getElem_set_other t id j _ hj] at hb
      exact h i j hij a b ha hb

/-- The test against the other slots of a table (R115). -/
theorem conflictsAt_eq_false {s : State} {id : Fin 64} {b : Booking} : conflictsAt s id b = false ↔
    ∀ j, j ≠ id → ∀ x, s.room.bookings[j] = some x → conflicts b x = false := by
  simp only [conflictsAt, List.any_eq_false, List.mem_finRange, true_implies, Bool.and_eq_true, bne_iff_ne, not_and,
    Bool.not_eq_true]
  refine forall_congr' fun j => imp_congr_right fun _ => ?_
  cases s.room.bookings[j] <;> simp

/-- A booking that passes the conflict check in its slot's table may stand there (R116, R117). -/
theorem tableClear_of_conflictWith {s t : State} (h : tableClear s.room.bookings) {id : Fin 64} {b : Booking}
    (ht : t.room.bookings = s.room.bookings.set id (some b)) (hc : conflictWith id b t = false) :
    tableClear t.room.bookings := by
  rw [conflictWith, Bool.or_eq_false_iff, conflictsAt_eq_false] at hc
  rw [ht]
  refine tableClear_set h fun j hj x hx => hc.1 j hj x ?_
  rwa [ht, getElem_set_other _ id j _ hj]

/-! ## The conflict removal of a load (R131) -/

/-- A slot is freed, or its booking conflicts with no lower one (R131). -/
theorem cleanSlot_cases (s : State) (id : Fin 64) :
    (cleanSlot s id).room.bookings = s.room.bookings.set id none ∨
      ((cleanSlot s id).room.bookings = s.room.bookings ∧ ∀ b, s.room.bookings[id] = some b →
        ∀ j : Fin 64, j < id → ∀ x, s.room.bookings[j] = some x → conflicts b x = false) := by
  unfold cleanSlot
  split
  · next hnone => exact .inr ⟨rfl, fun b hb => by simp [hnone] at hb⟩
  · next b hb =>
    split
    · exact .inl (by simp)
    · next hany =>
      refine .inr ⟨rfl, fun c hc j hj x hx => ?_⟩
      obtain rfl : b = c := Option.some.inj (hb.symm.trans hc)
      simp only [List.any_eq_true, not_exists, not_and] at hany
      simpa [hx, Fin.lt_def.mp hj, -Fin.getElem_fin] using hany j (List.mem_finRange j)

/-- No two bookings below slot `n` conflict. -/
def clearBelow (n : Nat) (t : Vector (Option Booking) 64) : Prop :=
  ∀ i j : Fin 64, i < j → j.val < n → ∀ a b : Booking, t[i] = some a → t[j] = some b → conflicts b a = false

theorem tableClear_of_clearBelow {t : Vector (Option Booking) 64} (h : clearBelow 64 t) : tableClear t := by
  intro i j hij a b ha hb
  rcases lt_or_gt_of_ne hij with hlt | hlt
  · rw [conflicts_comm]
    exact h i j hlt j.isLt a b ha hb
  · exact h j i hlt i.isLt b a hb ha

theorem cleanSlot_clearBelow (s : State) (id : Fin 64) (h : clearBelow id.val s.room.bookings) :
    clearBelow (id.val + 1) (cleanSlot s id).room.bookings := by
  intro i j hij hj a b ha hb
  rcases cleanSlot_cases s id with hset | ⟨hsame, hlower⟩
  · rw [hset] at ha hb
    have hne : j ≠ id := by rintro rfl; simp at hb
    have hjlt : j < id := Fin.lt_def.mpr (by have := Fin.val_ne_of_ne hne; omega)
    rw [getElem_set_other _ id j _ hne] at hb
    rw [getElem_set_other _ id i _ (hij.trans hjlt).ne] at ha
    exact h i j hij hjlt a b ha hb
  · rw [hsame] at ha hb
    by_cases hne : j = id
    · subst hne
      exact hlower b hb i hij a ha
    · have := Fin.val_ne_of_ne hne
      exact h i j hij (by omega) a b ha hb

theorem foldl_cleanSlot_clearBelow (s : State) (n : Nat) (hn : n ≤ 64) :
    clearBelow n (((List.finRange 64).take n).foldl cleanSlot s).room.bookings := by
  induction n with
  | zero => intro i j _ hj; omega
  | succ n ih =>
    have htake : (List.finRange 64).take (n + 1) = (List.finRange 64).take n ++ [⟨n, hn⟩] := by
      rw [List.take_add_one, List.getElem?_eq_getElem (by simpa using hn)]
      simp
    rw [htake, List.foldl_append]
    exact cleanSlot_clearBelow _ ⟨n, hn⟩ (ih (by omega))

/-- The table that a load leaves is clear, whatever was stored (R131). -/
theorem cleanTable_tableClear (s : State) : tableClear (cleanTable s).room.bookings := by
  have hfold : tableClear ((List.finRange 64).foldl cleanSlot s).room.bookings := by
    have h := foldl_cleanSlot_clearBelow s 64 le_rfl
    rw [List.take_of_length_le (by simp)] at h
    exact tableClear_of_clearBelow h
  unfold cleanTable
  dsimp only
  split
  · exact hfold
  · simpa using hfold

theorem tableClear_replicate_none : tableClear (Vector.replicate 64 none) := by
  intro i j hij a b ha hb
  simp at ha

theorem completeLoad_tableClear (s : State) (h : tableClear s.room.bookings) :
    tableClear (completeLoad s).room.bookings := by
  unfold completeLoad
  split
  · exact h
  · have hroom (t : State) : tableClear (loadRoom t).room.bookings := by
      unfold loadRoom
      dsimp only
      split <;> simpa using cleanTable_tableClear t
    simpa using hroom _

theorem completeWipe_tableClear (s : State) (h : tableClear s.room.bookings) :
    tableClear (completeWipe s).room.bookings := by
  unfold completeWipe
  split
  · simpa [wipeLive] using tableClear_replicate_none
  · exact h
  · exact h

/-! ## The three edits of the table (R116 to R118) -/

theorem ownAddBooking_tableClear (p : Port) (q : Qualifier) (ps : List Word) (s : State)
    (h : tableClear s.room.bookings) : tableClear (ownAddBooking p q ps s).2.room.bookings := by
  unfold ownAddBooking
  dsimp only
  repeat' split
  case isFalse.isFalse hc _ => simpa [putBooking] using tableClear_of_conflictWith h rfl (Bool.eq_false_of_not_eq_true hc)
  all_goals simpa using h

theorem changeBooking_bookings (id : Fin 64) (old new : Booking) (o : Origin) (s : State) :
    (changeBooking id old new o s).room.bookings = s.room.bookings.set id (some new) := by
  unfold changeBooking
  dsimp only
  split <;> simp [putBooking]

theorem ownChangeBooking_tableClear (p : Port) (q : Qualifier) (ps : List Word) (s : State)
    (h : tableClear s.room.bookings) : tableClear (ownChangeBooking p q ps s).2.room.bookings := by
  unfold ownChangeBooking
  dsimp only
  repeat' split
  case isFalse.isFalse hc _ =>
    have ht := tableClear_of_conflictWith h rfl (Bool.eq_false_of_not_eq_true hc)
    simpa [changeBooking_bookings, putBooking] using ht
  all_goals simpa using h

theorem removeBooking_bookings (id : Fin 64) (o : Origin) (s : State) :
    (removeBooking id o s).room.bookings = s.room.bookings.set id none := by
  simp [removeBooking, putBooking]

theorem ownRemoveBooking_tableClear (p : Port) (ps : List Word) (s : State) (h : tableClear s.room.bookings) :
    tableClear (ownRemoveBooking p ps s).2.room.bookings := by
  unfold ownRemoveBooking
  repeat' split
  case isFalse.isFalse => simpa [removeBooking_bookings] using tableClear_set_none h _
  all_goals simpa using h

/-! ## Every command and every step -/

/-- What an owning block does not bring into the table, its request does not (R168). -/
theorem request_tableClear {c : Command} {p : Port} {f : Frame} {own : Qualifier → List Word → State → Answer × State}
    {s : State} (h : tableClear s.room.bookings)
    (hown : ∀ q ps t, tableClear t.room.bookings → tableClear (own q ps t).2.room.bookings) :
    tableClear (request c p f own s).room.bookings := by
  rcases request_cases c p f own s with ⟨-, e⟩ | ⟨-, a, -, e⟩ | ⟨q, -, e⟩ <;> rw [e]
  · simpa using h
  · simpa using h
  · simpa using hown q _ _ (by simpa using h)

/-- Each command keeps the table clear (R115 to R118, R131, R163). -/
theorem exec_tableClear {c : Instr} {s t : State} (hs : tableClear s.room.bookings) (h : exec c s = .next t) :
    tableClear t.room.bookings := by
  have of_next {v : State} (hv : exec c s = .next v) (hk : tableClear v.room.bookings) : tableClear t.room.bookings :=
    Host.Outcome.next.inj (hv.symm.trans h) ▸ hk
  have same {v : State} (hv : v.room.bookings = s.room.bookings) : tableClear v.room.bookings := hv.symm ▸ hs
  cases c
  case hardReset => exact of_next rfl tableClear_replicate_none
  case restart =>
    refine of_next rfl ?_
    unfold takeRestart
    repeat' split
    · simpa using hs
    · simpa using hs
    · exact tableClear_replicate_none
  case loadCompletion => exact of_next rfl (by simpa using completeLoad_tableClear s hs)
  case wipeCompletion => exact of_next rfl (by simpa using completeWipe_tableClear s hs)
  case addBooking => exact of_next rfl (request_tableClear hs fun q ps t => ownAddBooking_tableClear _ q ps t)
  case changeBooking => exact of_next rfl (request_tableClear hs fun q ps t => ownChangeBooking_tableClear _ q ps t)
  case removeBooking => exact of_next rfl (request_tableClear hs fun _ ps t => ownRemoveBooking_tableClear _ ps t)
  case presenceLineChange | ack | report | strikeResult | format | invalidHeadMessage | headMessageSent
      | answerTimerExpiry | silenceTimerExpiry | reportWaitExpiry | hotWindowExpiry | clockSecond | writeCompletion
      | windowTimerExpiry => exact of_next rfl (same (by simp))
  case stabilityTimerExpiry | firstPresenceSample | strikeResultTimeout | restrikePauseExpiry | warmingEnd | coolingEnd
      | blankDimExpiry | noSignalTimerExpiry | burnSecond | settleTimerExpiry | selectWhileTaking
      | unknownCommandFrame | responseReady | frameDiscarded =>
    refine of_next rfl (same ?_)
    repeat' split
    all_goals simp
  case readWordPeriod =>
    refine of_next rfl (same ?_)
    unfold readPeriod
    dsimp only
    repeat' split
    all_goals simp
  -- The other rows of the ports: the block leaves the table.
  all_goals exact of_next rfl (request_tableClear hs fun q ps t ht => by simpa using ht)

/-- Settles O10: a step is a command or a millisecond, and each keeps the table clear. -/
theorem bookingTableKeptFreeOfConflicts : Obligations.BookingTableKeptFreeOfConflicts := by
  unfold Obligations.BookingTableKeptFreeOfConflicts
  intro s t hs h
  unfold step timePasses at h
  repeat' split at h
  · exact exec_tableClear (by exact hs) h
  · exact exec_tableClear hs h
  · exact Host.Outcome.next.inj h ▸ hs

end Sys2Proof.Machine
end

section
namespace Sys2Proof.Machine

/-! ## The lamp mode in force (R44) -/

/-- The mode held is the one that its inputs give, once the first evaluation has been made and a level stands (R44). -/
def modeInForce (s : State) : Prop :=
  s.power.modeEvaluated = true ∧ s.lamp.level ≠ none ∧ s.power.effectiveMode = (decideMode s).1

/-- `t` has what the mode is decided from, and the mode itself, as `s` has them (R44). -/
def modeKept (s t : State) : Prop :=
  t.lamp.level = s.lamp.level ∧ t.power.dimmed = s.power.dimmed ∧ t.power.momentaryMode = s.power.momentaryMode ∧
    t.room.state = s.room.state ∧ t.room.current = s.room.current ∧ t.room.bookings = s.room.bookings ∧
    t.store.room = s.store.room ∧ t.power.modeEvaluated = s.power.modeEvaluated ∧
    t.power.effectiveMode = s.power.effectiveMode

theorem modeInForce_congr {s t : State} (h : modeInForce s) (hk : modeKept s t) : modeInForce t := by
  obtain ⟨he, hl, hm⟩ := h
  obtain ⟨hlevel, hdim, hmom, hstate, hcur, hbook, hdef, heval, hmode⟩ := hk
  refine ⟨heval.trans he, hlevel ▸ hl, ?_⟩
  rw [hmode, hm]
  simp [decideMode, bookingMode, currentBooking, hlevel, hdim, hmom, hstate, hcur, hbook, hdef]

/-- An evaluation puts the mode in force (R44). -/
theorem evalLampMode_inForce {s : State} (he : s.power.modeEvaluated = true) (hl : s.lamp.level ≠ none) :
    modeInForce (evalLampMode s) := by
  refine ⟨by simpa using he, by simpa using hl, ?_⟩
  rw [evalLampMode_mode, if_pos he]
  exact congrArg Prod.fst (decideMode_congr s _ (by simp) (by simp) (by simp) (by simp) (by simp)).symm

/-! ### What the lamp and the power do to it -/

theorem levelBecomes_inForce {s : State} (ask : Bool) (v : Level) (wear : Nat) (h : modeInForce s) :
    modeInForce (levelBecomes ask s.lamp.level v wear s) := by
  obtain ⟨he, hl, -⟩ := h
  unfold levelBecomes
  dsimp only
  split
  · next hnone => exact absurd hnone hl
  · split
    · exact evalLampMode_inForce (by split <;> simpa using he) (by split <;> simp)
    · exact evalLampMode_inForce he (by simp)

theorem chargeSecond_inForce {s : State} (h : modeInForce s) : modeInForce (chargeSecond s) := by
  have hcadence {t : State} (ht : modeInForce t) : modeInForce (advanceCadence t) :=
    modeInForce_congr ht (by simp [modeKept])
  unfold chargeSecond relevel relevelAsking
  split
  · exact h
  · split
    · exact hcadence h
    · exact levelBecomes_inForce _ _ _ (hcadence h)

theorem endBurn_inForce {s : State} (h : modeInForce s) : modeInForce (endBurn s) := by
  unfold endBurn
  split
  · exact h
  · exact h
  · exact chargeSecond_inForce h

/-- A change of the power state judges the mode again where it charges a second (R3, R44). -/
theorem enterPower_inForce {s : State} (dest : PowerState) (h : modeInForce s) : modeInForce (enterPower dest s) := by
  have hburn : modeInForce (if isLit s.power.state && !isLit dest then endBurn s else s) := by
    split
    · exact endBurn_inForce h
    · exact h
  unfold enterPower
  dsimp only
  refine modeInForce_congr hburn ?_
  (repeat' split) <;> simp [modeKept, placePower]

theorem setPower_inForce {s : State} (dest : PowerState) (o : Origin) (r : Option Reason) (h : modeInForce s) :
    modeInForce (setPower dest o r s) :=
  modeInForce_congr (enterPower_inForce dest h) (by simp [setPower, modeKept])

theorem powerOn_inForce {s : State} (o : Origin) (h : modeInForce s) : modeInForce (powerOn o s).2 := by
  have hbegin : modeInForce (beginSequence o s) :=
    setPower_inForce _ _ _ (modeInForce_congr h (by simp [modeKept, beginAttempt, clearIntents]))
  unfold powerOn
  split
  · split <;> exact h
  · split
    · exact hbegin
    · exact h
  · exact h
  · exact h
  · exact h
  · split <;> exact h
  · exact h

theorem powerOff_inForce {s : State} (o : Origin) (h : modeInForce s) : modeInForce (powerOff o s).2 := by
  have hdark {t : State} (dest : PowerState) (ht : modeInForce t) : modeInForce (settleDark dest o none t) :=
    setPower_inForce _ _ _ ht
  have hput : modeInForce (putOut o s) :=
    hdark _ (modeInForce_congr h (by simp [modeKept]))
  unfold powerOff
  split
  · exact h
  · exact h
  · exact h
  · split
    · exact hdark _ h
    · exact h
  · exact h
  · split
    · exact h
    · exact hput
  · exact h

theorem schedulePowerOn_inForce {s : State} (h : modeInForce s) : modeInForce (schedulePowerOn s) := by
  have hon := powerOn_inForce .schedule h
  unfold schedulePowerOn
  dsimp only
  split
  · exact modeInForce_congr hon (by simp [modeKept])
  · exact hon

theorem closeManual_inForce {s : State} (h : modeInForce s) : modeInForce (closeManual s) := by
  obtain ⟨he, hl, hm⟩ := h
  unfold closeManual
  split
  · exact evalLampMode_inForce (by simpa [holdClosed] using he) (by simpa [holdClosed] using hl)
  · exact evalLampMode_inForce (by simpa [holdClosed] using he) (by simpa [holdClosed] using hl)
  · exact ⟨he, hl, hm⟩
  · exact ⟨he, hl, hm⟩

theorem openShutter_inForce {s : State} (h : modeInForce s) : modeInForce (openShutter s) := by
  obtain ⟨he, hl, hm⟩ := h
  unfold openShutter
  split
  · exact ⟨he, hl, hm⟩
  all_goals exact evalLampMode_inForce (by simpa [holdOpen] using he) (by simpa [holdOpen] using hl)

theorem scheduleRoute_inForce {s : State} (x : Fin 8) (h : modeInForce s) : modeInForce (scheduleRoute x s) :=
  modeInForce_congr h (by simp [modeKept])

/-! ## The active preset in force (R90) -/

/-- The active preset recorded is the one that its inputs give, once the first settle end has come (R90, R97). -/
def presetInForce (s : State) : Prop :=
  s.geometry.started = true ∧ s.geometry.active = some (choosePreset s)

/-- `t` has what the preset is chosen from, and the preset itself, as `s` has them (R90). -/
def presetKept (s t : State) : Prop :=
  t.geometry = s.geometry ∧ t.router.sources = s.router.sources ∧ t.room.state = s.room.state ∧
    t.room.current = s.room.current ∧ t.room.bookings = s.room.bookings ∧ t.store.room = s.store.room

theorem presetInForce_congr {s t : State} (h : presetInForce s) (hk : presetKept s t) : presetInForce t := by
  obtain ⟨hst, ha⟩ := h
  obtain ⟨hg, hr, hs, hc, hb, hd⟩ := hk
  refine ⟨hg ▸ hst, ?_⟩
  rw [hg, ha]
  simp [choosePreset, bookingPreset, boundPreset, currentBooking, hg, hr, hs, hc, hb, hd]

/-- An evaluation puts the preset in force (R90). -/
theorem triggerEval_inForce {s : State} (h : s.geometry.started = true) : presetInForce (triggerEval s) := by
  refine ⟨by simpa using h, ?_⟩
  rw [triggerEval_active h]
  exact congrArg some (choosePreset_congr (by simp) (by simp) (by simp) (by simp) (by simp)).symm

/-- A resolution that moves the routed source has the preset judged again (R71, R97). -/
theorem resolve_inForce {s : State} (o : Origin) (tell : Bool) (h : presetInForce s) :
    presetInForce (resolve o tell s).2 := by
  have hsource {t : State} (dest : Option (Fin 8)) (ht : t.geometry.started = true) :
      presetInForce (postRoute o (handSource dest t)) :=
    presetInForce_congr (s := handSource dest t) (triggerEval_inForce (by simpa using ht)) (by simp [presetKept])
  unfold resolve
  dsimp only
  repeat' split
  · exact presetInForce_congr h (by simp [presetKept])
  · exact hsource _ h.1
  · exact presetInForce_congr h (by simp [presetKept])
  · exact presetInForce_congr h (by simp [presetKept])

theorem scheduleRoute_presetInForce {s : State} (x : Fin 8) (h : presetInForce s) :
    presetInForce (scheduleRoute x s) := by
  have hheld (q : RouteRequest) : presetInForce (holdRoute q s).2 := presetInForce_congr h (by simp [presetKept])
  unfold scheduleRoute routeRequest applyRoute
  split
  · exact presetInForce_congr h (by simp [presetKept])
  · split
    · exact hheld _
    · exact resolve_inForce _ _ (presetInForce_congr h (by simp [presetKept]))

end Sys2Proof.Machine
end

section
namespace Sys2Proof.Machine

/-! ## A room state change (R122) -/

/-- The room placed, the momentary settings cleared, and the change told: the part of a change before the profile, the mode
and the preset are set again (R122, steps 1 to 3). -/
def toldChange (dest : RoomState) (occ : Option Occurrence) (cause : RoomCause) (origin : Origin) (id : Fin 64)
    (s : State) : State :=
  postFor .roomStateChanged origin
    (some (tripleWord (position roomStateList s.room.state) (position roomStateList dest) (position roomCauseList cause)))
    (some (word id.val)) (refreshOverride origin (releaseOverride (clearMomentary (placeRoom dest occ s))))

theorem roomChange_eq (dest : RoomState) (occ : Option Occurrence) (cause : RoomCause) (origin : Origin) (id : Fin 64)
    (s : State) : roomChange dest occ cause origin id s =
      triggerEval (evalLampMode (refreshProfile origin (toldChange dest occ cause origin id s))) := rfl

section
variable (dest : RoomState) (occ : Option Occurrence) (cause : RoomCause) (origin : Origin) (id : Fin 64) (s : State)

/-- The room after a change is as its first step leaves it (R122, step 1). -/
@[simp] theorem roomChange_room : (roomChange dest occ cause origin id s).room = (placeRoom dest occ s).room := by
  simp [roomChange]

/-- The momentary settings are cleared (R122, step 2). -/
theorem roomChange_cleared : (roomChange dest occ cause origin id s).geometry.overlay = Overlay.empty ∧
    (roomChange dest occ cause origin id s).geometry.momentary = none ∧
    (roomChange dest occ cause origin id s).power.momentaryMode = none ∧
    (roomChange dest occ cause origin id s).lockout.hold = .followStanding := by
  simp [roomChange, clearMomentary, releaseOverride]

/-- Of the Power Sequencer a change reaches the two modes alone (R44, R122). -/
theorem roomChange_power : (roomChange dest occ cause origin id s).power = { s.power with
    momentaryMode := none, effectiveMode := (roomChange dest occ cause origin id s).power.effectiveMode } := by
  simp [PowerUnit.eq_iff, roomChange_cleared]

/-- Of the lamp account a change reaches the judgement of the burn second alone (R4). -/
theorem roomChange_lamp : lampModed s.lamp (roomChange dest occ cause origin id s).lamp := by
  simp [lampModed, LampUnit.eq_iff]

/-- A change is told by ROOM STATE CHANGED, to the port of its origin too (R122, step 3). -/
theorem roomChange_told : told (originPort origin) .roomStateChanged origin
    (tripleWord (position roomStateList s.room.state) (position roomStateList dest) (position roomCauseList cause))
    (word id.val) s (roomChange dest occ cause origin id s) := by
  refine told_of (refreshOverride origin (releaseOverride (clearMomentary (placeRoom dest occ s)))) ?_ ?_ ?_ ?_
  · exact refreshOverride_grown _ _ _ (grown_refl _)
  · simp
  · simp
  · unfold roomChange postFor; simp

/-- The profile is set again, where one is active (R122, step 4; R137). -/
theorem roomChange_profile (h : s.lockout.active ≠ none) :
    (roomChange dest occ cause origin id s).lockout.active.map (·.number) =
      some (chooseProfile (placeRoom dest occ s)).1 := by
  have hsome (t : State) (ht : t.lockout.active.isSome = true) :
      (refreshProfile origin t).lockout.active = some (profileNow t) := by
    unfold refreshProfile setProfileActive
    dsimp only
    rw [if_pos ht]
    split <;> simp
  have hactive : ∀ t : State, t.lockout.active = s.lockout.active → t.lockout.active.isSome = true :=
    fun t ht => ht ▸ Option.isSome_iff_ne_none.mpr h
  simp only [roomChange, triggerEval_frame, evalLampMode_frame]
  rw [hsome _ (hactive _ (by simp [releaseOverride]))]
  simp [profileNow, chooseProfile, currentBooking]

/-- The mode is judged again (R122, step 4; R44). -/
theorem roomChange_modeInForce (he : s.power.modeEvaluated = true) (hl : s.lamp.level ≠ none) :
    modeInForce (roomChange dest occ cause origin id s) := by
  have h := evalLampMode_inForce (s := refreshProfile origin (toldChange dest occ cause origin id s))
    (by simpa [toldChange, clearMomentary, releaseOverride] using he)
    (by simpa [toldChange, clearMomentary, releaseOverride] using hl)
  exact modeInForce_congr h (t := roomChange dest occ cause origin id s) (by simp [modeKept, roomChange_eq])

/-- The active preset is judged again (R122, step 4; R90). -/
theorem roomChange_presetInForce (h : s.geometry.started = true) :
    presetInForce (roomChange dest occ cause origin id s) :=
  triggerEval_inForce (by simpa using h)

end

end Sys2Proof.Machine
end

section
namespace Sys2Proof.Machine

/-! ## The three actions at OCCUPIED (R124) -/

/-- The booking's source, where it has one, is asked for (R124). -/
def askedRoute (b : Booking) (s : State) : State :=
  match b.source with
  | some x => scheduleRoute x s
  | none => s

/-- The lamp is asked for where it is neither lit nor being lit (R124). -/
def askedLamp (s : State) : State :=
  match s.power.state with
  | .on | .warming | .igniting => s
  | .unknown | .standby | .cooling | .fault => schedulePowerOn s

/-- A shutter that the runner closed is opened (R124). -/
def reopened (s : State) : State :=
  if s.room.scheduleBlank then
    let t := openShutter s
    { t with room := { t.room with scheduleBlank := false } }
  else s

theorem occupiedActions_eq (b : Booking) (s : State) : occupiedActions b s = reopened (askedLamp (askedRoute b s)) := rfl

@[simp] theorem reopened_store (s : State) : (reopened s).store = s.store := by
  unfold reopened
  split <;> simp

/-! ## Entries that an evaluation leaves in the queue (R156) -/

section
variable {e : Entry} {s : State} (he : e.key ≠ .lampCheckpoint) (h : e ∈ s.store.queue)
include he h

theorem settleDark_queued (dest : PowerState) (o : Origin) (r : Option Reason) :
    e ∈ (settleDark dest o r s).store.queue :=
  setPower_queued he (s := { s with power := clearIntents s.power }) h _ _ _

theorem beginSequence_queued (o : Origin) : e ∈ (beginSequence o s).store.queue :=
  setPower_queued he (by simpa [beginAttempt, clearIntents] using h) _ _ _

theorem putOut_queued (o : Origin) : e ∈ (putOut o s).store.queue :=
  settleDark_queued he (by simpa using h) _ _ _

theorem powerOn_queued (o : Origin) : e ∈ (powerOn o s).2.store.queue := by
  unfold powerOn
  split
  · split <;> exact h
  · split
    · exact beginSequence_queued he h o
    · exact h
  · exact h
  · exact h
  · exact h
  · split <;> exact h
  · exact h

theorem powerOff_queued (o : Origin) : e ∈ (powerOff o s).2.store.queue := by
  unfold powerOff
  split
  · exact h
  · exact h
  · exact h
  · split
    · exact settleDark_queued he h _ _ _
    · exact h
  · exact h
  · split
    · exact h
    · exact putOut_queued he h o
  · exact h

theorem schedulePowerOn_queued : e ∈ (schedulePowerOn s).store.queue := by
  have hon := powerOn_queued he h .schedule
  unfold schedulePowerOn
  dsimp only
  split
  · simpa using hon
  · exact hon

omit he in
theorem askedRoute_queued (b : Booking) : e ∈ (askedRoute b s).store.queue := by
  unfold askedRoute
  split
  · simpa using h
  · exact h

theorem askedLamp_queued : e ∈ (askedLamp s).store.queue := by
  unfold askedLamp
  split
  · exact h
  · exact h
  · exact h
  all_goals exact schedulePowerOn_queued he h

theorem occupiedActions_queued (b : Booking) : e ∈ (occupiedActions b s).store.queue := by
  simpa [occupiedActions_eq] using askedLamp_queued he (askedRoute_queued h b)

theorem enterRoom_queued (o : Occurrence) (b : Booking) (cause : RoomCause) (origin : Origin) :
    e ∈ (enterRoom o b cause origin s).store.queue := by
  unfold enterRoom
  split
  · exact schedulePowerOn_queued he (by simpa using h)
  · exact occupiedActions_queued he (by simpa using h) b

theorem endAction_queued (b : Booking) : e ∈ (endAction b s).store.queue := by
  unfold endAction
  split
  · split
    · simpa using h
    · simpa [schedulePowerOff] using powerOff_queued he h .schedule
  · simpa using h
  · exact h

theorem endOccurrence_queued (o : Occurrence) (held : Option Booking) (cause : RoomCause) (origin : Origin) :
    e ∈ (endOccurrence o held cause origin s).store.queue := by
  have hchange : e ∈ (roomChange .vacant none cause origin o.id s).store.queue := by simpa using h
  unfold endOccurrence
  split
  · exact enterRoom_queued he h _ _ _ _
  · dsimp only
    split
    · exact endAction_queued he hchange _
    · exact hchange

/-- An evaluation asks for a checkpoint at most (R10, R121). -/
theorem evaluate_queued (held : Option Booking) (cause : RoomCause) (origin : Origin) :
    e ∈ (evaluate held cause origin s).store.queue := by
  unfold evaluate
  split
  · split
    · exact endOccurrence_queued he h _ _ _ _
    · split
      · split
        · exact occupiedActions_queued he (by simpa using h) _
        · exact h
      · exact h
  · split
    · exact enterRoom_queued he h _ _ _ _
    · exact h

end

/-! ## An evaluation that finds the room VACANT and leaves it so (R121) -/

theorem enterRoom_current (o : Occurrence) (b : Booking) (cause : RoomCause) (origin : Origin) (s : State) :
    (enterRoom o b cause origin s).room.current = some o := by
  unfold enterRoom
  split <;> simp [placeRoom]

/-- An evaluation that enters nothing from VACANT does nothing (R121). -/
theorem evaluate_still_vacant {held : Option Booking} {cause : RoomCause} {origin : Origin} {s : State}
    (hs : s.room.current = none) (ht : (evaluate held cause origin s).room.current = none) :
    evaluate held cause origin s = s := by
  unfold evaluate at ht ⊢
  rw [hs] at ht ⊢
  dsimp only at ht ⊢
  split at ht
  · simp [enterRoom_current] at ht
  · rfl

end Sys2Proof.Machine
end

section
namespace Sys2Proof.Machine

/-! ## The list of exceptions in order (R114) -/

/-- The order of the exception list: by day, and by id within a day (R114). -/
def listedBefore (a b : Occurrence) : Prop := a.day < b.day ∨ (a.day = b.day ∧ a.id.val ≤ b.id.val)

theorem mem_insertException (o x : Occurrence) (l : List Occurrence) : x ∈ insertException o l ↔ x = o ∨ x ∈ l := by
  induction l with
  | nil => simp [insertException]
  | cons y r ih =>
    unfold insertException
    split
    · exact List.mem_cons
    · rw [List.mem_cons, ih, List.mem_cons, or_left_comm]

theorem insertException_pairwise (o : Occurrence) {l : List Occurrence} (h : l.Pairwise listedBefore) :
    (insertException o l).Pairwise listedBefore := by
  induction l with
  | nil => simp [insertException]
  | cons y r ih =>
    obtain ⟨hy, hr⟩ := List.pairwise_cons.mp h
    unfold insertException
    split
    · next hlt =>
      have hoy : o.day < y.day ∨ (o.day = y.day ∧ o.id.val < y.id.val) := by simpa using hlt
      refine List.pairwise_cons.mpr ⟨fun x hx => ?_, h⟩
      rcases List.mem_cons.mp hx with rfl | hx
      · unfold listedBefore; omega
      · have := hy x hx
        unfold listedBefore at this ⊢
        omega
    · next hge =>
      have hyo : ¬ (o.day < y.day ∨ (o.day = y.day ∧ o.id.val < y.id.val)) := by simpa using hge
      refine List.pairwise_cons.mpr ⟨fun x hx => ?_, ih hr⟩
      rcases (mem_insertException o x r).mp hx with rfl | hx
      · unfold listedBefore; omega
      · exact hy x hx

/-! ## The edit of the list (R119) -/

theorem dayBase_begun (p : Port) (f : Frame) (s : State) :
    (portOf (begun p f s) p).dayBase = (portOf s p).dayBase := by
  rw [portOf_begun]

section
variable {p : Port} {q : Qualifier} {ps : List Word} {s : State} (id : Fin 64) (hid : numAt ps 0 = id.val)
  {o : Occurrence} (ho : o = ⟨id, dayOf q.form (portOf s p).dayBase (itemAt ps 1)⟩)
include hid ho

theorem ownCancelOccurrence_eq : ownCancelOccurrence p q ps s =
    if !namesWeekly s o || isCancelled s o then refuse .noSuchEntry s
    else if s.room.clock.isSet && o.day < s.room.clock.day then refuse .outOfRange s
    else if isProtected s .d then refuse .regionProtected s
    else if 32 ≤ s.room.exceptions.length then refuse .tableFull s
    else if storeBusy s [.exceptions] then refuse .storeBusy s
    else accept (doneQueued false []) (editExceptions (insertException o s.room.exceptions) (portOrigin p) s) := by
  subst ho
  rw [ownCancelOccurrence, finOf_eq id hid]

theorem ownRestoreOccurrence_eq : ownRestoreOccurrence p q ps s =
    let l := s.room.exceptions.filter fun x => x != o
    if !isCancelled s o then refuse .noSuchEntry s
    else if isProtected s .d then refuse .regionProtected s
    else if reachFails (putExceptions l s) then refuse .conflict s
    else if storeBusy s [.exceptions] then refuse .storeBusy s
    else accept (doneQueued false []) (editExceptions l (portOrigin p) s) := by
  subst ho
  rw [ownRestoreOccurrence, finOf_eq id hid]

end

/-- What an accepted edit of the list leaves, in the statement's words: the answer, the list with its record on the way to
storage, and the blocks that stay (R119, R157). -/
def listEdited (c : Command) (p : Port) (f : Frame) (s : State) (l : List Occurrence) (t : State) : Prop :=
  answered c p f (doneQueued false []) s t ∧ t.room.exceptions = l ∧ t.room.bookings = s.room.bookings ∧
    sentToStore .exceptions (exceptionsImage l) (portOrigin p) t ∧ standingKept s t ∧ t.room.clock = s.room.clock ∧
    (s.room.current = none → t.room.current = none → actionsKept s t ∧ t.room = { s.room with exceptions := l })

theorem editExceptions_edited (c : Command) (p : Port) (f : Frame) (s : State) (l : List Occurrence)
    (hd : isProtected s .d = false) : listEdited c p f s l
      (after c p (doneQueued false []) (finish (editExceptions l (portOrigin p) (begun p f s)))) := by
  have hqueued : { key := .exceptions, image := exceptionsImage l, origin := portOrigin p, switch := none } ∈
      (editExceptions l (portOrigin p) (begun p f s)).store.queue :=
    evaluate_queued (by simp) (by simpa [putExceptions, liveImage] using enqueue_mem _ _) _ _ _
  refine ⟨answered_of _ _ _ _ _ _ (by simp [editExceptions, putExceptions]), by simp [editExceptions, putExceptions],
    by simp [editExceptions, putExceptions], sent_of_queued c p _ hqueued
      (by simpa [isProtected, keyRegion, editExceptions, putExceptions] using hd),
    by simp [standingKept, StoreUnit.eq_iff, editExceptions, putExceptions], by simp [editExceptions, putExceptions],
    fun hs ht => ?_⟩
  have hidle : editExceptions l (portOrigin p) (begun p f s) =
      queueLive .exceptions (portOrigin p) (putExceptions l (begun p f s)) :=
    evaluate_still_vacant (by simpa [putExceptions] using hs) (by simpa [editExceptions] using ht)
  simp [hidle, actionsKept, putExceptions]

/-- Settles O51, by the checks of each command in their order, and the one edit that both end in. -/
theorem exceptionEditsChangeTheList : Obligations.ExceptionEditsChangeTheList := by
  unfold Obligations.ExceptionEditsChangeTheList
  refine ⟨fun o l => ⟨insertException_pairwise o, fun x => mem_insertException o x l⟩, fun p f q id s => ?_⟩
  intro ps d o edits refuses
  have ho : o = ⟨id, dayOf q.form (portOf (begun p f s) p).dayBase (itemAt ps 1)⟩ := by rw [dayBase_begun]
  refine ⟨fun h hn => ?_, fun h hn => ?_, fun h hn => ?_, fun h hn => ?_⟩
  · exact congrArg Host.Outcome.next (request_answered h (by rw [ownCancelOccurrence, finOf_beyond hn]; rfl))
  · exact congrArg Host.Outcome.next (request_answered h (by rw [ownRestoreOccurrence, finOf_beyond hn]; rfl))
  · have hown := ownCancelOccurrence_eq id hn ho
    have hrefused {r : Reason} (he : ownCancelOccurrence p q ps (begun p f s) = refuse r (begun p f s)) :
        refuses .cancelOccurrence r := congrArg Host.Outcome.next (request_answered h he)
    have hnames : namesWeekly (begun p f s) o = namesWeekly s o := rfl
    refine ⟨fun hc => ?_, fun hw hx => ?_⟩
    · exact hrefused (by rw [hown, if_pos (by simpa [isCancelled, hnames] using hc)])
    · rw [if_neg (by simpa [isCancelled, hnames] using ⟨hw, hx⟩)] at hown
      refine ⟨fun hset hlt => ?_, fun hdate => ?_⟩
      · exact hrefused (by rw [hown, if_pos (by simpa [hset] using hlt)])
      · rw [if_neg (by simpa using hdate)] at hown
        refine ⟨fun hd => hrefused (hown.trans (if_pos hd)), fun hd hfull => ?_, fun hd hroom hbusy => ?_,
          fun hd hroom hbusy => ?_⟩
        all_goals replace hown := hown.trans (if_neg (by exact ne_true_of_eq_false hd))
        · exact hrefused (hown.trans (if_pos hfull))
        all_goals replace hown := hown.trans (if_neg (by exact not_le.mpr hroom))
        · exact hrefused (hown.trans (if_pos hbusy))
        · replace hown := hown.trans (if_neg (by exact ne_true_of_eq_false hbusy))
          exact ⟨_, congrArg Host.Outcome.next (request_accepted h rfl hown), editExceptions_edited _ p f s _ hd⟩
  · have hown := ownRestoreOccurrence_eq id hn ho
    have hrefused {r : Reason} (he : ownRestoreOccurrence p q ps (begun p f s) = refuse r (begun p f s)) :
        refuses .restoreOccurrence r := congrArg Host.Outcome.next (request_answered h he)
    refine ⟨fun hx => ?_, fun hx hd => ?_, fun hx hd hreach => ?_, fun hx hd hreach hbusy => ?_,
      fun hx hd hreach hbusy => ?_⟩
    · exact hrefused (by rw [hown]; exact if_pos (by simpa [isCancelled] using hx))
    all_goals replace hown := hown.trans (if_neg (by simpa [isCancelled] using hx))
    · exact hrefused (hown.trans (if_pos hd))
    all_goals replace hown := hown.trans (if_neg (by exact ne_true_of_eq_false hd))
    · exact hrefused (hown.trans (if_pos hreach))
    all_goals replace hown := hown.trans (if_neg (by exact ne_true_of_eq_false hreach))
    · exact hrefused (hown.trans (if_pos hbusy))
    · replace hown := hown.trans (if_neg (by exact ne_true_of_eq_false hbusy))
      exact ⟨_, congrArg Host.Outcome.next (request_accepted h rfl hown), editExceptions_edited _ p f s _ hd⟩

end Sys2Proof.Machine
end

section
namespace Sys2Proof.Machine

/-! ## The booking that the parameters carry, and its slot (R116) -/

/-- The owner of a new booking is the port's role (R116). -/
theorem bookingItem_owner {form : TimeForm} {base : Option Nat} {p : Port} {ps : List Word} {b : Booking}
    (h : bookingItem form base p ps = some b) : b.owner = p := by
  unfold bookingItem at h
  split at h
  · split at h
    · rw [← Option.some.inj h]
    · cases h
  · cases h

theorem freeSlot_eq_none {s : State} (h : ∀ j : Fin 64, s.room.bookings[j] ≠ none) : freeSlot s = none := by
  simp only [freeSlot, List.find?_eq_none, Option.isNone_iff_eq_none]
  exact fun j _ => h j

theorem freeSlot_eq_some {s : State} {id : Fin 64} (hid : s.room.bookings[id] = none)
    (hlow : ∀ j : Fin 64, j.val < id.val → s.room.bookings[j] ≠ none) : freeSlot s = some id := by
  rw [freeSlot, List.find?_eq_some_iff_getElem]
  refine ⟨by simp only [hid, Option.isNone_none], id.val, by simp, by simp, fun j hj => ?_⟩
  have hne := hlow ⟨j, hj.trans id.isLt⟩ hj
  simpa [Option.isSome_iff_ne_none] using hne

/-! ## What an edit of the table leaves (R116 to R118) -/

/-- `u` differs from `s` at most in the ports, the link, the persist queue, and the runner's table, list and taken
markers. -/
def tableWritten (s u : State) : Prop :=
  actionsKept s u ∧ u.room = { s.room with bookings := u.room.bookings, exceptions := u.room.exceptions
                                           taken := u.room.taken } ∧
    u.store = { s.store with queue := u.store.queue }

/-- What an accepted edit of the table leaves, in the statement's words. -/
def editLeaves (s t : State) : Prop :=
  standingKept s t ∧ t.room.clock = s.room.clock ∧
    (s.room.current = none → t.room.current = none → actionsKept s t ∧
      t.room = { s.room with bookings := t.room.bookings, exceptions := t.room.exceptions, taken := t.room.taken })

theorem standingKept_of_tableWritten {s u : State} (h : tableWritten s u) : standingKept s u := by
  obtain ⟨⟨hlamp, hpower, hrouter, hgeom, hlock⟩, -, hstore⟩ := h
  refine ⟨?_, by rw [hrouter], by rw [hgeom], by rw [hlock], by rw [hlock], by rw [hlock], by rw [hlock], by rw [hlamp]⟩
  rw [hstore]

theorem standingKept_trans {s t u : State} (hst : standingKept s t) (htu : standingKept t u) : standingKept s u := by
  obtain ⟨hstore, hsrc, hpre, hprof, hlock, hserv, hmode, hhist⟩ := hst
  obtain ⟨hstore', hsrc', hpre', hprof', hlock', hserv', hmode', hhist'⟩ := htu
  refine ⟨?_, hsrc'.trans hsrc, hpre'.trans hpre, hprof'.trans hprof, hlock'.trans hlock, hserv'.trans hserv,
    hmode'.trans hmode, hhist'.trans hhist⟩
  rw [hstore', hstore]

theorem evaluate_standingKept (held : Option Booking) (cause : RoomCause) (o : Origin) (s : State) :
    standingKept s (evaluate held cause o s) := by
  simp [standingKept, StoreUnit.eq_iff]

/-- The evaluation that follows an edit leaves what the edit left, and does nothing to a room that it leaves VACANT
(R121). -/
theorem evaluate_editLeaves {s u : State} (h : tableWritten s u) (held : Option Booking) (o : Origin) :
    editLeaves s (evaluate held .edit o u) := by
  have hroom := h.2.1
  have hclock : u.room.clock = s.room.clock := by rw [hroom]
  have hcurrent : u.room.current = s.room.current := by rw [hroom]
  refine ⟨standingKept_trans (standingKept_of_tableWritten h) (evaluate_standingKept _ _ _ _), by simpa using hclock,
    fun hs ht => ?_⟩
  rw [evaluate_still_vacant (hcurrent.trans hs) ht]
  exact ⟨h.1, hroom⟩

/-- The end of the command leaves what the edit left. -/
theorem editLeaves_ended {s v : State} (h : editLeaves s v) (c : Command) (p : Port) (a : Answer) :
    editLeaves s (after c p a (finish v)) := by
  obtain ⟨hkept, hclock, hidle⟩ := h
  have hend : standingKept v (after c p a (finish v)) := by simp [standingKept, StoreUnit.eq_iff]
  refine ⟨standingKept_trans hkept hend, by simpa using hclock, fun hs ht => ?_⟩
  obtain ⟨⟨hlamp, hpower, hrouter, hgeom, hlock⟩, hroom⟩ := hidle hs (by simpa using ht)
  refine ⟨⟨by simpa using hlamp, by simpa using hpower, by simpa using hrouter, by simpa using hgeom,
    by simpa using hlock⟩, ?_⟩
  rw [show (after c p a (finish v)).room = v.room by simp]
  exact hroom

/-! ## The three edits -/

/-- The state that an edit hands to its evaluation: the slot and the list replaced, their records queued (R116 to
R118). -/
def slotEdited (id : Fin 64) (b : Option Booking) (kept : List Occurrence) (o : Origin) (s : State) : State :=
  queueExceptions s.room.exceptions o (queueLive (.booking id) o (putExceptions kept (putBooking id b s)))

section
variable (id : Fin 64) (b : Option Booking) (kept : List Occurrence) (o : Origin)

theorem slotEdited_queued (s : State) :
    { key := .booking id, image := bookingImage b, origin := o, switch := none } ∈
      (slotEdited id b kept o s).store.queue := by
  have hone := enqueue_mem s.store.queue { key := .booking id, image := bookingImage b, origin := o, switch := none }
  unfold slotEdited queueExceptions
  split
  · simpa [putExceptions, putBooking, liveImage] using hone
  · simpa [putExceptions, putBooking, liveImage] using enqueue_keeps _ _ _ hone (by simp)

@[simp] theorem slotEdited_room (s : State) : (slotEdited id b kept o s).room =
    { s.room with bookings := s.room.bookings.set id b, exceptions := kept } := by
  simp [slotEdited, putExceptions, putBooking]

@[simp] theorem slotEdited_frame (s : State) : quietPorts (slotEdited id b kept o s).ports = quietPorts s.ports ∧
    (slotEdited id b kept o s).store.protect = s.store.protect := by
  simp [slotEdited, putExceptions, putBooking]

theorem tableWritten_slotEdited {p : Port} {f : Frame} {s v : State}
    (hv : v = begun p f s ∨ v = clearTaken id (begun p f s)) :
    tableWritten s (slotEdited id b kept o v) := by
  rcases hv with rfl | rfl <;>
    simp [tableWritten, actionsKept, slotEdited, putExceptions, putBooking, clearTaken, StoreUnit.eq_iff]

end

/-- What an accepted edit of slot `id` does: the answer, the slot and the list, the booking's record on its way to
storage, and all that stays. -/
def slotEnds (c : Command) (p : Port) (f : Frame) (a : Answer) (id : Fin 64) (b : Option Booking)
    (kept : List Occurrence) (s t : State) : Prop :=
  answered c p f a s t ∧ editLeaves s t ∧ t.room.bookings = s.room.bookings.set id b ∧ t.room.exceptions = kept ∧
    sentToStore (.booking id) (bookingImage b) (portOrigin p) t

section
variable {c : Command} {p : Port} {f : Frame} {a : Answer} {id : Fin 64} {b : Option Booking} {kept : List Occurrence}
  {s : State}

/-- A command that leaves `v`, in which the edit is made and its record queued, ends so. -/
theorem slotEnds_of {v : State} (hleaves : editLeaves s v) (hports : quietPorts v.ports = quietPorts (begun p f s).ports)
    (hbookings : v.room.bookings = s.room.bookings.set id b) (hkept : v.room.exceptions = kept)
    (hqueued : { key := .booking id, image := bookingImage b, origin := portOrigin p, switch := none } ∈ v.store.queue)
    (hprotect : isProtected v .d = false) : slotEnds c p f a id b kept s (after c p a (finish v)) :=
  ⟨answered_of _ _ _ _ _ _ (by simpa using hports), editLeaves_ended hleaves c p a, by simpa using hbookings,
    by simpa using hkept, sent_of_queued c p a hqueued hprotect⟩

theorem slotEnds_evaluate {v : State} (hv : v = begun p f s ∨ v = clearTaken id (begun p f s))
    (hd : isProtected s .d = false) (held : Option Booking) : slotEnds c p f a id b kept s
      (after c p a (finish (evaluate held .edit (portOrigin p) (slotEdited id b kept (portOrigin p) v)))) := by
  have hroom : v.room.bookings = s.room.bookings ∧ v.store.protect = s.store.protect ∧
      quietPorts v.ports = quietPorts (begun p f s).ports := by
    rcases hv with rfl | rfl <;> simp [clearTaken]
  obtain ⟨hbookings, hprotect, hports⟩ := hroom
  refine slotEnds_of (evaluate_editLeaves (tableWritten_slotEdited id b kept _ hv) held _) (by simpa using hports)
    (by simp [hbookings]) (by simp) (evaluate_queued (by simp) (slotEdited_queued id b kept _ v) _ _ _) ?_
  simpa [isProtected, hprotect] using hd

end

section
variable (id : Fin 64) (b old new : Booking) (o : Origin) (s : State)

theorem addBooking_eq : evaluate none .edit o (queueLive (.booking id) o (clearTaken id (putBooking id (some b) s))) =
    evaluate none .edit o (slotEdited id (some b) s.room.exceptions o (clearTaken id s)) := by
  rw [slotEdited, queueExceptions, if_pos (by simp [putExceptions, putBooking])]
  rfl

theorem removeBooking_eq : removeBooking id o s = evaluate (currentBooking s) .edit o
    (slotEdited id none (s.room.exceptions.filter fun x => x.id != id) o (clearTaken id s)) := rfl

/-- The evaluation of a changed booking (R117). -/
def changeEvaluated : State :=
  evaluate none .edit o (slotEdited id (some new) (keptExceptions id new.kind s.room.exceptions) o s)

/-- A change of a booking that is not current is its evaluation; that of the current one may set the mode and the
preset again (R117). -/
theorem changeBooking_cases : changeBooking id old new o s = changeEvaluated id new o s ∨
    (s.room.current ≠ none ∧ changeBooking id old new o s = currentEdited old new o (changeEvaluated id new o s)) := by
  unfold changeBooking
  dsimp only
  split
  · next hc =>
    refine .inr ⟨fun hnone => ?_, rfl⟩
    simp [hnone] at hc
  · exact .inl rfl

end

theorem changeBooking_ends {c : Command} {p : Port} {f : Frame} {a : Answer} (id : Fin 64) (old new : Booking)
    {s : State} (hd : isProtected s .d = false) : slotEnds c p f a id (some new)
      (keptExceptions id new.kind s.room.exceptions) s
      (after c p a (finish (changeBooking id old new (portOrigin p) (begun p f s)))) := by
  rcases changeBooking_cases id old new (portOrigin p) (begun p f s) with he | ⟨hcur, he⟩ <;> rw [he]
  · exact slotEnds_evaluate (.inl rfl) hd none
  · have hwritten := tableWritten_slotEdited id (some new) (keptExceptions id new.kind s.room.exceptions) (portOrigin p)
      (s := s) (v := begun p f s) (.inl rfl)
    refine slotEnds_of ⟨?_, by simp [changeEvaluated], fun hs => absurd hs hcur⟩ (by simp [changeEvaluated])
      (by simp [changeEvaluated]) (by simp [changeEvaluated]) ?_ (by simpa [isProtected, changeEvaluated] using hd)
    · refine standingKept_trans (evaluate_editLeaves hwritten none (portOrigin p)).1 ?_
      simp [changeEvaluated, standingKept, StoreUnit.eq_iff]
    · simpa [changeEvaluated] using evaluate_queued (by simp) (slotEdited_queued id (some new) _ _ (begun p f s)) none .edit
        (portOrigin p)

/-! ## The checks of each command in their order (R116 to R118) -/

section
variable {p : Port} {q : Qualifier} {ps : List Word} {s : State}

theorem ownAddBooking_full {b : Booking} (hb : bookingItem q.form (portOf s p).dayBase p ps = some b)
    (hfree : freeSlot s = none) : ownAddBooking p q ps s =
      if isProtected s .d then refuse .regionProtected s else refuse .tableFull s := by
  simp only [ownAddBooking, hb, hfree]

theorem ownAddBooking_slot {b : Booking} {id : Fin 64} (hb : bookingItem q.form (portOf s p).dayBase p ps = some b)
    (hfree : freeSlot s = some id) : ownAddBooking p q ps s =
      let t := clearTaken id (putBooking id (some b) s)
      if isProtected s .d then refuse .regionProtected s
      else if conflictWith id b t then refuse .conflict s
      else if storeBusy s [.booking id] then refuse .storeBusy s
      else accept (doneQueued false [word id.val])
        (evaluate none .edit (portOrigin p) (queueLive (.booking id) (portOrigin p) t)) := by
  simp only [ownAddBooking, hb, hfree]

theorem ownAddBooking_protected {b : Booking} (hb : bookingItem q.form (portOf s p).dayBase p ps = some b)
    (hd : isProtected s .d = true) : ownAddBooking p q ps s = refuse .regionProtected s := by
  simp only [ownAddBooking, hb, if_pos hd]

theorem ownChangeBooking_outOfRange
    (h : 64 ≤ numAt ps 0 ∨ bookingItem q.form (portOf s p).dayBase p (ps.drop 1) = none) :
    ownChangeBooking p q ps s = refuse .outOfRange s := by
  unfold ownChangeBooking
  split
  · next id b hid hb =>
    rcases h with hn | hn
    · rw [finOf_beyond hn] at hid
      cases hid
    · rw [hn] at hb
      cases hb
  · rfl

theorem ownChangeBooking_eq {id : Fin 64} {b old : Booking} (hid : numAt ps 0 = id.val)
    (hb : bookingItem q.form (portOf s p).dayBase p (ps.drop 1) = some b) (hold : s.room.bookings[id] = some old) :
    ownChangeBooking p q ps s =
      let new := { b with owner := old.owner }
      let kept := keptExceptions id new.kind s.room.exceptions
      if isProtected s .d then refuse .regionProtected s
      else if conflictWith id new (putExceptions kept (putBooking id (some new) s)) then refuse .conflict s
      else if storeBusy s (editKeys id s.room.exceptions kept) then refuse .storeBusy s
      else accept (doneQueued false []) (changeBooking id old new (portOrigin p) s) := by
  simp only [ownChangeBooking, finOf_eq id hid, hb, hold]

theorem ownRemoveBooking_eq {id : Fin 64} (hid : numAt ps 0 = id.val) (hold : s.room.bookings[id] ≠ none) :
    ownRemoveBooking p ps s =
      if isProtected s .d then refuse .regionProtected s
      else if storeBusy s (editKeys id s.room.exceptions (s.room.exceptions.filter fun x => x.id != id)) then
        refuse .storeBusy s
      else accept (doneQueued false []) (removeBooking id (portOrigin p) s) := by
  rw [ownRemoveBooking, finOf_eq id hid]
  exact if_neg (by simpa only [Option.isNone_iff_eq_none] using hold)

end

/-- Settles O50, by the checks of each command in their order, and the edit of the slot that each ends in. -/
theorem bookingEditsChangeTheTable : Obligations.BookingEditsChangeTheTable := by
  unfold Obligations.BookingEditsChangeTheTable
  intro p f q id s ps o refuses edited writable
  have hbase := dayBase_begun p f s
  refine ⟨fun h => ?_, fun h => ?_, fun h => ?_⟩
  · have hrefused {r : Reason} (he : ownAddBooking p q ps (begun p f s) = refuse r (begun p f s)) :
        refuses .addBooking r := congrArg Host.Outcome.next (request_answered h he)
    refine ⟨fun hb => hrefused (by rw [ownAddBooking, hbase, hb]), fun b hb => ?_⟩
    rw [← hbase] at hb
    refine ⟨fun hd => hrefused (ownAddBooking_protected hb (Bool.eq_true_of_not_eq_false hd)), fun hd hfull => ?_,
      fun hd hfree hlow => ?_⟩
    · have hown := ownAddBooking_full hb (freeSlot_eq_none (s := begun p f s) hfull)
      exact hrefused (hown.trans (if_neg (by exact ne_true_of_eq_false hd)))
    · have hown := ownAddBooking_slot hb (freeSlot_eq_some (s := begun p f s) hfree hlow)
      replace hown := hown.trans (if_neg (by exact ne_true_of_eq_false hd))
      refine ⟨fun hc => hrefused (hown.trans (if_pos hc)), fun hc => ?_⟩
      replace hown := hown.trans (if_neg (by exact ne_true_of_eq_false hc))
      refine ⟨fun hbusy => hrefused (hown.trans (if_pos hbusy)), fun hbusy => ?_⟩
      replace hown := hown.trans (if_neg (by exact ne_true_of_eq_false hbusy))
      rw [addBooking_eq] at hown
      obtain ⟨hanswer, hleaves, hbookings, hkept, hsent⟩ := slotEnds_evaluate (c := .addBooking)
        (a := doneQueued false [word id.val]) (id := id) (b := some b) (kept := s.room.exceptions)
        (.inr rfl : clearTaken id (begun p f s) = _ ∨ _) hd none
      exact ⟨_, congrArg Host.Outcome.next (request_accepted h rfl hown), hanswer, hleaves, bookingItem_owner hb,
        hbookings, hsent, hkept⟩
  · have hrefused {r : Reason} (he : ownChangeBooking p q ps (begun p f s) = refuse r (begun p f s)) :
        refuses .changeBooking r := congrArg Host.Outcome.next (request_answered h he)
    refine ⟨fun hb => hrefused (ownChangeBooking_outOfRange (by rwa [hbase])), fun b hid hb => ⟨fun hfree => ?_,
      fun old hold => ?_⟩⟩
    · rw [← hbase] at hb
      have hnone : (begun p f s).room.bookings[id] = none := hfree
      exact hrefused (by simp only [ownChangeBooking, finOf_eq id hid, hb, hnone])
    · have hown := ownChangeBooking_eq (s := begun p f s) hid (hbase ▸ hb) hold
      intro new kept conflicting busy
      refine ⟨fun hd => hrefused (hown.trans (if_pos (Bool.eq_true_of_not_eq_false hd))), fun hd hc => ?_,
        fun hd hc hbusy => ?_, fun hd hc hbusy => ?_⟩
      all_goals replace hown := hown.trans (if_neg (by exact ne_true_of_eq_false hd))
      · exact hrefused (hown.trans (if_pos hc))
      all_goals replace hown := hown.trans (if_neg (by exact ne_true_of_eq_false hc))
      · exact hrefused (hown.trans (if_pos hbusy))
      replace hown := hown.trans (if_neg (by exact ne_true_of_eq_false hbusy))
      obtain ⟨hanswer, hleaves, hbookings, hkept, hsent⟩ := changeBooking_ends (c := .changeBooking) (p := p) (f := f)
        (a := doneQueued false []) id old new hd
      exact ⟨_, congrArg Host.Outcome.next (request_accepted h rfl hown), hanswer, hleaves, hbookings, hkept, hsent⟩
  · have hrefused {r : Reason} (he : ownRemoveBooking p ps (begun p f s) = refuse r (begun p f s)) :
        refuses .removeBooking r := congrArg Host.Outcome.next (request_answered h he)
    refine ⟨fun hn => hrefused (by rw [ownRemoveBooking, finOf_beyond hn]), fun hid => ⟨fun hfree => ?_, fun hold => ?_⟩⟩
    · have hnone : (begun p f s).room.bookings[id] = none := hfree
      exact hrefused (by simp only [ownRemoveBooking, finOf_eq id hid, hnone, Option.isNone_none, if_true])
    · have hown := ownRemoveBooking_eq (p := p) (s := begun p f s) hid hold
      intro kept busy
      refine ⟨fun hd => hrefused (hown.trans (if_pos (Bool.eq_true_of_not_eq_false hd))), fun hd hbusy => ?_,
        fun hd hbusy => ?_⟩
      all_goals replace hown := hown.trans (if_neg (by exact ne_true_of_eq_false hd))
      · exact hrefused (hown.trans (if_pos hbusy))
      replace hown := hown.trans (if_neg (by exact ne_true_of_eq_false hbusy))
      rw [removeBooking_eq] at hown
      obtain ⟨hanswer, hleaves, hbookings, hkept, hsent⟩ := slotEnds_evaluate (c := .removeBooking)
        (a := doneQueued false []) (id := id) (b := none) (kept := kept)
        (.inr rfl : clearTaken id (begun p f s) = _ ∨ _) hd (currentBooking s)
      exact ⟨_, congrArg Host.Outcome.next (request_accepted h rfl hown), hanswer, hleaves, hbookings, hkept, hsent⟩

end Sys2Proof.Machine
end

section
namespace Sys2Proof.Machine

/-! ## The momentary mode (R44): no request at the Power Sequencer moves it -/

@[simp] theorem setPower_momentaryMode (dest : PowerState) (o : Origin) (r : Option Reason) (s : State) :
    (setPower dest o r s).power.momentaryMode = s.power.momentaryMode := by
  rw [setPower_power]
  rfl

@[simp] theorem settleDark_momentaryMode (dest : PowerState) (o : Origin) (r : Option Reason) (s : State) :
    (settleDark dest o r s).power.momentaryMode = s.power.momentaryMode := by
  simp [settleDark, clearIntents]

theorem powerOn_momentaryMode (o : Origin) (s : State) :
    (powerOn o s).2.power.momentaryMode = s.power.momentaryMode := by
  unfold powerOn
  repeat' split
  all_goals simp [beginSequence, beginAttempt, clearIntents]

theorem powerOff_momentaryMode (o : Origin) (s : State) :
    (powerOff o s).2.power.momentaryMode = s.power.momentaryMode := by
  unfold powerOff
  repeat' split
  all_goals simp [putOut]

@[simp] theorem schedulePowerOn_momentaryMode (s : State) :
    (schedulePowerOn s).power.momentaryMode = s.power.momentaryMode := by
  have hon := powerOn_momentaryMode .schedule s
  unfold schedulePowerOn
  dsimp only
  split
  · simpa using hon
  · exact hon

@[simp] theorem schedulePowerOff_momentaryMode (s : State) :
    (schedulePowerOff s).power.momentaryMode = s.power.momentaryMode := powerOff_momentaryMode .schedule s

/-! ## The momentary preset (R89): a new routed source can only clear it -/

theorem handSource_momentary {s : State} (dest : Option (Fin 8)) (h : s.geometry.momentary = none) :
    (handSource dest s).geometry.momentary = none := by
  have hclear : (clearAtRoute dest s).geometry.momentary = none := by
    unfold clearAtRoute
    dsimp only
    split
    · rfl
    · exact h
  simpa [handSource] using hclear

theorem resolve_momentary {s : State} (o : Origin) (tell : Bool) (h : s.geometry.momentary = none) :
    (resolve o tell s).2.geometry.momentary = none := by
  unfold resolve
  dsimp only
  repeat' split
  · simpa using h
  · simpa using handSource_momentary _ (by simpa using h)
  · simpa using h
  · exact h

theorem scheduleRoute_momentary {s : State} (x : Fin 8) (h : s.geometry.momentary = none) :
    (scheduleRoute x s).geometry.momentary = none := by
  unfold scheduleRoute routeRequest applyRoute
  split
  · exact h
  · split
    · simpa using h
    · exact resolve_momentary _ _ h

/-! ## What the actions after a room state change leave of it (R122 to R126) -/

/-- What a room state change made in `a` still stands in `v`: the room but for the runner's own closure, the cleared
settings, the permissions, what was told, and the mode and the preset in force. -/
def changeStands (a v : State) : Prop :=
  v.room = { a.room with scheduleBlank := v.room.scheduleBlank } ∧ v.geometry.overlay = a.geometry.overlay ∧
    (a.geometry.momentary = none → v.geometry.momentary = none) ∧ v.power.momentaryMode = a.power.momentaryMode ∧
    v.lockout = a.lockout ∧ grown a.ports v.ports ∧ (modeInForce a → modeInForce v) ∧ (presetInForce a → presetInForce v)

theorem changeStands_refl (a : State) : changeStands a a :=
  ⟨rfl, rfl, id, rfl, rfl, grown_refl _, id, id⟩

theorem changeStands_trans {a b c : State} (hab : changeStands a b) (hbc : changeStands b c) : changeStands a c := by
  obtain ⟨hroom, hover, hmom, hmode, hlock, hports, hin, hpre⟩ := hab
  obtain ⟨hroom', hover', hmom', hmode', hlock', hports', hin', hpre'⟩ := hbc
  refine ⟨?_, hover'.trans hover, fun h => hmom' (hmom h), hmode'.trans hmode, hlock'.trans hlock,
    grown_trans hports hports',
    fun h => hin' (hin h), fun h => hpre' (hpre h)⟩
  rw [hroom', hroom]

theorem schedulePowerOn_stands (s : State) : changeStands s (schedulePowerOn s) :=
  ⟨by simp, by simp, by simp, by simp, by simp, by simp, schedulePowerOn_inForce,
    fun h => presetInForce_congr h (by simp [presetKept])⟩

theorem schedulePowerOff_stands (s : State) : changeStands s (schedulePowerOff s) :=
  ⟨by simp, by simp, by simp, by simp, by simp, by simp, powerOff_inForce _,
    fun h => presetInForce_congr h (by simp [presetKept])⟩

theorem scheduleRoute_stands (x : Fin 8) (s : State) : changeStands s (scheduleRoute x s) :=
  ⟨by simp, by simp, scheduleRoute_momentary x, by simp, by simp, by simp, scheduleRoute_inForce x,
    scheduleRoute_presetInForce x⟩

/-- The runner notes whether the closure of the shutter is its own (R125). -/
theorem blankNoted_stands (b : Bool) (s : State) :
    changeStands s { s with room := { s.room with scheduleBlank := b } } :=
  ⟨rfl, rfl, id, rfl, rfl, grown_refl _, fun h => modeInForce_congr h (by simp [modeKept]),
    fun h => presetInForce_congr h (by simp [presetKept])⟩

theorem openShutter_stands (s : State) : changeStands s (openShutter s) :=
  ⟨by simp, by simp, by simp, by simp, by simp, by simp, openShutter_inForce,
    fun h => presetInForce_congr h (by simp [presetKept])⟩

theorem blankAtEnd_stands (s : State) : changeStands s (blankAtEnd s) :=
  changeStands_trans (b := closeManual s)
    ⟨by simp, by simp, by simp, by simp, by simp, by simp, closeManual_inForce,
      fun h => presetInForce_congr h (by simp [presetKept])⟩
    (blankNoted_stands true _)

theorem askedRoute_stands (b : Booking) (s : State) : changeStands s (askedRoute b s) := by
  unfold askedRoute
  split
  · exact scheduleRoute_stands _ _
  · exact changeStands_refl _

theorem askedLamp_stands (s : State) : changeStands s (askedLamp s) := by
  unfold askedLamp
  split
  · exact changeStands_refl _
  · exact changeStands_refl _
  · exact changeStands_refl _
  all_goals exact schedulePowerOn_stands _

theorem reopened_stands (s : State) : changeStands s (reopened s) := by
  unfold reopened
  split
  · exact changeStands_trans (openShutter_stands s) (blankNoted_stands false _)
  · exact changeStands_refl _

theorem occupiedActions_stands (b : Booking) (s : State) : changeStands s (occupiedActions b s) :=
  changeStands_trans (askedRoute_stands b s) (changeStands_trans (askedLamp_stands _) (reopened_stands _))

theorem endAction_stands (b : Booking) (s : State) : changeStands s (endAction b s) := by
  unfold endAction
  split
  · split
    · exact blankAtEnd_stands s
    · exact changeStands_trans (schedulePowerOff_stands s) (scheduleRoute_stands _ _)
  · exact blankAtEnd_stands s
  · exact changeStands_refl _

/-! ## The change itself, in the statement's words (R122) -/

/-- `b`'s profile is chosen for a room whose current occurrence is of `b` (R137). -/
theorem chooseProfile_current {s : State} {o : Occurrence} {b : Booking} (hs : s.room.state ≠ .vacant)
    (hc : s.room.current = some o) (hb : s.room.bookings[o.id] = some b) : (chooseProfile s).1 = b.profile := by
  simp only [chooseProfile, if_neg hs, currentBooking, hc, Option.bind_some, hb]

theorem chooseProfile_vacant {s : State} (hs : s.room.state = .vacant) :
    (chooseProfile s).1 = s.store.install.vacantProfile := by
  rw [chooseProfile, if_pos hs]

/-- What follows a change leaves it as the statement has it (R122). -/
theorem roomChanged_of_stands {dest : RoomState} {occ : Option Occurrence} {cause : RoomCause} {origin : Origin}
    {id : Fin 64} {s v : State} {profile : Fin 8} (hp : (chooseProfile (placeRoom dest occ s)).1 = profile)
    (h : changeStands (roomChange dest occ cause origin id s) v) : roomChanged dest occ cause origin id profile s v := by
  obtain ⟨hroom, hover, hmom, hmode, hlock, hports, hin, hpre⟩ := h
  obtain ⟨hover', hmom', hmode', hhold⟩ := roomChange_cleared dest occ cause origin id s
  rw [roomChange_room] at hroom
  refine ⟨by rw [hroom]; rfl, by rw [hroom]; rfl, by rw [hroom]; rfl, by rw [hroom]; rfl, hover.trans hover', hmom hmom',
    hmode.trans hmode', by rw [hlock, hhold],
    told_later (t := roomChange dest occ cause origin id s) (roomChange_told _ _ _ _ _ _) hports, fun ha => ?_, fun he hl => ?_,
    fun hst => ?_⟩
  · rw [hlock, roomChange_profile _ _ _ _ _ _ ha, hp]
  · exact (hin (roomChange_modeInForce _ _ _ _ _ _ he hl)).2.2
  · exact (hpre (roomChange_presetInForce _ _ _ _ _ _ hst)).2

end Sys2Proof.Machine
end

section
namespace Sys2Proof.Machine

/-! ## The request for the lamp (R28, R41, R132) -/

theorem subscription_of_quiet {s v : State} (h : quietPorts v.ports = quietPorts s.ports) (p : Port) :
    (portOf v p).subscription = (portOf s p).subscription := by
  simpa [quietPort] using congrArg PortState.subscription ((quietPorts_eq_iff v s).mp h p)

/-- `v` answers a request for the lamp as `s` does, and what is told since `v` is told since `s`. -/
def asksAs (s v : State) : Prop :=
  v.power.state = s.power.state ∧ v.power.reportWait = s.power.reportWait ∧
    refusalTest v .schedule = refusalTest s .schedule ∧ v.link.state = s.link.state ∧
    v.room.clock = s.room.clock ∧ (∀ p, (portOf v p).subscription = (portOf s p).subscription) ∧ grown s.ports v.ports

/-- `t` has the outcome of a request for the lamp as `v` has it. -/
def outcomeKept (v t : State) : Prop :=
  t.power.state = v.power.state ∧ t.power.attempt = v.power.attempt ∧
    t.power.restartPending = v.power.restartPending ∧ t.power.ignitionOrigin = v.power.ignitionOrigin ∧
    grown v.ports t.ports

theorem lampAsked_transfer {id : Fin 64} {s v w t : State} (hs : asksAs s v) (h : lampAsked id v w)
    (ht : outcomeKept w t) : lampAsked id s t := by
  obtain ⟨hstate, hwait, htest, hlink, hclock, hsub, hgrown⟩ := hs
  obtain ⟨hst, hat, hre, hig, hgr⟩ := ht
  have htold {k : NoticeKind} {x y : Word} (h : told none k .schedule x y v w) : told none k .schedule x y s t :=
    told_later (told_earlier hgrown hsub hclock h) hgr
  unfold lampAsked at h ⊢
  rw [hstate, htest, hlink, hwait] at h
  dsimp only at h ⊢
  rw [hst, hat, hre, hig]
  cases hp : s.power.state <;> simp only [hp] at h ⊢
  case standby => exact ⟨h.1, fun r hr => ⟨(h.2 r hr).1, htold (h.2 r hr).2⟩⟩
  case cooling => exact ⟨h.1, fun r hr => ⟨(h.2 r hr).1, htold (h.2 r hr).2⟩⟩
  case unknown => exact ⟨h.1, fun hr => ⟨(h.2 hr).1, htold (h.2 hr).2⟩⟩
  case fault => exact ⟨h.1, htold h.2⟩
  all_goals exact h

/-! ### Its outcome by power state -/

theorem schedulePowerOn_eq (s : State) : schedulePowerOn s =
    match (powerOn .schedule s).1.reason with
    | some r => postPowerRefused r (powerOn .schedule s).2
    | none => (powerOn .schedule s).2 := rfl

theorem schedulePowerOn_refused {s : State} {r : Reason} (h : powerOn .schedule s = refuse r s) :
    schedulePowerOn s = postPowerRefused r s := by
  rw [schedulePowerOn_eq, h]
  rfl

theorem schedulePowerOn_taken {s t : State} {a : Answer} (ha : a.reason = none) (h : powerOn .schedule s = (a, t)) :
    schedulePowerOn s = t := by
  simp only [schedulePowerOn_eq, h, ha]

/-- A request that finds the lamp lit, or being lit, keeps it so (R28). -/
theorem schedulePowerOn_lit {s : State}
    (h : s.power.state = .on ∨ s.power.state = .warming ∨ s.power.state = .igniting) :
    schedulePowerOn s = keepLit .schedule s :=
  schedulePowerOn_taken (a := done) rfl (by rcases h with h | h | h <;> simp [powerOn, h])

/-- The lamp asked for with an occurrence current (R28, R41, R132). -/
theorem schedulePowerOn_asked {s : State} {o : Occurrence} (h : s.room.current = some o) :
    lampAsked o.id s (schedulePowerOn s) := by
  have hrefused {r : Reason} (hr : powerOn .schedule s = refuse r s) :
      (schedulePowerOn s).power.state = s.power.state ∧ told none .powerRequestRefused .schedule
        (word (position reasonList r)) (word o.id.val) s (schedulePowerOn s) := by
    have htold := postPowerRefused_told r s
    rw [h] at htold
    rw [schedulePowerOn_refused hr]
    exact ⟨by simp, htold⟩
  unfold lampAsked
  dsimp only
  cases hp : s.power.state with
  | standby =>
    refine ⟨fun htest => ?_, fun r htest => hp ▸ hrefused (by simp [powerOn, hp, htest])⟩
    rw [schedulePowerOn_taken (a := started []) (t := beginSequence .schedule s) rfl (by simp only [powerOn, hp, htest]),
      beginSequence_power _ _ (by simp [hp, isLit])]
    exact ⟨rfl, rfl, rfl⟩
  | cooling =>
    refine ⟨fun htest => ?_, fun r htest => hp ▸ hrefused (by simp [powerOn, hp, htest])⟩
    rw [schedulePowerOn_taken (a := started []) (t := setRestart .schedule s) rfl (by simp only [powerOn, hp, htest])]
    exact ⟨hp, rfl, rfl⟩
  | unknown =>
    rw [← headMayCome_iff]
    refine ⟨fun hcome => ?_, fun hcome => hp ▸ hrefused (by simp [powerOn, hp, hcome])⟩
    rw [schedulePowerOn_taken (a := started []) (t := setRestart .schedule s) rfl
      (by simp only [powerOn, hp, hcome, if_true])]
    exact ⟨hp, rfl, rfl⟩
  | fault => simpa only [hp] using hrefused (r := .lampFault) (by simp [powerOn, hp])
  | igniting => rw [schedulePowerOn_lit (by simp [hp])]; exact hp
  | warming => rw [schedulePowerOn_lit (by simp [hp])]; exact hp
  | on => rw [schedulePowerOn_lit (by simp [hp])]; exact hp

/-- At OCCUPIED a lamp that is lit or being lit is not asked for, and has the outcome of a request for it (R124). -/
theorem askedLamp_asked {s : State} {o : Occurrence} (h : s.room.current = some o) :
    lampAsked o.id s (askedLamp s) := by
  have hlit (hp : s.power.state = .on ∨ s.power.state = .warming ∨ s.power.state = .igniting) :
      lampAsked o.id s s := by
    rcases hp with hp | hp | hp <;> simp [lampAsked, hp]
  unfold askedLamp
  split
  · next hp => exact hlit (.inl hp)
  · next hp => exact hlit (.inr (.inl hp))
  · next hp => exact hlit (.inr (.inr hp))
  all_goals exact schedulePowerOn_asked h

end Sys2Proof.Machine
end

section
namespace Sys2Proof.Machine

/-! ## A route request of the runner (R77, R79 to R81) -/

/-- Outside a settle, and before the first resolution, the runner's source is the requested one (R77, R80). -/
theorem scheduleRoute_requested (x : Fin 8) {s : State} (h : s.router.resolved = false ∨ s.router.state ≠ .settling) :
    (scheduleRoute x s).router.requested = some x := by
  cases hr : s.router.resolved with
  | false => simp [scheduleRoute, routeRequest_unresolved _ s hr]
  | true =>
    have hs := h.resolve_left (by simp [hr])
    obtain ⟨-, hrouter, -⟩ := routeRequest_routed { source := x, origin := .schedule, scope := .momentary } s hr hs
    exact congrArg RouterUnit.requested hrouter

/-- While SETTLING it is held in the empty slot (R81). -/
theorem scheduleRoute_held (x : Fin 8) {s : State} (hr : s.router.resolved = true) (hs : s.router.state = .settling)
    (hp : s.router.pendingSlot = none) : (scheduleRoute x s).router =
      { s.router with pendingSlot := some { source := x, origin := .schedule, scope := .momentary } } := by
  unfold scheduleRoute
  rw [routeRequest_settling _ s hr hs]
  exact (holdRoute_held _ s fun held hh => by simp [hp] at hh).2

/-! ## Entering an occurrence (R123, R124) -/

theorem asksAs_roomChange (dest : RoomState) (occ : Option Occurrence) (cause : RoomCause) (origin : Origin)
    (id : Fin 64) (s : State) : asksAs s (roomChange dest occ cause origin id s) := by
  exact ⟨by simp, by simp, by simp [refusalTest], by simp, by simp, subscription_of_quiet (by simp), by simp⟩

theorem asksAs_askedRoute (b : Booking) {s v : State} (h : asksAs s v) : asksAs s (askedRoute b v) := by
  unfold askedRoute
  split
  · obtain ⟨hstate, hwait, htest, hlink, hclock, hsub, hgrown⟩ := h
    exact ⟨by simpa using hstate, by simpa using hwait, by simpa [refusalTest] using htest, by simpa using hlink,
      by simpa using hclock, fun p => (subscription_of_quiet (by simp) p).trans (hsub p),
      scheduleRoute_grown _ _ _ hgrown⟩
  · exact h

theorem outcomeKept_refl (s : State) : outcomeKept s s := ⟨rfl, rfl, rfl, rfl, grown_refl _⟩

theorem reopened_outcome (s : State) : outcomeKept s (reopened s) := by
  unfold reopened
  split
  · simp [outcomeKept]
  · exact outcomeKept_refl s

/-- A shutter that the runner closed is open, and noted as closed by it no more (R124). -/
theorem reopened_blank (s : State) : (reopened s).room.scheduleBlank = false ∧
    (s.room.scheduleBlank = true → (reopened s).power.shutter = some .opened) := by
  unfold reopened
  split
  · next h => exact ⟨rfl, fun _ => openShutter_shutter s⟩
  · next h => exact ⟨Bool.eq_false_of_not_eq_true h, fun hb => absurd hb h⟩

@[simp] theorem reopened_router (s : State) : (reopened s).router = s.router := by
  unfold reopened
  split <;> simp

@[simp] theorem askedLamp_frame (s : State) : (askedLamp s).room = s.room ∧
    (askedLamp s).router.requested = s.router.requested := by
  unfold askedLamp
  split <;> simp

@[simp] theorem askedRoute_room (b : Booking) (s : State) : (askedRoute b s).room = s.room := by
  unfold askedRoute
  split <;> simp

theorem askedRoute_requested {b : Booking} {x : Fin 8} {s : State} (hx : b.source = some x)
    (h : s.router.resolved = false ∨ s.router.state ≠ .settling) : (askedRoute b s).router.requested = some x := by
  simp only [askedRoute, hx]
  exact scheduleRoute_requested x h

section
variable (cause : RoomCause) (origin : Origin) {o : Occurrence} {b : Booking} {s : State}

/-- An occurrence entered before its start puts the room in PREPARING (R123). -/
theorem enterRoom_preparing (h : nowMinute s < startOf b o.day) : enterRoom o b cause origin s =
    schedulePowerOn (roomChange .preparing (some o) cause origin o.id s) := if_pos h

/-- One entered from its start puts it in OCCUPIED (R124). -/
theorem enterRoom_occupied (h : startOf b o.day ≤ nowMinute s) : enterRoom o b cause origin s =
    occupiedActions b (roomChange .occupied (some o) cause origin o.id s) := if_neg (not_lt.mpr h)

/-- Entering an occurrence of the table does what the statement has it do (R122 to R124). -/
theorem enterRoom_entered (hb : s.room.bookings[o.id] = some b) :
    entered cause origin o b s (enterRoom o b cause origin s) := by
  have hprofile {dest : RoomState} (hd : dest ≠ .vacant) : (chooseProfile (placeRoom dest (some o) s)).1 = b.profile :=
    chooseProfile_current hd rfl hb
  by_cases hlt : nowMinute s < startOf b o.day
  · rw [enterRoom_preparing cause origin hlt]
    unfold entered
    rw [if_pos hlt]
    refine ⟨roomChanged_of_stands (hprofile (by decide)) (schedulePowerOn_stands _),
      lampAsked_transfer (asksAs_roomChange ..) (schedulePowerOn_asked (by simp [placeRoom])) (outcomeKept_refl _),
      fun _ => ⟨by simp, by simp, by simp, fun hlit => ?_⟩, fun hle => absurd hlt (not_lt.mpr hle)⟩
    rw [schedulePowerOn_lit (by simpa [or_assoc] using hlit)]
    rfl
  · have hle := not_lt.mp hlt
    rw [enterRoom_occupied cause origin hle, occupiedActions_eq]
    unfold entered
    rw [if_neg hlt]
    refine ⟨roomChanged_of_stands (hprofile (by decide)) (occupiedActions_stands b _),
      lampAsked_transfer (asksAs_askedRoute b (asksAs_roomChange ..)) (askedLamp_asked (by simp [placeRoom]))
        (reopened_outcome _),
      fun h => absurd h hlt, fun _ => ⟨(reopened_blank _).1, fun hblank => ?_, fun x hx hr => ?_⟩⟩
    · exact (reopened_blank _).2 (by simpa using hblank)
    · simpa using askedRoute_requested hx (by simpa using hr)

end

end Sys2Proof.Machine
end

section
namespace Sys2Proof.Machine

/-! ## The reach of the search for a day (R114) -/

/-- The search finds a day at or before any within its weeks that meets the condition (R114). -/
theorem firstDay_within_weeks {s : State} {o : Occurrence} {base : Nat} {ok : Booking → Nat → Bool} {b : Booking}
    (h : liveBooking s o = some b) (hok : ok b o.day = true) (hs : searchStart b.kind base ≤ o.day)
    (hn : o.day < searchStart b.kind base + (s.room.exceptions.length + 5) * 7) :
    ∃ e, e ≤ o.day ∧ firstDay s o.id base ok = some (b, e) := by
  obtain ⟨hb, hoccurs, hnot⟩ := liveBooking_eq_some.mp h
  obtain ⟨e, hle, he⟩ := find_range_le (P := fun d => occursOn b.kind d && !isCancelled s ⟨o.id, d⟩ && ok b d) hs hn
    (by simp [hoccurs, isCancelled, hnot, hok])
  exact ⟨e, hle, by rw [firstDay_eq hb, he]; rfl⟩

theorem searchStart_le {k : BookingKind} {base d : Nat} (h : occursOn k d = true) (hbase : base ≤ d) :
    searchStart k base ≤ d := by
  cases k with
  | oneOff day => exact ((occursOn_oneOff day d).mp h).1.ge
  | weekly mask first last =>
    simp only [occursOn, Bool.and_eq_true, decide_eq_true_eq] at h
    exact max_le h.2.1.1 hbase

theorem le_searchStart {k : BookingKind} {base d : Nat} (h : occursOn k d = true) (hbase : base ≤ d) :
    base ≤ searchStart k base := by
  cases k with
  | oneOff day => exact ((occursOn_oneOff day d).mp h).1 ▸ hbase
  | weekly mask first last => exact le_max_right _ _

/-- Of as many weeks as there are exceptions and two more, one has its day neither cancelled nor a given one (R114). -/
theorem exists_uncancelled_but (s : State) (id : Fin 64) (k r : Nat) : ∃ j, j ≤ s.room.exceptions.length + 1 ∧
    (⟨id, r + 7 * j⟩ : Occurrence) ∉ s.room.exceptions ∧ r + 7 * j ≠ k := by
  obtain ⟨j, hj, hx⟩ := exists_uncancelled (putExceptions (⟨id, k⟩ :: s.room.exceptions) s) id r
  simp only [putExceptions, List.length_cons, List.mem_cons, Occurrence.mk.injEq, true_and, not_or] at hj hx
  exact ⟨j, hj, hx.2, hx.1⟩

/-- The search finds a day at or before any occurrence from `base` on that meets the condition, where every day of the
weeks after the base but one meets it (R114, R126). -/
theorem firstDay_le_but {s : State} {o : Occurrence} {base k : Nat} {ok : Booking → Nat → Bool} {b : Booking}
    (h : liveBooking s o = some b) (hbase : base ≤ o.day) (hok : ok b o.day = true)
    (hlater : ∀ e, base + 2 ≤ e → e ≠ k → ok b e = true) : ∃ e, e ≤ o.day ∧ firstDay s o.id base ok = some (b, e) := by
  obtain ⟨hb, hoccurs, hnot⟩ := liveBooking_eq_some.mp h
  have hstart := searchStart_le hoccurs hbase
  have hge := le_searchStart hoccurs hbase
  by_cases hd : o.day < searchStart b.kind base + (s.room.exceptions.length + 5) * 7
  · exact firstDay_within_weeks h hok hstart hd
  · cases hkind : b.kind with
    | oneOff day =>
      rw [hkind] at hoccurs hd
      have := ((occursOn_oneOff day o.day).mp hoccurs).1
      simp only [searchStart] at hd
      omega
    | weekly mask first last =>
      obtain ⟨j, hj, hx, hjk⟩ := exists_uncancelled_but s o.id k
        (searchStart b.kind base + (o.day - searchStart b.kind base) % 7 + 14)
      have hfirst : first ≤ searchStart b.kind base := by rw [hkind]; exact le_max_left _ _
      have hlive : liveBooking s ⟨o.id, searchStart b.kind base + (o.day - searchStart b.kind base) % 7 + 14 + 7 * j⟩ =
          some b := by
        refine liveBooking_eq_some.mpr ⟨hb, ?_, hx⟩
        rw [hkind] at hoccurs
        rw [hkind] at hfirst hstart hge hd ⊢
        exact occursOn_earlier hoccurs (by simp only; omega) (by simp only; omega) (by simp only; omega)
      obtain ⟨e, he, hf⟩ := firstDay_within_weeks (ok := ok) hlive (hlater _ (by simp only; omega) hjk) (base := base)
        (by simp only; omega) (by simp only; omega)
      exact ⟨e, le_trans he (by simp only; omega), hf⟩

/-! ## The candidate (R121) -/

/-- The clock's minute lies within the day. -/
def clockInDay (s : State) : Prop := s.room.clock.minute ≤ 1439

theorem occurs_iff_live {s : State} {o : Occurrence} {b : Booking} : occurs s o b ↔ liveBooking s o = some b :=
  liveBooking_eq_some.symm

theorem isTaken_eq_false {s : State} {o : Occurrence} : isTaken s o = false ↔ s.room.taken[o.id] ≠ some o.day := by
  simp [isTaken]

theorem mayEnter_of_candidate {s : State} {z : Occurrence × Booking} (hset : s.room.clock.isSet = true)
    (h : candidate s = some z) : mayEnter s z.1 z.2 := by
  obtain ⟨hlive, hok⟩ := leastOccurrence_live h
  simp only [Bool.and_eq_true, Bool.not_eq_true', decide_eq_true_eq] at hok
  exact ⟨hset, occurs_iff_live.mpr hlive, isTaken_eq_false.mp hok.1.1, hok.1.2, hok.2⟩

/-- Where nothing may be entered there is no candidate (R121). -/
theorem candidate_eq_none {s : State} (hset : s.room.clock.isSet = true) (h : ∀ o b, ¬ mayEnter s o b) :
    candidate s = none := by
  by_contra hne
  obtain ⟨z, hz⟩ := Option.ne_none_iff_exists'.mp hne
  exact h _ _ (mayEnter_of_candidate hset hz)

/-- An occurrence that may be entered is found, or one that starts no later (R121). -/
theorem candidate_reaches {s : State} {o : Occurrence} {b : Booking} (hm : clockInDay s) (ht : timesInRange s)
    (h : mayEnter s o b) : ∃ z, candidate s = some z ∧ startOf z.2 z.1.day ≤ startOf b o.day := by
  obtain ⟨-, hoccurs, htaken, hprep, hend⟩ := h
  have ⟨hb, hday, _⟩ := hoccurs
  obtain ⟨hs, hl, he, hlead⟩ := ht o.id b hb
  unfold clockInDay at hm
  have hnear : s.room.clock.day ≤ o.day ∧ o.day ≤ s.room.clock.day + 1 := by
    simp only [prepOf, startOf, endOf, nowMinute, absolute] at hprep hend
    omega
  have hge := le_searchStart hday hnear.1
  obtain ⟨e, hle, hfirst⟩ := firstDay_within_weeks (base := s.room.clock.day)
    (ok := fun b d => !isTaken s ⟨o.id, d⟩ && prepOf b d ≤ nowMinute s && nowMinute s < endOf b d)
    (occurs_iff_live.mp hoccurs) (by simp [isTaken_eq_false.mpr htaken, hprep, hend])
    (searchStart_le hday hnear.1) (by omega)
  cases hc : candidate s with
  | none => exact absurd (hfirst.symm.trans (leastOccurrence_none hc o.id)) (by simp)
  | some z =>
    have hz := (leastOccurrence_some hc).2 o.id b e hfirst
    refine ⟨z, rfl, hz.trans ?_⟩
    simp only [startOf, absolute]
    omega

/-- The candidate of the statement is the one that the search finds (R121). -/
theorem candidate_eq_some {s : State} {o : Occurrence} {b : Booking} (hm : clockInDay s) (ht : timesInRange s)
    (h : isCandidate s o b) : candidate s = some (o, b) := by
  obtain ⟨hmay, hleast⟩ := h
  obtain ⟨⟨x, c⟩, hz, hle⟩ := candidate_reaches hm ht hmay
  have hx := mayEnter_of_candidate hmay.1 hz
  have hxo : x = o := by
    by_contra hne
    exact absurd (hleast x c hx hne) (not_lt.mpr hle)
  subst hxo
  obtain rfl : c = b := Option.some.inj (hx.2.1.1.symm.trans hmay.2.1.1)
  exact hz

/-! ## The next occurrence, and the bridge gap (R126) -/

theorem nextOccurrence_reaches {s : State} {o : Occurrence} {b : Booking} (hm : clockInDay s) (ht : timesInRange s)
    (hset : s.room.clock.isSet = true) (hoccurs : occurs s o b) (htaken : s.room.taken[o.id] ≠ some o.day)
    (hprep : nowMinute s < prepOf b o.day) :
    ∃ z, nextOccurrence s = some z ∧ prepOf z.2 z.1.day ≤ prepOf b o.day := by
  obtain ⟨hs, hl, he, hlead⟩ := ht o.id b hoccurs.1
  unfold clockInDay at hm
  have hbase : s.room.clock.day ≤ o.day := by
    simp only [prepOf, startOf, nowMinute, absolute] at hprep
    omega
  obtain ⟨e, hle, hfirst⟩ := firstDay_le_but (k := (s.room.taken[o.id]).getD 0) (base := s.room.clock.day)
    (ok := fun b d => !isTaken s ⟨o.id, d⟩ && nowMinute s < prepOf b d)
    (occurs_iff_live.mp hoccurs) hbase (by simp [isTaken_eq_false.mpr htaken, hprep]) fun d hd hk => by
      have hfree : isTaken s ⟨o.id, d⟩ = false := isTaken_eq_false.mpr fun heq => hk (by rw [heq]; rfl)
      have hahead : nowMinute s < prepOf b d := by
        simp only [prepOf, startOf, nowMinute, absolute]
        omega
      simp [hfree, hahead]
  unfold nextOccurrence
  rw [if_pos hset]
  cases hn : leastOccurrence s s.room.clock.day prepOf (fun id b d => !isTaken s ⟨id, d⟩ && nowMinute s < prepOf b d) with
  | none => exact absurd (hfirst.symm.trans (leastOccurrence_none hn o.id)) (by simp)
  | some z =>
    have hz := (leastOccurrence_some hn).2 o.id b e hfirst
    refine ⟨z, rfl, hz.trans ?_⟩
    simp only [prepOf, startOf, absolute]
    omega

/-- An OFF end action becomes BLANK when an occurrence to come prepares within the gap (R126). -/
theorem bridged_iff {s : State} (hm : clockInDay s) (ht : timesInRange s) : bridged s = true ↔ nextIsNear s := by
  constructor
  · intro h
    unfold bridged at h
    split at h
    · next o b hn =>
      unfold nextOccurrence at hn
      split at hn
      · next hset =>
        obtain ⟨hlive, hok⟩ := leastOccurrence_live hn
        simp only [Bool.and_eq_true, Bool.not_eq_true', decide_eq_true_eq] at hok h
        exact ⟨hset, o, b, occurs_iff_live.mpr hlive, isTaken_eq_false.mp hok.1, hok.2, h⟩
      · cases hn
    · cases h
  · rintro ⟨hset, o, b, hoccurs, htaken, hahead, hgap⟩
    obtain ⟨z, hz, hle⟩ := nextOccurrence_reaches hm ht hset hoccurs htaken hahead
    simp only [bridged, hz, decide_eq_true_eq]
    omega

end Sys2Proof.Machine
end

section
namespace Sys2Proof.Machine

/-! ## A POWER OFF of the runner (R29) -/

theorem schedulePowerOff_on {s : State} (h : s.power.state = .on) (hl : s.link.state ≠ .lost) :
    schedulePowerOff s = putOut .schedule s := by
  simp only [schedulePowerOff, powerOff, h, if_neg hl]

theorem schedulePowerOff_warming {s : State} (h : s.power.state = .warming) :
    schedulePowerOff s = setOff .schedule s := by
  simp only [schedulePowerOff, powerOff, h]

theorem schedulePowerOff_dark {s : State} (h : s.power.state = .standby ∨ s.power.state = .fault) :
    schedulePowerOff s = s := by
  rcases h with h | h <;> simp only [schedulePowerOff, powerOff, h]

@[simp] theorem schedulePowerOff_shutter (s : State) : (schedulePowerOff s).power.shutter = s.power.shutter :=
  (powerOff_keeps .schedule s).1

/-! ## The end actions (R125, R126) -/

theorem nextOccurrence_congr {s t : State} (hclock : t.room.clock = s.room.clock)
    (hbook : t.room.bookings = s.room.bookings) (hexc : t.room.exceptions = s.room.exceptions)
    (htaken : t.room.taken = s.room.taken) : nextOccurrence t = nextOccurrence s := by
  unfold nextOccurrence leastOccurrence firstDay isTaken isCancelled nowMinute
  rw [hclock, hbook, hexc, htaken]

/-- The room's becoming VACANT takes no occurrence: the next one is as before (R126). -/
theorem nextOccurrence_vacated (cause : RoomCause) (origin : Origin) (id : Fin 64) (s : State) :
    nextOccurrence (roomChange .vacant none cause origin id s) = nextOccurrence s :=
  nextOccurrence_congr (by simp) (by simp) (by simp) (by simp [placeRoom])

theorem bridged_vacated (cause : RoomCause) (origin : Origin) (id : Fin 64) (s : State) :
    bridged (roomChange .vacant none cause origin id s) = bridged s := by
  unfold bridged nowMinute
  rw [nextOccurrence_vacated]
  simp

section
variable {b : Booking} {s : State}

theorem endAction_stay (h : b.endAction = .stay) : endAction b s = s := by simp only [endAction, h]

theorem endAction_blank (h : b.endAction = .blank ∨ (b.endAction = .off ∧ bridged s = true)) :
    endAction b s = blankAtEnd s := by
  rcases h with h | ⟨h, hn⟩
  · simp only [endAction, h]
  · simp only [endAction, h, hn, if_true]

theorem endAction_off (h : b.endAction = .off) (hn : bridged s = false) :
    endAction b s = scheduleRoute s.store.room.source (schedulePowerOff s) := by
  simp only [endAction, h, hn, Bool.false_eq_true, if_false]

end

@[simp] theorem blankAtEnd_blanks (s : State) : (blankAtEnd s).room.scheduleBlank = true ∧
    (blankAtEnd s).power.shutter = some .closedManual :=
  ⟨rfl, closeManual_shutter s⟩

/-! ## The end of an occurrence with no candidate (R125) -/

section
variable {cause : RoomCause} {origin : Origin} {o : Occurrence} {held : Option Booking} {s : State}

/-- The occurrence ends with no candidate to pass to (R125). -/
theorem endOccurrence_vacates {b : Booking} (hc : (if s.room.clock.isSet then candidate s else none) = none)
    (hb : s.room.bookings[o.id] = some b) : endOccurrence o held cause origin s =
      endAction b (roomChange .vacant none cause origin o.id s) := by
  simp only [endOccurrence, hc, hb, Option.some_or]

theorem endOccurrence_stands (hc : (if s.room.clock.isSet then candidate s else none) = none) :
    changeStands (roomChange .vacant none cause origin o.id s) (endOccurrence o held cause origin s) := by
  simp only [endOccurrence, hc]
  split
  · exact endAction_stands _ _
  · exact changeStands_refl _

/-- The runner's lamp and source at an OFF end action (R125). -/
theorem offAction_spec (s : State) (x : Fin 8) :
    let t := scheduleRoute x (schedulePowerOff s)
    t.room = s.room ∧ t.power.shutter = s.power.shutter ∧
      (s.power.state = .on → s.link.state ≠ .lost →
        t.power.state = .cooling ∧ toldPower none .schedule .on .cooling none s t) ∧
      (s.power.state = .warming → t.power.state = .warming ∧ t.power.offPending = true ∧
        t.power.offOrigin = some .schedule) ∧
      (s.power.state = .standby ∨ s.power.state = .fault → t.power.state = s.power.state) ∧
      ((s.router.resolved = false ∨ s.router.state ≠ .settling) → t.router.requested = some x) := by
  refine ⟨by simp, by simp, fun hon hl => ?_, fun hw => ?_, fun hd => ?_, fun hr => ?_⟩
  · obtain ⟨hstate, htold, -⟩ := putOut_spec .schedule s
    rw [hon] at htold
    rw [schedulePowerOff_on hon hl]
    exact ⟨by simpa using hstate, told_later htold (by simp)⟩
  · rw [schedulePowerOff_warming hw]
    simp [setOff, hw]
  · rw [schedulePowerOff_dark hd]
    simp
  · exact scheduleRoute_requested x (by simpa using hr)

/-- The end with no candidate does what the statement has it do (R122, R125, R126). -/
theorem endOccurrence_vacated (hm : clockInDay s) (ht : timesInRange s)
    (hc : (if s.room.clock.isSet then candidate s else none) = none) :
    vacated cause origin o s (endOccurrence o held cause origin s) := by
  refine ⟨roomChanged_of_stands (chooseProfile_vacant rfl) (endOccurrence_stands hc), fun b hb => ?_⟩
  rw [endOccurrence_vacates hc hb, ← bridged_iff hm ht, ← bridged_vacated cause origin o.id s]
  refine ⟨fun he => ?_, fun he => ?_, fun he hnear => ?_⟩
  · rw [endAction_stay he]
    simp
  · rw [endAction_blank he]
    simp
  · rw [endAction_off he (Bool.eq_false_of_not_eq_true hnear)]
    obtain ⟨hroom, -, hon, hwarm, hdark, hroute⟩ := offAction_spec (roomChange .vacant none cause origin o.id s)
      (roomChange .vacant none cause origin o.id s).store.room.source
    refine ⟨by rw [hroom]; simp, fun hp hl => ?_, fun hp => ?_, fun hp => ?_, fun hr => ?_⟩
    · obtain ⟨hstate, htold⟩ := hon (by simpa using hp) (by simpa using hl)
      exact ⟨hstate, told_since (by simp) (by simp) (by simp) htold⟩
    · exact ⟨(hwarm (by simpa using hp)).1, (hwarm (by simpa using hp)).2.1⟩
    · simpa using hdark (by simpa using hp)
    · simpa using hroute (by simpa using hr)

end

end Sys2Proof.Machine
end

section
namespace Sys2Proof.Machine

/-! ## EXTEND BOOKING (R128) -/

theorem ownExtendBooking_occupied {ps : List Word} {s : State} {o : Occurrence} {b : Booking} {m : Nat}
    (hs : s.room.state = .occupied) (hc : s.room.current = some o) (hb : s.room.bookings[o.id] = some b)
    (hm : numAt ps 0 = m) : ownExtendBooking ps s =
      if m = 0 || 60 < m || b.grace < s.room.extension + m then refuse .outOfRange s
      else if passesFollowing s o b m then refuse .conflict s
      else accept (doneWith [word (s.room.extension + m), word (b.endMinute + s.room.extension + m)])
        { s with room := { s.room with extension := s.room.extension + m } } := by
  have hbook : currentBooking s = some b := by simp only [currentBooking, hc, Option.bind_some, hb]
  simp only [ownExtendBooking, hs, hc, hbook, hm]

theorem ownExtendBooking_elsewhere {ps : List Word} {s : State} (hs : s.room.state ≠ .occupied) :
    ownExtendBooking ps s = refuse .wrongState s := by
  unfold ownExtendBooking
  split
  · next h _ _ => exact absurd h hs
  · rfl

/-! ## RELEASE ROOM (R129) -/

theorem bridged_iff_next (s : State) : bridged s = true ↔
    ∃ x, nextOccurrence s = some x ∧ prepOf x.2 x.1.day ≤ nowMinute s + s.store.room.bridgeGap := by
  unfold bridged
  split
  · next h => simp [h]
  · next h => simp [h]

theorem ownReleaseRoom_current {p : Port} {s : State} {o : Occurrence} (h : s.room.current = some o) :
    ownReleaseRoom p s = accept done (endOccurrence o none .release (portOrigin p) s) := by
  simp only [ownReleaseRoom, h]

/-- The room after an occurrence is entered stands as the change into it made it (R123, R124). -/
theorem enterRoom_stands (o : Occurrence) (b : Booking) (cause : RoomCause) (origin : Origin) (s : State) :
    changeStands (roomChange (if nowMinute s < startOf b o.day then .preparing else .occupied) (some o) cause origin
      o.id s) (enterRoom o b cause origin s) := by
  by_cases h : nowMinute s < startOf b o.day
  · rw [enterRoom_preparing cause origin h, if_pos h]
    exact schedulePowerOn_stands _
  · rw [enterRoom_occupied cause origin (not_lt.mp h), if_neg h]
    exact occupiedActions_stands b _

/-- What the two ends of a release have in common: the answer, the room as the change made it, what is told, the settings
cleared, and what is kept. -/
def released (p : Port) (f : Frame) (dest : RoomState) (occ : Option Occurrence) (id : Fin 64) (s t : State) : Prop :=
  answered .releaseRoom p f done s t ∧ standingKept s t ∧
    t.room = { (placeRoom dest occ s).room with scheduleBlank := t.room.scheduleBlank } ∧
    told (some p) .roomStateChanged (portOrigin p) (tripleWord (position roomStateList s.room.state)
      (position roomStateList dest) (position roomCauseList .release)) (word id.val) s t ∧
    t.geometry.overlay = Overlay.empty ∧ t.geometry.momentary = none ∧ t.power.momentaryMode = none ∧
    t.lockout.hold = .followStanding

theorem released_of_stands {p : Port} {f : Frame} {dest : RoomState} {occ : Option Occurrence} {id : Fin 64}
    {s v : State} (hv : changeStands (roomChange dest occ .release (portOrigin p) id (begun p f s)) v)
    (hports : quietPorts v.ports = quietPorts (begun p f s).ports) (hkept : standingKept (begun p f s) v) :
    released p f dest occ id s (after .releaseRoom p done (finish v)) := by
  have hchanged := roomChanged_of_stands rfl hv
  obtain ⟨-, -, -, -, hover, hmom, hmode, hhold, htold, -⟩ := hchanged
  rw [originPort_portOrigin] at htold
  have hbegun : standingKept s (begun p f s) := by simp [standingKept]
  refine ⟨answered_of _ _ _ _ _ _ (by simpa using hports), ?_, ?_, told_request _ _ _ _ htold, by simpa using hover,
    by simpa using hmom, by simpa using hmode, by simpa using hhold⟩
  · refine standingKept_trans hbegun (standingKept_trans hkept ?_)
    simp [standingKept, StoreUnit.eq_iff]
  · have hroom : (after .releaseRoom p done (finish v)).room = v.room := by simp
    rw [hroom, hv.1, roomChange_room]
    rfl

/-- Settles O52: the checks of EXTEND in order; RELEASE with and without a candidate to pass to. -/
theorem extendAndReleaseTheRoom : Obligations.ExtendAndReleaseTheRoom := by
  unfold Obligations.ExtendAndReleaseTheRoom
  intro p f q s
  refine ⟨fun h o b hs hc hb => ?_, fun h hs => ?_, fun h hc => ?_, fun h o b hc hb htaken hcand => ?_,
    fun h o n b hc hset hcand => ?_⟩
  · intro m
    have hown := ownExtendBooking_occupied (ps := f.words.drop 1) (s := begun p f s) (m := m) hs hc hb rfl
    refine ⟨fun hr => ?_, fun h1 h60 hg => ⟨fun hp => ?_, fun hp => ?_⟩⟩
    · exact congrArg Host.Outcome.next (request_answered h (hown.trans (if_pos (by simpa [or_assoc] using hr))))
    all_goals replace hown := hown.trans (if_neg (by simp; omega))
    · exact congrArg Host.Outcome.next (request_answered h (hown.trans (if_pos hp)))
    · replace hown := hown.trans (if_neg (by exact ne_true_of_eq_false hp))
      exact ⟨_, congrArg Host.Outcome.next (request_accepted h rfl hown), answered_of _ _ _ _ _ _ (by simp), by simp,
        by simp, by simp, by simp, by simp, by simp, by simp [linkServed_iff], by simp [storeServed_iff]⟩
  · exact congrArg Host.Outcome.next (request_answered h (ownExtendBooking_elsewhere hs))
  · have hown : ownReleaseRoom p (begun p f s) = refuse .wrongState (begun p f s) := by
      have hbegun : (begun p f s).room.current = none := hc
      simp only [ownReleaseRoom, hbegun]
    exact congrArg Host.Outcome.next (request_answered h hown)
  · have hstart : (if (begun p f s).room.clock.isSet then candidate (begun p f s) else none) = none := by
      rw [show candidate (begun p f s) = none from hcand]
      exact ite_self none
    have hv := endOccurrence_vacates (held := none) (cause := .release) (origin := portOrigin p) hstart hb
    have hnear : bridged (roomChange .vacant none .release (portOrigin p) o.id (begun p f s)) = true ↔
        ∃ x, nextOccurrence s = some x ∧ prepOf x.2 x.1.day ≤ nowMinute s + s.store.room.bridgeGap := by
      rw [bridged_vacated]
      exact bridged_iff_next s
    obtain ⟨hanswer, hkept, hroom, htold, hover, hmom, hmode, hhold⟩ := released_of_stands
      (endOccurrence_stands (o := o) (held := none) hstart) (by simp) (by simp [standingKept, StoreUnit.eq_iff])
    refine ⟨_, congrArg Host.Outcome.next (request_accepted h rfl (ownReleaseRoom_current hc)), hanswer, hroom, htold,
      hkept, hover, hmom, hmode, hhold, fun he => ?_, fun he => ?_, fun he hsoon => ?_, fun he hsoon => ?_⟩
    all_goals rw [hv]
    · rw [endAction_stay he]
      refine ⟨?_, by simpa using roomChange_lamp .vacant none .release (portOrigin p) o.id (begun p f s), by simp, by simp⟩
      simpa using roomChange_power .vacant none .release (portOrigin p) o.id (begun p f s)
    · rw [endAction_blank (.inl he)]
      simp
    · rw [endAction_blank (.inr ⟨he, hnear.mpr hsoon⟩)]
      simp
    · rw [endAction_off he (Bool.eq_false_of_not_eq_true fun hb => hsoon (hnear.mp hb))]
      obtain ⟨-, -, hon, hwarm, -, hroute⟩ := offAction_spec
        (roomChange .vacant none .release (portOrigin p) o.id (begun p f s)) s.store.room.source
      rw [show (roomChange .vacant none .release (portOrigin p) o.id (begun p f s)).store.room.source =
        s.store.room.source by simp]
      refine ⟨by simp, by simp, fun hp hl => ?_, fun hp => ?_, fun hr => ?_, fun hres hset hslot => ?_⟩
      · obtain ⟨hstate, htold⟩ := hon (by simpa using hp) (by simpa using hl)
        exact ⟨by simpa using hstate, told_request _ _ f _ (told_since (by simp) (by simp) (by simp) htold)⟩
      · simpa using (hwarm (by simpa using hp)).2
      · simpa using hroute (.inr (by simpa using hr))
      · have hheld := scheduleRoute_held s.store.room.source
          (s := schedulePowerOff (roomChange .vacant none .release (portOrigin p) o.id (begun p f s)))
          (by simpa using hres) (by simpa using hset) (by simpa using hslot)
        simp only [after_frame, finish_frame, hheld]
        simp
  · have hbooked : (begun p f s).room.bookings[n.id] = some b := (mayEnter_of_candidate hset hcand).2.1.1
    have hpass : endOccurrence o none .release (portOrigin p) (begun p f s) =
        enterRoom n b .release (portOrigin p) (begun p f s) := by
      have hcand' : candidate (begun p f s) = some (n, b) := hcand
      have hset' : (begun p f s).room.clock.isSet = true := hset
      simp only [endOccurrence, hset', if_true, hcand', passageCause]
    have hown := ownReleaseRoom_current (p := p) (s := begun p f s) hc
    rw [hpass] at hown
    obtain ⟨hanswer, hkept, hroom, htold, hover, hmom, hmode, hhold⟩ := released_of_stands
      (enterRoom_stands n b .release (portOrigin p) (begun p f s)) (by simp) (by simp [standingKept, StoreUnit.eq_iff])
    have hlamp := (enterRoom_entered .release (portOrigin p) hbooked).2.1
    refine ⟨_, congrArg Host.Outcome.next (request_accepted h rfl hown), hanswer, hkept, hroom, ?_, hover, hmom, hmode,
      hhold, fun hon => ?_⟩
    · rw [hroom]
      exact htold
    · have hon' : (begun p f s).power.state = .on := hon
      simp only [lampAsked, hon'] at hlamp
      simpa using hlamp

end Sys2Proof.Machine
end

section
namespace Sys2Proof.Machine

/-! ## An evaluation by its cases (R121) -/

/-- The current occurrence `o`, of booking `b`, is kept by an evaluation (R121, step 2). -/
def staysCurrent (s : State) (o : Occurrence) (b : Booking) : Prop :=
  s.room.clock.isSet = true ∧ occurs s o b ∧ prepOf b o.day ≤ nowMinute s ∧
    nowMinute s < endOf b o.day + s.room.extension

section
variable {held : Option Booking} {cause : RoomCause} {origin : Origin} {s : State} {o : Occurrence} {b : Booking}

theorem not_ended_iff : (!s.room.clock.isSet || hasEnded s o) = false ↔ ∃ b, staysCurrent s o b := by
  unfold hasEnded staysCurrent
  simp only [occurs_iff_live]
  cases hl : liveBooking s o with
  | none => simp
  | some c => simp [and_comm]

theorem evaluate_enters (h : s.room.current = none) (hset : s.room.clock.isSet = true)
    (hc : candidate s = some (o, b)) : evaluate held cause origin s = enterRoom o b cause origin s := by
  simp only [evaluate, h, hset, if_true, hc]

theorem evaluate_enters_none (h : s.room.current = none)
    (hc : (if s.room.clock.isSet then candidate s else none) = none) : evaluate held cause origin s = s := by
  simp only [evaluate, h, hc]

/-- An occurrence that has ended gives place (R121). -/
theorem evaluate_ended (h : s.room.current = some o) (he : ∀ b, ¬ staysCurrent s o b) :
    evaluate held cause origin s = endOccurrence o held cause origin s := by
  have hended : (!s.room.clock.isSet || hasEnded s o) = true := by
    by_contra hne
    obtain ⟨b, hb⟩ := not_ended_iff.mp (Bool.eq_false_of_not_eq_true hne)
    exact he b hb
  simp only [evaluate, h, hended, if_true]

/-- A room that is PREPARING becomes OCCUPIED at the start (R121, R124). -/
theorem evaluate_starts (h : s.room.current = some o) (hb : staysCurrent s o b) (hp : s.room.state = .preparing)
    (hs : startOf b o.day ≤ nowMinute s) : evaluate held cause origin s = enterRoom o b cause origin s := by
  have hlive := occurs_iff_live.mp hb.2.1
  simp only [evaluate, h, not_ended_iff.mpr ⟨b, hb⟩, hlive, hp, hs, enterRoom_occupied cause origin hs, decide_true,
    Bool.and_self, if_true, Bool.false_eq_true, if_false]

/-- Otherwise an occurrence that is kept is left alone (R121). -/
theorem evaluate_stays (h : s.room.current = some o) (hb : staysCurrent s o b)
    (hn : s.room.state ≠ .preparing ∨ nowMinute s < startOf b o.day) : evaluate held cause origin s = s := by
  have hlive := occurs_iff_live.mp hb.2.1
  have hnot : ¬ (s.room.state = .preparing ∧ startOf b o.day ≤ nowMinute s) := by
    rintro ⟨hp, hs⟩
    exact hn.elim (absurd hp) (absurd hs ∘ not_le.mpr)
  simp only [evaluate, h, not_ended_iff.mpr ⟨b, hb⟩, hlive, Bool.and_eq_true, decide_eq_true_eq, hnot,
    Bool.false_eq_true, if_false]

/-- A current occurrence that has ended passes the room to the candidate (R127). -/
theorem endOccurrence_passes {n : Occurrence} (hset : s.room.clock.isSet = true) (hc : candidate s = some (n, b)) :
    endOccurrence o held cause origin s = enterRoom n b (passageCause cause) origin s := by
  simp only [endOccurrence, hset, if_true, hc]

/-- What an evaluation does is what the statement has it do (R121 to R127). -/
theorem evaluate_evaluated (hm : clockInDay s) (ht : timesInRange s) :
    evaluated cause origin s (evaluate held cause origin s) := by
  have hnone (h : ∀ o b, ¬ mayEnter s o b) : (if s.room.clock.isSet then candidate s else none) = none := by
    split
    · next hset => exact candidate_eq_none hset h
    · rfl
  refine ⟨fun hcur => ⟨fun o b hc => ?_, fun h => ?_⟩, fun o hcur => ⟨fun b hb hp hs => ?_, fun b hb hn => ?_,
    fun he => ⟨fun x c hc => ?_, fun h => ?_⟩⟩⟩
  · rw [evaluate_enters hcur hc.1.1 (candidate_eq_some hm ht hc)]
    exact enterRoom_entered cause origin hc.1.2.1.1
  · rw [evaluate_enters_none hcur (hnone h)]
    exact ⟨rfl, rfl, rfl, rfl, rfl⟩
  · rw [evaluate_starts hcur hb hp hs]
    exact enterRoom_entered cause origin hb.2.1.1
  · rw [evaluate_stays hcur hb hn]
    exact ⟨rfl, rfl, rfl, rfl, rfl⟩
  · rw [evaluate_ended hcur he, endOccurrence_passes hc.1.1 (candidate_eq_some hm ht hc)]
    exact enterRoom_entered _ origin hc.1.2.1.1
  · rw [evaluate_ended hcur he]
    exact endOccurrence_vacated hm ht (hnone h)

end

end Sys2Proof.Machine
end

section
namespace Sys2Proof.Machine

/-! ## An evaluation seen from a state before and one after it -/

/-- `v` is as `u` to an evaluation: they differ at most in the ports' transfers, the phase of the second, the notices that
have joined, the link's traffic, and what is stored and queued. -/
def evalStart (u v : State) : Prop :=
  v.lamp = u.lamp ∧ v.power = u.power ∧ v.link.state = u.link.state ∧ v.router = u.router ∧
    v.geometry.started = u.geometry.started ∧ v.room = { u.room with phase := v.room.phase } ∧ v.lockout = u.lockout ∧
    v.store.install = u.store.install ∧ v.store.room = u.store.room ∧
    (∀ p, (portOf v p).subscription = (portOf u p).subscription) ∧ grown u.ports v.ports

/-- `t` has what an evaluation left in `w`. -/
def evalEnd (w t : State) : Prop :=
  t.lamp = w.lamp ∧ t.power = w.power ∧ t.router = w.router ∧ t.geometry = w.geometry ∧ t.room = w.room ∧
    t.lockout = w.lockout ∧ t.store.room = w.store.room ∧ grown w.ports t.ports

section
variable {u v w t : State} (hs : evalStart u v) (ht : evalEnd w t)

section
include hs

theorem evalStart_room : v.room.state = u.room.state ∧ v.room.current = u.room.current ∧ v.room.clock = u.room.clock ∧
    v.room.bookings = u.room.bookings ∧ v.room.exceptions = u.room.exceptions ∧ v.room.taken = u.room.taken ∧
    v.room.extension = u.room.extension ∧ v.room.scheduleBlank = u.room.scheduleBlank := by
  obtain ⟨-, -, -, -, -, hroom, -⟩ := hs
  rw [hroom]
  exact ⟨rfl, rfl, rfl, rfl, rfl, rfl, rfl, rfl⟩

theorem evalStart_now : nowMinute v = nowMinute u := by
  obtain ⟨-, -, hclock, -⟩ := evalStart_room hs
  rw [nowMinute, hclock, nowMinute]

theorem evalStart_occurs (o : Occurrence) (b : Booking) : occurs v o b ↔ occurs u o b := by
  obtain ⟨-, -, -, hbook, hexc, -⟩ := evalStart_room hs
  rw [occurs, hbook, hexc, occurs]

theorem evalStart_mayEnter (o : Occurrence) (b : Booking) : mayEnter v o b ↔ mayEnter u o b := by
  obtain ⟨-, -, hclock, -, -, htaken, -⟩ := evalStart_room hs
  rw [mayEnter, evalStart_occurs hs, evalStart_now hs, hclock, htaken, mayEnter]

theorem evalStart_isCandidate (o : Occurrence) (b : Booking) : isCandidate v o b ↔ isCandidate u o b := by
  simp only [isCandidate, evalStart_mayEnter hs]

theorem evalStart_near : nextIsNear v ↔ nextIsNear u := by
  have ⟨_, _, _, _, _, _, _, _, hstore, _⟩ := hs
  obtain ⟨-, -, hclock, -, -, htaken, -⟩ := evalStart_room hs
  simp only [nextIsNear, evalStart_occurs hs, evalStart_now hs, hclock, htaken, hstore]

theorem evalStart_asks : asksAs u v := by
  have ⟨hlamp, hpower, hlink, _, _, _, _, _, _, hsub, hgrown⟩ := hs
  exact ⟨by rw [hpower], by rw [hpower], by simp only [refusalTest, hlamp, hpower, hlink], hlink,
    (evalStart_room hs).2.2.1, hsub, hgrown⟩

include ht

theorem told_across {dest : Option Port} {k : NoticeKind} {o : Origin} {x y : Word} (h : told dest k o x y v w) :
    told dest k o x y u t := by
  have ⟨_, _, _, _, _, _, _, _, _, hsub, hgrown⟩ := hs
  obtain ⟨-, -, -, -, -, -, -, hgrows⟩ := ht
  exact told_later (told_earlier hgrown hsub (evalStart_room hs).2.2.1 h) hgrows

end

include ht in
theorem evalEnd_outcome : outcomeKept w t := by
  obtain ⟨-, hpower, -, -, -, -, -, hgrows⟩ := ht
  exact ⟨by rw [hpower], by rw [hpower], by rw [hpower], by rw [hpower], hgrows⟩

include ht in
theorem evalEnd_mode : decideMode t = decideMode w := by
  obtain ⟨hlamp, hpower, -, -, hroom, -, hstore, -⟩ := ht
  exact decideMode_congr w t (by rw [hlamp]) (by rw [hpower]) (by rw [hpower]) hroom hstore

include ht in
theorem evalEnd_preset : choosePreset t = choosePreset w := by
  obtain ⟨-, -, hrouter, hgeom, hroom, -, hstore, -⟩ := ht
  exact choosePreset_congr (by rw [hgeom]) (by rw [hgeom]) (by rw [hrouter]) hroom hstore

include hs ht

theorem roomChanged_across {dest : RoomState} {occ : Option Occurrence} {cause : RoomCause} {origin : Origin}
    {id : Fin 64} {profile : Fin 8} (h : roomChanged dest occ cause origin id profile v w) :
    roomChanged dest occ cause origin id profile u t := by
  obtain ⟨hstate, hcur, hext, htaken, hover, hmom, hmode, hhold, htold, hprofile, hin, hpre⟩ := h
  have ⟨hlamp, hpower, _, _, hstarted, _, hlock, _⟩ := hs
  have ⟨_, tpower, _, tgeom, troom, tlock, _⟩ := ht
  obtain ⟨vstate, -, -, -, -, vtaken, -⟩ := evalStart_room hs
  rw [vstate] at htold
  rw [vtaken] at htaken
  rw [hlock] at hprofile
  rw [hpower, hlamp] at hin
  rw [hstarted] at hpre
  refine ⟨by rw [troom, hstate], by rw [troom, hcur], by rw [troom, hext], by rw [troom, htaken], by rw [tgeom, hover],
    by rw [tgeom, hmom], by rw [tpower, hmode], by rw [tlock, hhold], told_across hs ht htold,
    fun ha => by rw [tlock, hprofile ha], fun he hl => ?_, fun hst => ?_⟩
  · rw [tpower, evalEnd_mode ht, hin he hl]
  · rw [tgeom, evalEnd_preset ht, hpre hst]

theorem entered_across {cause : RoomCause} {origin : Origin} {o : Occurrence} {b : Booking}
    (h : entered cause origin o b v w) : entered cause origin o b u t := by
  obtain ⟨hchanged, hlamp, hprep, hocc⟩ := h
  have ⟨_, hpower, _, hrouter, _⟩ := hs
  have ⟨_, tpower, trouter, _, troom, _⟩ := ht
  obtain ⟨-, -, -, -, -, -, -, vblank⟩ := evalStart_room hs
  rw [evalStart_now hs] at hchanged hprep hocc
  rw [vblank, hpower, hrouter] at hprep
  rw [vblank, hrouter] at hocc
  refine ⟨roomChanged_across hs ht hchanged, lampAsked_transfer (evalStart_asks hs) hlamp (evalEnd_outcome ht), ?_, ?_⟩
  · rw [tpower, trouter, troom]
    exact hprep
  · rw [tpower, trouter, troom]
    exact hocc

theorem vacated_across {cause : RoomCause} {origin : Origin} {o : Occurrence} (h : vacated cause origin o v w) :
    vacated cause origin o u t := by
  obtain ⟨hchanged, hend⟩ := h
  have ⟨_, hpower, hlink, hrouter, _, _, _, hinstall, hstore, _⟩ := hs
  have ⟨_, tpower, trouter, _, troom, _⟩ := ht
  obtain ⟨-, -, -, vbook, -, -, -, vblank⟩ := evalStart_room hs
  rw [hinstall] at hchanged
  refine ⟨roomChanged_across hs ht hchanged, fun b hb => ?_⟩
  obtain ⟨hstay, hblank, hoff⟩ := hend b (by rw [vbook, hb])
  rw [vblank, hpower, hrouter] at hstay
  rw [evalStart_near hs, hpower, hrouter] at hblank
  rw [evalStart_near hs, vblank, hpower, hlink, hrouter, hstore] at hoff
  rw [tpower, trouter, troom]
  refine ⟨hstay, hblank, fun he hn => ?_⟩
  obtain ⟨hsame, hon, hrest⟩ := hoff he hn
  exact ⟨hsame, fun hp hl => ⟨(hon hp hl).1, told_across hs ht (hon hp hl).2⟩, hrest⟩

/-- An evaluation of `v` that leaves `w` is one of `u` that leaves `t`. -/
theorem evaluated_across {cause : RoomCause} {origin : Origin} (h : evaluated cause origin v w) :
    evaluated cause origin u t := by
  obtain ⟨hvacant, hcurrent⟩ := h
  have ⟨_, _, _, _, troom, _⟩ := ht
  obtain ⟨vstate, vcur, vclock, -, -, vtaken, vext, vblank⟩ := evalStart_room hs
  simp only [evalStart_isCandidate hs, evalStart_mayEnter hs, evalStart_occurs hs, evalStart_now hs, vstate, vcur,
    vclock, vtaken, vext, vblank, ← troom] at hvacant hcurrent
  refine ⟨fun hc => ⟨fun o b hb => entered_across hs ht ((hvacant hc).1 o b hb), (hvacant hc).2⟩, fun o ho => ?_⟩
  obtain ⟨hstarts, hstays, hends⟩ := hcurrent o ho
  refine ⟨fun b hb hp hle => entered_across hs ht (hstarts b hb hp hle), hstays, fun he => ?_⟩
  exact ⟨fun x c hc => entered_across hs ht ((hends he).1 x c hc), fun hn => vacated_across hs ht ((hends he).2 hn)⟩

end

end Sys2Proof.Machine
end

section
namespace Sys2Proof.Machine

/-! ## The prune (R111) -/

theorem pruneExceptions_exceptions (s : State) :
    (pruneExceptions s).room.exceptions = s.room.exceptions.filter fun o => s.room.clock.day ≤ o.day := by
  unfold pruneExceptions
  dsimp only
  split
  · next h => exact h.symm
  · split <;> simp

theorem mem_pruneExceptions (s : State) (o : Occurrence) :
    o ∈ (pruneExceptions s).room.exceptions ↔ o ∈ s.room.exceptions ∧ s.room.clock.day ≤ o.day := by
  rw [pruneExceptions_exceptions, List.mem_filter, decide_eq_true_eq]

theorem pruneExceptions_of_nil {s : State} (h : s.room.exceptions = []) : pruneExceptions s = s := by
  simp [pruneExceptions, h]

/-! ## A minute step (R109) -/

/-- The state that a minute step hands to its evaluation: the clock stepped, and told of where it is lost; the exceptions
pruned where the day changes (R109, R111). -/
def minuteStepped (s : State) : State :=
  let t := { s with room := { s.room with clock := stepMinute s.room.clock } }
  if !t.room.clock.isSet then postClockNeeded t
  else if s.room.clock.day < t.room.clock.day then pruneExceptions t
  else t

/-- The cause of a minute step's evaluation (R121). -/
def minuteCause (s : State) : RoomCause := if (stepMinute s.room.clock).isSet then .time else .unset

theorem minuteStep_eq (s : State) : minuteStep s = evaluateStep (minuteCause s) (minuteStepped s) := by
  unfold minuteStep minuteStepped minuteCause
  dsimp only
  cases (stepMinute s.room.clock).isSet
  · rfl
  · simp only [Bool.not_true, Bool.false_eq_true, if_false, if_true, apply_ite (evaluateStep .time)]

theorem clockTicks_second {s : State} (hset : s.room.clock.isSet = true) (h : 59 ≤ s.room.clock.second) :
    clockTicks s = minuteStep s := by
  rw [clockTicks, if_neg (by simp [hset]), if_neg (not_lt.mpr h)]

section
variable (s : State)

@[simp] theorem minuteStepped_frame : quietPorts (minuteStepped s).ports = quietPorts s.ports ∧
    (minuteStepped s).lamp = s.lamp ∧ (minuteStepped s).power = s.power ∧ (minuteStepped s).link = s.link ∧
    (minuteStepped s).router = s.router ∧ (minuteStepped s).geometry = s.geometry ∧
    (minuteStepped s).lockout = s.lockout ∧ (minuteStepped s).store.loaded = s.store.loaded ∧
    (minuteStepped s).store.install = s.store.install ∧ (minuteStepped s).store.room = s.store.room ∧
    (minuteStepped s).room.clock = stepMinute s.room.clock ∧ (minuteStepped s).room.bookings = s.room.bookings ∧
    (minuteStepped s).room.state = s.room.state ∧ (minuteStepped s).room.current = s.room.current := by
  unfold minuteStepped
  dsimp only
  split
  · simp
  · split <;> simp

theorem minuteStepped_room : (minuteStepped s).room = { s.room with
    clock := stepMinute s.room.clock, exceptions := (minuteStepped s).room.exceptions } := by
  unfold minuteStepped
  dsimp only
  split
  · simp
  · split <;> simp [RoomUnit.eq_iff]

theorem minuteStepped_grown : grown s.ports (minuteStepped s).ports := by
  unfold minuteStepped
  dsimp only
  split
  · simp
  · split <;> simp

end

theorem stepMinute_inDay (c : Clock) : (stepMinute c).minute ≤ 1439 := by
  unfold stepMinute
  split
  · simp only; omega
  · split
    · exact Nat.zero_le _
    · exact Nat.zero_le _

theorem postTo_tells (dest : Option Port) (kind : NoticeKind) (o : Origin) (a b : Option Word) (s : State) :
    told dest kind o (dataWord a s.free) (dataWord b (s.free + 1)) s (postTo dest kind o a b s) := by
  intro p hp
  exact ⟨[], [], by rw [postTo_notices, if_pos hp]; rfl⟩

/-- A clock that is lost is told of (R109). -/
theorem minuteStepped_told {s : State} (h : (stepMinute s.room.clock).isSet = false) : ∃ x y,
    told none .clockNeeded .auto x y { s with room := { s.room with clock := stepMinute s.room.clock } }
      (minuteStepped s) := by
  have he : minuteStepped s = postClockNeeded { s with room := { s.room with clock := stepMinute s.room.clock } } := by
    simp [minuteStepped, h]
  rw [he]
  exact ⟨_, _, postTo_tells _ _ _ _ _ _⟩

end Sys2Proof.Machine
end

section
namespace Sys2Proof.Machine

/-! ## A second of the clock (R109) -/

/-- The state in which a second acts: its phase begins again (log entry 10). -/
def secondBegun (s : State) : State := { s with room := { s.room with phase := 0 } }

theorem exec_clockSecond (s : State) : exec .clockSecond s = .next (finish (clockTicks (secondBegun s))) := rfl

/-- A second advances nothing, the second alone, or the minute (R109). -/
theorem clockTicks_cases (s : State) : clockTicks s = s ∨
    clockTicks s = { s with room := { s.room with clock := { s.room.clock with second := s.room.clock.second + 1 } } } ∨
    clockTicks s = minuteStep s := by
  unfold clockTicks
  split
  · exact .inl rfl
  · split
    · exact .inr (.inl rfl)
    · exact .inr (.inr rfl)

theorem clockTicks_unset {s : State} (h : s.room.clock.isSet = false) : clockTicks s = s := by
  simp [clockTicks, h]

theorem clockTicks_below {s : State} (hset : s.room.clock.isSet = true) (h : s.room.clock.second < 59) :
    clockTicks s = { s with room := { s.room with clock := { s.room.clock with second := s.room.clock.second + 1 } } } := by
  simp [clockTicks, hset, h]

/-- A minute step gives the clock its next minute, and the exceptions that the step left (R109, R111). -/
@[simp] theorem minuteStep_clock (s : State) : (minuteStep s).room.clock = stepMinute s.room.clock ∧
    (minuteStep s).room.exceptions = (minuteStepped s).room.exceptions := by
  simp [minuteStep_eq]

theorem minuteStepped_pruned {s : State} (hset : (stepMinute s.room.clock).isSet = true)
    (hday : s.room.clock.day < (stepMinute s.room.clock).day) (o : Occurrence) :
    o ∈ (minuteStepped s).room.exceptions ↔ o ∈ s.room.exceptions ∧ (stepMinute s.room.clock).day ≤ o.day := by
  have he : minuteStepped s = pruneExceptions { s with room := { s.room with clock := stepMinute s.room.clock } } := by
    simp [minuteStepped, hset, hday]
  rw [he, mem_pruneExceptions]

theorem stepMinute_minute {c : Clock} (h : c.minute < 1439) :
    stepMinute c = { c with second := 0, minute := c.minute + 1 } := if_pos h

theorem stepMinute_day {c : Clock} (h : c.minute = 1439) (hd : c.day < 65535) :
    stepMinute c = { c with second := 0, minute := 0, day := c.day + 1 } := by
  rw [stepMinute, if_neg (by omega), if_pos hd]

theorem stepMinute_end {c : Clock} (h : c.minute = 1439) (hd : c.day = 65535) : (stepMinute c).isSet = false := by
  rw [stepMinute, if_neg (by omega), if_neg (by omega)]
  rfl

/-- Before the load a minute step makes no evaluation (R109). -/
theorem minuteStep_unloaded {s : State} (h : s.store.loaded = false) : minuteStep s = minuteStepped s := by
  rw [minuteStep_eq, evaluateStep, if_neg (by simp [h])]

theorem minuteStep_loaded {s : State} (h : s.store.loaded = true) :
    minuteStep s = evaluate none (minuteCause s) .schedule (minuteStepped s) := by
  rw [minuteStep_eq, evaluateStep, if_pos (by simpa using h)]

/-- A minute step that leaves a VACANT room VACANT does nothing but the step (R121). -/
theorem minuteStep_vacant {s : State} (hs : s.room.current = none) (ht : (minuteStep s).room.current = none) :
    minuteStep s = minuteStepped s := by
  cases hl : s.store.loaded with
  | false => exact minuteStep_unloaded hl
  | true =>
    rw [minuteStep_loaded hl] at ht ⊢
    exact evaluate_still_vacant (by simpa using hs) ht

/-- What a second leaves where no evaluation has acted. -/
theorem clockTicks_quiet {s : State} (h : clockTicks s = minuteStep s → minuteStep s = minuteStepped s) :
    actionsKept s (clockTicks s) ∧ (clockTicks s).room.state = s.room.state ∧
      (clockTicks s).room.current = s.room.current := by
  rcases clockTicks_cases s with he | he | he
  · rw [he]
    exact ⟨⟨rfl, rfl, rfl, rfl, rfl⟩, rfl, rfl⟩
  · rw [he]
    exact ⟨⟨rfl, rfl, rfl, rfl, rfl⟩, rfl, rfl⟩
  · rw [he, h he]
    simp [actionsKept]

/-! ## The evaluation of a minute step, in the statement's words (R121) -/

/-- The state from which the statement sees the step's evaluation: the clock and the exceptions as the second left
them. -/
def secondSeen (s t : State) : State :=
  { s with room := { s.room with clock := t.room.clock, exceptions := t.room.exceptions } }

theorem minuteStepped_evalStart {s t : State} (hclock : t.room.clock = stepMinute s.room.clock)
    (hexc : t.room.exceptions = (minuteStepped (secondBegun s)).room.exceptions) :
    evalStart (secondSeen s t) (minuteStepped (secondBegun s)) := by
  have hframe := minuteStepped_frame (secondBegun s)
  obtain ⟨hquiet, hlamp, hpower, hlink, hrouter, hgeom, hlock, -, hinstall, hstore, -⟩ := hframe
  have hroom := minuteStepped_room (secondBegun s)
  refine ⟨hlamp, hpower, by rw [hlink]; rfl, hrouter, by rw [hgeom]; rfl, ?_, hlock, hinstall, hstore,
    subscription_of_quiet hquiet, minuteStepped_grown _⟩
  rw [hroom, secondSeen, hclock, hexc]
  rfl

theorem finish_evalEnd (w : State) : evalEnd w (finish w) := by
  simp [evalEnd]

end Sys2Proof.Machine
end

section
namespace Sys2Proof.Machine

/-! ## The occurrences that a jump passes (R130) -/

/-- `o` is passed by a jump from the minute `old` to the minute `new` (R130). -/
def passedBy (s : State) (old new : Nat) (o : Occurrence) : Prop :=
  ∃ b, liveBooking s o = some b ∧ s.room.taken[o.id] ≠ some o.day ∧ s.room.current ≠ some o ∧
    old < endOf b o.day ∧ endOf b o.day ≤ new

theorem mem_missedOn (s : State) (old new day : Nat) (o : Occurrence) :
    o ∈ missedOn s old new day ↔ o.day = day ∧ passedBy s old new o := by
  obtain ⟨id, d⟩ := o
  simp only [missedOn, List.mem_filterMap, List.mem_finRange, true_and]
  constructor
  · rintro ⟨i, hi⟩
    split at hi
    · next b hb =>
      split at hi
      · next hc =>
        cases hi
        simp only [Bool.and_eq_true, Bool.not_eq_true', bne_iff_ne, decide_eq_true_eq] at hc
        exact ⟨rfl, b, hb, isTaken_eq_false.mp hc.1.1.1, hc.1.1.2, hc.1.2, hc.2⟩
      · cases hi
    · cases hi
  · rintro ⟨rfl, b, hb, htaken, hcur, hold, hnew⟩
    refine ⟨id, ?_⟩
    rw [hb]
    simp [isTaken_eq_false.mpr htaken, hcur, hold, hnew]

/-- A jump's list holds what it passes, where the ends lie within their days (R113, R130). -/
theorem mem_missedBetween {s : State} (ht : timesInRange s) (old new : Nat) (o : Occurrence) :
    o ∈ missedBetween s old new ↔ old < new ∧ passedBy s old new o := by
  unfold missedBetween
  split
  · next hlt =>
    simp only [List.mem_flatMap, List.mem_range, mem_missedOn]
    refine ⟨fun ⟨i, _, _, h⟩ => ⟨hlt, h⟩, fun ⟨_, h⟩ => ⟨o.day - old / 1440, ?_⟩⟩
    have ⟨b, hb, _, _, hold, hnew⟩ := h
    obtain ⟨hs, hl, he, hlead⟩ := ht o.id b (liveBooking_eq_some.mp hb).1
    simp only [endOf, absolute] at hold hnew
    exact ⟨by omega, by omega, h⟩
  · next hge => simp [hge]

/-- The list goes through the days in order (R130). -/
theorem missedBetween_ordered (s : State) (old new : Nat) :
    (missedBetween s old new).Pairwise fun a b => a.day ≤ b.day := by
  unfold missedBetween
  split
  · rw [List.pairwise_flatMap]
    refine ⟨fun i _ => ?_, List.pairwise_lt_range.imp fun {i j} hij a ha b hb => ?_⟩
    · refine List.pairwise_of_forall_mem_list fun a ha b hb => ?_
      exact ((mem_missedOn _ _ _ _ a).mp ha).1.trans_le ((mem_missedOn _ _ _ _ b).mp hb).1.ge
    · have := ((mem_missedOn _ _ _ _ a).mp ha).1
      have := ((mem_missedOn _ _ _ _ b).mp hb).1
      omega
  · exact List.Pairwise.nil

/-! ## The marks that the missed occurrences leave (R130) -/

theorem missOccurrence_taken (origin : Origin) (s : State) (o : Occurrence) :
    (missOccurrence origin s o).room.taken = s.room.taken.set o.id (some o.day) := by
  simp [missOccurrence]

theorem missFold_untouched (origin : Origin) (s : State) (n : Fin 64) (l : List Occurrence) (h : ∀ o ∈ l, o.id ≠ n) :
    (l.foldl (missOccurrence origin) s).room.taken[n] = s.room.taken[n] := by
  induction l generalizing s with
  | nil => rfl
  | cons x r ih =>
    obtain ⟨hx, hr⟩ := List.forall_mem_cons.mp h
    rw [List.foldl_cons, ih _ hr, missOccurrence_taken]
    exact getElem_set_other _ _ _ _ hx.symm

/-- The last day of a slot in the list is the one marked (R130). -/
theorem missFold_marked (origin : Origin) (s : State) (n : Fin 64) (e : Nat) (l : List Occurrence)
    (hl : l.Pairwise fun a b => a.day ≤ b.day) (he : ⟨n, e⟩ ∈ l) (hmax : ∀ d, ⟨n, d⟩ ∈ l → d ≤ e) :
    (l.foldl (missOccurrence origin) s).room.taken[n] = some e := by
  induction l using List.reverseRecOn with
  | nil => cases he
  | append_singleton r x ih =>
    obtain ⟨hr, -, hlast⟩ := List.pairwise_append.mp hl
    rw [List.foldl_append, List.foldl_cons, List.foldl_nil, missOccurrence_taken]
    by_cases hx : x.id = n
    · subst hx
      have hle : x.day ≤ e := hmax x.day (by simp)
      have hge : e ≤ x.day := by
        rcases List.mem_append.mp he with h | h
        · exact hlast _ h x (by simp)
        · rw [← List.mem_singleton.mp h]
      simp [le_antisymm hle hge]
    · rw [getElem_set_other _ _ _ _ (Ne.symm hx)]
      refine ih hr ?_ fun d hd => hmax d (List.mem_append_left _ hd)
      rcases List.mem_append.mp he with h | h
      · exact h
      · exact absurd (congrArg Occurrence.id (List.mem_singleton.mp h)).symm hx

/-! ## What is told of them (R130) -/

theorem missOccurrence_told (p : Port) (s : State) (o : Occurrence) :
    told (some p) .occurrenceMissed (portOrigin p) (word o.id.val) (word o.day) s (missOccurrence (portOrigin p) s o) := by
  have h := postTo_told (originPort (portOrigin p)) .occurrenceMissed (portOrigin p) (word o.id.val) (word o.day)
    { s with room := { s.room with taken := s.room.taken.set o.id (some o.day) } }
  rw [originPort_portOrigin] at h
  refine told_since (grown_refl _) rfl rfl (told_later h ?_)
  rw [missOccurrence, postFor, originPort_portOrigin]
  exact grown_refl _

theorem missFold_told (p : Port) (s : State) (l : List Occurrence) {o : Occurrence} (ho : o ∈ l) :
    told (some p) .occurrenceMissed (portOrigin p) (word o.id.val) (word o.day) s
      (l.foldl (missOccurrence (portOrigin p)) s) := by
  induction l generalizing s with
  | nil => cases ho
  | cons x r ih =>
    rw [List.foldl_cons]
    rcases List.mem_cons.mp ho with rfl | ho
    · exact told_later (missOccurrence_told p s o) (by simp)
    · exact told_since (by simp) (by simp) (by simp) (ih _ ho)

end Sys2Proof.Machine
end

section
namespace Sys2Proof.Machine

/-! ## A jump of the clock (R110, R130) -/

/-- The clock set and the exceptions pruned (R110, R111). -/
def jumpPruned (c : Clock) (s : State) : State := pruneExceptions { s with room := { s.room with clock := c } }

/-- The occurrences that a jump passes, none from an UNSET clock (R130). -/
def jumpMissed (c : Clock) (s : State) : List Occurrence :=
  if s.room.clock.isSet then missedBetween (jumpPruned c s) (nowMinute s) (nowMinute (jumpPruned c s)) else []

/-- The state that a jump hands to its evaluation (R130). -/
def jumped (c : Clock) (origin : Origin) (s : State) : State :=
  (jumpMissed c s).foldl (missOccurrence origin) (jumpPruned c s)

theorem jumpClock_eq (c : Clock) (origin : Origin) (s : State) :
    jumpClock c origin s = evaluate none .jump origin (jumped c origin s) := rfl

section
variable (c : Clock) (origin : Origin) (s : State)

@[simp] theorem jumpPruned_frame : quietPorts (jumpPruned c s).ports = quietPorts s.ports ∧
    (jumpPruned c s).lamp = s.lamp ∧ (jumpPruned c s).power = s.power ∧ (jumpPruned c s).link = s.link ∧
    (jumpPruned c s).router = s.router ∧ (jumpPruned c s).geometry = s.geometry ∧
    (jumpPruned c s).lockout = s.lockout ∧ (jumpPruned c s).store.install = s.store.install ∧
    (jumpPruned c s).store.room = s.store.room ∧ (jumpPruned c s).room.clock = c ∧
    (jumpPruned c s).room.bookings = s.room.bookings ∧ (jumpPruned c s).room.taken = s.room.taken ∧
    (jumpPruned c s).room.current = s.room.current := by
  simp [jumpPruned]

theorem jumpPruned_grown : grown s.ports (jumpPruned c s).ports := by
  simp [jumpPruned]

theorem mem_jumpPruned (o : Occurrence) :
    o ∈ (jumpPruned c s).room.exceptions ↔ o ∈ s.room.exceptions ∧ c.day ≤ o.day := mem_pruneExceptions _ o

@[simp] theorem jumped_frame : quietPorts (jumped c origin s).ports = quietPorts s.ports ∧
    (jumped c origin s).lamp = s.lamp ∧ (jumped c origin s).power = s.power ∧ (jumped c origin s).link = s.link ∧
    (jumped c origin s).router = s.router ∧ (jumped c origin s).geometry = s.geometry ∧
    (jumped c origin s).lockout = s.lockout ∧ (jumped c origin s).store.install = s.store.install ∧
    (jumped c origin s).store.room = s.store.room ∧ (jumped c origin s).room.clock = c ∧
    (jumped c origin s).room.bookings = s.room.bookings ∧
    (jumped c origin s).room.exceptions = (jumpPruned c s).room.exceptions := by
  simp [jumped]

theorem jumped_grown : grown s.ports (jumped c origin s).ports := by
  simp [jumped, jumpPruned]

theorem jumped_room : (jumped c origin s).room = { s.room with
    clock := c, exceptions := (jumpPruned c s).room.exceptions, taken := (jumped c origin s).room.taken } := by
  simp [RoomUnit.eq_iff, jumped, jumpPruned]

theorem jumpClock_standing : standingKept s (jumpClock c origin s) := by
  simp [standingKept, StoreUnit.eq_iff]

end

/-- An occurrence that the statement has a jump from `s` to `u` miss (R130). -/
def missedSeen (s u : State) (o : Occurrence) : Prop :=
  s.room.clock.isSet = true ∧ nowMinute s < nowMinute u ∧ s.room.current ≠ some o ∧ s.room.taken[o.id] ≠ some o.day ∧
    ∃ b, occurs u o b ∧ nowMinute s < endOf b o.day ∧ endOf b o.day ≤ nowMinute u

/-- The statement's missed occurrences are those of the jump's list (R130). -/
theorem mem_jumpMissed {c : Clock} {s u : State} (ht : timesInRange s) (hclock : u.room.clock = c)
    (hbook : u.room.bookings = s.room.bookings) (hexc : u.room.exceptions = (jumpPruned c s).room.exceptions)
    (o : Occurrence) : o ∈ jumpMissed c s ↔ missedSeen s u o := by
  have htimes : timesInRange (jumpPruned c s) := fun n b hb => ht n b (by simpa using hb)
  have hnow : nowMinute (jumpPruned c s) = nowMinute u := by simp [nowMinute, hclock]
  have hlive (b : Booking) : liveBooking (jumpPruned c s) o = some b ↔ occurs u o b := by
    have hpruned : (jumpPruned c s).room.bookings = s.room.bookings := by simp
    rw [liveBooking_eq_some, occurs, hbook, hexc, hpruned]
  unfold jumpMissed missedSeen
  split
  · next hset =>
    simp only [mem_missedBetween htimes, passedBy, hlive, hnow, hset, jumpPruned_frame, true_and]
    refine and_congr_right fun _ => ⟨?_, ?_⟩
    · rintro ⟨b, hb, htaken, hcur, hends⟩
      exact ⟨hcur, htaken, b, hb, hends⟩
    · rintro ⟨hcur, htaken, b, hb, hends⟩
      exact ⟨b, hb, htaken, hcur, hends⟩
  · next hset => simp [hset]

/-- The marks that the statement reads off the missed occurrences are those that the jump sets (R130). -/
theorem jumped_taken {c : Clock} {origin : Origin} {s : State} {marks : Vector (Option Nat) 64}
    (hmissed : ∀ n d, ⟨n, d⟩ ∈ jumpMissed c s → ∃ e, d ≤ e ∧ ⟨n, e⟩ ∈ jumpMissed c s ∧ marks[n] = some e)
    (hother : ∀ n : Fin 64, (∀ d, ⟨n, d⟩ ∉ jumpMissed c s) → marks[n] = s.room.taken[n]) :
    (jumped c origin s).room.taken = marks := by
  have hordered : (jumpMissed c s).Pairwise fun a b => a.day ≤ b.day := by
    unfold jumpMissed
    split
    · exact missedBetween_ordered _ _ _
    · exact List.Pairwise.nil
  have hslot (n : Fin 64) : (jumped c origin s).room.taken[n] = marks[n] := by
    by_cases hn : ∃ d, ⟨n, d⟩ ∈ jumpMissed c s
    · obtain ⟨d, hd⟩ := hn
      obtain ⟨e, -, he, hmark⟩ := hmissed n d hd
      rw [hmark]
      refine missFold_marked origin _ n e _ hordered he fun d' hd' => ?_
      obtain ⟨e', hle, -, hmark'⟩ := hmissed n d' hd'
      exact Option.some.inj (hmark.symm.trans hmark') ▸ hle
    · rw [hother n fun d hd => hn ⟨d, hd⟩]
      have hpruned : (jumpPruned c s).room.taken = s.room.taken := by simp
      refine (missFold_untouched origin _ n _ ?_).trans (by rw [hpruned])
      rintro ⟨i, d⟩ hi rfl
      exact hn ⟨d, hi⟩
  exact Vector.ext fun i hi => hslot ⟨i, hi⟩

/-- In an empty table nothing may be entered, and nothing is missed (R121, R130). -/
theorem jumpClock_empty {c : Clock} {origin : Origin} {s : State} (hcur : s.room.current = none)
    (hbook : ∀ n : Fin 64, s.room.bookings[n] = none) (hexc : s.room.exceptions = []) :
    jumpClock c origin s = { s with room := { s.room with clock := c } } := by
  have hpruned : jumpPruned c s = { s with room := { s.room with clock := c } } := pruneExceptions_of_nil hexc
  have hnone : jumpMissed c s = [] := by
    refine List.eq_nil_iff_forall_not_mem.mpr fun o ho => ?_
    unfold jumpMissed missedBetween at ho
    split at ho
    · split at ho
      · obtain ⟨i, -, hi⟩ := List.mem_flatMap.mp ho
        obtain ⟨-, b, hb, -⟩ := (mem_missedOn _ _ _ _ o).mp hi
        have hb := (liveBooking_eq_some.mp hb).1
        rw [hpruned] at hb
        exact absurd (hb.symm.trans (hbook o.id)) (by simp)
      · cases ho
    · cases ho
  have hjumped : jumped c origin s = { s with room := { s.room with clock := c } } := by
    rw [jumped, hnone, hpruned]
    rfl
  have hcand : candidate { s with room := { s.room with clock := c } } = none := by
    by_contra hne
    obtain ⟨z, hz⟩ := Option.ne_none_iff_exists'.mp hne
    have hb := (liveBooking_eq_some.mp (leastOccurrence_live hz).1).1
    exact absurd (hb.symm.trans (hbook z.1.id)) (by simp)
  rw [jumpClock_eq, hjumped]
  exact evaluate_idle none .jump origin hcur hcand

end Sys2Proof.Machine
end

section
namespace Sys2Proof.Machine

/-! ## SET CLOCK (R110) -/

theorem ownSetClock_beyond {p : Port} {ps : List Word} {s : State} (h : 1439 < numAt ps 1 ∨ 59 < numAt ps 2) :
    ownSetClock p ps s = refuse .outOfRange s := if_pos (by simpa using h)

theorem ownSetClock_within {p : Port} {ps : List Word} {s : State} (hm : numAt ps 1 ≤ 1439) (hs : numAt ps 2 ≤ 59) :
    ownSetClock p ps s = accept (doneWith (clockWords s.room.clock))
      (jumpClock { day := numAt ps 0, minute := numAt ps 1, second := numAt ps 2, isSet := true } (portOrigin p) s) :=
  if_neg (by simp; omega)

theorem begun_subscription (p : Port) (f : Frame) (s : State) (r : Port) :
    (portOf (begun p f s) r).subscription = (portOf s r).subscription := by
  by_cases hr : r = p
  · subst hr
    simp [portOf_begun]
  · simp [begun, beginFrame, portOf_setPort_other _ _ _ _ hr]

/-- The state from which the statement sees a jump's evaluation: the clock set, the exceptions as they are left, and the
missed occurrences marked (R130). -/
def jumpSeen (c : Clock) (marks : Vector (Option Nat) 64) (s t : State) : State :=
  { s with room := { s.room with clock := c, exceptions := t.room.exceptions, taken := marks } }

section
variable {c : Clock} {marks : Vector (Option Nat) 64} {p : Port} {f : Frame} {s t : State}

theorem jumped_evalStart (hexc : t.room.exceptions = (jumpPruned c (begun p f s)).room.exceptions)
    (hmarks : (jumped c (portOrigin p) (begun p f s)).room.taken = marks) :
    evalStart (jumpSeen c marks s t) (jumped c (portOrigin p) (begun p f s)) := by
  have hroom := jumped_room c (portOrigin p) (begun p f s)
  refine ⟨by simp [jumpSeen], by simp [jumpSeen], by simp [jumpSeen], by simp [jumpSeen], by simp [jumpSeen], ?_,
    by simp [jumpSeen], by simp [jumpSeen], by simp [jumpSeen], fun r => ?_, ?_⟩
  · rw [hroom, hmarks, jumpSeen, hexc]
    rfl
  · exact (subscription_of_quiet (by simp) r).trans (begun_subscription p f s r)
  · exact grown_trans (begun_grown p f s) (jumped_grown _ _ _)

theorem after_evalEnd (c : Command) (p : Port) (a : Answer) (w : State) : evalEnd w (after c p a (finish w)) := by
  simp [evalEnd]

end

/-- What the missed occurrences of a SET CLOCK lead to, in the statement's words: each told of, and the evaluation made
(R121, R130). -/
theorem setClock_evaluated {c : Clock} {marks : Vector (Option Nat) 64} {p : Port} {f : Frame} {s t : State} {a : Answer}
    (hday : c.minute ≤ 1439) (ht : t = after .setClock p a (finish (jumpClock c (portOrigin p) (begun p f s))))
    (htimes : timesInRange s)
    (hmissed : ∀ n d, missedSeen s (jumpSeen c marks s t) ⟨n, d⟩ →
      ∃ e, d ≤ e ∧ missedSeen s (jumpSeen c marks s t) ⟨n, e⟩ ∧ marks[n] = some e)
    (hother : ∀ n : Fin 64, (∀ d, ¬ missedSeen s (jumpSeen c marks s t) ⟨n, d⟩) → marks[n] = s.room.taken[n]) :
    (∀ o, missedSeen s (jumpSeen c marks s t) o → told (some p) .occurrenceMissed (portOrigin p) (word o.id.val)
      (word o.day) (jumpSeen c marks s t) t) ∧ evaluated .jump (portOrigin p) (jumpSeen c marks s t) t := by
  have hexc : t.room.exceptions = (jumpPruned c (begun p f s)).room.exceptions := by
    rw [ht]
    simp [jumpClock_eq]
  have hlist (o : Occurrence) : o ∈ jumpMissed c (begun p f s) ↔ missedSeen s (jumpSeen c marks s t) o :=
    mem_jumpMissed (s := begun p f s) (u := jumpSeen c marks s t) htimes rfl rfl hexc o
  simp only [← hlist] at hmissed hother ⊢
  have hstart := jumped_evalStart (t := t) hexc (jumped_taken (origin := portOrigin p) hmissed hother)
  have hend : evalEnd (evaluate none .jump (portOrigin p) (jumped c (portOrigin p) (begun p f s))) t := by
    rw [ht]
    exact after_evalEnd _ _ _ _
  refine ⟨fun o ho => ?_, evaluated_across hstart hend (evaluate_evaluated ?_ ?_)⟩
  · have htold := missFold_told p (jumpPruned c (begun p f s)) (jumpMissed c (begun p f s)) ho
    have hpruned : grown s.ports (jumpPruned c (begun p f s)).ports :=
      grown_trans (begun_grown p f s) (jumpPruned_grown _ _)
    refine told_later (told_earlier hpruned (fun r => ?_) (by simp [jumpSeen]) htold) ?_
    · exact (subscription_of_quiet (by simp) r).trans (begun_subscription p f s r)
    · rw [ht, jumpClock_eq]
      exact grown_trans (b := (evaluate none .jump (portOrigin p) (jumped c (portOrigin p) (begun p f s))).ports)
        (evaluate_grown _ _ _ _ _ (grown_refl _)) (by simp)
  · simpa [clockInDay] using hday
  · exact fun n b hb => htimes n b (by simpa using hb)

/-- The clock and the exceptions after a second that steps the minute (R109, R111). -/
theorem clockSecond_stepped {s t : State} (ht : t = finish (clockTicks (secondBegun s)))
    (hset : s.room.clock.isSet = true) (hsec : s.room.clock.second = 59) :
    t.room.clock = stepMinute s.room.clock ∧ t.room.exceptions = (minuteStepped (secondBegun s)).room.exceptions := by
  rw [ht, clockTicks_second (by exact hset) (by exact hsec.ge)]
  simp [secondBegun]

/-- A minute step after the load makes the evaluation of the statement (R109, R121). -/
theorem clockSecond_evaluated {s t : State} (hset : s.room.clock.isSet = true) (hsec : s.room.clock.second = 59)
    (ht : t = finish (clockTicks (secondBegun s))) :
    (t.room.clock.isSet = false → ∃ x y, told none .clockNeeded .auto x y (secondSeen s t) t) ∧
      (s.store.loaded = true → timesInRange s →
        evaluated (if t.room.clock.isSet then .time else .unset) .schedule (secondSeen s t) t) := by
  obtain ⟨hclock, hexc⟩ := clockSecond_stepped ht hset hsec
  rw [show clockTicks (secondBegun s) = minuteStep (secondBegun s) from clockTicks_second hset hsec.ge] at ht
  refine ⟨fun hlost => ?_, fun hl htimes => ?_⟩
  · obtain ⟨x, y, htold⟩ := minuteStepped_told (s := secondBegun s) (hclock ▸ hlost)
    have hseen : told none .clockNeeded .auto x y (secondSeen s t) (minuteStepped (secondBegun s)) := by
      refine told_earlier ?_ ?_ ?_ htold
      · exact grown_refl s.ports
      · exact fun _ => rfl
      · exact hclock.symm
    refine ⟨x, y, told_later hseen ?_⟩
    rw [ht, minuteStep_eq]
    simp
  · have hcause : (if t.room.clock.isSet then RoomCause.time else .unset) = minuteCause (secondBegun s) := by
      rw [hclock]
      rfl
    rw [hcause]
    refine evaluated_across (minuteStepped_evalStart hclock hexc) ?_ (evaluate_evaluated (held := none) ?_ ?_)
    · rw [ht, minuteStep_loaded (by exact hl)]
      exact finish_evalEnd _
    · simpa [clockInDay] using stepMinute_inDay _
    · exact fun n b hb => htimes n b (by simpa [secondBegun] using hb)

/-- A second in which no evaluation acts leaves five blocks, the room state and the current occurrence (R109). -/
theorem clockSecond_quiet {s t : State} (ht : t = finish (clockTicks (secondBegun s)))
    (h : clockTicks (secondBegun s) = minuteStep (secondBegun s) →
      minuteStep (secondBegun s) = minuteStepped (secondBegun s)) :
    actionsKept s t ∧ t.room.state = s.room.state ∧ t.room.current = s.room.current := by
  obtain ⟨⟨hlamp, hpower, hrouter, hgeom, hlock⟩, hstate, hcur⟩ := clockTicks_quiet h
  rw [ht]
  simp only [actionsKept, finish_frame, hlamp, hpower, hrouter, hgeom, hlock, hstate, hcur]
  exact ⟨⟨rfl, rfl, rfl, rfl, rfl⟩, rfl, rfl⟩

/-- Settles O49: the second by its three cases, and SET CLOCK by the jump that it makes. -/
theorem clockIsAdvancedAndSet : Obligations.ClockIsAdvancedAndSet := by
  unfold Obligations.ClockIsAdvancedAndSet
  refine ⟨fun s => ⟨_, exec_clockSecond s, ?_⟩, fun p f q s h => ?_⟩
  · intro k
    have hfinish : (finish (clockTicks (secondBegun s))).room = (clockTicks (secondBegun s)).room := by simp
    have hstepped := clockSecond_stepped (s := s) rfl
    refine ⟨fun hset => ?_, fun hset hsec => ?_, fun hset hsec hm => ?_, fun hset hsec hm hd => ⟨?_, fun o => ?_⟩,
      fun hset hsec hm hd => ?_, fun hl => ?_, fun hs ht => ?_, by simp [standingKept, StoreUnit.eq_iff, secondBegun],
      by simp [secondBegun], by simp [contexts, secondBegun], fun hset hsec => clockSecond_evaluated hset hsec rfl⟩
    · rw [hfinish, clockTicks_unset (by exact hset)]
      rfl
    · rw [hfinish, clockTicks_below (by exact hset) (by exact hsec)]
      rfl
    · exact (hstepped hset hsec).1.trans (stepMinute_minute hm)
    · exact (hstepped hset hsec).1.trans (stepMinute_day hm hd)
    · have hstep : stepMinute (secondBegun s).room.clock = _ := stepMinute_day hm hd
      rw [(hstepped hset hsec).2, minuteStepped_pruned (by rw [hstep]; exact hset) (by rw [hstep]; exact Nat.lt_succ_self _),
        hstep]
      rfl
    · rw [(hstepped hset hsec).1]
      exact stepMinute_end hm hd
    · obtain ⟨⟨-, hpower, hrouter, hgeom, -⟩, hstate, hcur⟩ := clockSecond_quiet (s := s) rfl
        fun _ => minuteStep_unloaded hl
      exact ⟨hstate, hcur, hpower, hrouter, hgeom⟩
    · exact (clockSecond_quiet rfl fun he => minuteStep_vacant hs (by rw [← he, ← hfinish]; exact ht)).1
  · intro ps c
    refine ⟨fun hbad => congrArg Host.Outcome.next (request_answered h (ownSetClock_beyond hbad)), fun hm hsec => ?_⟩
    have hown := ownSetClock_within (p := p) (s := begun p f s) hm hsec
    refine ⟨_, congrArg Host.Outcome.next (request_accepted h rfl hown), by simp [jumpClock_eq, c, ps], ?_, fun o => ?_,
      by simp, ?_, fun hcur hbook hexc => ?_, fun marks => ?_⟩
    · exact answered_of _ _ _ _ _ _ (by simp)
    · refine Iff.trans ?_ (mem_jumpPruned c (begun p f s) o)
      simp [jumpClock_eq, c, ps]
    · exact standingKept_trans (by simp [standingKept]) (standingKept_trans
        (jumpClock_standing c (portOrigin p) (begun p f s)) (by simp [standingKept, StoreUnit.eq_iff, c, ps]))
    · have he : jumpClock c (portOrigin p) (begun p f s) = _ := jumpClock_empty hcur hbook hexc
      rw [he]
      simp
    · intro u missed htimes
      exact setClock_evaluated hm rfl htimes

end Sys2Proof.Machine
end
section
namespace Sys2Proof.Machine

/-! ## What a request keeps (R168) -/

/-- What neither a port's replacement nor the owning block's effect changes, a request keeps (R165, R168). -/
theorem request_keeps {α : Type} (g : State → α) {c : Command} {p : Port} {f : Frame}
    {own : Qualifier → List Word → State → Answer × State} {s : State} (hport : ∀ u r x, g (setPort u r x) = g u)
    (hown : ∀ q, taken c p f q s → g (own q (f.words.drop 1) (begun p f s)).2 = g (begun p f s)) :
    g (request c p f own s) = g s := by
  rcases request_cases c p f own s with ⟨-, e⟩ | ⟨-, a, -, e⟩ | ⟨q, hq, e⟩
  · rw [e]
    exact hport _ _ _
  · rw [e]
    exact (hport _ _ _).trans (hport _ _ _)
  · rw [e]
    exact (hport _ _ _).trans ((hown q hq).trans (hport _ _ _))

/-! ## The operating mode (R141, R179 to R181) -/

/-- A timer's row is no hard reset (log entry 10). -/
theorem dueRow_ne_hardReset {s : State} {i : Instr} {m : OperatingMode} (h : dueRow s = some i) :
    i ≠ .hardReset m := by
  rintro rfl
  rcases Option.or_eq_some_iff.mp h with h | ⟨-, h⟩
  · obtain ⟨⟨b, i⟩, hfind, rfl : i = _⟩ := Option.map_eq_some_iff.mp h
    have hmem := List.mem_of_find?_eq_some hfind
    simp [dueRows] at hmem
  · rcases Option.or_eq_some_iff.mp h with h | ⟨-, h⟩
    · simp [dueInput] at h
    · unfold dueEngine at h
      split at h <;> simp at h

/-- A hard reset and LEAVE COMMISSION, the commands that may change the operating mode (R141, R179, R180). -/
def changesMode : Instr → Bool
  | .hardReset _ | .leaveCommission _ _ => true
  | _ => false

/-- Every other command keeps the operating mode, RESTART too (R141, R181). -/
theorem exec_mode {c : Instr} {s t : State} (hc : changesMode c = false) (h : exec c s = .next t) :
    t.lockout.mode = s.lockout.mode := by
  have of_next {v : State} (hv : exec c s = .next v) (hk : v.lockout.mode = s.lockout.mode) :
      t.lockout.mode = s.lockout.mode := Host.Outcome.next.inj (hv.symm.trans h) ▸ hk
  cases c
  case hardReset | leaveCommission => exact absurd hc (by simp [changesMode])
  case restart =>
    refine of_next rfl ?_
    unfold takeRestart
    repeat' split
    · simp
    · simp
    · rfl
  case loadCompletion | presenceLineChange | ack | report | strikeResult | format | invalidHeadMessage
      | headMessageSent | answerTimerExpiry | silenceTimerExpiry | reportWaitExpiry | hotWindowExpiry | clockSecond
      | writeCompletion | wipeCompletion | windowTimerExpiry => exact of_next rfl (by simp)
  case stabilityTimerExpiry | firstPresenceSample | strikeResultTimeout | restrikePauseExpiry | warmingEnd | coolingEnd
      | blankDimExpiry | noSignalTimerExpiry | burnSecond | settleTimerExpiry | selectWhileTaking
      | unknownCommandFrame | responseReady | frameDiscarded =>
    refine of_next rfl ?_
    repeat' split
    all_goals simp
  case readWordPeriod =>
    refine of_next rfl ?_
    unfold readPeriod
    dsimp only
    repeat' split
    all_goals simp
  -- The other rows of the ports: the block leaves the mode.
  all_goals exact of_next rfl (request_keeps (·.lockout.mode) (fun _ _ _ => rfl) fun q _ => by simp)

/-- LEAVE COMMISSION gives NORMAL alone (R180). -/
theorem ownLeaveCommission_normal (s : State) (h : s.lockout.mode = .normal) :
    (ownLeaveCommission s).2.lockout.mode = .normal := by
  simp [ownLeaveCommission, h, refuse]

/-- Every command but a hard reset with the strap at COMMISSION keeps NORMAL (R179 to R181). -/
theorem exec_normal {c : Instr} {s t : State} (hc : c ≠ .hardReset .commission) (hs : s.lockout.mode = .normal)
    (h : exec c s = .next t) : t.lockout.mode = .normal := by
  by_cases hm : changesMode c = false
  · rw [exec_mode hm h, hs]
  · cases c
    case hardReset strap =>
      obtain rfl := Host.Outcome.next.inj h
      cases strap
      · rfl
      · exact absurd rfl hc
    case leaveCommission p f =>
      obtain rfl := Host.Outcome.next.inj h
      refine (request_keeps (·.lockout.mode) (fun _ _ _ => rfl) fun q _ => ?_).trans hs
      exact (ownLeaveCommission_normal (begun p f s) hs).trans hs.symm
    all_goals exact absurd rfl hm

/-- Settles O9: a step is the front command, a timer's row, which is no hard reset, or a millisecond. -/
theorem commissionOnlyFromTheStrap : Obligations.CommissionOnlyFromTheStrap := by
  unfold Obligations.CommissionOnlyFromTheStrap
  intro s t hs hstrap h
  unfold step at h
  split at h
  · next c rest hp =>
    have hc : c ≠ .hardReset .commission := fun hc => hstrap (by rw [hp, hc]; rfl)
    exact exec_normal hc (by exact hs) h
  · unfold timePasses at h
    split at h
    · next i hi => exact exec_normal (dueRow_ne_hardReset hi) hs h
    · exact Host.Outcome.next.inj h ▸ hs

end Sys2Proof.Machine
end

section
namespace Sys2Proof.Machine

/-! ## The permission decision (R143) -/

/-- The decision of the rows, where the bar on STANDING scope does not stand (R143). -/
theorem permission_eq (s : State) (p : Port) (c : CommandClass) (x : Scope) (h : p ≠ .lectern ∨ x = .momentary) :
    permission s p c x = permissionRows s p c := by
  unfold permission
  rw [if_neg]
  rcases h with h | rfl <;> simp [*]

/-- A LECTERN request with STANDING scope is barred (R143). -/
theorem permission_lectern_standing (s : State) (c : CommandClass) :
    permission s .lectern c .standing = some .notPermitted := rfl

/-- Neither LOCKOUT nor SERVICE-ONLY is the LECTERN's (R143). -/
theorem permission_lectern_barred (s : State) {c : CommandClass} (x : Scope) (h : c = .lockout ∨ c = .serviceOnly) :
    permission s .lectern c x = some .notPermitted := by
  rcases h with rfl | rfl <;> cases x <;> rfl

/-- SERVICE has every class in COMMISSION and while enabled (R143). -/
theorem permission_service (s : State) {c : CommandClass} (x : Scope) (h : c ≠ .openClass) :
    permission s .service c x =
      if s.lockout.mode = .commission ∨ s.lockout.serviceEnabled = true then none else some .serviceDisabled := by
  rw [permission_eq _ _ _ _ (.inl (by simp))]
  cases c
  case openClass => exact absurd rfl h
  all_goals simp [permissionRows]

/-- The six classes that the profiles speak of (R135, R143). -/
def ordinaryClass (c : CommandClass) : Prop := c ≠ .openClass ∧ c ≠ .lockout ∧ c ≠ .serviceOnly

/-- In the six classes FACILITY is permitted in COMMISSION, and else by the profiles (R143). -/
theorem permission_facility (s : State) {c : CommandClass} (x : Scope) (h : ordinaryClass c) :
    permission s .facility c x =
      if s.lockout.mode = .commission ∨ profilesPermit s c .facility = true then none else some .notPermitted := by
  obtain ⟨ho, hl, hs⟩ := h
  rw [permission_eq _ _ _ _ (.inl (by simp))]
  by_cases hm : s.lockout.mode = .commission <;> cases c <;> simp_all [permissionRows]

/-- In the six classes LECTERN is permitted by the profiles (R143). -/
theorem permission_lectern (s : State) {c : CommandClass} (h : ordinaryClass c) :
    permission s .lectern c .momentary = if profilesPermit s c .lectern = true then none else some .notPermitted := by
  obtain ⟨ho, hl, hs⟩ := h
  rw [permission_eq _ _ _ _ (.inr rfl)]
  cases c <;> simp_all [permissionRows]

/-- The profiles permit a role that the active one and the override, when present, both permit (R143). -/
theorem profilesPermit_iff {s : State} {a : ActiveProfile} (h : s.lockout.active = some a) (c : CommandClass)
    (p : Port) : profilesPermit s c p = true ↔ profilePermits s.lockout.profiles[a.number] c p = true ∧
      ∀ e, s.lockout.effective = some e → profilePermits s.lockout.profiles[e.profile] c p = true := by
  unfold profilesPermit
  rw [h]
  cases s.lockout.effective <;> simp

/-- With no profile active the profiles permit nothing (R143). -/
theorem profilesPermit_inactive {s : State} (h : s.lockout.active = none) (c : CommandClass) (p : Port) :
    profilesPermit s c p = false := by
  simp [profilesPermit, h]

/-- A decision on a condition permits where the condition holds. -/
theorem decision_eq_none_iff (b : Prop) [Decidable b] (r : Reason) : (if b then none else some r) = none ↔ b := by
  split <;> simp [*]

/-- Settles O53, class by class. -/
theorem permissionDecision : Obligations.PermissionDecision := by
  unfold Obligations.PermissionDecision
  refine ⟨fun s c x ha hd ho hl hs => ?_, fun s c x a ha => ⟨rfl, ?_, permission_service s x, ?_, ?_, fun hord => ?_⟩⟩
  · have hord : ordinaryClass c := ⟨ho, hl, hs⟩
    refine ⟨?_, ?_, ?_⟩
    · cases x
      · rw [permission_lectern s hord, profilesPermit_inactive ha]
        rfl
      · rfl
    · simp [permission_facility s x hord, profilesPermit_inactive ha]
    · simp [permission_service s x ho, hd]
  · rintro rfl
    exact ⟨rfl, rfl, rfl⟩
  · rintro rfl
    exact ⟨rfl, rfl⟩
  · rintro rfl
    exact ⟨rfl, rfl⟩
  · rw [permission_lectern s hord, permission_facility s x hord]
    exact ⟨(decision_eq_none_iff _ _).trans (profilesPermit_iff ha c .lectern),
      (decision_eq_none_iff _ _).trans (or_congr_right (profilesPermit_iff ha c .facility)),
      ite_eq_or_eq _ _ _, ite_eq_or_eq _ _ _⟩

end Sys2Proof.Machine
end

section
namespace Sys2Proof.Machine

/-! ## What a LECTERN request can be (R143, R169) -/

/-- A request taken has passed the checks of its qualifier and the permission decision (R168). -/
theorem taken_checks {c : Command} {p : Port} {f : Frame} {q : Qualifier} {s : State} (h : taken c p f q s) :
    qualify c (portOf s p) (itemAt f.words 0) (f.words.drop 1) = .ok q ∧
      permission s p (commandClass c) q.scope = none := by
  obtain ⟨-, h⟩ := h
  unfold admission at h
  split at h
  · cases h
  · split at h
    · cases h
    · next r hr =>
      split at h
      · cases h
      · next hp =>
        split at h
        · cases h
        · split at h
          · cases h
          · obtain rfl := Except.ok.inj h
            exact ⟨hr, hp⟩

/-- A command that takes STANDING scope only is found legal with it alone (R169, check 3). -/
theorem qualify_standing {c : Command} {x : PortState} {w : Word} {ps : List Word} {q : Qualifier}
    (hc : standingOnly c = true) (h : qualify c x w ps = .ok q) : q.scope = .standing := by
  unfold qualify at h
  dsimp only at h
  repeat' split at h
  case isFalse.isFalse.isFalse.isFalse.isFalse.isFalse.isFalse hm _ _ _ _ =>
    obtain rfl := Except.ok.inj h
    rw [hc, Bool.true_and, decide_eq_true_eq] at hm
    generalize effectiveScope x _ = scope at hm ⊢
    cases scope
    · exact absurd rfl hm
    · rfl
  all_goals cases h

section
variable {c : Command} {f : Frame} {q : Qualifier} {s : State} (h : taken c .lectern f q s)
include h

/-- A LECTERN request is taken with MOMENTARY scope alone (R143). -/
theorem lectern_momentary : q.scope = .momentary := by
  obtain ⟨-, hp⟩ := taken_checks h
  cases hq : q.scope
  · rfl
  · rw [hq, permission_lectern_standing] at hp
    cases hp

/-- No command that takes STANDING scope only is taken from LECTERN (R143, R169). -/
theorem lectern_not_standingOnly : standingOnly c = false := by
  refine Bool.eq_false_of_not_eq_true fun hc => ?_
  have hq := qualify_standing hc (taken_checks h).1
  rw [lectern_momentary h] at hq
  cases hq

/-- No command of LOCKOUT or SERVICE-ONLY is taken from LECTERN (R143). -/
theorem lectern_class : ¬ (commandClass c = .lockout ∨ commandClass c = .serviceOnly) := by
  intro hc
  obtain ⟨-, hp⟩ := taken_checks h
  rw [permission_lectern_barred s q.scope hc] at hp
  cases hp

end

/-! ## Every LECTERN request -/

/-- The standing records of a block, with the service enable flag and the operating mode: what STANDING scope and the
classes LOCKOUT and SERVICE-ONLY may change (R143, R155). -/
def standingRecords (s : State) : InstallRecord × RoomDefaults × Vector SourceEntry 8 × Vector Preset 16 ×
    Vector Profile 8 × Bool × OperatingMode :=
  (s.store.install, s.store.room, s.router.sources, s.geometry.presets, s.lockout.profiles, s.lockout.serviceEnabled,
    s.lockout.mode)

theorem standingRecords_eq_iff (s t : State) : standingRecords t = standingRecords s ↔
    t.store.install = s.store.install ∧ t.store.room = s.store.room ∧ t.router.sources = s.router.sources ∧
      t.geometry.presets = s.geometry.presets ∧ t.lockout.profiles = s.lockout.profiles ∧
      t.lockout.serviceEnabled = s.lockout.serviceEnabled ∧ t.lockout.mode = s.lockout.mode := by
  simp only [standingRecords, Prod.mk.injEq]

/-! ### The MOMENTARY scope leaves them (R45, R79, R101 to R104) -/

section
variable (p : Port) {q : Qualifier} (ps : List Word) (s : State) (hq : q.scope = .momentary)
include hq

theorem ownSetLampMode_standingRecords : standingRecords (ownSetLampMode p q ps s).2 = standingRecords s := by
  rw [standingRecords_eq_iff]
  cases hitem : lampModeItem ps <;> simp [ownSetLampMode, hitem, hq, refuse, setMomentaryMode]

theorem ownSelectSource_standingRecords : standingRecords (ownSelectSource p q ps s).2 = standingRecords s := by
  rw [standingRecords_eq_iff]
  simp only [ownSelectSource, hq]
  split <;> simp [refuse]

theorem ownLoadPreset_standingRecords : standingRecords (ownLoadPreset p q ps s).2 = standingRecords s := by
  rw [standingRecords_eq_iff]
  cases hitem : presetItem ps <;> simp [ownLoadPreset, hitem, hq, refuse, setMomentaryPreset]

theorem ownSetKeystone_standingRecords : standingRecords (ownSetKeystone p q ps s).2 = standingRecords s := by
  rw [standingRecords_eq_iff]
  simp only [ownSetKeystone, hq]
  split <;> simp [refuse]

theorem ownNudgeKeystone_standingRecords : standingRecords (ownNudgeKeystone p q ps s).2 = standingRecords s := by
  rw [standingRecords_eq_iff]
  simp only [ownNudgeKeystone, hq]
  split <;> simp [refuse]

theorem ownSetCorner_standingRecords : standingRecords (ownSetCorner p q ps s).2 = standingRecords s := by
  rw [standingRecords_eq_iff]
  simp only [ownSetCorner, hq]
  split <;> simp [refuse]

theorem ownSetAspect_standingRecords : standingRecords (ownSetAspect p q ps s).2 = standingRecords s := by
  rw [standingRecords_eq_iff]
  simp only [ownSetAspect, hq]
  split <;> simp [refuse]

end

/-! ### The requests -/

/-- A LECTERN request keeps the standing records that its owning block keeps. -/
theorem request_lectern_keeps {c : Command} {f : Frame} {own : Qualifier → List Word → State → Answer × State}
    {s : State} (hown : ∀ q, taken c .lectern f q s →
      standingRecords (own q (f.words.drop 1) (begun .lectern f s)).2 = standingRecords (begun .lectern f s)) :
    standingRecords (request c .lectern f own s) = standingRecords s :=
  request_keeps standingRecords (fun _ _ _ => rfl) hown

/-- A RESTART from LECTERN is not taken (R143, R181). -/
theorem takeRestart_lectern (f : Frame) (s : State) :
    standingRecords (takeRestart .lectern f s) = standingRecords s := by
  unfold takeRestart
  split
  · rfl
  · next hfree =>
    split
    · rfl
    · next q hq => exact absurd (.inr rfl) (lectern_class ⟨hfree, (admission_beginFrame _ _ _ _ s).symm.trans hq⟩)

/-- Settles O15: what the permission decision leaves to LECTERN has MOMENTARY scope, and no class that it bars. -/
theorem lecternChangesNoStandingRecord : Obligations.LecternChangesNoStandingRecord := by
  unfold Obligations.LecternChangesNoStandingRecord
  intro c f s t h
  have of_next {v : State} (hv : exec (instrOf c .lectern f) s = .next v)
      (hk : standingRecords v = standingRecords s) : standingRecords t = standingRecords s :=
    Host.Outcome.next.inj (hv.symm.trans h) ▸ hk
  rw [← standingRecords_eq_iff]
  cases c
  case restart => exact of_next rfl (takeRestart_lectern f s)
  case savePreset | setSourceEntry | setProfile | setInstallRecord | setRoomTimes =>
    exact of_next rfl (request_lectern_keeps fun q hq => by cases lectern_not_standingOnly hq)
  case setOverride | enableService | disableService | clearInstallLock =>
    exact of_next rfl (request_lectern_keeps fun q hq => absurd (.inl rfl) (lectern_class hq))
  case lampReplace | lampSet | clearFault | leaveCommission =>
    exact of_next rfl (request_lectern_keeps fun q hq => absurd (.inr rfl) (lectern_class hq))
  case setLampMode =>
    exact of_next rfl (request_lectern_keeps fun q hq => ownSetLampMode_standingRecords _ _ _ (lectern_momentary hq))
  case selectSource =>
    exact of_next rfl (request_lectern_keeps fun q hq => ownSelectSource_standingRecords _ _ _ (lectern_momentary hq))
  case loadPreset =>
    exact of_next rfl (request_lectern_keeps fun q hq => ownLoadPreset_standingRecords _ _ _ (lectern_momentary hq))
  case setKeystone =>
    exact of_next rfl (request_lectern_keeps fun q hq => ownSetKeystone_standingRecords _ _ _ (lectern_momentary hq))
  case nudgeKeystone =>
    exact of_next rfl (request_lectern_keeps fun q hq => ownNudgeKeystone_standingRecords _ _ _ (lectern_momentary hq))
  case setCorner =>
    exact of_next rfl (request_lectern_keeps fun q hq => ownSetCorner_standingRecords _ _ _ (lectern_momentary hq))
  case setAspect =>
    exact of_next rfl (request_lectern_keeps fun q hq => ownSetAspect_standingRecords _ _ _ (lectern_momentary hq))
  -- The other rows change no record under any scope.
  all_goals exact of_next rfl (request_lectern_keeps fun q _ => (standingRecords_eq_iff _ _).mpr (by simp))

end Sys2Proof.Machine
end

section
namespace Sys2Proof.Machine

/-! ## The effective override (R138) -/

theorem refreshOverride_active (o : Origin) (s : State) (h : s.lockout.active.isSome = true) :
    refreshOverride o s = setOverrideActive true o s := if_pos h

/-- The effective override is that of the hold, and the rest of the unit stays (R138). -/
theorem refreshOverride_lockout (o : Origin) (s : State) : (refreshOverride o s).lockout =
    { s.lockout with effective := if s.lockout.active.isSome then overrideNow s else s.lockout.effective } := by
  unfold refreshOverride
  split
  · unfold setOverrideActive
    dsimp only
    split <;> simp
  · rfl

/-- The profile of the override that a hold gives, STANDING one following ROOM DEFAULTS (R138, R139). -/
theorem overrideNow_profile (s : State) : (overrideNow s).map (·.profile) =
    match s.lockout.hold with
    | .held n => n
    | .followStanding => s.store.room.override := by
  unfold overrideNow
  split <;> simp [*, Function.comp_def]

/-- A change of the effective override is told, its end with none in both words (R138). -/
theorem refreshOverride_told (o : Origin) (s : State) (h : s.lockout.active.isSome = true)
    (hne : (refreshOverride o s).lockout.effective ≠ s.lockout.effective) :
    ((refreshOverride o s).lockout.effective = none →
      told (originPort o) .overrideChanged o 0xFFFF 0xFFFF s (refreshOverride o s)) ∧
    (∀ e, (refreshOverride o s).lockout.effective = some e → told (originPort o) .overrideChanged o
      (pairWord e.profile.val (position scopeList e.scope)) (profileWord e.sets) s (refreshOverride o s)) := by
  have heff : (refreshOverride o s).lockout.effective = overrideNow s := by
    rw [refreshOverride_lockout, if_pos h]
  rw [heff] at hne ⊢
  have hpost : refreshOverride o s =
      postOverride (overrideNow s) o { s with lockout := { s.lockout with effective := overrideNow s } } := by
    rw [refreshOverride_active o s h]
    exact if_pos (by simp [h, hne])
  rw [hpost]
  refine ⟨fun hn => ?_, fun e he => ?_⟩
  · rw [hn]
    exact told_of { s with lockout := { s.lockout with effective := none } } (grown_refl _) rfl rfl (grown_refl _)
  · rw [he]
    exact told_of { s with lockout := { s.lockout with effective := some e } } (grown_refl _) rfl rfl (grown_refl _)

/-! ## SET OVERRIDE (R139) -/

/-- A profile above 7 is out of range (R139). -/
theorem overrideItem_beyond {ps : List Word} (h0 : numAt ps 0 = 0) (h : 7 < numAt ps 1) : overrideItem ps = none := by
  have hw : choiceAt ps 0 [0, 2] = some (.value (itemAt ps 1)) := by simp [choiceAt, h0]
  have hf : finOf 8 (itemAt ps 1).toNat = none := finOf_beyond h
  simp only [overrideItem, hw, hf, Option.map_none]

/-- The state in which SET OVERRIDE refreshes the override: the hold taken, and ROOM DEFAULTS written for STANDING
(R139). -/
def overrideHeld (x : Scope) (n : Option (Fin 8)) (o : Origin) (s : State) : State :=
  match x with
  | .momentary => setHold (.held n) s
  | .standing => setHold .followStanding (writeRoom { s.store.room with override := n } o s)

@[simp] theorem overrideHeld_frame (x : Scope) (n : Option (Fin 8)) (o : Origin) (s : State) :
    quietPorts (overrideHeld x n o s).ports = quietPorts s.ports ∧ (overrideHeld x n o s).lamp = s.lamp ∧
    (overrideHeld x n o s).power = s.power ∧ (overrideHeld x n o s).link = s.link ∧
    (overrideHeld x n o s).router = s.router ∧ (overrideHeld x n o s).geometry = s.geometry ∧
    (overrideHeld x n o s).room = s.room ∧ (overrideHeld x n o s).lockout.active = s.lockout.active ∧
    (overrideHeld x n o s).lockout.effective = s.lockout.effective ∧
    (overrideHeld x n o s).store.protect = s.store.protect ∧ (overrideHeld x n o s).pending = s.pending := by
  cases x <;> simp [overrideHeld]

@[simp] theorem overrideHeld_grown (q : Ports) (x : Scope) (n : Option (Fin 8)) (o : Origin) (s : State)
    (h : grown q s.ports) : grown q (overrideHeld x n o s).ports := by
  cases x
  · exact h
  · exact writeRoom_grown _ _ _ _ h

/-- The effect of SET OVERRIDE, its checks passed (R138, R139). -/
def overrideActs (x : Scope) (n : Option (Fin 8)) (o : Origin) (s : State) : State :=
  refreshOverride o (overrideHeld x n o s)

/-- The override of the scope's hold has the profile given, none for CLEAR (R138, R139). -/
theorem overrideActs_profile (x : Scope) (n : Option (Fin 8)) (o : Origin) (s : State)
    (h : s.lockout.active.isSome = true) : (overrideActs x n o s).lockout.effective.map (·.profile) = n := by
  have heff : (overrideActs x n o s).lockout.effective = overrideNow (overrideHeld x n o s) := by
    rw [overrideActs, refreshOverride_lockout, if_pos (by simpa using h)]
  rw [heff, overrideNow_profile]
  cases x <;> simp [overrideHeld, setHold]

/-- A change that SET OVERRIDE makes to the effective override is told (R138, R139). -/
theorem overrideActs_told (x : Scope) (n : Option (Fin 8)) (o : Origin) (s : State)
    (h : s.lockout.active.isSome = true) (hne : (overrideActs x n o s).lockout.effective ≠ s.lockout.effective) :
    ((overrideActs x n o s).lockout.effective = none →
      told (originPort o) .overrideChanged o 0xFFFF 0xFFFF s (overrideActs x n o s)) ∧
    (∀ e, (overrideActs x n o s).lockout.effective = some e → told (originPort o) .overrideChanged o
      (pairWord e.profile.val (position scopeList e.scope)) (profileWord e.sets) s (overrideActs x n o s)) := by
  obtain ⟨hend, hset⟩ := refreshOverride_told o (overrideHeld x n o s) (by simpa using h)
    (by simpa [overrideActs] using hne)
  have since {a b : Word} (ht : told (originPort o) .overrideChanged o a b (overrideHeld x n o s)
      (overrideActs x n o s)) : told (originPort o) .overrideChanged o a b s (overrideActs x n o s) :=
    told_since (by simp) (by simp) (by simp) ht
  exact ⟨fun hn => since (hend hn), fun e he => since (hset e he)⟩

/-- ROOM DEFAULTS is queued with the new override (R139, R156). -/
theorem overrideActs_queued (n : Option (Fin 8)) (o : Origin) (s : State) :
    { key := .roomDefaults, image := roomImage { s.store.room with override := n }, origin := o, switch := none } ∈
      (overrideActs .standing n o s).store.queue := by
  simpa [overrideActs, overrideHeld] using writeRoom_queued { s.store.room with override := n } o s

theorem ownSetOverride_beyond {p : Port} {q : Qualifier} {ps : List Word} {s : State} (h : overrideItem ps = none) :
    ownSetOverride p q ps s = refuse .outOfRange s := by
  simp only [ownSetOverride, h]

section
variable {p : Port} {q : Qualifier} {ps : List Word} {s : State} {n : Option (Fin 8)} (hn : overrideItem ps = some n)
include hn

theorem ownSetOverride_momentary (hq : q.scope = .momentary) :
    ownSetOverride p q ps s = accept done (overrideActs .momentary n (portOrigin p) s) := by
  simp only [ownSetOverride, hn, hq]
  rfl

theorem ownSetOverride_standing (hq : q.scope = .standing) (hc : standingCheck s .c false [.roomDefaults] = none) :
    ownSetOverride p q ps s = accept (doneQueued false []) (overrideActs .standing n (portOrigin p) s) := by
  simp only [ownSetOverride, hn, hq, hc]
  rfl

theorem ownSetOverride_unchecked (hq : q.scope = .standing) {r : Reason}
    (hr : standingCheck s .c false [.roomDefaults] = some r) : ownSetOverride p q ps s = refuse r s := by
  simp only [ownSetOverride, hn, hq, hr]

end

/-- A STANDING request outside the install class is refused by protection, and then by the store (R155, R157). -/
theorem standingCheck_refuses {s : State} {g : Region} {ks : List Key} {r : Reason}
    (h : (isProtected s g = true ∧ r = .regionProtected) ∨
      (isProtected s g = false ∧ storeBusy s ks = true ∧ r = .storeBusy)) : standingCheck s g false ks = some r := by
  rcases h with ⟨hp, rfl⟩ | ⟨hp, hb, rfl⟩ <;> simp [standingCheck, *]

/-! ## ENABLE SERVICE and DISABLE SERVICE (R142) -/

/-- Of the blocks that no command of the lockout, the lock or the mask concerns, the link's serving alone may change
between `s` and `t`. -/
def otherBlocksKept (s t : State) : Prop :=
  t.lamp = s.lamp ∧ t.power = s.power ∧ t.router = s.router ∧ t.geometry = s.geometry ∧ t.room = s.room ∧
    linkServed s.link t.link ∧ t.pending = s.pending

theorem setServiceEnable_lockout (on : Bool) (p : Port) (s : State) :
    (setServiceEnable on p s).lockout = { s.lockout with serviceEnabled := on } := by
  unfold setServiceEnable
  split
  · next h => rw [← h]
  · simp

/-- A change of the flag is told, with the operating mode (R142). -/
theorem setServiceEnable_told (on : Bool) (p : Port) (s : State) (h : s.lockout.serviceEnabled ≠ on) :
    told (some p) .serviceEnableChanged (portOrigin p) (if on then 0 else 1)
      (word (position modeList s.lockout.mode)) s (setServiceEnable on p s) := by
  unfold setServiceEnable
  rw [if_neg h]
  exact told_of { s with lockout := { s.lockout with serviceEnabled := on } } (grown_refl _) rfl rfl (grown_refl _)

/-- What a request that sets the flag does, in the statement's words (R142). -/
theorem exec_setsServiceEnable {c : Command} {p : Port} {f : Frame} {q : Qualifier} {s : State} (on : Bool)
    (h : taken c p f q s) (hexec : exec (instrOf c p f) s =
      .next (request c p f (fun _ _ t => accept done (setServiceEnable on p t)) s)) :
    ∃ t, exec (instrOf c p f) s = .next t ∧ answered c p f done s t ∧
      t.lockout = { s.lockout with serviceEnabled := on } ∧
      (s.lockout.serviceEnabled ≠ on → told (some p) .serviceEnableChanged (portOrigin p) (if on then 0 else 1)
        (word (position modeList s.lockout.mode)) s t) ∧
      storeServed s.store t.store ∧ otherBlocksKept s t := by
  refine ⟨_, hexec.trans (congrArg Host.Outcome.next (request_accepted h rfl rfl)), answered_of _ _ _ _ _ _ (by simp),
    by simp [setServiceEnable_lockout], fun hne => ?_, by simp [storeServed_iff],
    by simp [otherBlocksKept, linkServed_iff]⟩
  exact told_request c p f done (setServiceEnable_told on p (begun p f s) (by simpa using hne))

/-- Settles O54, by the hold that SET OVERRIDE takes and the flag that the other two set. -/
theorem overrideAndServiceEnable : Obligations.OverrideAndServiceEnable := by
  unfold Obligations.OverrideAndServiceEnable
  refine ⟨by simp [commandClass, takesTimes], rfl, fun p f q s => ?_⟩
  intro rest tells enables
  have tells_acts (x : Scope) (n : Option (Fin 8)) (a : Answer) :
      tells (after .setOverride p a (finish (overrideActs x n (portOrigin p) (begun p f s)))) := by
    intro ha hne
    obtain ⟨hend, hset⟩ := overrideActs_told x n (portOrigin p) (begun p f s) (by simpa using ha) (by simpa using hne)
    rw [originPort_portOrigin] at hend hset
    exact ⟨fun hn => told_request _ p f a (hend (by simpa using hn)),
      fun e he => told_request _ p f a (hset e (by simpa using he))⟩
  refine ⟨fun h h0 h7 => ?_, fun h n r hn hq hr => ?_, fun h n hn => ⟨fun hq => ?_, fun hq hc => ?_⟩,
    fun h => exec_setsServiceEnable true h rfl, fun h => exec_setsServiceEnable false h rfl⟩
  · exact congrArg Host.Outcome.next (request_answered h (ownSetOverride_beyond (overrideItem_beyond h0 h7)))
  · exact congrArg Host.Outcome.next (request_answered h
      (ownSetOverride_unchecked hn hq (by simpa using standingCheck_refuses hr)))
  · refine ⟨_, congrArg Host.Outcome.next (request_accepted h rfl (ownSetOverride_momentary hn hq)),
      answered_of _ _ _ _ _ _ (by simp [overrideActs]), by simp [overrideActs, overrideHeld, setHold], tells_acts _ _ _,
      fun ha => by simpa using overrideActs_profile .momentary n (portOrigin p) (begun p f s) (by simpa using ha),
      by simp [overrideActs, refreshOverride_lockout, overrideHeld, setHold],
      by simp [overrideActs, overrideHeld, storeServed_iff], ?_⟩
    simp [rest, overrideActs, linkServed_iff]
  · refine ⟨_, congrArg Host.Outcome.next (request_accepted h rfl
        (ownSetOverride_standing hn hq (by simpa using hc))), answered_of _ _ _ _ _ _ (by simp [overrideActs]),
      by simp [overrideActs, overrideHeld, setHold], tells_acts _ _ _, by simp [overrideActs, overrideHeld], ?_,
      fun ha => by simpa using overrideActs_profile .standing n (portOrigin p) (begun p f s) (by simpa using ha), ?_⟩
    · simpa [overrideActs, overrideHeld] using
        sent_of_queued .setOverride p (doneQueued false []) (overrideActs_queued n (portOrigin p) (begun p f s))
          (by simpa [overrideActs, isProtected, keyRegion] using unprotected_of_standingCheck hc)
    · simp [rest, overrideActs, linkServed_iff]

end Sys2Proof.Machine
end

section
namespace Sys2Proof.Machine

/-! ## The install lock (R147) -/

@[simp] theorem storeBusy_begun (p : Port) (f : Frame) (s : State) (ks : List Key) :
    storeBusy (begun p f s) ks = storeBusy s ks := rfl

theorem writeLock_lockout (b : Bool) (o : Origin) (s : State) :
    (writeLock b o s).lockout = { s.lockout with locked := b, mismatch := false } := by
  simp [writeLock]

/-- The lock pair is queued with the new state (R147, R156). -/
theorem writeLock_queued (b : Bool) (o : Origin) (s : State) :
    { key := .lockPair, image := lockImage b, origin := o, switch := none } ∈ (writeLock b o s).store.queue := by
  simp only [writeLock, queueLive_queue]
  exact enqueue_mem _ _

/-- A request for a lock state, refused while the store has no place for the pair (R147, R157). -/
def lockRequested (b : Bool) (p : Port) (s : State) : Answer × State :=
  if storeBusy s [.lockPair] then refuse .storeBusy s else accept (doneQueued false []) (writeLock b (portOrigin p) s)

theorem ownSetInstallLock_eq (p : Port) (s : State) : ownSetInstallLock p s = lockRequested true p s := rfl

/-- In COMMISSION, CLEAR INSTALL LOCK is taken as SET INSTALL LOCK is (R147). -/
theorem ownClearInstallLock_commission (p : Port) {s : State} (h : s.lockout.mode = .commission) :
    ownClearInstallLock p s = lockRequested false p s := if_neg (by simp [h])

theorem ownClearInstallLock_normal (p : Port) {s : State} (h : s.lockout.mode = .normal) :
    ownClearInstallLock p s = refuse .wrongState s := if_pos h

section
variable {c : Command} {p : Port} {f : Frame} {q : Qualifier} {s : State} (h : taken c p f q s)
include h

/-- A command whose block writes the lock pair unless the store is busy (R147, R157). -/
theorem exec_writesLock {own : Qualifier → List Word → State → Answer × State} {b : Bool}
    (hexec : exec (instrOf c p f) s = .next (request c p f own s))
    (hown : own q (f.words.drop 1) (begun p f s) = lockRequested b p (begun p f s)) :
    (storeBusy s [.lockPair] = true → exec (instrOf c p f) s = .next (after c p (refused .storeBusy) (begun p f s))) ∧
    (storeBusy s [.lockPair] = false → ∃ t, exec (instrOf c p f) s = .next t ∧
      answered c p f (doneQueued false []) s t ∧ t.lockout = { s.lockout with locked := b, mismatch := false } ∧
      sentToStore .lockPair (lockImage b) (portOrigin p) t ∧ storeServed s.store t.store ∧ otherBlocksKept s t) := by
  refine ⟨fun hb => ?_, fun hb => ?_⟩
  · rw [hexec, request_answered h (hown.trans (if_pos hb))]
  · refine ⟨_, hexec.trans (congrArg Host.Outcome.next
        (request_accepted h rfl (hown.trans (if_neg (by simp [hb]))))), answered_of _ _ _ _ _ _ (by simp),
      by simp [writeLock_lockout], ?_, by simp [storeServed_iff], by simp [otherBlocksKept, linkServed_iff]⟩
    exact finish_sent _ _ (writeLock_queued b (portOrigin p) (begun p f s)) (by simp [takeExempt])

/-! ## The protect mask (R153) -/

/-- A command whose block gives the mask a value (R153). -/
theorem exec_setsProtect {own : Qualifier → List Word → State → Answer × State} {m : BitVec 4}
    (hexec : exec (instrOf c p f) s = .next (request c p f own s))
    (hown : own q (f.words.drop 1) (begun p f s) = accept done (setProtect m (begun p f s))) :
    ∃ t, exec (instrOf c p f) s = .next t ∧ answered c p f done s t ∧ t.store.protect = m ∧
      storeServed { s.store with protect := t.store.protect } t.store ∧ t.lockout = s.lockout ∧
      otherBlocksKept s t := by
  refine ⟨_, hexec.trans (congrArg Host.Outcome.next (request_accepted h rfl hown)), answered_of _ _ _ _ _ _ (by simp),
    by simp [setProtect], by simp [storeServed_iff], by simp, by simp [otherBlocksKept, linkServed_iff]⟩

end

/-- A set with a member beyond A to D is out of range (R153, R168). -/
theorem setOf_beyond {n : Nat} {w : Word} (h : 2 ^ n ≤ w.toNat) : Sys2Proof.Machine.setOf n w = none :=
  if_neg (by omega)

theorem ownProtectRegions_beyond {ps : List Word} (s : State) (h : 16 ≤ numAt ps 0) :
    ownProtectRegions ps s = refuse .outOfRange s := by
  simp only [ownProtectRegions, setOf_beyond (n := 4) (w := itemAt ps 0) h]

theorem ownUnprotectRegions_beyond {ps : List Word} (s : State) (h : 16 ≤ numAt ps 0) :
    ownUnprotectRegions ps s = refuse .outOfRange s := by
  simp only [ownUnprotectRegions, setOf_beyond (n := 4) (w := itemAt ps 0) h]

section
variable {ps : List Word} {s : State} {m : BitVec 4} (hm : Sys2Proof.Machine.setOf 4 (itemAt ps 0) = some m)
include hm

theorem ownProtectRegions_set :
    ownProtectRegions ps s = accept done (setProtect (s.store.protect ||| m) s) := by
  simp only [ownProtectRegions, hm]

/-- A set with a member is refused in NORMAL while the window is closed (R153). -/
theorem ownUnprotectRegions_closed (h0 : m ≠ 0) (hw : s.store.window = none) (hn : s.lockout.mode = .normal) :
    ownUnprotectRegions ps s = refuse .windowClosed s := by
  simp only [ownUnprotectRegions, hm]
  exact if_pos (by simpa [hw, hn] using h0)

theorem ownUnprotectRegions_set (h : m = 0 ∨ s.store.window ≠ none ∨ s.lockout.mode = .commission) :
    ownUnprotectRegions ps s = accept done (setProtect (s.store.protect &&& ~~~ m) s) := by
  simp only [ownUnprotectRegions, hm]
  refine if_neg ?_
  rcases h with h | h | h <;> simp [h]

end

/-! ## The start-up window (R154) -/

/-- CLOSE WINDOW closes it, told with the cause REQUEST where it stood open (R154; log entry 8). -/
theorem exec_closeWindow {p : Port} {f : Frame} {q : Qualifier} {s : State} (h : taken .closeWindow p f q s) :
    ∃ t, exec (.closeWindow p f) s = .next t ∧ answered .closeWindow p f done s t ∧ t.store.window = none ∧
      (s.store.window ≠ none → told (some p) .windowClosed (portOrigin p) 1 (s.store.protect.setWidth 16) s t) ∧
      storeServed { s.store with window := none } t.store ∧ t.lockout = s.lockout ∧ otherBlocksKept s t := by
  refine ⟨_, congrArg Host.Outcome.next (request_accepted h rfl rfl), answered_of _ _ _ _ _ _ (by simp),
    by simp [closeWindowFor_store], fun hw => ?_, by simp [storeServed_iff, closeWindowFor_store], by simp,
    by simp [otherBlocksKept, linkServed_iff]⟩
  exact told_request .closeWindow p f done
    (closeWindowFor_told .request (some p) (portOrigin p) (begun p f s) (by simpa using hw))

/-- Settles O57, by the lock pair, the mask and the window. -/
theorem locksProtectionAndWindow : Obligations.LocksProtectionAndWindow := by
  unfold Obligations.LocksProtectionAndWindow
  refine ⟨rfl, rfl, by simp [takesScope, takesTimes], fun p f q s => ?_⟩
  refine ⟨fun h => exec_writesLock h rfl (ownSetInstallLock_eq p _), fun h => ⟨fun hn => ?_, fun hc => ?_⟩,
    fun h h16 => ?_, fun h h16 => ?_, fun h m hm => ?_, fun h m hm => ⟨fun h0 hw hn => ?_, fun ho => ?_⟩,
    exec_closeWindow⟩
  · exact congrArg Host.Outcome.next (request_answered h (ownClearInstallLock_normal p hn))
  · exact exec_writesLock h rfl (ownClearInstallLock_commission p hc)
  · exact congrArg Host.Outcome.next (request_answered h (ownProtectRegions_beyond _ h16))
  · exact congrArg Host.Outcome.next (request_answered h (ownUnprotectRegions_beyond _ h16))
  · exact exec_setsProtect h rfl (ownProtectRegions_set hm)
  · exact congrArg Host.Outcome.next (request_answered h (ownUnprotectRegions_closed hm h0 hw hn))
  · exact exec_setsProtect h rfl (ownUnprotectRegions_set hm ho)

end Sys2Proof.Machine
end

section
namespace Sys2Proof.Machine

/-! ## The place test for one key (R155 to R157) -/

/-- A key stands in the queue where an entry has it (R156). -/
theorem queuedEntry_isNone (q : List Entry) (k : Key) :
    (queuedEntry q k).isNone = !q.any (fun e => e.key == k) := by
  rw [queuedEntry, Bool.eq_iff_iff]
  simp

/-- One key needs a new place unless it is queued or the lamp checkpoint (R157). -/
theorem newPlaces_single (q : List Entry) {k : Key} (hk : k ≠ .lampCheckpoint) :
    newPlaces q [k] = if q.any (fun e => e.key == k) then 0 else 1 := by
  have hk' : (k != .lampCheckpoint) = true := bne_iff_ne.mpr hk
  cases h : q.any (fun e => e.key == k) <;> simp only [newPlaces, List.filter, hk', queuedEntry_isNone, h] <;> rfl

/-- A write of one key finds the store busy while a wipe is in progress, or where the queue would come to hold more
than 11 entries other than the checkpoint (R157, R162). -/
theorem storeBusy_single (s : State) {k : Key} (hk : k ≠ .lampCheckpoint) :
    storeBusy s [k] = true ↔ s.store.wipe ≠ none ∨
      11 < nonLampCount s.store.queue + (if s.store.queue.any (fun e => e.key == k) then 0 else 1) := by
  simp only [storeBusy, placeTest, newPlaces_single _ hk, Bool.or_eq_true, Option.isSome_iff_ne_none,
    Bool.not_eq_true', decide_eq_false_iff_not, Nat.not_le]

theorem standingCheck_protected {s : State} {r : Region} (h : isProtected s r = true) (ins : Bool) (ks : List Key) :
    standingCheck s r ins ks = some .regionProtected := if_pos h

/-- The install lock bars the install class, whatever the operating mode (R146, R155). -/
theorem standingCheck_locked {s : State} {r : Region} (hp : isProtected s r = false)
    (hl : s.lockout.locked = true) (ks : List Key) : standingCheck s r true ks = some .installLocked := by
  simp [standingCheck, hp, installLocked, hl]

/-- Past protection and the lock the store's place decides (R157). -/
theorem standingCheck_place {s : State} {r : Region} {ins : Bool} (hp : isProtected s r = false)
    (hl : ins = false ∨ s.lockout.locked = false) (ks : List Key) :
    standingCheck s r ins ks = if storeBusy s ks then some .storeBusy else none := by
  have hpass : (ins && installLocked s) = false := by
    rcases hl with rfl | hl
    · rfl
    · simp [installLocked, hl]
  simp [standingCheck, hp, hpass]

/-- Settles O55, check by check. -/
theorem standingChecksInOrder : Obligations.StandingChecksInOrder := by
  unfold Obligations.StandingChecksInOrder
  intro s r k ins hk
  refine ⟨fun hp => standingCheck_protected hp ins [k], fun hp hins hl => ?_,
    fun hp hl => ⟨fun hb => ?_, fun hw hf => ?_⟩⟩
  · rw [hins]
    exact standingCheck_locked hp hl [k]
  · rw [standingCheck_place hp hl]
    exact if_pos ((storeBusy_single s hk).mpr hb)
  · rw [standingCheck_place hp hl]
    exact if_neg fun hb => ((storeBusy_single s hk).mp hb).elim (absurd hw) hf

/-! ## What is stored (R156, R158, R159, R163) -/

/-- What is stored: the slots of the checkpoint and the other records (R12, R149). -/
def storage (s : State) : Vector StoredRecord 4 × Vector StoredRecord 101 := (s.store.slots, s.store.records)

theorem storage_eq_iff (s t : State) :
    storage t = storage s ↔ t.store.slots = s.store.slots ∧ t.store.records = s.store.records := by
  simp only [storage, Prod.mk.injEq]

/-- The commands that may change what is stored: the two completions and the two resets (R158, R159, R163). -/
def changesStorage : Instr → Bool
  | .writeCompletion | .wipeCompletion | .hardReset _ | .restart _ _ => true
  | _ => false

/-- Every other command keeps what is stored (R156). -/
theorem exec_storage {c : Instr} {s t : State} (hc : changesStorage c = false) (h : exec c s = .next t) :
    storage t = storage s := by
  have of_next {v : State} (hv : exec c s = .next v) (hk : storage v = storage s) : storage t = storage s :=
    Host.Outcome.next.inj (hv.symm.trans h) ▸ hk
  cases c
  case writeCompletion | wipeCompletion | hardReset | restart => exact absurd hc (by simp [changesStorage])
  case loadCompletion | presenceLineChange | ack | report | strikeResult | format | invalidHeadMessage
      | headMessageSent | answerTimerExpiry | silenceTimerExpiry | reportWaitExpiry | hotWindowExpiry | clockSecond
      | windowTimerExpiry => exact of_next rfl (by simp [storage])
  case stabilityTimerExpiry | firstPresenceSample | strikeResultTimeout | restrikePauseExpiry | warmingEnd | coolingEnd
      | blankDimExpiry | noSignalTimerExpiry | burnSecond | settleTimerExpiry | selectWhileTaking
      | unknownCommandFrame | responseReady | frameDiscarded =>
    refine of_next rfl ?_
    repeat' split
    all_goals simp [storage]
  case readWordPeriod =>
    refine of_next rfl ?_
    unfold readPeriod
    dsimp only
    repeat' split
    all_goals simp [storage]
  -- The other rows of the ports: the block writes to storage through the queue alone.
  all_goals exact of_next rfl (request_keeps storage (fun _ _ _ => rfl) fun q _ => by simp [storage])

theorem changesStorage_eq_true {c : Instr} (h : changesStorage c = true) :
    c = .writeCompletion ∨ c = .wipeCompletion ∨ (∃ m, c = .hardReset m) ∨ (∃ p f, c = .restart p f) := by
  cases c
  case writeCompletion => exact .inl rfl
  case wipeCompletion => exact .inr (.inl rfl)
  case hardReset m => exact .inr (.inr (.inl ⟨m, rfl⟩))
  case restart p f => exact .inr (.inr (.inr ⟨p, f, rfl⟩))
  all_goals exact Bool.noConfusion h

/-- Settles O8: a command keeps what is stored, or is one of the four. -/
theorem storageChangesOnlyAtCompletionsAndResets : Obligations.StorageChangesOnlyAtCompletionsAndResets := by
  unfold Obligations.StorageChangesOnlyAtCompletionsAndResets
  intro c s t h
  cases hc : changesStorage c with
  | true => exact .inr (changesStorage_eq_true hc)
  | false => exact .inl ((storage_eq_iff s t).mp (exec_storage hc h))

end Sys2Proof.Machine
end

section
namespace Sys2Proof.Machine

/-! ## STORE WIPE (R162) -/

/-- B, C or D is protected, which bars a wipe (R162). -/
def wipeBarred (s : State) : Prop :=
  isProtected s .b = true ∨ isProtected s .c = true ∨ isProtected s .d = true

/-- The entries of B, C and D go, and the others stay in their order (R162). -/
theorem dropForWipe_queue (s : State) :
    (dropForWipe s).store.queue = s.store.queue.filter (fun e => keyRegion e.key == .a) :=
  foldl_keeps (fun u : State => u.store.queue) _ _ _ fun u e => by simp

/-- The wipe marked in progress for the port that asked, the queue without the entries of B, C and D (R162). -/
def wipeMarked (p : Port) (s : State) : State :=
  { dropForWipe s with store := { (dropForWipe s).store with wipe := some p } }

@[simp] theorem wipeMarked_frame (p : Port) (s : State) :
    quietPorts (wipeMarked p s).ports = quietPorts s.ports ∧ (wipeMarked p s).lamp = s.lamp ∧
    (wipeMarked p s).power = s.power ∧ (wipeMarked p s).router = s.router ∧ (wipeMarked p s).geometry = s.geometry ∧
    (wipeMarked p s).room = s.room ∧ (wipeMarked p s).lockout = s.lockout ∧
    (wipeMarked p s).store.records = s.store.records ∧ (wipeMarked p s).store.install = s.store.install ∧
    (wipeMarked p s).store.room = s.store.room ∧ (wipeMarked p s).store.wipe = some p := by
  simp [wipeMarked]

theorem ownStoreWipe_barred {p : Port} {s : State} (h : wipeBarred s) :
    ownStoreWipe p s = refuse .regionProtected s :=
  if_pos (by simpa [wipeBarred, or_assoc] using h)

theorem ownStoreWipe_unbarred {p : Port} {s : State} (h : ¬ wipeBarred s) : ownStoreWipe p s =
    if s.store.wipe.isSome then refuse .storeBusy s else accept (started []) (wipeMarked p s) :=
  if_neg (by simpa [wipeBarred, or_assoc] using h)

/-- The outcome of STORE WIPE in its three cases (R162). -/
theorem exec_storeWipe {p : Port} {f : Frame} {q : Qualifier} {s : State} (h : taken .storeWipe p f q s) :
    (wipeBarred s → exec (.storeWipe p f) s = .next (after .storeWipe p (refused .regionProtected) (begun p f s))) ∧
    (¬ wipeBarred s → s.store.wipe ≠ none →
      exec (.storeWipe p f) s = .next (after .storeWipe p (refused .storeBusy) (begun p f s))) ∧
    (¬ wipeBarred s → s.store.wipe = none →
      exec (.storeWipe p f) s = .next (after .storeWipe p (started []) (finish (wipeMarked p (begun p f s))))) := by
  have hbegun : wipeBarred (begun p f s) ↔ wipeBarred s := Iff.rfl
  refine ⟨fun hp => ?_, fun hp hw => ?_, fun hp hw => ?_⟩
  · have hown : ownStoreWipe p (begun p f s) = refuse .regionProtected (begun p f s) :=
      ownStoreWipe_barred (hbegun.mpr hp)
    exact congrArg Host.Outcome.next (request_answered h hown)
  · have hown : ownStoreWipe p (begun p f s) = refuse .storeBusy (begun p f s) :=
      (ownStoreWipe_unbarred (mt hbegun.mp hp)).trans (if_pos (by simpa [Option.isSome_iff_ne_none] using hw))
    exact congrArg Host.Outcome.next (request_answered h hown)
  · have hown : ownStoreWipe p (begun p f s) = accept (started []) (wipeMarked p (begun p f s)) :=
      (ownStoreWipe_unbarred (mt hbegun.mp hp)).trans (if_neg (by simp [hw]))
    exact congrArg Host.Outcome.next (request_accepted h rfl hown)

/-- With a wipe in progress no entry is taken at the end of a command: an IDLE engine begins the wipe (R158, R162). -/
theorem finish_queue_wiping {s : State} (h : s.store.wipe.isSome = true) :
    (finish s).store.queue = s.store.queue := by
  have hserved : (serveLink s).store = s.store := by simp
  unfold finish runEngine
  rw [hserved, h]
  split <;> simp

/-- The acceptance of a wipe leaves in the queue the entries of region A (R162). -/
theorem finish_wipeMarked_queue (p : Port) (s : State) :
    (finish (wipeMarked p s)).store.queue = s.store.queue.filter (fun e => keyRegion e.key == .a) := by
  have hkept : (finish (wipeMarked p s)).store.queue = (dropForWipe s).store.queue := finish_queue_wiping (by simp)
  exact hkept.trans (dropForWipe_queue s)

/-! ## The completion of a wipe (R163) -/

theorem wipedRecord_history (old : Vector StoredRecord 101) : wipedRecord old 0 = old[(0 : Fin 101)] := rfl

theorem wipedRecord_default (old : Vector StoredRecord 101) {i : Fin 101} (h : i ≠ 0) :
    wipedRecord old i = sealed (defaultImage (recordKey i)) :=
  if_neg fun hi => h (Fin.ext hi)

/-- The origin of what a wipe's completion does: its requester's (R162, R163). -/
def wipeOrigin (s : State) : Origin :=
  match s.store.wipe with
  | some p => portOrigin p
  | none => .auto

theorem wipeOrigin_requester {s : State} {r : Port} (h : s.store.wipe = some r) : wipeOrigin s = portOrigin r := by
  simp [wipeOrigin, h]

/-- The stored records wiped, the engine IDLE again, and the live copies other than the source map at their defaults
(R163). -/
def wiped (s : State) : State :=
  wipeLive { s with store := { s.store with
    records := Vector.ofFn (wipedRecord s.store.records), engine := .idle, wipe := none } }

/-- What a wipe leaves in storage and in the live copies, and the flag and the history that it keeps (R163). -/
theorem wiped_defaults (s : State) : (wiped s).store.records = Vector.ofFn (wipedRecord s.store.records) ∧
    (wiped s).store.slots = s.store.slots ∧ (wiped s).store.wipe = none ∧ (wiped s).store.install = defaultInstall ∧
    (wiped s).store.room = defaultRoom ∧ (wiped s).lockout.profiles = Vector.replicate 8 defaultProfile ∧
    (wiped s).geometry.presets = Vector.replicate 16 defaultPreset ∧
    (wiped s).room.bookings = Vector.replicate 64 none ∧ (wiped s).room.exceptions = [] ∧
    (wiped s).lockout.locked = false ∧ (wiped s).lockout.mismatch = false ∧
    (wiped s).lamp.history = s.lamp.history ∧ (wiped s).lockout.serviceEnabled = s.lockout.serviceEnabled := by
  simp [wiped, wipeLive]

/-- The source map has its defaults once the blocks have acted (R163). -/
theorem wipeActs_sources (old : State) (o : Origin) (s : State) :
    (wipeActs old o s).router.sources = Vector.replicate 8 defaultSource := by
  simp [wipeActs, editSources_sources]

/-- A wipe completes with its notice, and then the blocks act on the defaults (R163). -/
theorem completeWipe_eq {s : State} {left : Nat} (h : s.store.engine = .wiping left) : completeWipe s =
    wipeActs s (wipeOrigin s) (postFor .writeDone (wipeOrigin s) (some 0xFFFE#16) (some noneWord) (wiped s)) := by
  simp only [completeWipe, h]
  rfl

/-- WRITE DONE is told to the requester with key 0xFFFE (R163; log entry 18). -/
theorem completeWipe_told {s : State} {left : Nat} (h : s.store.engine = .wiping left) {r : Port}
    (hr : s.store.wipe = some r) :
    told (some r) .writeDone (portOrigin r) 0xFFFE 0xFFFF s (finish (completeWipe s)) := by
  have hposted : told (some r) .writeDone (portOrigin r) 0xFFFE 0xFFFF s
      (postFor .writeDone (portOrigin r) (some 0xFFFE#16) (some noneWord) (wiped s)) := by
    refine told_of (wiped s) (grown_refl _) rfl rfl ?_
    rw [← originPort_portOrigin]
    exact grown_refl _
  rw [completeWipe_eq h, wipeOrigin_requester hr]
  exact told_later hposted (finish_grown _ _ (wipeActs_grown _ _ _ _ (grown_refl _)))

/-- Settles O58, by the cases of STORE WIPE and by what a wipe's completion leaves. -/
theorem wipeGivesTheDefaults : Obligations.WipeGivesTheDefaults := by
  unfold Obligations.WipeGivesTheDefaults
  intro p f q s bcd
  refine ⟨fun h => ?_, fun left h => ?_⟩
  · obtain ⟨hbarred, hbusy, haccepted⟩ := exec_storeWipe h
    refine ⟨hbarred, hbusy, fun hp hw => ⟨_, haccepted hp hw, answered_of _ _ _ _ _ _ (by simp), by simp, ?_, ?_⟩⟩
    · simp [finish_wipeMarked_queue]
    · simp
  · refine ⟨_, rfl, ?_, fun r hr => completeWipe_told h hr, ?_⟩
    · simp [completeWipe_eq h, wiped_defaults]
    · rw [completeWipe_eq h]
      simp +contextual [wipeActs_sources, wiped_defaults, wipedRecord_default, wipedRecord_history]

end Sys2Proof.Machine
end

section
namespace Sys2Proof.Machine

/-! ## Words and positions read back (R176) -/

theorem word_toNat (n : Nat) : (word n).toNat = n % 65536 := BitVec.toNat_ofNat n 16

/-- A number that fits a word is what the word holds. -/
theorem mod_word {n : Nat} (h : n ≤ 65535) : n % 65536 = n := Nat.mod_eq_of_lt (Nat.lt_succ_of_le h)

/-- A number beyond 16 bits is read back from its two words. -/
theorem nat32_words {n : Nat} (h : n ≤ 4294967295) : nat32 (word (n / 65536)) (word n) = n := by
  simp only [nat32, word_toNat]
  omega

theorem intWord_toInt {i : Int} (h : -64 ≤ i ∧ i ≤ 64) : (intWord i).toInt = i :=
  BitVec.toInt_ofInt_eq_self (by decide) (by norm_num; omega) (by norm_num; omega)

theorem ofNat_word {n : Nat} [NeZero n] (h : n ≤ 65536) (x : Fin n) : Fin.ofNat n (x.val % 65536) = x := by
  rw [Nat.mod_eq_of_lt (x.isLt.trans_le h)]
  exact Fin.ext (Nat.mod_eq_of_lt x.isLt)

/-- A mark in the order "set, clear" is read back. -/
theorem mark_read (b : Bool) : ((if b then 0 else 1 : Word) == 0) = b := by cases b <;> rfl

/-- A value is read back from the word of its position. -/
theorem valueAt_position {α : Type} [DecidableEq α] {all : List α} {a : α} (h : a ∈ all)
    (hl : all.length ≤ 65536) (d : α) : valueAt all d (position all a % 65536) = a := by
  have hlt : all.idxOf a < all.length := List.idxOf_lt_length_of_mem h
  rw [position, Nat.mod_eq_of_lt (hlt.trans_le hl)]
  simp [valueAt, List.getD_eq_getElem?_getD, hlt]

theorem aspect_read (a d : Aspect) : valueAt aspectList d (position aspectList a % 65536) = a :=
  valueAt_position (by cases a <;> decide) (by decide) d

theorem lampMode_read (a d : LampMode) : valueAt lampModeList d (position lampModeList a % 65536) = a :=
  valueAt_position (by cases a <;> decide) (by decide) d

theorem bookingLampMode_read (a d : BookingLampMode) :
    valueAt bookingLampModeList d (position bookingLampModeList a % 65536) = a :=
  valueAt_position (by cases a <;> decide) (by decide) d

theorem endAction_read (a d : EndAction) : valueAt endActionList d (position endActionList a % 65536) = a :=
  valueAt_position (by cases a <;> decide) (by decide) d

theorem port_read (a d : Port) : valueAt portList d (position portList a % 65536) = a :=
  valueAt_position (by cases a <;> decide) (by decide) d

/-! ## Reading on past an item (R176) -/

theorem itemAt_cons (w : Word) (ws : List Word) (i : Nat) : itemAt (w :: ws) (i + 1) = itemAt ws i := rfl

theorem itemAt_head (w : Word) (ws : List Word) : itemAt (w :: ws) 0 = w := rfl

theorem optAt_cons (w : Word) (ws : List Word) (i : Nat) : optAt (w :: ws) (i + 1) = optAt ws i := rfl

theorem optImage_length (o : Option Nat) : (optImage o).length = 2 := by cases o <;> rfl

theorem itemAt_optImage (o : Option Nat) (ws : List Word) (i : Nat) :
    itemAt (optImage o ++ ws) (i + 2) = itemAt ws i := by cases o <;> rfl

theorem optAt_optImage (o : Option Nat) (ws : List Word) (i : Nat) :
    optAt (optImage o ++ ws) (i + 2) = optAt ws i := by cases o <;> rfl

theorem drop_optImage (o : Option Nat) (ws : List Word) (i : Nat) :
    (optImage o ++ ws).drop (i + 2) = ws.drop i := by cases o <;> rfl

/-- An optional item is read back up to what its word holds. -/
theorem optAt_head (o : Option Nat) (ws : List Word) : optAt (optImage o ++ ws) 0 = o.map (· % 65536) := by
  cases o with
  | none => rfl
  | some n => exact congrArg some (word_toNat n)

theorem optAt_head_last (o : Option Nat) : optAt (optImage o) 0 = o.map (· % 65536) := by
  simpa using optAt_head o []

theorem optional_within {o : Option Nat} (h : ∀ n, o = some n → n ≤ 65535) : o.map (· % 65536) = o := by
  cases o with
  | none => rfl
  | some n => exact congrArg some (mod_word (h n rfl))

/-- An optional index is read back. -/
theorem optional_index {n : Nat} [NeZero n] (h : n ≤ 65536) (o : Option (Fin n)) :
    ((o.map (·.val)).map (· % 65536)).map (Fin.ofNat n) = o := by
  cases o with
  | none => rfl
  | some x => exact congrArg some (ofNat_word h x)

/-! ## Images without a text (R135, R145, R149) -/

theorem profileOf_image (k : Profile) : profileOf (profileImage k) = k := by
  cases k
  simp [profileOf, profileImage, itemAt]

theorem installOf_image (r : InstallRecord) (hl : r.ratedLife ≤ 65535) (hc : r.coolingTime ≤ 65535)
    (hw : r.warmingTime ≤ 65535) (hr : r.retryCount ≤ 65535) : installOf (installImage r) = r := by
  cases r
  simp only [installOf, installImage, numAt, itemAt_cons, itemAt_head, word_toNat, mark_read,
    ofNat_word (n := 8) (by decide), InstallRecord.mk.injEq, true_and] at *
  omega

theorem roomOf_image (r : RoomDefaults) (hs : r.settleTime ≤ 65535) (hn : r.noSignal ≤ 65535)
    (hb : r.blankDim ≤ 65535) (hg : r.bridgeGap ≤ 65535) : roomOf (roomImage r) = r := by
  cases r
  simp only [roomOf, roomImage, numAt, List.cons_append, List.nil_append, itemAt_cons, itemAt_head, word_toNat,
    optAt_cons, optAt_head_last, optional_index (n := 8) (by decide), ofNat_word (n := 8) (by decide),
    ofNat_word (n := 16) (by decide), lampMode_read, RoomDefaults.mk.injEq, true_and, and_true] at *
  omega

theorem lockOf_image (b : Bool) : lockOf (lockImage b) = (b, false) := by
  cases b <;> decide

/-! ## Texts (R176) -/

theorem wordBytes_append (a b : Byte) : wordBytes (a ++ b) = [a, b] :=
  congrArg₂ (fun x y => [x, y]) BitVec.extractLsb'_append_eq_left BitVec.extractLsb'_append_eq_right

theorem packText_length (t : List Byte) : (packText t).length = (t.length + 1) / 2 := by
  induction t using packText.induct with
  | case1 => rfl
  | case2 a => simp [packText]
  | case3 a b r ih => simp only [packText, List.length_cons, ih]; omega

/-- The characters are the first bytes of their words. -/
theorem unpackText_packText (t : List Byte) (ws : List Word) : unpackText t.length (packText t ++ ws) = t := by
  induction t using packText.induct with
  | case1 => rfl
  | case2 a => simp [unpackText, packText, wordBytes_append]
  | case3 a b r ih => simpa [unpackText, packText, wordBytes_append] using ih

/-- The `n` character words of a text. -/
def textChars (n : Nat) (t : List Byte) : List Word := packText t ++ List.replicate (n - (packText t).length) 0

theorem textImage_eq (n : Nat) (t : List Byte) : textImage n t = word t.length :: textChars n t := rfl

theorem textChars_length {n : Nat} {t : List Byte} (h : t.length ≤ 2 * n) : (textChars n t).length = n := by
  simp only [textChars, List.length_append, List.length_replicate, packText_length]
  omega

/-- A text is read back from its count and its character words. -/
theorem unpackText_textChars {n : Nat} {t : List Byte} (h : t.length ≤ 2 * n) (hn : n ≤ 32767) (ws : List Word) :
    unpackText (t.length % 65536) ((textChars n t ++ ws).take n) = t := by
  rw [List.take_left' (textChars_length h), Nat.mod_eq_of_lt (by omega)]
  exact unpackText_packText t _

theorem unpackText_textChars_last {n : Nat} {t : List Byte} (h : t.length ≤ 2 * n) (hn : n ≤ 32767) :
    unpackText (t.length % 65536) ((textChars n t).take n) = t := by
  simpa using unpackText_textChars h hn []

section
variable {n : Nat} {t : List Byte} (h : t.length ≤ 2 * n) (ws : List Word) (i : Nat)
include h

theorem itemAt_textChars : itemAt (textChars n t ++ ws) (i + n) = itemAt ws i := by
  simp [itemAt, List.getD_eq_getElem?_getD, textChars_length h, List.getElem?_append_right]

theorem optAt_textChars : optAt (textChars n t ++ ws) (i + n) = optAt ws i := by
  have hnext : i + n + 1 = i + 1 + n := by omega
  simp only [optAt, numAt, hnext, itemAt_textChars h]

end

/-! ## Images with a text (R67, R88, R113) -/

/-- An input, IN1 as 1, is read back. -/
theorem optional_input (o : Option (Fin 6)) :
    ((o.map (·.val + 1)).map (· % 65536)).map (fun n => Fin.ofNat 6 (n - 1)) = o := by
  cases o with
  | none => rfl
  | some x =>
    have hx : (x.val + 1) % 65536 - 1 = x.val % 65536 := by omega
    simp only [Option.map_some, hx, ofNat_word (n := 6) (by decide)]

theorem optional_aspect (o : Option Aspect) :
    ((o.map (position aspectList)).map (· % 65536)).map (valueAt aspectList .auto) = o := by
  cases o with
  | none => rfl
  | some a => exact congrArg some (aspect_read a .auto)

theorem sourceOf_image (e : SourceEntry) (h : e.name.length ≤ 12) : sourceOf (sourceImage e) = e := by
  have hn : e.name.length ≤ 2 * 6 := h
  simp only [sourceOf, sourceImage, textImage_eq, List.append_assoc, List.cons_append, List.nil_append, numAt,
    itemAt_cons, itemAt_head, optAt_cons, itemAt_textChars hn, optAt_textChars hn, itemAt_optImage, optAt_optImage,
    optAt_head, List.drop_succ_cons, List.drop_zero, word_toNat, unpackText_textChars hn (by decide), optional_input,
    optional_index (n := 8) (by decide), optional_index (n := 16) (by decide), mark_read, aspect_read]

/-- The ten numbers of a preset (R88). -/
def presetNumbers (x : Preset) : List Int :=
  [x.kv, x.kh, x.tl.tx, x.tl.ty, x.tr.tx, x.tr.ty, x.bl.tx, x.bl.ty, x.br.tx, x.br.ty]

theorem presetOf_image (x : Preset) (h : x.name.length ≤ 12) (hx : ∀ i, i ∈ presetNumbers x → -64 ≤ i ∧ i ≤ 64) :
    presetOf (presetImage x) = x := by
  have hn : x.name.length ≤ 2 * 6 := h
  have hread : ∀ i, i ∈ presetNumbers x → (intWord i).toInt = i := fun i hi => intWord_toInt (hx i hi)
  simp only [presetNumbers, List.forall_mem_cons] at hread
  simp only [presetOf, presetImage, textImage_eq, List.append_assoc, List.cons_append, List.nil_append, numAt, intAt,
    itemAt_cons, itemAt_head, optAt_cons, itemAt_textChars hn, optAt_textChars hn,
    optAt_head_last, List.drop_succ_cons, List.drop_zero, word_toNat, unpackText_textChars hn (by decide),
    optional_aspect, hread]

/-! ## The image of a booking (R113) -/

/-- The days of a booking fit their words. -/
def kindWithin : BookingKind → Prop
  | .oneOff d => d ≤ 65535
  | .weekly _ first last => first ≤ 65535 ∧ ∀ l, last = some l → l ≤ 65535

/-- The kind that stands in the first five words of a BOOKING image. -/
def kindOf (ws : List Word) : BookingKind :=
  if itemAt ws 0 = 0 then .oneOff (numAt ws 2)
  else .weekly ((itemAt ws 1).setWidth 7) (numAt ws 2) (optAt ws 3)

section
variable (k : BookingKind) (ws : List Word)

theorem kindImage_length : (kindImage k).length = 5 := by
  rcases k with d | ⟨m, f, _ | l⟩ <;> rfl

theorem itemAt_kindImage (i : Nat) : itemAt (kindImage k ++ ws) (i + 5) = itemAt ws i := by
  rcases k with d | ⟨m, f, _ | l⟩ <;> rfl

theorem optAt_kindImage (i : Nat) : optAt (kindImage k ++ ws) (i + 5) = optAt ws i := by
  rcases k with d | ⟨m, f, _ | l⟩ <;> rfl

theorem drop_kindImage (i : Nat) : (kindImage k ++ ws).drop (i + 5) = ws.drop i := by
  rcases k with d | ⟨m, f, _ | l⟩ <;> rfl

/-- No booking's first word is that of a free slot. -/
theorem kindImage_head : itemAt (kindImage k ++ ws) 0 ≠ noneWord := by
  cases k with
  | oneOff d => exact (by decide : (0 : Word) ≠ noneWord)
  | weekly m f l => exact (by decide : (1 : Word) ≠ noneWord)

theorem kindOf_image (h : kindWithin k) : kindOf (kindImage k ++ ws) = k := by
  cases k with
  | oneOff d =>
    have hd : (word d).toNat = d := (word_toNat d).trans (mod_word h)
    simp [kindOf, kindImage, numAt, itemAt_cons, itemAt_head, hd]
  | weekly m f l =>
    obtain ⟨hf, hl⟩ := h
    have hf : (word f).toNat = f := (word_toNat f).trans (mod_word hf)
    simp [kindOf, kindImage, numAt, itemAt_cons, itemAt_head, optAt_cons, optAt_head, optional_within hl, hf]

end

/-- Every BOOKING image has the length of the empty record, the titles being of at most 16 characters (R113). -/
theorem bookingImage_length (b : Booking) (h : b.title.length ≤ 16) :
    (bookingImage (some b)).length = (bookingImage none).length := by
  have ht : b.title.length ≤ 2 * 8 := h
  simp [bookingImage, kindImage_length, optImage_length, textImage_eq, textChars_length ht]

theorem bookingOf_image (b : Booking) (hk : kindWithin b.kind) (hs : b.startMinute ≤ 1430) (he : b.endMinute ≤ 1440)
    (hl : b.lead ≤ 30) (hg : b.grace ≤ 60) (h : b.title.length ≤ 16) : bookingOf (bookingImage (some b)) = some b := by
  have ht : b.title.length ≤ 2 * 8 := h
  have hkind : kindOf (bookingImage (some b)) = b.kind := by
    simp only [bookingImage, List.append_assoc]
    exact kindOf_image b.kind _ hk
  have hfull : itemAt (bookingImage (some b)) 0 ≠ noneWord := by
    simp only [bookingImage, List.append_assoc]
    exact kindImage_head b.kind _
  rw [bookingOf, if_neg hfull, ← kindOf, hkind]
  simp only [bookingImage, textImage_eq, List.append_assoc, List.cons_append, List.nil_append, numAt,
    itemAt_cons, itemAt_head, optAt_cons, itemAt_kindImage, optAt_kindImage, drop_kindImage, itemAt_optImage,
    optAt_optImage, drop_optImage, optAt_head, List.drop_succ_cons, List.drop_zero, word_toNat,
    unpackText_textChars_last ht (by decide), optional_index (n := 8) (by decide), optional_index (n := 16) (by decide),
    ofNat_word (n := 8) (by decide), bookingLampMode_read, endAction_read, port_read, mod_word (hs.trans (by decide)),
    mod_word (he.trans (by decide)), mod_word (hl.trans (by decide)), mod_word (hg.trans (by decide))]

/-! ## Images of lists (R16, R114) -/

/-- Of images of one length in a row, the first `k` passed over leave the others. -/
theorem drop_flatMap {α : Type} {image : α → List Word} {w : Nat} (hw : ∀ a, (image a).length = w) (l : List α)
    (ws : List Word) {k : Nat} (hk : k ≤ l.length) :
    (l.flatMap image ++ ws).drop (w * k) = (l.drop k).flatMap image ++ ws := by
  induction l generalizing k with
  | nil => simp [Nat.le_zero.mp hk]
  | cons a r ih =>
    cases k with
    | zero => simp
    | succ k =>
      have hlen : w * (k + 1) = (image a).length + w * k := by rw [hw a, Nat.mul_succ, Nat.add_comm]
      rw [hlen, List.flatMap_cons, List.append_assoc, ← List.drop_drop, List.drop_left,
        ih (Nat.le_of_succ_le_succ hk), List.drop_succ_cons]

/-- A list is read back from its images in a row, of which as many are read as there are places. -/
theorem readPlaces {α : Type} {image : α → List Word} {w : Nat} (hw : ∀ a, (image a).length = w)
    {read : List Word → α} {l : List α} (hread : ∀ a, a ∈ l → ∀ ws, read (image a ++ ws) = a) {places : Nat}
    (hl : l.length ≤ places) (ws : List Word) :
    ((List.range places).map fun k => read ((l.flatMap image ++ ws).drop (w * k))).take l.length = l := by
  refine List.ext_getElem (by simpa using hl) fun k _ hk => ?_
  rw [List.getElem_take, List.getElem_map, List.getElem_range, drop_flatMap hw l ws hk.le,
    List.drop_eq_getElem_cons hk, List.flatMap_cons, List.append_assoc]
  exact hread _ (List.getElem_mem hk) _

/-- The words of an exception (R114). -/
def occurrenceImage (o : Occurrence) : List Word := [word o.id.val, word o.day]

/-- The exception that stands in two words (R114). -/
def occurrenceOf (ws : List Word) : Occurrence := { id := Fin.ofNat 64 (numAt ws 0), day := numAt ws 1 }

theorem occurrenceOf_image (o : Occurrence) (h : o.day ≤ 65535) (ws : List Word) :
    occurrenceOf (occurrenceImage o ++ ws) = o := by
  simp only [occurrenceOf, occurrenceImage, List.cons_append, numAt, itemAt_cons, itemAt_head, word_toNat,
    ofNat_word (n := 64) (by decide), mod_word h]

theorem exceptionsOf_eq (ws : List Word) : exceptionsOf ws =
    ((List.range 32).map fun k => occurrenceOf ((ws.drop 1).drop (2 * k))).take (numAt ws 0) := by
  have hday (k : Nat) : 2 + 2 * k = 1 + (2 * k + 1) := by omega
  simp only [exceptionsOf, occurrenceOf, numAt_drop, hday, Nat.add_zero]

theorem exceptionsOf_image (l : List Occurrence) (hl : l.length ≤ 32) (h : ∀ o, o ∈ l → o.day ≤ 65535) :
    exceptionsOf (exceptionsImage l) = l := by
  rw [exceptionsOf_eq, show numAt (exceptionsImage l) 0 = l.length from (word_toNat _).trans (mod_word (by omega))]
  exact readPlaces (image := occurrenceImage) (fun _ => rfl) (fun o ho ws => occurrenceOf_image o (h o ho) ws) hl _

/-- The fields of a summary fit their words (R16). -/
def summaryWithin (x : Summary) : Prop :=
  (∀ n, n ∈ [x.serial, x.burnSeconds, x.strikes, x.finalWear] → n ≤ 4294967295) ∧
    ∀ d, x.removedDay = some d → d ≤ 65535

theorem summaryImage_length (x : Summary) : (summaryImage x).length = 10 := by
  simp [summaryImage, words32, optImage_length]

theorem summaryAt_drop (ws : List Word) (i : Nat) : summaryAt ws i = summaryAt (ws.drop i) 0 := by
  simp only [summaryAt, num32At, optAt, itemAt_drop, numAt_drop, Nat.zero_add, Nat.add_zero, Nat.add_assoc]

theorem summaryAt_cons (w : Word) (ws : List Word) (i : Nat) : summaryAt (w :: ws) (i + 1) = summaryAt ws i := by
  simp only [summaryAt, num32At, Nat.add_right_comm i 1, itemAt_cons, optAt_cons]

theorem summaryAt_optImage (o : Option Nat) (ws : List Word) (i : Nat) :
    summaryAt (optImage o ++ ws) (i + 2) = summaryAt ws i := by
  cases o <;> exact (summaryAt_cons _ _ _).trans (summaryAt_cons _ _ _)

theorem summaryAt_image (x : Summary) (h : summaryWithin x) (ws : List Word) :
    summaryAt (summaryImage x ++ ws) 0 = x := by
  obtain ⟨hn, hd⟩ := h
  have hread : ∀ n, n ∈ [x.serial, x.burnSeconds, x.strikes, x.finalWear] → nat32 (word (n / 65536)) (word n) = n :=
    fun n hmem => nat32_words (hn n hmem)
  simp only [List.forall_mem_cons] at hread
  simp only [summaryAt, summaryImage, words32, num32At, List.cons_append, List.nil_append, Nat.zero_add,
    itemAt_cons, itemAt_head, optAt_cons, optAt_head, hread, optional_within hd]

theorem historyOf_image (l : List Summary) (hl : l.length ≤ 4) (h : ∀ x, x ∈ l → summaryWithin x) :
    historyOf (historyImage l) = l := by
  have hcount : numAt (historyImage l) 0 = l.length := (word_toNat _).trans (mod_word (by omega))
  have hplace : ∀ k, summaryAt (historyImage l) (1 + 10 * k) =
      summaryAt ((l.flatMap summaryImage ++ (List.replicate (4 - l.length) zeroSummary).flatMap summaryImage).drop
        (10 * k)) 0 := fun k => by
    rw [summaryAt_drop, ← List.drop_drop, historyImage, List.flatMap_append, List.drop_succ_cons, List.drop_zero]
  simp only [historyOf, hcount, hplace]
  exact readPlaces (read := fun ws => summaryAt ws 0) summaryImage_length (fun x hx => summaryAt_image x (h x hx)) hl _

/-! ## The image of the lamp account (R1) -/

/-- The words of the previous lamp: a presence word, and its summary or one of zeros. -/
def previousImage : Option Summary → List Word
  | none => 0 :: summaryImage zeroSummary
  | some p => 1 :: summaryImage p

theorem previousImage_read (o : Option Summary) (h : ∀ x, o = some x → summaryWithin x) :
    (if itemAt (previousImage o) 0 = 0 then none else some (summaryAt (previousImage o) 1)) = o := by
  cases o with
  | none => rfl
  | some p =>
    rw [summaryAt_drop]
    simpa [previousImage, itemAt_head] using summaryAt_image p (h p rfl) []

theorem accountImage_eq (a : Account) : accountImage a = words32 a.serial ++ (optImage a.installedDay ++
    (words32 a.wear ++ words32 a.secNormal ++ words32 a.secEco ++ words32 a.coldStrikes ++ words32 a.hotStrikes ++
      words32 a.failedStrikes ++ words32 a.totalSeconds ++ words32 a.totalStrikes ++
      (if a.verified then 0 else 1) :: previousImage a.previous)) := by
  simp only [accountImage, List.append_assoc, List.singleton_append]
  cases a.previous <;> rfl

theorem accountOf_image (a : Account) (hp : ∀ x, a.previous = some x → summaryWithin x)
    (hd : ∀ d, a.installedDay = some d → d ≤ 65535)
    (hn : ∀ n, n ∈ [a.serial, a.wear, a.secNormal, a.secEco, a.coldStrikes, a.hotStrikes, a.failedStrikes,
      a.totalSeconds, a.totalStrikes] → n ≤ 4294967295) : accountOf (accountImage a) = a := by
  have hread := fun n hmem => nat32_words (hn n hmem)
  simp only [List.forall_mem_cons] at hread
  simp only [accountOf, accountImage_eq, words32, num32At, List.cons_append, List.nil_append, Nat.zero_add, itemAt_cons,
    itemAt_head, optAt_cons, optAt_head, itemAt_optImage, summaryAt_cons, summaryAt_optImage, hread, mark_read,
    optional_within hd, previousImage_read a.previous hp]

/-- Settles O59, record by record. -/
theorem recordImagesReadBack : Obligations.RecordImagesReadBack := by
  unfold Obligations.RecordImagesReadBack
  refine ⟨fun b hk hs he hl hg ht => ⟨bookingOf_image b hk hs he hl hg ht, bookingImage_length b ht⟩, rfl,
    sourceOf_image, presetOf_image, profileOf_image, installOf_image, roomOf_image, lockOf_image, exceptionsOf_image,
    historyOf_image, accountOf_image⟩

end Sys2Proof.Machine
end

section
namespace Sys2Proof.Machine

/-! ## The bounds of the persist queue, the control lane and the exceptions (R56, R114, R156) -/

/-- The persist queue, the control lane and the exception list are within their bounds. -/
def queuesWithin (queue : List Entry) (lane : List ControlMsg) (exc : List Occurrence) : Prop :=
  queueWithin queue ∧ laneWithin lane ∧ exc.Nodup ∧ exc.length ≤ 32

/-- The persist queue and the control lane of a state are within their bounds, beside a list of exceptions. -/
@[simp] abbrev lanesWithin (s : State) (exc : List Occurrence) : Prop := queuesWithin s.store.queue s.link.control exc

theorem queuesWithin_of_sublist {queue queue' : List Entry} {lane lane' : List ControlMsg} {exc exc' : List Occurrence}
    (hq : queue'.Sublist queue) (hl : lane'.Sublist lane) (hx : exc'.Sublist exc) (h : queuesWithin queue lane exc) :
    queuesWithin queue' lane' exc' := by
  obtain ⟨⟨hkeys, hcount⟩, ⟨htypes, hpair⟩, hnodup, hlength⟩ := h
  refine ⟨⟨hkeys.sublist (hq.map _), (hq.filter _).length_le.trans hcount⟩, ⟨htypes.sublist (hl.map _), ?_⟩,
    hnodup.sublist hx, hx.length_le.trans hlength⟩
  rintro ⟨hi, he⟩
  exact hpair ⟨hl.subset hi, hl.subset he⟩

/-! ## The place test (R156, R157) -/

/-- The queue has places for the keys (R157). -/
def placeFor (q : List Entry) (ks : List Key) : Prop := nonLampCount q + newPlaces q ks ≤ 11

theorem placeTest_iff (s : State) (ks : List Key) : placeTest s ks = true ↔ placeFor s.store.queue ks :=
  decide_eq_true_iff

theorem placeFor_of_not_busy {s : State} {ks : List Key} (h : ¬ storeBusy s ks = true) :
    placeFor s.store.queue ks := by
  simp only [storeBusy, Bool.or_eq_true, Bool.not_eq_true', ← Bool.not_eq_true, not_or, not_not, placeTest_iff] at h
  exact h.2

/-- A write that passes the standing checks has its places (R157). -/
theorem placeFor_of_standingCheck {s : State} {r : Region} {ins : Bool} {ks : List Key}
    (h : standingCheck s r ins ks = none) : placeFor s.store.queue ks := by
  refine placeFor_of_not_busy fun hb => ?_
  unfold standingCheck at h
  repeat' split at h
  all_goals simp_all

theorem newPlaces_cons (q : List Entry) (k : Key) (ks : List Key) :
    newPlaces q (k :: ks) = newPlaces q [k] + newPlaces q ks := by
  rw [newPlaces, ← List.singleton_append, List.filter_append, List.length_append, newPlaces, newPlaces]

/-- The checkpoint needs no place (R157). -/
theorem newPlaces_checkpoint (q : List Entry) : newPlaces q [.lampCheckpoint] = 0 := rfl

theorem placeFor_checkpoint {q : List Entry} {ks : List Key} (h : placeFor q ks) :
    placeFor q (.lampCheckpoint :: ks) := by
  rwa [placeFor, newPlaces_cons, newPlaces_checkpoint, Nat.zero_add]

/-- The entries counted are those of keys other than the checkpoint (R156). -/
theorem nonLampCount_eq (q : List Entry) :
    nonLampCount q = ((q.map (·.key)).filter (· != Key.lampCheckpoint)).length := by
  rw [nonLampCount, List.filter_map, List.length_map]
  rfl

/-- The keys of a queue in which an entry is queued: the same where its key stood, else one more (R156). -/
theorem enqueue_keys (q : List Entry) (e : Entry) : (enqueue q e).map (·.key) =
    if q.any (fun x => x.key == e.key) then q.map (·.key) else q.map (·.key) ++ [e.key] := by
  unfold enqueue
  split
  · rw [List.map_map]
    refine List.map_congr_left fun x _ => ?_
    by_cases hx : x.key = e.key <;> simp [hx]
  · rw [List.map_append, List.map_singleton]

/-- An entry queued takes the places that its key needs (R156, R157). -/
theorem nonLampCount_enqueue (q : List Entry) (e : Entry) :
    nonLampCount (enqueue q e) = nonLampCount q + newPlaces q [e.key] := by
  rw [nonLampCount_eq, nonLampCount_eq, enqueue_keys, newPlaces]
  cases hq : q.any (fun x => x.key == e.key)
  · by_cases hk : e.key = .lampCheckpoint <;> simp [List.filter, queuedEntry_isNone, hq, hk]
  · simp [List.filter, queuedEntry_isNone, hq]

/-- A key stands in the queue after an entry of another key is queued where it stood before (R156). -/
theorem queuedEntry_enqueue_isNone (q : List Entry) (e : Entry) {k : Key} (hk : k ≠ e.key) :
    (queuedEntry (enqueue q e) k).isNone = (queuedEntry q k).isNone := by
  have hany (l : List Entry) : l.any (fun x => x.key == k) = (l.map (·.key)).any (· == k) := by
    rw [List.any_map]; rfl
  rw [queuedEntry_isNone, queuedEntry_isNone, hany, hany, enqueue_keys]
  split
  · rfl
  · simp [Ne.symm hk]

theorem newPlaces_enqueue (q : List Entry) (e : Entry) {ks : List Key} (h : e.key ∉ ks) :
    newPlaces (enqueue q e) ks = newPlaces q ks := by
  unfold newPlaces
  congr 1
  refine List.filter_congr fun k hk => ?_
  rw [queuedEntry_enqueue_isNone q e fun he => h (he ▸ hk)]

/-- The first of the keys queued leaves places for the others (R157). -/
theorem placeFor_enqueue {q : List Entry} {e : Entry} {ks : List Key} (h : placeFor q (e.key :: ks))
    (hk : e.key ∉ ks) : placeFor (enqueue q e) ks := by
  rw [placeFor, newPlaces_cons] at h
  rwa [placeFor, nonLampCount_enqueue, newPlaces_enqueue q e hk, Nat.add_assoc]

theorem placeFor_head {q : List Entry} {k : Key} {ks : List Key} (h : placeFor q (k :: ks)) : placeFor q [k] := by
  rw [placeFor, newPlaces_cons] at h
  unfold placeFor
  omega

/-- A key with a place is queued within the bounds (R156). -/
theorem queueWithin_enqueue {q : List Entry} {e : Entry} (h : queueWithin q) (hp : placeFor q [e.key]) :
    queueWithin (enqueue q e) :=
  ⟨enqueue_nodup q e h.1, by rwa [nonLampCount_enqueue]⟩

section
variable {queue : List Entry} {lane : List ControlMsg} {exc : List Occurrence}

@[simp] theorem queuesWithin_enqueue {e : Entry} (h : queuesWithin queue lane exc) (hp : placeFor queue [e.key]) :
    queuesWithin (enqueue queue e) lane exc := ⟨queueWithin_enqueue h.1 hp, h.2⟩

/-- The checkpoint is always queued within the bounds (R156). -/
@[simp] theorem queuesWithin_enqueue_checkpoint {image : List Word} {o : Origin} {switch : Option SwitchKind}
    (h : queuesWithin queue lane exc) : queuesWithin
      (enqueue queue { key := .lampCheckpoint, image := image, origin := o, switch := switch }) lane exc :=
  queuesWithin_enqueue h (placeFor_checkpoint (ks := []) h.1.2)

end

/-! ## Operations on the control lane alone -/

section
variable {queue : List Entry} {exc : List Occurrence} {s : State} (h : queuesWithin queue s.link.control exc)
include h

@[simp] theorem handControl_bounded (m : ControlMsg) : queuesWithin queue (handControl m s).link.control exc :=
  ⟨h.1, laneWithin_handControl m s h.2.1, h.2.2⟩

@[simp] theorem serveLink_bounded : queuesWithin queue (serveLink s).link.control exc := by
  refine queuesWithin_of_sublist (List.Sublist.refl _) ?_ (List.Sublist.refl _) h
  unfold serveLink
  split
  · split
    · next hc => simp [hc]
    · split <;> simp
  · exact List.Sublist.refl _

@[simp] theorem applyMode_bounded (m : LampMode) : queuesWithin queue (applyMode m s).link.control exc := by
  simp [applyMode, h]

@[simp] theorem evalLampMode_bounded : queuesWithin queue (evalLampMode s).link.control exc := by
  unfold evalLampMode
  split <;> simp [h]

@[simp] theorem firstEvaluation_bounded : queuesWithin queue (firstEvaluation s).link.control exc := by
  unfold firstEvaluation
  split <;> simp [h]

@[simp] theorem compareBlankDim_bounded : queuesWithin queue (compareBlankDim s).link.control exc := by
  unfold compareBlankDim
  split <;> simp [h]

@[simp] theorem closeManual_bounded : queuesWithin queue (closeManual s).link.control exc := by
  unfold closeManual
  split <;> simp [h]

@[simp] theorem openShutter_bounded : queuesWithin queue (openShutter s).link.control exc := by
  unfold openShutter
  split <;> simp [h]

@[simp] theorem closeAuto_bounded : queuesWithin queue (closeAuto s).link.control exc := by
  unfold closeAuto
  split <;> simp [h]

@[simp] theorem routeStable_bounded : queuesWithin queue (routeStable s).link.control exc := by
  unfold routeStable
  split <;> simp [h]

@[simp] theorem beginAttempt_bounded (n : Nat) : queuesWithin queue (beginAttempt n s).link.control exc := by
  simp [beginAttempt, h]

@[simp] theorem reportBurning_bounded (r : Report) : queuesWithin queue (reportBurning r s).link.control exc := by
  unfold reportBurning
  split <;> simp [h]

@[simp] theorem reportShutter_bounded (r : Report) : queuesWithin queue (reportShutter r s).link.control exc := by
  unfold reportShutter
  repeat' split
  all_goals simp [h]

@[simp] theorem endSettle_bounded (dest : RouteState) (f : FormatImage) :
    queuesWithin queue (endSettle dest f s).link.control exc := by
  unfold endSettle
  split <;> simp [h]

@[simp] theorem formatMoves_bounded (f : Option SignalFormat) :
    queuesWithin queue (formatMoves f s).link.control exc := by
  unfold formatMoves
  dsimp only
  repeat' split
  all_goals simp [h]

@[simp] theorem routerFormat_bounded (f : Option SignalFormat) :
    queuesWithin queue (routerFormat f s).link.control exc := by
  unfold routerFormat
  repeat' split
  all_goals simp [h]

@[simp] theorem settleExpires_bounded : queuesWithin queue (settleExpires s).link.control exc := by
  simp [settleExpires, h]

@[simp] theorem roomChange_bounded (dest : RoomState) (occ : Option Occurrence) (cause : RoomCause) (origin : Origin)
    (id : Fin 64) : queuesWithin queue (roomChange dest occ cause origin id s).link.control exc := by simp [roomChange, h]

@[simp] theorem blankAtEnd_bounded : queuesWithin queue (blankAtEnd s).link.control exc := by simp [blankAtEnd, h]

@[simp] theorem handMode_bounded : queuesWithin queue (handMode s).link.control exc := by
  unfold handMode
  split <;> simp [h]

@[simp] theorem askStatus_bounded (t : HeadType) : queuesWithin queue (askStatus t s).link.control exc := by
  unfold askStatus
  split <;> simp [h]

@[simp] theorem headRestarts_bounded (r : Report) (lastSet : Option (BitVec 8)) (returned : Bool) :
    queuesWithin queue (headRestarts r lastSet returned s).link.control exc := by
  unfold headRestarts
  split <;> simp [h]

end

/-! ## Operations on the persist queue alone -/

section
variable {lane : List ControlMsg} {exc : List Occurrence} {s : State} (h : queuesWithin s.store.queue lane exc)
include h

@[simp] theorem queueOwn_bounded (k : Key) (o : Origin) : queuesWithin (queueOwn k o s).store.queue lane exc := by
  unfold queueOwn
  split
  · exact h
  · next hc =>
    simp only [Bool.or_eq_true, Bool.not_eq_true', ← Bool.not_eq_true, not_or, not_not, placeTest_iff] at hc
    simp [h, hc.1]

@[simp] theorem runEngine_bounded : queuesWithin (runEngine s).store.queue lane exc := by
  refine queuesWithin_of_sublist ?_ (List.Sublist.refl _) (List.Sublist.refl _) h
  unfold runEngine
  repeat' split
  · exact List.Sublist.refl _
  · exact (takeEntries_sub _ _).sublist
  · exact List.Sublist.refl _

@[simp] theorem checkpointRequest_bounded : queuesWithin (checkpointRequest s).store.queue lane exc := by
  unfold checkpointRequest
  repeat' split
  all_goals simp [h]

@[simp] theorem advanceCadence_bounded : queuesWithin (advanceCadence s).store.queue lane exc := by
  unfold advanceCadence
  split <;> simp [h]

@[simp] theorem pushHistory_bounded (x : Summary) (o : Origin) :
    queuesWithin (pushHistory x o s).store.queue lane exc := by
  unfold pushHistory
  dsimp only
  split <;> simp [h]

@[simp] theorem queueSwitch_bounded (kind : SwitchKind) (content : Account) :
    queuesWithin (queueSwitch kind content s).store.queue lane exc := by simp [queueSwitch, h]

@[simp] theorem completeHistory_bounded : queuesWithin (completeHistory s).store.queue lane exc := by
  unfold completeHistory
  repeat' split
  all_goals simp [h]

@[simp] theorem enteredCooling_bounded : queuesWithin (enteredCooling s).store.queue lane exc := by
  simp [enteredCooling, h]

@[simp] theorem cleanSlot_bounded (id : Fin 64) : queuesWithin (cleanSlot s id).store.queue lane exc := by
  unfold cleanSlot
  repeat' split
  all_goals simp [h]

end

/-! ## Operations on both -/

section
variable {exc : List Occurrence} {s : State} (h : lanesWithin s exc)
include h

@[simp] theorem finish_bounded : lanesWithin (finish s) exc := by simp [finish, h]

@[simp] theorem levelBecomes_bounded (ask : Bool) (old : Option Level) (v : Level) (wear : Nat) :
    lanesWithin (levelBecomes ask old v wear s) exc := by
  unfold levelBecomes
  repeat' split
  all_goals simp [h]

@[simp] theorem relevelAsking_bounded (ask : Bool) : lanesWithin (relevelAsking ask s) exc := by
  unfold relevelAsking
  split <;> simp [h]

@[simp] theorem relevel_bounded : lanesWithin (relevel s) exc := by simp [relevel, h]

@[simp] theorem chargeSecond_bounded : lanesWithin (chargeSecond s) exc := by
  unfold chargeSecond
  split <;> simp [h]

@[simp] theorem endBurn_bounded : lanesWithin (endBurn s) exc := by
  unfold endBurn
  split <;> simp [h]

@[simp] theorem countStrike_bounded : lanesWithin (countStrike s) exc := by
  unfold countStrike
  split <;> simp [h]

@[simp] theorem countFailed_bounded : lanesWithin (countFailed s) exc := by
  unfold countFailed
  split <;> simp [h]

@[simp] theorem makeSwitch_bounded (kind : SwitchKind) (a : Account) : lanesWithin (makeSwitch kind a s) exc := by
  unfold makeSwitch
  repeat' split
  all_goals simp [h]

@[simp] theorem applyTally_bounded : lanesWithin (applyTally s) exc := by
  unfold applyTally
  repeat' split
  all_goals simp [h]

@[simp] theorem loadLamp_bounded : lanesWithin (loadLamp s) exc := by simp [loadLamp, h]

@[simp] theorem enterPower_bounded (dest : PowerState) : lanesWithin (enterPower dest s) exc := by
  unfold enterPower
  repeat' split
  all_goals simp [h]

@[simp] theorem setPower_bounded (dest : PowerState) (origin : Origin) (reason : Option Reason) :
    lanesWithin (setPower dest origin reason s) exc := by simp [setPower, h]

@[simp] theorem settleDark_bounded (dest : PowerState) (origin : Origin) (reason : Option Reason) :
    lanesWithin (settleDark dest origin reason s) exc := by simp [settleDark, h]

@[simp] theorem beginSequence_bounded (o : Origin) : lanesWithin (beginSequence o s) exc := by simp [beginSequence, h]

@[simp] theorem igniteAccepted_bounded : lanesWithin (igniteAccepted s) exc := by
  unfold igniteAccepted
  repeat' split
  all_goals simp [h]

@[simp] theorem igniteRejected_bounded : lanesWithin (igniteRejected s) exc := by
  unfold igniteRejected
  split <;> simp [h]

@[simp] theorem attemptSucceeds_bounded : lanesWithin (attemptSucceeds s) exc := by simp [attemptSucceeds, h]

@[simp] theorem enterFault_bounded : lanesWithin (enterFault s) exc := by simp [enterFault, h]

@[simp] theorem attemptFails_bounded (timeout : Bool) : lanesWithin (attemptFails timeout s) exc := by
  unfold attemptFails
  repeat' split
  all_goals simp [h]

@[simp] theorem strikeResultTaken_bounded (ok : Bool) : lanesWithin (strikeResultTaken ok s) exc := by
  unfold strikeResultTaken
  split <;> simp [h]

@[simp] theorem pauseEnds_bounded : lanesWithin (pauseEnds s) exc := by
  unfold pauseEnds
  split <;> simp [h]

@[simp] theorem powerOn_bounded (o : Origin) : lanesWithin (powerOn o s).2 exc := by
  unfold powerOn
  repeat' split
  all_goals simp [h]

@[simp] theorem putOut_bounded (o : Origin) : lanesWithin (putOut o s) exc := by simp [putOut, h]

@[simp] theorem powerOff_bounded (o : Origin) : lanesWithin (powerOff o s).2 exc := by
  unfold powerOff
  repeat' split
  all_goals simp [h]

@[simp] theorem schedulePowerOn_bounded : lanesWithin (schedulePowerOn s) exc := by
  unfold schedulePowerOn
  dsimp only
  split <;> simp [h]

@[simp] theorem schedulePowerOff_bounded : lanesWithin (schedulePowerOff s) exc := by simp [schedulePowerOff, h]

@[simp] theorem warmingEnds_bounded : lanesWithin (warmingEnds s) exc := by
  unfold warmingEnds
  split <;> simp [h]

@[simp] theorem coolingEnds_bounded : lanesWithin (coolingEnds s) exc := by
  unfold coolingEnds
  repeat' split
  all_goals simp [h]

@[simp] theorem applyOnInStandby_bounded : lanesWithin (applyOnInStandby s) exc := by
  unfold applyOnInStandby
  repeat' split
  all_goals simp [h]

@[simp] theorem applyIntent_bounded : lanesWithin (applyIntent s) exc := by
  unfold applyIntent
  repeat' split
  all_goals simp [h]

@[simp] theorem adopt_bounded (r : Report) : lanesWithin (adopt r s) exc := by
  have hplaced (t : State) (ht : lanesWithin t exc) (dest : PowerState) :
      lanesWithin (restartSecond (firstEvaluation (setPower dest .auto none t))) exc := by simp [ht]
  unfold adopt
  refine applyIntent_bounded (hplaced _ ?_ _)
  split <;> simpa using h

@[simp] theorem reportStrike_bounded (r : Report) : lanesWithin (reportStrike r s) exc := by
  unfold reportStrike
  split <;> simp [h]

@[simp] theorem reportLampOut_bounded (r : Report) : lanesWithin (reportLampOut r s) exc := by
  unfold reportLampOut
  dsimp only
  repeat' split
  all_goals simp [h]

@[simp] theorem overheated_bounded : lanesWithin (overheated s) exc := by
  unfold overheated
  repeat' split
  all_goals simp [h]

@[simp] theorem reportThermal_bounded (r : Report) : lanesWithin (reportThermal r s) exc := by
  unfold reportThermal
  repeat' split
  all_goals simp [h]

@[simp] theorem reportDeferred_bounded (r : Report) : lanesWithin (reportDeferred r s) exc := by
  unfold reportDeferred
  split <;> simp [h]

@[simp] theorem powerReport_bounded (r : Report) : lanesWithin (powerReport r s) exc := by
  have hout : lanesWithin (reportLampOut r (reportStrike r s)) exc := by simp [h]
  have hthermal : lanesWithin (reportThermal r (reportBurning r (reportLampOut r (reportStrike r s)))) exc := by
    simp [hout]
  unfold powerReport
  split
  · simp [h]
  · simp [hthermal]

@[simp] theorem countLost_bounded : lanesWithin (countLost s) exc := by
  unfold countLost
  split <;> simp [h]

@[simp] theorem powerLinkLost_bounded : lanesWithin (powerLinkLost s) exc := by
  unfold powerLinkLost
  split <;> simp [h]

@[simp] theorem noSignalActs_bounded : lanesWithin (noSignalActs s) exc := by
  unfold noSignalActs
  repeat' split
  all_goals simp [h]

@[simp] theorem noSignalExpires_bounded : lanesWithin (noSignalExpires s) exc := by simp [noSignalExpires, h]

@[simp] theorem timeoutChanged_bounded (old : Nat) : lanesWithin (timeoutChanged old s) exc := by
  unfold timeoutChanged
  dsimp only
  repeat' split
  all_goals simp [h]

@[simp] theorem occupiedActions_bounded (b : Booking) : lanesWithin (occupiedActions b s) exc := by
  unfold occupiedActions
  dsimp only
  repeat' split
  all_goals simp [h]

@[simp] theorem enterRoom_bounded (o : Occurrence) (b : Booking) (cause : RoomCause) (origin : Origin) :
    lanesWithin (enterRoom o b cause origin s) exc := by
  unfold enterRoom
  split <;> simp [h]

@[simp] theorem endAction_bounded (b : Booking) : lanesWithin (endAction b s) exc := by
  unfold endAction
  repeat' split
  all_goals simp [h]

@[simp] theorem endOccurrence_bounded (o : Occurrence) (held : Option Booking) (cause : RoomCause) (origin : Origin) :
    lanesWithin (endOccurrence o held cause origin s) exc := by
  unfold endOccurrence
  repeat' split
  all_goals simp [h]

@[simp] theorem evaluate_bounded (held : Option Booking) (cause : RoomCause) (origin : Origin) :
    lanesWithin (evaluate held cause origin s) exc := by
  unfold evaluate
  repeat' split
  all_goals simp [h]

@[simp] theorem evaluateStep_bounded (cause : RoomCause) : lanesWithin (evaluateStep cause s) exc := by
  unfold evaluateStep
  split <;> simp [h]

@[simp] theorem headReturnedRoom_bounded : lanesWithin (headReturnedRoom s) exc := by
  unfold headReturnedRoom
  repeat' split
  all_goals simp [h]

@[simp] theorem headReturns_bounded (t : HeadType) : lanesWithin (headReturns t s) exc := by
  unfold headReturns
  refine headReturnedRoom_bounded ?_
  simp [h]

@[simp] theorem headArrives_bounded (t : HeadType) : lanesWithin (headArrives t s) exc := by
  unfold headArrives
  split <;> simp [h]

@[simp] theorem linkLost_bounded (c : LossCause) : lanesWithin (linkLost c s) exc := by
  have hflush : queuesWithin s.store.queue [] exc :=
    queuesWithin_of_sublist (List.Sublist.refl _) (List.nil_sublist _) (List.Sublist.refl _) h
  simp [linkLost, flushLink, hflush]

@[simp] theorem ackOk_bounded (o : Outstanding) : lanesWithin (ackOk o s) exc := by
  unfold ackOk
  repeat' split
  all_goals simp [h]

@[simp] theorem ackReject_bounded (o : Outstanding) : lanesWithin (ackReject o s) exc := by
  unfold ackReject
  repeat' split
  all_goals simp [h]

@[simp] theorem ackTaken_bounded (tag : BitVec 3) (ok : Bool) : lanesWithin (ackTaken tag ok s) exc := by
  unfold ackTaken
  repeat' split
  all_goals simp [h]

@[simp] theorem answerExpires_bounded : lanesWithin (answerExpires s) exc := by
  unfold answerExpires
  repeat' split
  all_goals simp [h]

@[simp] theorem silenceExpires_bounded : lanesWithin (silenceExpires s) exc := by
  unfold silenceExpires
  split <;> simp [h]

@[simp] theorem reportTaken_bounded (r : Report) : lanesWithin (reportTaken r s) exc := by
  have hshown (u : State) (hu : lanesWithin u exc) : lanesWithin (geometryReport r.committed
      (powerReport r { u with link := { u.link with reportImage := some r } })) exc := by simp [hu]
  unfold reportTaken
  refine hshown _ ?_
  split <;> simp [h]

@[simp] theorem strikeResultArrives_bounded (ok : Bool) : lanesWithin (strikeResultArrives ok s) exc := by
  unfold strikeResultArrives
  dsimp only
  split <;> simp [h]

@[simp] theorem formatTaken_bounded (f : Option SignalFormat) : lanesWithin (formatTaken f s) exc := by
  simp [formatTaken, h]

@[simp] theorem completeWrite_bounded : lanesWithin (completeWrite s) exc := by
  unfold completeWrite
  repeat' split
  all_goals simp [h]

@[simp] theorem wipeActs_bounded (old : State) (o : Origin) : lanesWithin (wipeActs old o s) exc := by
  have htimes (sources : Vector SourceEntry 8) (edited : List (Fin 8)) :
      lanesWithin (timeoutChanged old.store.room.noSignal (editSources sources edited (relevel s))) exc := by simp [h]
  have hmode (t : State) (ht : lanesWithin t exc) :
      lanesWithin (triggerEval (evalLampMode (compareBlankDim t))) exc := by simp [ht]
  unfold wipeActs
  simpa using evaluate_bounded (hmode _ (htimes _ _)) _ _ _

end

/-! ## Operations on the exceptions too -/

section
variable {lane : List ControlMsg} {s : State} (h : queuesWithin s.store.queue lane s.room.exceptions)
include h

@[simp] theorem pruneExceptions_bounded :
    queuesWithin (pruneExceptions s).store.queue lane (pruneExceptions s).room.exceptions := by
  have hkept := queuesWithin_of_sublist (List.Sublist.refl _) (List.Sublist.refl _)
    (List.filter_sublist (p := fun o => s.room.clock.day ≤ o.day)) h
  unfold pruneExceptions
  dsimp only
  repeat' split
  · exact h
  · exact hkept
  · simp [hkept]

end

section
variable {s : State} (h : lanesWithin s s.room.exceptions)
include h

@[simp] theorem minuteStep_bounded : lanesWithin (minuteStep s) (minuteStep s).room.exceptions := by
  unfold minuteStep
  dsimp only
  repeat' split
  all_goals simp [h]

@[simp] theorem clockTicks_bounded : lanesWithin (clockTicks s) (clockTicks s).room.exceptions := by
  have hstep := minuteStep_bounded h
  unfold clockTicks
  split
  · exact h
  · split
    · exact h
    · exact hstep

@[simp] theorem jumpClock_bounded (c : Clock) (origin : Origin) :
    lanesWithin (jumpClock c origin s) (jumpClock c origin s).room.exceptions := by simp [jumpClock, h]

@[simp] theorem completeWipe_bounded : lanesWithin (completeWipe s) (completeWipe s).room.exceptions := by
  have hempty : queuesWithin s.store.queue s.link.control [] :=
    queuesWithin_of_sublist (List.Sublist.refl _) (List.Sublist.refl _) (List.nil_sublist _) h
  unfold completeWipe
  split
  · simp [wipeLive, hempty]
  · exact h
  · exact h

end


/-! ## The load (R131) -/

/-- A list of which each member joins another once is free of repetitions, and no longer than both. -/
theorem foldl_joinOnce_within (l kept : List Occurrence) (h : kept.Nodup) :
    (l.foldl (fun l o => if l.contains o then l else l ++ [o]) kept).Nodup ∧
      (l.foldl (fun l o => if l.contains o then l else l ++ [o]) kept).length ≤ kept.length + l.length := by
  induction l generalizing kept with
  | nil => exact ⟨h, Nat.le_refl _⟩
  | cons o r ih =>
    rw [List.foldl_cons, List.length_cons]
    split
    · obtain ⟨hnodup, hlength⟩ := ih kept h
      exact ⟨hnodup, hlength.trans (by omega)⟩
    · next ho =>
      obtain ⟨hnodup, hlength⟩ := ih (kept ++ [o])
        (by rw [← List.concat_eq_append]; exact h.concat (by simpa using ho))
      refine ⟨hnodup, hlength.trans ?_⟩
      rw [List.length_append, List.length_singleton]
      omega

/-- The exceptions that stay at the load are each once, and no more than there were (R131). -/
theorem cleanExceptions_within (s : State) : (cleanExceptions s).Nodup ∧
    (cleanExceptions s).length ≤ s.room.exceptions.length := by
  obtain ⟨hnodup, hlength⟩ := foldl_joinOnce_within (s.room.exceptions.filter (namesWeekly s)) [] List.nodup_nil
  exact ⟨hnodup, hlength.trans (by simpa using List.length_filter_le _ _)⟩

/-- An exception list that is short enough may take the place of another. -/
theorem queuesWithin_exceptions {queue : List Entry} {lane : List ControlMsg} {exc exc' : List Occurrence}
    (h : queuesWithin queue lane exc) (hx : exc'.Nodup) (hl : exc'.length ≤ 32) : queuesWithin queue lane exc' :=
  ⟨h.1, h.2.1, hx, hl⟩

section
variable {exc : List Occurrence} {s : State}

theorem cleanFold_bounded {lane : List ControlMsg} (l : List (Fin 64)) (h : queuesWithin s.store.queue lane exc) :
    queuesWithin (l.foldl cleanSlot s).store.queue lane exc := by
  induction l generalizing s with
  | nil => exact h
  | cons id r ih => exact ih (cleanSlot_bounded h id)

/-- The load's exceptions come within their bounds, whatever was stored (R131). -/
theorem cleanTable_bounded {lane : List ControlMsg} (h : queuesWithin s.store.queue lane exc)
    (hx : s.room.exceptions.length ≤ 32) :
    queuesWithin (cleanTable s).store.queue lane (cleanTable s).room.exceptions := by
  have hfold := cleanFold_bounded (List.finRange 64) h
  obtain ⟨hnodup, hlength⟩ := cleanExceptions_within ((List.finRange 64).foldl cleanSlot s)
  have hclean := queuesWithin_exceptions hfold hnodup (hlength.trans (by simpa using hx))
  unfold cleanTable
  dsimp only
  split
  · next hsame => rwa [← hsame]
  · simp [hclean]

theorem loadRoom_bounded (h : lanesWithin s exc) (hx : s.room.exceptions.length ≤ 32) :
    lanesWithin (loadRoom s) (loadRoom s).room.exceptions := by
  have hclean := cleanTable_bounded h hx
  unfold loadRoom
  dsimp only
  split <;> simp [hclean]

@[simp] theorem completeLoad_bounded (h : lanesWithin s s.room.exceptions) :
    lanesWithin (completeLoad s) (completeLoad s).room.exceptions := by
  have hlamp : lanesWithin (loadLamp (loadRecords (nonLampKeys.foldl loadNotice s))) s.room.exceptions := by
    refine loadLamp_bounded ?_
    simpa [loadRecords] using h
  unfold completeLoad
  split
  · exact h
  · have hmode : lanesWithin (firstEvaluation (compareBlankDim
      (loadLamp (loadRecords (nonLampKeys.foldl loadNotice s))))) s.room.exceptions := by simp [hlamp]
    have hroom := loadRoom_bounded (applyOnInStandby_bounded hmode) (by simp [loadRecords, exceptionsOf])
    simpa using hroom

end

end Sys2Proof.Machine
end

section
namespace Sys2Proof.Machine

/-! ## Writes of records whose place has been found (R155 to R157) -/

section
variable {lane : List ControlMsg} {exc : List Occurrence} {s : State} (h : queuesWithin s.store.queue lane exc)
include h

@[simp] theorem writeRoom_bounded (hp : placeFor s.store.queue [.roomDefaults]) (r : RoomDefaults) (o : Origin) :
    queuesWithin (writeRoom r o s).store.queue lane exc := by simp [writeRoom, h, hp]

@[simp] theorem storeSource_bounded (hp : placeFor s.store.queue [.roomDefaults]) (x : Fin 8) (o : Origin) :
    queuesWithin (storeSource x o s).store.queue lane exc := by simp [storeSource, h, hp]

@[simp] theorem writePreset_bounded (n : Fin 16) (hp : placeFor s.store.queue [.preset n]) (x : Preset) (o : Origin) :
    queuesWithin (writePreset n x o s).store.queue lane exc := by simp [writePreset, h, hp]

@[simp] theorem writeEntry_bounded (n : Fin 8) (hp : placeFor s.store.queue [.source n]) (e : SourceEntry)
    (o : Origin) : queuesWithin (writeEntry n e o s).store.queue lane exc := by simp [writeEntry, h, hp]

@[simp] theorem writeProfile_bounded (n : Fin 8) (hp : placeFor s.store.queue [.profile n]) (f : Profile) (o : Origin) :
    queuesWithin (writeProfile n f o s).store.queue lane exc := by simp [writeProfile, h, hp]

@[simp] theorem writeInstall_bounded (hp : placeFor s.store.queue [.install]) (r : InstallRecord) (o : Origin) :
    queuesWithin (writeInstall r o s).store.queue lane exc := by simp [writeInstall, h, hp]

@[simp] theorem writeLock_bounded (hp : placeFor s.store.queue [.lockPair]) (locked : Bool) (o : Origin) :
    queuesWithin (writeLock locked o s).store.queue lane exc := by simp [writeLock, h, hp]

/-- The entries left at the acceptance of a wipe (R162). -/
@[simp] theorem dropForWipe_bounded : queuesWithin (dropForWipe s).store.queue lane exc := by
  have hkept := queuesWithin_of_sublist (List.filter_sublist (p := fun e => keyRegion e.key == .a))
    (List.Sublist.refl _) (List.Sublist.refl _) h
  simpa [dropForWipe] using hkept

end

/-! ## Commands of the classes POWER, LAMP and SOURCE -/

section
variable {exc : List Occurrence} {s : State} (h : lanesWithin s exc)
include h

@[simp] theorem accept_bounded (a : Answer) : lanesWithin (accept a s).2 exc := by
  unfold accept finished
  split <;> simp [h]

@[simp] theorem ownPowerOn_bounded (p : Port) : lanesWithin (ownPowerOn p s).2 exc := by
  unfold ownPowerOn finished
  split <;> simp [h]

@[simp] theorem ownPowerOff_bounded (p : Port) : lanesWithin (ownPowerOff p s).2 exc := by
  unfold ownPowerOff finished
  split <;> simp [h]

@[simp] theorem ownBlank_bounded (ps : List Word) : lanesWithin (ownBlank ps s).2 exc := by
  unfold ownBlank
  split <;> simp [h]

@[simp] theorem ownSetLampMode_bounded (p : Port) (q : Qualifier) (ps : List Word) :
    lanesWithin (ownSetLampMode p q ps s).2 exc := by
  unfold ownSetLampMode
  split
  · exact h
  · simp [h]
  · exact h
  · split
    · exact h
    · next hc =>
      have hroom := writeRoom_bounded (s := setMomentaryMode none s) h (placeFor_of_standingCheck hc)
      refine accept_bounded ?_ _
      simp [hroom]

@[simp] theorem ownSelectSource_bounded (p : Port) (q : Qualifier) (ps : List Word) :
    lanesWithin (ownSelectSource p q ps s).2 exc := by
  unfold ownSelectSource finished
  dsimp only
  repeat' split
  all_goals try simp [h]
  next hc _ => simp [h, placeFor_of_standingCheck hc]

/-! ## Commands of the class GEOMETRY -/

@[simp] theorem momentaryGeometry_bounded (clamped : Bool) (o : Overlay) :
    lanesWithin (momentaryGeometry clamped o s).2 exc := by simp [momentaryGeometry, h]

@[simp] theorem standingGeometry_bounded (p : Port) (clamped : Bool) (x : Preset) (o : Overlay) :
    lanesWithin (standingGeometry p clamped x o s).2 exc := by
  unfold standingGeometry
  dsimp only
  split
  · exact h
  · next hc => simp [h, placeFor_of_standingCheck hc]

@[simp] theorem ownLoadPreset_bounded (p : Port) (q : Qualifier) (ps : List Word) :
    lanesWithin (ownLoadPreset p q ps s).2 exc := by
  unfold ownLoadPreset
  split
  · exact h
  · simp [h]
  · exact h
  · split
    · exact h
    · next hc => simp [h, placeFor_of_standingCheck hc]

@[simp] theorem ownSetKeystone_bounded (p : Port) (q : Qualifier) (ps : List Word) :
    lanesWithin (ownSetKeystone p q ps s).2 exc := by
  unfold ownSetKeystone
  repeat' split
  all_goals simp [h]

@[simp] theorem ownNudgeKeystone_bounded (p : Port) (q : Qualifier) (ps : List Word) :
    lanesWithin (ownNudgeKeystone p q ps s).2 exc := by
  unfold ownNudgeKeystone
  repeat' split
  all_goals simp [h]

@[simp] theorem ownSetCorner_bounded (p : Port) (q : Qualifier) (ps : List Word) :
    lanesWithin (ownSetCorner p q ps s).2 exc := by
  unfold ownSetCorner
  repeat' split
  all_goals simp [h]

@[simp] theorem ownSetAspect_bounded (p : Port) (q : Qualifier) (ps : List Word) :
    lanesWithin (ownSetAspect p q ps s).2 exc := by
  unfold ownSetAspect
  repeat' split
  all_goals simp [h]

@[simp] theorem ownSavePreset_bounded (p : Port) (ps : List Word) : lanesWithin (ownSavePreset p ps s).2 exc := by
  unfold ownSavePreset
  split
  · split
    · exact h
    · next n _ _ _ _ hc =>
      have hwrite := writePreset_bounded h n (placeFor_of_standingCheck hc)
      dsimp only
      split <;> simp [hwrite]
  · exact h

@[simp] theorem ownReapplyGeometry_bounded : lanesWithin (ownReapplyGeometry s).2 exc := by
  unfold ownReapplyGeometry
  split <;> simp [h]

/-! ## Commands of the class SCHEDULE that leave the exceptions -/

@[simp] theorem ownAddBooking_bounded (p : Port) (q : Qualifier) (ps : List Word) :
    lanesWithin (ownAddBooking p q ps s).2 exc := by
  unfold ownAddBooking
  dsimp only
  repeat' split
  · exact h
  · exact h
  · exact h
  · exact h
  · exact h
  · next hc =>
    refine accept_bounded (evaluate_bounded ?_ _ _ _) _
    simp [h, placeFor_of_not_busy hc]

@[simp] theorem ownExtendBooking_bounded (ps : List Word) : lanesWithin (ownExtendBooking ps s).2 exc := by
  unfold ownExtendBooking
  dsimp only
  repeat' split
  all_goals simp [h]

@[simp] theorem ownReleaseRoom_bounded (p : Port) : lanesWithin (ownReleaseRoom p s).2 exc := by
  unfold ownReleaseRoom
  split <;> simp [h]

/-! ## Commands of the classes SETTINGS and LOCKOUT -/

@[simp] theorem ownSetSourceEntry_bounded (p : Port) (ps : List Word) :
    lanesWithin (ownSetSourceEntry p ps s).2 exc := by
  unfold ownSetSourceEntry
  split
  · split
    · exact h
    · next hc => simp [h, placeFor_of_standingCheck hc]
  · exact h

@[simp] theorem ownSetProfile_bounded (p : Port) (ps : List Word) : lanesWithin (ownSetProfile p ps s).2 exc := by
  unfold ownSetProfile
  split
  · split
    · exact h
    · next hc => simp [h, placeFor_of_standingCheck hc]
  · exact h

@[simp] theorem ownSetInstallRecord_bounded (p : Port) (ps : List Word) :
    lanesWithin (ownSetInstallRecord p ps s).2 exc := by
  unfold ownSetInstallRecord
  split
  · exact h
  · split
    · exact h
    · next hc =>
      have hwrite := writeInstall_bounded h (placeFor_of_standingCheck hc)
      simp [hwrite]

@[simp] theorem ownSetRoomTimes_bounded (p : Port) (ps : List Word) : lanesWithin (ownSetRoomTimes p ps s).2 exc := by
  unfold ownSetRoomTimes
  split
  · exact h
  · split
    · exact h
    · next hc =>
      have htimes (t : State) (ht : lanesWithin t exc) :
          lanesWithin (compareBlankDim (timeoutChanged s.store.room.noSignal t)) exc := by simp [ht]
      exact accept_bounded (htimes _ (by simp [h, placeFor_of_standingCheck hc])) _

@[simp] theorem ownSetInstallLock_bounded (p : Port) : lanesWithin (ownSetInstallLock p s).2 exc := by
  unfold ownSetInstallLock
  split
  · exact h
  · next hc => simp [h, placeFor_of_not_busy hc]

@[simp] theorem ownClearInstallLock_bounded (p : Port) : lanesWithin (ownClearInstallLock p s).2 exc := by
  unfold ownClearInstallLock
  repeat' split
  · exact h
  · exact h
  · next hc => simp [h, placeFor_of_not_busy hc]

@[simp] theorem ownProtectRegions_bounded (ps : List Word) : lanesWithin (ownProtectRegions ps s).2 exc := by
  unfold ownProtectRegions
  split <;> simp [h]

@[simp] theorem ownUnprotectRegions_bounded (ps : List Word) : lanesWithin (ownUnprotectRegions ps s).2 exc := by
  unfold ownUnprotectRegions
  repeat' split
  all_goals simp [h]

@[simp] theorem ownStoreWipe_bounded (p : Port) : lanesWithin (ownStoreWipe p s).2 exc := by
  unfold ownStoreWipe
  repeat' split
  all_goals simp [h]

@[simp] theorem ownSetOverride_bounded (p : Port) (q : Qualifier) (ps : List Word) :
    lanesWithin (ownSetOverride p q ps s).2 exc := by
  unfold ownSetOverride
  split
  · exact h
  · split
    · simp [h]
    · split
      · exact h
      · next hc => simp [h, placeFor_of_standingCheck hc]

/-! ## Commands of the class SERVICE-ONLY -/

/-- The checkpoint and, with a rated life given, the INSTALL RECORD are queued (R19). -/
theorem replaceLamp_bounded (a : Account) (serial : Nat) (life : Option Nat)
    (hp : life ≠ none → placeFor s.store.queue [.install]) : lanesWithin (replaceLamp a serial life s) exc := by
  have hswitch := queueSwitch_bounded h .replace (replacementAccount a serial (today s))
  unfold replaceLamp
  dsimp only
  split
  · simpa using hswitch
  · have hplace : placeFor (queueSwitch .replace (replacementAccount a serial (today s)) s).store.queue
        [.install] := by
      simpa [queueSwitch] using placeFor_enqueue (placeFor_checkpoint (hp (by simp))) (by simp)
    have hwrite := writeInstall_bounded hswitch hplace
    exact relevel_bounded (by simpa using hwrite _ _)

omit h in
theorem placeFor_of_lifeCheck {life : Option Nat} (hl : life ≠ none) (hc : lifeCheck s life = none) :
    placeFor s.store.queue [.install] := by
  cases life with
  | none => exact absurd rfl hl
  | some n => exact placeFor_of_standingCheck hc

@[simp] theorem ownLampReplace_bounded (ps : List Word) : lanesWithin (ownLampReplace ps s).2 exc := by
  unfold ownLampReplace
  dsimp only
  repeat' split
  all_goals try exact h
  next hc => exact accept_bounded (replaceLamp_bounded h _ _ _ fun hl => placeFor_of_lifeCheck hl hc) _

@[simp] theorem ownLampSet_bounded (ps : List Word) : lanesWithin (ownLampSet ps s).2 exc := by
  unfold ownLampSet
  split <;> simp [h]

@[simp] theorem ownClearFault_bounded (p : Port) : lanesWithin (ownClearFault p s).2 exc := by
  unfold ownClearFault
  split <;> simp [h]

@[simp] theorem ownLeaveCommission_bounded : lanesWithin (ownLeaveCommission s).2 exc := by
  unfold ownLeaveCommission
  split <;> simp [h]

end

/-! ## Commands of the class SCHEDULE on the exceptions -/

theorem queueLive_bounded {exc : List Occurrence} {s : State} (h : lanesWithin s exc) {k : Key}
    (hp : placeFor s.store.queue [k]) (o : Origin) : lanesWithin (queueLive k o s) exc := by simp [h, hp]

/-- The records that an edit of a booking writes (R117, R118). -/
theorem queueEdited_bounded {exc : List Occurrence} {s : State} (h : lanesWithin s exc) (id : Fin 64)
    (old : List Occurrence) (o : Origin) (hp : placeFor s.store.queue (editKeys id old s.room.exceptions)) :
    lanesWithin (queueExceptions old o (queueLive (.booking id) o s)) exc := by
  unfold editKeys at hp
  simp only [queueExceptions, queueLive_frame]
  split
  · next hsame => exact queueLive_bounded h (by simpa [hsame] using hp) o
  · next hother =>
    rw [if_neg hother] at hp
    refine queueLive_bounded (queueLive_bounded h (placeFor_head hp) o) ?_ o
    rw [queueLive_queue]
    exact placeFor_enqueue (by exact hp) (by simp)

@[simp] theorem currentEdited_bounded {queue : List Entry} {exc : List Occurrence} {s : State}
    (h : queuesWithin queue s.link.control exc) (old new : Booking) (o : Origin) :
    queuesWithin queue (currentEdited old new o s).link.control exc := by
  unfold currentEdited
  split <;> simp [h]

/-- An exception inserted is one more (R114). -/
theorem insertException_perm (o : Occurrence) (l : List Occurrence) : (insertException o l).Perm (o :: l) := by
  induction l with
  | nil => exact .refl _
  | cons x r ih =>
    unfold insertException
    split
    · exact .refl _
    · exact (ih.cons x).trans (.swap o x r)

/-- An exception that is not listed finds a place in a list of fewer than 32 (R114). -/
theorem queuesWithin_insertException {queue : List Entry} {lane : List ControlMsg} {exc : List Occurrence}
    {o : Occurrence} (h : queuesWithin queue lane exc) (ho : o ∉ exc) (hl : ¬ 32 ≤ exc.length) :
    queuesWithin queue lane (insertException o exc) := by
  obtain ⟨hqueue, hlane, hnodup, -⟩ := h
  have hperm := insertException_perm o exc
  refine ⟨hqueue, hlane, hperm.nodup_iff.mpr (hnodup.cons ho), ?_⟩
  rw [hperm.length_eq, List.length_cons]
  omega

section
variable {s : State} (h : lanesWithin s s.room.exceptions)
include h

theorem accept_exceptions_bounded (a : Answer) : lanesWithin (accept a s).2 (accept a s).2.room.exceptions := by
  simp [h]

@[simp] theorem ownSetClock_bounded (p : Port) (ps : List Word) :
    lanesWithin (ownSetClock p ps s).2 (ownSetClock p ps s).2.room.exceptions := by
  unfold ownSetClock
  split
  · exact h
  · simp [h]

/-- A booking is changed with the exceptions that still name an occurrence (R117). -/
theorem changeBooking_bounded (id : Fin 64) (old new : Booking) (o : Origin)
    (hp : placeFor s.store.queue (editKeys id s.room.exceptions (keptExceptions id new.kind s.room.exceptions))) :
    lanesWithin (changeBooking id old new o s) (changeBooking id old new o s).room.exceptions := by
  have hkept : lanesWithin s (keptExceptions id new.kind s.room.exceptions) :=
    queuesWithin_of_sublist (List.Sublist.refl _) (List.Sublist.refl _) List.filter_sublist h
  have hqueued := queueEdited_bounded (s := putExceptions (keptExceptions id new.kind s.room.exceptions)
    (putBooking id (some new) s)) hkept id s.room.exceptions o hp
  have heval := evaluate_bounded hqueued none .edit o
  have hexc : (changeBooking id old new o s).room.exceptions = keptExceptions id new.kind s.room.exceptions := by
    unfold changeBooking
    dsimp only
    split <;> simp [putExceptions]
  rw [hexc]
  unfold changeBooking
  dsimp only
  split
  · simpa using currentEdited_bounded heval _ _ _
  · exact heval

/-- A booking is removed with its exceptions (R118). -/
theorem removeBooking_bounded (id : Fin 64) (o : Origin)
    (hp : placeFor s.store.queue (editKeys id s.room.exceptions (s.room.exceptions.filter fun x => x.id != id))) :
    lanesWithin (removeBooking id o s) (removeBooking id o s).room.exceptions := by
  have hkept := queuesWithin_of_sublist (List.Sublist.refl _) (List.Sublist.refl _)
    (List.filter_sublist (p := fun x => x.id != id)) h
  have hqueued := queueEdited_bounded (s := putExceptions (s.room.exceptions.filter fun x => x.id != id)
    (clearTaken id (putBooking id none s))) hkept id s.room.exceptions o hp
  have heval := evaluate_bounded hqueued (currentBooking s) .edit o
  have hexc : (removeBooking id o s).room.exceptions = s.room.exceptions.filter fun x => x.id != id := by
    simp [removeBooking, putExceptions]
  rw [hexc]
  exact heval

@[simp] theorem ownChangeBooking_bounded (p : Port) (q : Qualifier) (ps : List Word) :
    lanesWithin (ownChangeBooking p q ps s).2 (ownChangeBooking p q ps s).2.room.exceptions := by
  unfold ownChangeBooking
  dsimp only
  repeat' split
  all_goals try exact h
  next hc =>
    refine accept_exceptions_bounded (changeBooking_bounded h _ _ _ _ ?_) _
    exact placeFor_of_not_busy hc

@[simp] theorem ownRemoveBooking_bounded (p : Port) (ps : List Word) :
    lanesWithin (ownRemoveBooking p ps s).2 (ownRemoveBooking p ps s).2.room.exceptions := by
  unfold ownRemoveBooking
  repeat' split
  all_goals try exact h
  next hc => exact accept_exceptions_bounded (removeBooking_bounded h _ _ (placeFor_of_not_busy hc)) _

omit h in
/-- The exception list takes a value within its bounds (R119). -/
theorem editExceptions_bounded {l : List Occurrence} (hl : lanesWithin s l)
    (hp : placeFor s.store.queue [.exceptions]) (o : Origin) :
    lanesWithin (editExceptions l o s) (editExceptions l o s).room.exceptions := by
  have heval := evaluate_bounded (s := queueLive .exceptions o (putExceptions l s)) (exc := l) (by simp [hl, hp])
    none .edit o
  have hexc : (editExceptions l o s).room.exceptions = l := by simp [editExceptions, putExceptions]
  rw [hexc]
  exact heval

@[simp] theorem ownCancelOccurrence_bounded (p : Port) (q : Qualifier) (ps : List Word) :
    lanesWithin (ownCancelOccurrence p q ps s).2 (ownCancelOccurrence p q ps s).2.room.exceptions := by
  unfold ownCancelOccurrence
  dsimp only
  repeat' split
  all_goals try exact h
  next hname _ _ hfull hc =>
    refine accept_exceptions_bounded (editExceptions_bounded (queuesWithin_insertException h ?_ hfull)
      (placeFor_of_not_busy hc) _) _
    simp_all [isCancelled]

@[simp] theorem ownRestoreOccurrence_bounded (p : Port) (q : Qualifier) (ps : List Word) :
    lanesWithin (ownRestoreOccurrence p q ps s).2 (ownRestoreOccurrence p q ps s).2.room.exceptions := by
  unfold ownRestoreOccurrence
  dsimp only
  repeat' split
  all_goals try exact h
  next hc =>
    exact accept_exceptions_bounded (editExceptions_bounded (queuesWithin_of_sublist (List.Sublist.refl _)
      (List.Sublist.refl _) List.filter_sublist h) (placeFor_of_not_busy hc) _) _

end

end Sys2Proof.Machine
end

section
namespace Sys2Proof.Machine

/-! ## The bounds of a state, command by command -/

/-- Notices that join leave each queue within 16 (R172). -/
theorem joined_length {q : List Notice} (h : q.length ≤ 16) (l : List Notice) : (joined q l).length ≤ 16 := by
  induction l generalizing q with
  | nil => exact h
  | cons n r ih => exact ih (joinQueue_length q n)

/-- A state is bounded where it comes from one with its notice queues bounded by postings alone. -/
theorem stateBounded_of_grown {s t : State} (hs : noticesBounded s) (hg : grown s.ports t.ports)
    (ht : lanesWithin t t.room.exceptions) : stateBounded t := by
  obtain ⟨hqueue, hlane, hexc⟩ := ht
  refine ⟨fun p => ?_, hqueue, hlane, hexc⟩
  obtain ⟨l, hl⟩ := hg p
  rw [portAt_ports, portAt_ports] at hl
  rw [hl]
  exact joined_length (hs p) l

theorem lanesWithin_of_stateBounded {s : State} (h : stateBounded s) : lanesWithin s s.room.exceptions :=
  ⟨h.2.1, h.2.2⟩

/-- A state with the queue of one port replaced by one within 16 is bounded. -/
theorem stateBounded_setPort {s : State} (h : stateBounded s) (p : Port) {x : PortState}
    (hx : x.notices.length ≤ 16) : stateBounded (setPort s p x) := by
  refine ⟨fun r => ?_, h.2⟩
  by_cases hr : r = p
  · subst hr
    simpa using hx
  · simpa [portOf_setPort_other _ _ _ _ hr] using h.1 r

theorem begun_bounded (p : Port) (f : Frame) {s : State} (h : stateBounded s) : stateBounded (begun p f s) :=
  stateBounded_setPort h p (h.1 p)

theorem after_bounded (c : Command) (p : Port) (a : Answer) {s : State} (h : stateBounded s) :
    stateBounded (after c p a s) := stateBounded_setPort h p (h.1 p)

/-- What an owning block keeps within the bounds is kept so by its request (R168). -/
theorem request_bounded {c : Command} {p : Port} {f : Frame}
    {own : Qualifier → List Word → State → Answer × State} {s : State} (h : stateBounded s) (hown : ∀ q ps t, stateBounded t → stateBounded (own q ps t).2) :
    stateBounded (request c p f own s) := by
  rcases request_cases c p f own s with ⟨-, e⟩ | ⟨-, a, -, e⟩ | ⟨q, -, e⟩ <;> rw [e]
  · exact stateBounded_setPort h p (h.1 p)
  · exact after_bounded c p a (begun_bounded p f h)
  · exact after_bounded c p _ (hown q _ _ (begun_bounded p f h))

theorem ownReadNotices_bounded (p : Port) {s : State} (h : stateBounded s) : stateBounded (ownReadNotices p s).2 :=
  stateBounded_setPort h p (by simpa using (Nat.sub_le _ 8).trans (h.1 p))

/-- Empty queues are within their bounds. -/
theorem stateBounded_of_empty {s : State} (hn : ∀ p, (portOf s p).notices = []) (hq : s.store.queue = [])
    (hl : s.link.control = []) (hx : s.room.exceptions = []) : stateBounded s := by
  simp [stateBounded, noticesBounded, queueBounded, queueWithin, nonLampCount, laneBounded, laneWithin,
    exceptionsBounded, hn, hq, hl, hx]

theorem stateBounded_resetState (m : OperatingMode) (c : Clock) (phase : Nat) (s : State) :
    stateBounded (resetState m c phase s) :=
  stateBounded_of_empty (fun p => by cases p <;> rfl) rfl rfl rfl

theorem ownSetPortMode_bounded (p : Port) (ps : List Word) {s : State} (h : stateBounded s) :
    stateBounded (ownSetPortMode p ps s).2 := by
  unfold ownSetPortMode
  repeat' split
  · exact h
  · exact h
  · exact stateBounded_setPort h p (h.1 p)

theorem takeRestart_bounded (p : Port) (f : Frame) {s : State} (h : stateBounded s) :
    stateBounded (takeRestart p f s) := by
  unfold takeRestart
  repeat' split
  · exact stateBounded_setPort h p (h.1 p)
  · exact after_bounded .restart p _ (begun_bounded p f h)
  · exact stateBounded_resetState _ _ _ s

theorem readPeriod_bounded (p : Port) (d : Span) {s : State} (h : stateBounded s) :
    stateBounded (readPeriod p d s) := by
  have hfree : stateBounded { s with free := s.free + 1 } := h
  unfold readPeriod
  dsimp only
  repeat' split
  · exact stateBounded_setPort h p (h.1 p)
  · exact stateBounded_setPort hfree p (h.1 p)
  · exact stateBounded_setPort hfree p (h.1 p)

theorem takeUnknown_bounded (p : Port) (code : Byte) (f : Frame) {s : State} (h : stateBounded s) :
    stateBounded (takeUnknown p code f s) := by
  have hbegun := begun_bounded p f h
  unfold takeUnknown
  split
  · exact stateBounded_setPort h p (h.1 p)
  · exact stateBounded_setPort hbegun p (hbegun.1 p)

/-- Every command keeps the bounds (R56, R114, R156, R172). -/
theorem exec_bounded {c : Instr} {s t : State} (hs : stateBounded s) (h : exec c s = .next t) : stateBounded t := by
  have of_next {v : State} (hv : exec c s = .next v) (hk : stateBounded v) : stateBounded t :=
    Host.Outcome.next.inj (hv.symm.trans h) ▸ hk
  have hl := lanesWithin_of_stateBounded hs
  have of_grown {v : State} (hg : grown s.ports v.ports) (hv : lanesWithin v v.room.exceptions) : stateBounded v :=
    stateBounded_of_grown hs.1 hg hv
  cases c
  case hardReset => exact of_next rfl (stateBounded_resetState _ _ _ _)
  case restart p f => exact of_next rfl (takeRestart_bounded p f hs)
  -- A select period that is no request replaces its port, the queue as it was.
  case readWordPeriod p span =>
    refine of_next rfl ?_
    repeat' split
    · exact stateBounded_setPort hs p (hs.1 p)
    · exact hs
    · exact readPeriod_bounded p span hs
  case selectWhileTaking p n | responseReady p =>
    refine of_next rfl ?_
    split
    · exact stateBounded_setPort hs p (hs.1 p)
    · exact hs
  case frameDiscarded p n =>
    refine of_next rfl ?_
    repeat' split
    · exact stateBounded_setPort hs p (hs.1 p)
    · exact hs
    · exact stateBounded_setPort hs p (hs.1 p)
  case unknownCommandFrame p code f =>
    refine of_next rfl ?_
    split
    · exact hs
    · exact takeUnknown_bounded p code f hs
  case readNotices p f => exact of_next rfl (request_bounded hs fun _ _ _ h => ownReadNotices_bounded p h)
  case setPortMode p f => exact of_next rfl (request_bounded hs fun _ ps _ h => ownSetPortMode_bounded p ps h)
  case setDayBase p f => exact of_next rfl (request_bounded hs fun _ _ t h => stateBounded_setPort h p (h.1 p))
  case ack tag ok =>
    have hcome := headArrives_bounded hl .ack
    have hgrown := headArrives_grown s.ports .ack s (grown_refl _)
    exact of_next rfl (of_grown (by simp [hgrown]) (by simp [hcome]))
  case loadCompletion | presenceLineChange | report | strikeResult | format | invalidHeadMessage | headMessageSent
      | answerTimerExpiry | silenceTimerExpiry | reportWaitExpiry | hotWindowExpiry | clockSecond | writeCompletion
      | wipeCompletion | windowTimerExpiry => exact of_next rfl (of_grown (by simp) (by simp [hl]))
  case stabilityTimerExpiry | firstPresenceSample | strikeResultTimeout | restrikePauseExpiry | warmingEnd | coolingEnd
      | noSignalTimerExpiry | burnSecond | settleTimerExpiry =>
    refine of_next rfl ?_
    split
    · exact of_grown (by simp) (by simp [hl])
    · exact hs
  case blankDimExpiry =>
    refine of_next rfl ?_
    split
    · exact of_grown (by simp) (by simp [blankDimPasses, hl])
    · exact hs
  all_goals exact of_next rfl (request_bounded hs fun q ps t ht =>
    stateBounded_of_grown ht.1 (by simp) (by simp [lanesWithin_of_stateBounded ht]))

theorem millisecond_bounded {s : State} (h : stateBounded s) : stateBounded (millisecond s) := h

/-- Settles O4: a step is a command or a millisecond, and each keeps the bounds. -/
theorem queueBoundsKeptByEveryStep : Obligations.QueueBoundsKeptByEveryStep := by
  unfold Obligations.QueueBoundsKeptByEveryStep
  intro s t hs h
  unfold step timePasses at h
  repeat' split at h
  · exact exec_bounded (by exact hs) h
  · exact exec_bounded hs h
  · exact Host.Outcome.next.inj h ▸ millisecond_bounded hs

/-- Settles O5: after a reset every queue is empty. -/
theorem queueBoundsAtReset : Obligations.QueueBoundsAtReset := by
  unfold Obligations.QueueBoundsAtReset
  exact stateBounded_of_empty (fun p => by cases p <;> rfl) rfl rfl rfl

end Sys2Proof.Machine
end

section
namespace Sys2Proof.Machine

/-! ## Every command completes (log entries 1 and 2) -/

/-- Settles O1. -/
theorem stepRunsTheFrontCommand : Obligations.StepRunsTheFrontCommand := by
  unfold Obligations.StepRunsTheFrontCommand
  intro c rest s h
  unfold step
  rw [h]

/-- Settles O3: each meaning answers a state, in which the queue of commands is that of its blocks' effects. -/
theorem everyCommandCompletes : Obligations.EveryCommandCompletes := by
  unfold Obligations.EveryCommandCompletes
  intro c s
  have answers {v : State} (hv : exec c s = .next v) (hk : v.pending = s.pending) :
      ∃ t, exec c s = .next t ∧ t.pending = s.pending := ⟨v, hv, hk⟩
  cases c
  case restart =>
    refine answers rfl ?_
    unfold takeRestart
    repeat' split
    · simp
    · simp
    · rfl
  case hardReset => exact answers rfl rfl
  case loadCompletion | presenceLineChange | ack | report | strikeResult | format | invalidHeadMessage
      | headMessageSent | answerTimerExpiry | silenceTimerExpiry | reportWaitExpiry | hotWindowExpiry | clockSecond
      | writeCompletion | wipeCompletion | windowTimerExpiry => exact answers rfl (by simp)
  case stabilityTimerExpiry | firstPresenceSample | strikeResultTimeout | restrikePauseExpiry | warmingEnd | coolingEnd
      | blankDimExpiry | noSignalTimerExpiry | burnSecond | settleTimerExpiry | selectWhileTaking
      | unknownCommandFrame | responseReady | frameDiscarded =>
    refine answers rfl ?_
    repeat' split
    all_goals simp
  case readWordPeriod =>
    refine answers rfl ?_
    unfold readPeriod
    dsimp only
    repeat' split
    all_goals simp
  -- The other rows of the ports: the block leaves the queue.
  all_goals exact answers rfl (request_keeps (·.pending) (fun _ _ _ => rfl) fun q _ => by simp)

/-! ## The take order (R165, R168) -/

/-- Each row of the command index but RESTART is a request of its owning block. -/
theorem exec_instrOf {c : Command} (hc : c ≠ .restart) (p : Port) (f : Frame) :
    ∃ own, ∀ s, exec (instrOf c p f) s = .next (request c p f own s) := by
  cases c
  case restart => exact absurd rfl hc
  all_goals exact ⟨_, fun _ => rfl⟩

/-- A frame on a port that is TAKING is disregarded (R165). -/
theorem exec_instrOf_taking (c : Command) {p : Port} (f : Frame) {s : State} (h : (portOf s p).transfer = .taking) :
    exec (instrOf c p f) s = .next (disregardPeriod p (f.words.length + 1) s) := by
  by_cases hc : c = .restart
  · subst hc
    exact congrArg Host.Outcome.next (if_pos h)
  · obtain ⟨own, hown⟩ := exec_instrOf hc p f
    rw [hown, request_taking c p f own s h]

/-- A frame that fails a check of the take order is answered, and does nothing else (R168). -/
theorem exec_instrOf_turned {c : Command} {p : Port} {f : Frame} {s : State} {a : Answer}
    (h : (portOf s p).transfer ≠ .taking) (ha : admission c p f s = .error a) :
    exec (instrOf c p f) s = .next (after c p a (begun p f s)) := by
  by_cases hc : c = .restart
  · subst hc
    refine congrArg Host.Outcome.next ?_
    rw [takeRestart, if_neg h, admission_beginFrame, ha]
    rfl
  · obtain ⟨own, hown⟩ := exec_instrOf hc p f
    rw [hown, request_turned c p f own s a h ha]

/-- Settles O13, check by check. -/
theorem takeOrderAnswersTheFirstFailure : Obligations.TakeOrderAnswersTheFirstFailure := by
  unfold Obligations.TakeOrderAnswersTheFirstFailure
  intro c p f s hfree
  have turned {a : Answer} (ha : admission c p f s = .error a) :
      exec (instrOf c p f) s = .next (after c p a (begun p f s)) := exec_instrOf_turned hfree ha
  refine ⟨fun hlen => turned ?_, fun hlen => ⟨fun r hq => turned ?_, fun q hq => ⟨fun r hp => turned ?_, fun hp =>
    ⟨fun hload hclass => turned ?_, fun hload hguard => turned ?_⟩⟩⟩⟩
  · rw [admission, hlen]; rfl
  · rw [admission, hlen, hq]; rfl
  · simp only [admission, hlen, hq, hp]; rfl
  · simp [-List.drop_one, admission, hlen, hq, hp, loadCheck, hload, hclass]
  · have hload : loadCheck s (commandClass c) = true := by simpa [loadCheck] using hload
    simp [-List.drop_one, admission, hlen, hq, hp, hload, hguard]

/-! ## Select periods that are no request (R165, R166) -/

/-- Settles O16. -/
theorem periodWhileTakingIsDisregarded : Obligations.PeriodWhileTakingIsDisregarded := by
  unfold Obligations.PeriodWhileTakingIsDisregarded
  intro p n c code f s h hcode
  refine ⟨?_, fun cut => ?_, ?_, exec_instrOf_taking c f h, ?_⟩
  · exact congrArg Host.Outcome.next (if_pos h)
  · exact congrArg Host.Outcome.next (if_pos h)
  · exact congrArg Host.Outcome.next (if_pos h)
  · refine congrArg Host.Outcome.next ?_
    simp only [hcode, Option.isSome_none, Bool.false_eq_true, if_false]
    exact if_pos h

/-- Settles O17. -/
theorem periodsThatAreNoRequest : Obligations.PeriodsThatAreNoRequest := by
  refine ⟨fun p code f s hcode h => ?_, fun p r s h hr => ?_, fun p whole s hwhole h => ?_⟩
    <;> refine congrArg Host.Outcome.next ?_
  · rw [hcode, if_neg (by simp), takeUnknown, if_neg h, decideAnswer, beginFrame, portOf_setPort_self,
      setPort_setPort]
    rfl
  · rw [if_pos h, hr]
  · rw [if_neg h, if_neg (by omega)]

/-- A read period with nothing in the buffer (R165). -/
theorem readPeriod_empty {p : Port} {d : Span} {s : State} (h : (portOf s p).response = none) :
    readPeriod p d s = setPort s p { portOf s p with transfer := .idle, dataOut := List.replicate d.whole 0 } := by
  simp only [readPeriod, h]

/-- The period clocks out the whole response and ends after a whole word. -/
abbrev readsWhole (r : Response) (d : Span) : Prop := (responseWords r).length + 1 ≤ d.whole ∧ d.midWord = false

/-- A read period with a response in the buffer (R165, R166). -/
theorem readPeriod_response {p : Port} {d : Span} {s : State} {r : Response} (hd : 1 ≤ d.whole)
    (h : (portOf s p).response = some r) :
    readPeriod p d s = setPort { s with free := s.free + 1 } p (if readsWhole r d then
        { portOf s p with transfer := .idle, response := none, dataOut := readOut r d.whole s.free }
      else { portOf s p with transfer := .responseReady, dataOut := readOut r d.whole s.free }) := by
  have hwhole : ((responseWords r).length ≤ d.whole - 1 && !d.midWord) = true ↔ readsWhole r d := by
    simp [readsWhole]; omega
  unfold readPeriod
  simp only [h, hwhole]
  split <;> rfl

/-- Settles O18. -/
theorem readPeriodGivesTheResponse : Obligations.ReadPeriodGivesTheResponse := by
  unfold Obligations.ReadPeriodGivesTheResponse
  intro p whole cut s hwhole h
  have hexec : exec (.readWordPeriod p ⟨whole, cut⟩) s = .next (readPeriod p ⟨whole, cut⟩ s) :=
    congrArg Host.Outcome.next ((if_neg h).trans (if_neg (by simp only; omega)))
  refine ⟨_, hexec, ?_⟩
  cases hr : (portOf s p).response with
  | none =>
    rw [readPeriod_empty hr]
    simp only [portOf_setPort_self, true_and]
    rfl
  | some r =>
    rw [readPeriod_response hwhole hr]
    simp only [portOf_setPort_self]
    refine ⟨rfl, ?_⟩
    split <;> simp [readOut] <;> omega

/-! ## The qualifier word (R169) -/

/-- Each of the eight guard codes names a guard (R169). -/
theorem guard_named (b : BitVec 3) : guardList[b.toNat]? = some (valueAt guardList .none b.toNat) := by
  decide +revert

/-- Checks 1 to 6 of the qualifier word, which answer BAD QUALIFIER (R169). -/
abbrev badQualifier (c : Command) (x : PortState) (q : Word) (ps : List Word) : Prop :=
  ((q.extractLsb' 0 2).toNat = 3 ∨ (q.extractLsb' 2 2).toNat = 3 ∨ q.extractLsb' 7 9 ≠ 0) ∨
    ((q.extractLsb' 0 2).toNat ≠ 0 ∧ takesScope c = false) ∨
    (standingOnly c = true ∧ effectiveScope x (q.extractLsb' 0 2).toNat = .momentary) ∨
    (carriesClear c ps = true ∧ effectiveScope x (q.extractLsb' 0 2).toNat = .standing) ∨
    ((q.extractLsb' 2 2).toNat ≠ 0 ∧ takesTimes c = false) ∨
    (longOnly c = true ∧ effectiveForm x (q.extractLsb' 2 2).toNat = .short)

/-- The first six checks have one answer, so that the word is read in two decisions (R169). -/
theorem qualify_eq (c : Command) (x : PortState) (q : Word) (ps : List Word) :
    let form := effectiveForm x (q.extractLsb' 2 2).toNat
    qualify c x q ps = if badQualifier c x q ps then .error .badQualifier
      else if takesTimes c = true ∧ form = .short ∧ x.dayBase = none then .error .noDayBase
      else .ok { scope := effectiveScope x (q.extractLsb' 0 2).toNat, form := form
                 guard := valueAt guardList .none (q.extractLsb' 4 3).toNat } := by
  simp only [qualify, badQualifier, ite_or, Bool.or_eq_true, Bool.and_eq_true, decide_eq_true_eq,
    Bool.not_eq_true', Option.isNone_iff_eq_none, and_assoc]

/-- Settles O19. -/
theorem qualifierChecksInOrder : Obligations.QualifierChecksInOrder := by
  unfold Obligations.QualifierChecksInOrder
  intro c x q ps
  refine ⟨fun h => ?_, fun h h7 => ?_, fun h h7 => ⟨_, guard_named _, ?_⟩⟩
  · exact (qualify_eq c x q ps).trans (if_pos h)
  · exact (qualify_eq c x q ps).trans ((if_neg h).trans (if_pos h7))
  · exact (qualify_eq c x q ps).trans ((if_neg h).trans (if_neg h7))

end Sys2Proof.Machine
end

section
namespace Sys2Proof.Machine

/-! ## Notices (R171, R172) -/

/-- RESTART, taken, resets the block but for the mode and the room clock (R181). -/
theorem exec_restart_taken {p : Port} {f : Frame} {q : Qualifier} {s : State} (h : taken .restart p f q s) :
    exec (.restart p f) s = .next (resetState s.lockout.mode s.room.clock s.room.phase s) := by
  obtain ⟨hfree, hok⟩ := h
  refine congrArg Host.Outcome.next ?_
  rw [takeRestart, if_neg hfree, admission_beginFrame, hok]

/-- A reset leaves no notice in any port's queue (R151, R172). -/
theorem resetState_notices (m : OperatingMode) (k : Clock) (n : Nat) (s : State) (p : Port) :
    (portOf (resetState m k n s) p).notices = [] := by cases p <;> rfl

/-- Settles O20. -/
theorem noticesAreQueuedAndDelivered : Obligations.NoticesAreQueuedAndDelivered := by
  refine ⟨fun q n hq => ⟨fun hlt => ?_, fun heq => ?_, joinQueue_length q n⟩, fun dest kind o a b s p => ⟨?_, ?_, rfl⟩,
    fun s p => ?_, fun m s p => ⟨_, rfl, ?_⟩, fun x f q s p h => ⟨_, exec_restart_taken h, ?_⟩⟩
  · rw [joinQueue_eq, if_neg (by omega)]
  · rw [joinQueue_eq, if_pos (by omega), heq]
  · refine (postTo_notices dest kind o (some a) (some b) s p).trans ?_
    by_cases hto : subscribes (portOf s p) (kindGroup kind) = true ∨ dest = some p
    · exact (congrArg _ (if_pos hto)).trans (if_pos hto).symm
    · exact (congrArg _ (if_neg hto)).trans (if_neg hto).symm
  · exact (postTo_frame dest kind o (some a) (some b) s).1
  · simp [attentionLine]
  · exact resetState_notices ..
  · exact resetState_notices ..

/-! ## The commands of a port's own context (R112, R170, R173) -/

theorem ownSetPortMode_unread {p : Port} {ps : List Word} {s : State} (h : portItems ps = none) :
    ownSetPortMode p ps s = refuse .outOfRange s := by
  simp only [ownSetPortMode, h]

theorem ownSetPortMode_barred {ps : List Word} {s : State} {i : PortItems} (h : portItems ps = some i)
    (hst : i.scope = some .standing) : ownSetPortMode .lectern ps s = refuse .notPermitted s := by
  simp [ownSetPortMode, h, hst]

theorem ownSetPortMode_done {p : Port} {ps : List Word} {s : State} {i : PortItems} (h : portItems ps = some i)
    (hp : p ≠ .lectern ∨ i.scope ≠ some .standing) : ownSetPortMode p ps s =
      (doneWith (contextWords (applyItems i (portOf s p))), setPort s p (applyItems i (portOf s p))) := by
  have hbar : ¬ (p = .lectern ∧ i.scope = some .standing) := by tauto
  simp [ownSetPortMode, h, hbar]

/-- Settles O23: the block's answer and its port are computed, and the port written twice is the port written last. -/
theorem portCommandsActOnTheirPort : Obligations.PortCommandsActOnTheirPort := by
  refine ⟨fun p f q s h => ?_, fun p f q s => ⟨fun h => ⟨fun hi => ?_, fun i hi hp hst => ?_, fun i hi hp => ?_⟩,
    fun h => ?_⟩⟩ <;> refine congrArg Host.Outcome.next ((request_taken _ p f _ q s h).trans ?_)
  · simp [ownReadNotices, after, decideAnswer, begun, beginFrame, commandCode]
  · rw [ownSetPortMode_unread hi]; rfl
  · subst hp; rw [ownSetPortMode_barred hi hst]; rfl
  · rw [ownSetPortMode_done hi hp]
    simp only [contextWords, applyItems, portOf_begun]
  · rfl

end Sys2Proof.Machine
end

section
namespace Sys2Proof.Machine

/-! ## Request frames (R165, R168, R175) -/

/-- The index holds each command under its own code, and no command has code 0 (section 9.6). -/
theorem commandOfCode_commandCode (c : Command) : commandOfCode (commandCode c) = some c ∧ commandCode c ≠ 0 := by
  cases c <;> decide

/-- A header word with a command's code is not the read word (R165, R175). -/
theorem header_ne_zero (c : Command) (n : Byte) : commandCode c ++ n ≠ (0 : Word) := by
  intro h
  have hcode : (commandCode c ++ n).extractLsb' 8 8 = commandCode c := BitVec.extractLsb'_append_eq_left
  rw [h] at hcode
  exact (commandOfCode_commandCode c).2 hcode.symm

/-- A request's header is read as its command and its count (R175). -/
theorem frameEvent_instrOf (c : Command) (p : Port) (n : Byte) (ws : List Word) :
    frameEvent p (commandCode c ++ n) ws = instrOf c p { count := n, words := ws } := by
  simp only [frameEvent, BitVec.extractLsb'_append_eq_left, BitVec.extractLsb'_append_eq_right,
    (commandOfCode_commandCode c).1]

/-! ## The head's messages (R50, R178) -/

/-- The sum of a run of bytes with its check byte is zero (R178). -/
theorem sumIsZero_checkByte (bs : List Byte) : sumIsZero (bs ++ [checkByte bs]) = true := by
  simp [sumIsZero, checkByte]

/-- A frame's bytes after its start byte are read as its tag, its type and its payload (R50, R178). -/
theorem messageEvent_frame (tag : BitVec 3) (type : Nat) (body : List Byte) (htype : type < 32) :
    let inner := (tag ++ BitVec.ofNat 5 type : Byte) :: body
    messageEvent (BitVec.ofNat 8 (body.length + 2))
      (inner ++ [checkByte (BitVec.ofNat 8 (body.length + 2) :: inner)]) =
      (headMessage tag type body).getD .invalidHeadMessage := by
  intro inner
  have hsum := sumIsZero_checkByte (BitVec.ofNat 8 (body.length + 2) :: inner)
  have htag : (tag ++ BitVec.ofNat 5 type).extractLsb' 5 3 = tag := BitVec.extractLsb'_append_eq_left
  have hty : ((tag ++ BitVec.ofNat 5 type).extractLsb' 0 5).toNat = type := by
    rw [BitVec.extractLsb'_append_eq_right, BitVec.toNat_ofNat, Nat.mod_eq_of_lt htype]
  simp only [inner, List.cons_append] at hsum
  simp only [messageEvent, inner, List.cons_append, hsum, if_true, htag, hty, List.dropLast_concat]

/-- The receiver takes the bytes of one message as that message's row, and then has no more (R50). -/
theorem receive_message {n : Byte} {bytes : List Byte} {i : Instr} {fuel : Nat} (hlen : bytes.length = n.toNat)
    (hi : messageEvent n bytes = i) (hvalid : i ≠ .invalidHeadMessage) :
    receive (fuel + 1) (0xA6 :: n :: bytes) = [i] := by
  have hnil : receive fuel [] = [] := by cases fuel <;> rfl
  simp only [receive, if_true, ← hlen, Nat.lt_irrefl, if_false, List.take_length, List.drop_length, hi, hnil]

/-- A known message in the transmitter's frame is received as its row (R50, R178). -/
theorem receive_frameBytes {tag : BitVec 3} {type fuel : Nat} {body : List Byte} {i : Instr} (htype : type < 32)
    (hlen : body.length ≤ 253) (hi : headMessage tag type body = some i) (hvalid : i ≠ .invalidHeadMessage) :
    receive (fuel + 1) (frameBytes tag type body) = [i] := by
  refine receive_message ?_ ((messageEvent_frame tag type body htype).trans (by rw [hi]; rfl)) hvalid
  have hbytes (x y : Byte) : (x :: body ++ [y]).length = body.length + 2 := by simp
  exact (hbytes _ _).trans (by rw [BitVec.toNat_ofNat]; omega)

/-- The result byte of an ACK or a STRIKE RESULT (R178). -/
theorem resultOf_byte (ok : Bool) : resultOf (if ok then 0 else 1) = some ok := by cases ok <;> rfl

/-- A word is its high byte and its low byte (R178). -/
theorem bytes_append (w : Word) : w.extractLsb' 8 8 ++ w.extractLsb' 0 8 = w := by
  rw [BitVec.extractLsb'_append_extractLsb'_eq_extractLsb' (by rfl)]
  simp

/-- The lamp code of a REPORT (R178). -/
def lampByte : HeadLamp → Byte
  | .dark => 0
  | .striking => 1
  | .lit => 2

/-- The temperature code of a REPORT (R178). -/
def temperatureByte : Temperature → Byte
  | .ok => 0
  | .warm => 1
  | .over => 2

theorem lampByte_read (l : HeadLamp) : headLampList[(lampByte l).toNat]? = some l := by cases l <;> rfl

theorem temperatureByte_read (t : Temperature) : temperatureList[(temperatureByte t).toNat]? = some t := by
  cases t <;> rfl

/-- The flags byte of a REPORT (R178). -/
def reportFlags (hot closed restarted committed : Bool) : Byte :=
  (if hot then 1 else 0) ||| (if closed then 2 else 0) ||| (if restarted then 4 else 0) ||| (if committed then 8 else 0)

theorem reportFlags_read (hot closed restarted committed : Bool) :
    let flags := reportFlags hot closed restarted committed
    flags.extractLsb' 4 4 = 0 ∧ flags.getLsbD 0 = hot ∧ flags.getLsbD 1 = closed ∧ flags.getLsbD 2 = restarted ∧
      flags.getLsbD 3 = committed := by
  decide +revert

/-- A REPORT's four bytes are read as the report, whatever stands for a set that is not committed (R52, R178). -/
theorem reportOf_bytes (r : Report) (any : Byte) :
    reportOf (lampByte r.lamp) (reportFlags r.hot r.shutterClosed r.restarted r.committed.isSome)
      (temperatureByte r.temperature) (r.committed.getD any) = some r := by
  obtain ⟨hclear, hhot, hclosed, hrestarted, hcommitted⟩ :=
    reportFlags_read r.hot r.shutterClosed r.restarted r.committed.isSome
  simp only [reportOf, lampByte_read, temperatureByte_read, hclear, hhot, hclosed, hrestarted, hcommitted, if_true]
  cases r with
  | mk _ _ _ _ _ committed => cases committed <;> rfl

/-- Settles O60. -/
theorem framesAndMessagesAreReadAsTheirRows : Obligations.FramesAndMessagesAreReadAsTheirRows := by
  refine ⟨fun c p n ws => ?_, fun p ws m => rfl, fun p h ws hh => ?_, fun tag ok => ?_, fun tag w h r => ?_,
    fun tag ok => ?_, fun tag r any => ?_⟩
  · rw [periodEvent, if_neg (header_ne_zero c n), frameEvent_instrOf]; rfl
  · rw [periodEvent, if_neg hh]; rfl
  · exact receive_frameBytes (by decide) (by simp) (congrArg (Option.map fun ok => Instr.ack tag ok) (resultOf_byte ok)) nofun
  · exact receive_frameBytes (by decide) (by simp)
      (congrArg some (congrArg₂ (Instr.format · · r) (bytes_append w) (bytes_append h))) nofun
  · exact receive_frameBytes (by decide) (by simp) (congrArg (Option.map Instr.strikeResult) (resultOf_byte ok)) nofun
  · refine receive_frameBytes (i := .report r) (by decide) (by simp) ?_ nofun
    cases r with
    | mk lamp _ _ _ temperature _ =>
      refine Eq.trans ?_ (congrArg (Option.map Instr.report) (reportOf_bytes _ any))
      cases lamp <;> cases temperature <;> rfl

end Sys2Proof.Machine
end

section
namespace Sys2Proof.Machine

/-! ## What a block answers to a request (R168) -/

/-- The answer is DONE or STARTED. -/
def acts (a : Answer) : Prop := a.verdict = .done ∨ a.verdict = .started

@[simp] theorem acts_doneWith (ws : List Word) : acts (doneWith ws) := .inl rfl
@[simp] theorem acts_done : acts done := .inl rfl
@[simp] theorem acts_doneQueued (c : Bool) (ws : List Word) : acts (doneQueued c ws) := .inl rfl
@[simp] theorem acts_doneClamped (c : Bool) : acts (doneClamped c) := .inl rfl
@[simp] theorem acts_started (ws : List Word) : acts (started ws) := .inr rfl
@[simp] theorem acts_queued (a : Answer) (c : Bool) : acts { a with queued := c } ↔ acts a := Iff.rfl

/-- A block that has been handed `s` either refuses and leaves `s`, or answers DONE or STARTED (R168). -/
def refusesOrActs (s : State) (r : Answer × State) : Prop := (∃ x, r = refuse x s) ∨ acts r.1

@[simp] theorem refusesOrActs_refuse (s : State) (x : Reason) : refusesOrActs s (refuse x s) := .inl ⟨x, rfl⟩

@[simp] theorem refusesOrActs_pair {s v : State} {a : Answer} (h : acts a) : refusesOrActs s (a, v) := .inr h

/-- The end of an accepted request is no part of a refusal. -/
@[simp] theorem refusesOrActs_finished {s : State} {r : Answer × State} (h : refusesOrActs s r) :
    refusesOrActs s (finished r) := by
  rcases h with ⟨x, rfl⟩ | h
  · exact .inl ⟨x, rfl⟩
  · refine .inr ?_
    unfold finished
    split
    · exact h
    · exact h

@[simp] theorem refusesOrActs_accept {s v : State} {a : Answer} (h : acts a) : refusesOrActs s (accept a v) :=
  refusesOrActs_finished (refusesOrActs_pair h)

/-! ## The blocks that answer through another operation -/

/-- POWER ON is refused with no effect (R28). -/
@[simp] theorem powerOn_refusesOrActs (o : Origin) (s : State) : refusesOrActs s (powerOn o s) := by
  unfold powerOn
  repeat' split
  all_goals simp

/-- POWER OFF is never refused (R29). -/
@[simp] theorem powerOff_refusesOrActs (o : Origin) (s : State) : refusesOrActs s (powerOff o s) := by
  unfold powerOff
  repeat' split
  all_goals simp

/-- A request held while SETTLING is refused with no effect when it is outranked (R81). -/
@[simp] theorem holdRoute_refusesOrActs (q : RouteRequest) (s : State) : refusesOrActs s (holdRoute q s) := by
  unfold holdRoute
  dsimp only
  repeat' split
  all_goals simp

@[simp] theorem routeRequest_refusesOrActs (q : RouteRequest) (s : State) : refusesOrActs s (routeRequest q s) := by
  unfold routeRequest
  split
  · simp
  · split
    · simp
    · refine refusesOrActs_pair ?_
      split <;> simp

@[simp] theorem momentaryGeometry_refusesOrActs (c : Bool) (o : Overlay) (s : State) :
    refusesOrActs s (momentaryGeometry c o s) := by simp [momentaryGeometry]

@[simp] theorem standingGeometry_refusesOrActs (p : Port) (c : Bool) (x : Preset) (o : Overlay) (s : State) :
    refusesOrActs s (standingGeometry p c x o s) := by
  unfold standingGeometry
  dsimp only
  split <;> simp

/-- SELECT SOURCE hands on what the arbiter answers (R79). -/
@[simp] theorem ownSelectSource_refusesOrActs (p : Port) (q : Qualifier) (ps : List Word) (s : State) :
    refusesOrActs s (ownSelectSource p q ps s) := by
  unfold ownSelectSource
  split
  · simp
  next x _ =>
    split
    · simp
    · split
      · simp
      · split
        next a t hr =>
        have hroute := routeRequest_refusesOrActs { source := x, origin := portOrigin p, scope := .standing } s
        rw [hr] at hroute
        rcases hroute with ⟨y, hy⟩ | ha
        · obtain ⟨rfl, rfl⟩ := Prod.mk.inj hy
          exact .inl ⟨y, rfl⟩
        · split
          · exact .inr ha
          · exact refusesOrActs_accept ha

/-! ## A declined request leaves its port alone changed (R168) -/

/-- The answer is REFUSED, MALFORMED or SKIPPED. -/
abbrev declines (a : Answer) : Prop := a.verdict = .refused ∨ a.verdict = .malformed ∨ a.verdict = .skipped

theorem not_acts_of_declines {a : Answer} (h : declines a) : ¬ acts a := by
  rcases h with h | h | h <;> simp [acts, h]

/-- The port of a request that is answered holds the answer (R166). -/
theorem after_deciding (c : Command) (p : Port) (a : Answer) (t : State) :
    (portOf (after c p a t) p).deciding = some { code := commandCode c, answer := a } := by
  simp [after, decideAnswer]

/-- A request whose block refuses without an effect, or acts, and that is declined has no effect (R168). -/
theorem request_declined {c : Command} {p : Port} {f : Frame} {own : Qualifier → List Word → State → Answer × State}
    {s : State} {a : Answer} (hown : ∀ q u, refusesOrActs u (own q (f.words.drop 1) u))
    (hfree : (portOf s p).transfer ≠ .taking)
    (hdec : (portOf (request c p f own s) p).deciding = some { code := commandCode c, answer := a })
    (ha : declines a) : request c p f own s = after c p a (begun p f s) := by
  rcases request_cases c p f own s with ⟨htaking, -⟩ | ⟨-, b, -, hb⟩ | ⟨q, -, hq⟩
  · exact absurd htaking hfree
  · rw [hb, after_deciding] at hdec
    cases hdec
    exact hb
  · rw [hq, after_deciding] at hdec
    rcases hown q (begun p f s) with ⟨x, hx⟩ | hacts
    · rw [hq]
      rw [hx] at hdec ⊢
      cases hdec
      rfl
    · cases hdec
      exact absurd hacts (not_acts_of_declines ha)

/-- Every row of the command index but RESTART has such a block (R168). -/
theorem exec_declined {c : Command} {p : Port} {f : Frame} {s t : State} {a : Answer} (hc : c ≠ .restart)
    (hfree : (portOf s p).transfer ≠ .taking) (ht : exec (instrOf c p f) s = .next t)
    (hdec : (portOf t p).deciding = some { code := commandCode c, answer := a }) (ha : declines a) :
    t = after c p a (begun p f s) := by
  cases c
  case restart => exact absurd rfl hc
  all_goals
    obtain rfl := Host.Outcome.next.inj ht
    refine request_declined (fun q u => ?_) hfree hdec ha
  -- The blocks whose answer is an operation's.
  case identify | readLampAccount | readLampHistory | readPowerState | readHeadLink | readRoute | readRoom | readLockout
      | readStore | countFree | closeWindow | enableService | disableService => simp
  case powerOn => simp [ownPowerOn]
  case powerOff => simp [ownPowerOff]
  case selectSource => simp
  -- The blocks that make their own checks: each branch refuses the state that it was handed, or acts.
  all_goals
    simp only [ownReadNotices, ownReadSourceMap, ownReadGeometry, ownReadPreset, ownReadGeometryTable, ownReadBooking,
      ownReadExceptions, ownReadOccurrences, ownDigest, ownSetPortMode, ownSetDayBase, ownBlank, ownSetLampMode,
      ownLoadPreset, ownSetKeystone, ownNudgeKeystone, ownSetCorner, ownSetAspect, ownSavePreset, ownReapplyGeometry,
      ownSetClock, ownAddBooking, ownChangeBooking, ownRemoveBooking, ownCancelOccurrence, ownRestoreOccurrence,
      ownExtendBooking, ownReleaseRoom, ownSetSourceEntry, ownSetProfile, ownSetInstallRecord, ownSetRoomTimes,
      ownSetInstallLock, ownClearInstallLock, ownProtectRegions, ownUnprotectRegions, ownStoreWipe, ownSetOverride,
      ownLampReplace, ownLampSet, ownClearFault, ownLeaveCommission]
    repeat' split
    all_goals simp

/-- RESTART, taken, leaves no answer on any port; turned away, it is answered as every other command is (R181). -/
theorem exec_restart_declined {p : Port} {f : Frame} {s t : State} {a : Answer} (hfree : (portOf s p).transfer ≠ .taking)
    (ht : exec (.restart p f) s = .next t)
    (hdec : (portOf t p).deciding = some { code := commandCode .restart, answer := a }) :
    t = after .restart p a (begun p f s) := by
  cases hok : admission .restart p f s with
  | error b =>
    obtain rfl := Host.Outcome.next.inj ((exec_instrOf_turned hfree hok).symm.trans ht)
    rw [after_deciding] at hdec
    cases hdec
    rfl
  | ok q =>
    obtain rfl := Host.Outcome.next.inj ((exec_restart_taken ⟨hfree, hok⟩).symm.trans ht)
    have hnone (m : OperatingMode) (k : Clock) (n : Nat) : (portOf (resetState m k n s) p).deciding = none := by
      cases p <;> rfl
    rw [hnone] at hdec
    cases hdec

/-- Settles O14. -/
theorem refusedRequestChangesNothing : Obligations.RefusedRequestChangesNothing := by
  unfold Obligations.RefusedRequestChangesNothing
  intro c p f s t a hfree ht hdec ha
  by_cases hc : c = .restart
  · subst hc
    exact exec_restart_declined hfree ht hdec
  · exact exec_declined hc hfree ht hdec ha

end Sys2Proof.Machine
end

section
namespace Sys2Proof.Machine

/-! ## RESTART against a hard reset (R179, R181) -/

/-- The clock and the phase handed to a reset reach the room's clock and phase alone (R151, R181). -/
theorem resetState_clock (m : OperatingMode) (c c' : Clock) (n n' : Nat) (s : State) :
    resetState m c' n' s = { resetState m c n s with
      room := { (resetState m c n s).room with clock := c', phase := n' } } := rfl

/-- Settles O12: RESTART is the reset given the present mode and clock, a hard reset the same reset given the clock
UNSET. -/
theorem restartKeepsModeAndClock : Obligations.RestartKeepsModeAndClock := by
  unfold Obligations.RestartKeepsModeAndClock
  intro p f q s h
  have hhard := (exec_hardReset s.lockout.mode s).trans
    (congrArg Host.Outcome.next (resetState_clock s.lockout.mode s.room.clock Clock.unset s.room.phase 0 s))
  exact ⟨_, exec_restart_taken h, hhard, rfl, rfl, rfl⟩

end Sys2Proof.Machine
end
